-- ==== Sys2Proof/Word.lean ====
section
/-! DEFINITION. Word.lean: the register word and the two masters. -/

namespace Sys2Proof

/-- A register of the hub or of a Cairn page: 32 bits (02 R45). -/
abbrev Word := BitVec 32

/-- A byte of stack memory, of a unit's state view or of a buffer. -/
abbrev Byte := BitVec 8

/-- The two masters of the register space (02 R70): the debugger's session and the host window. -/
inductive Master
  | pass
  | host
  deriving DecidableEq, Repr

/-- What a Cairn brings to an edge of its freeze domain: its ID, the value its own leaf reads at that edge (04 R121), and for an
I/O ring block the three link sequence numbers it holds there (04 R140). -/
structure EdgeRep where
  cairn : Nat
  leaf : Nat
  txSeq : Nat := 0
  ackSeq : Nat := 0
  rxSeq : Nat := 0
  deriving DecidableEq, Repr

/-- A change of ownership, context or power state that a unit reports (10 R325, R335, R339): OWN and CTX with their scope (0 GC,
1 engine, 2 core), low-power entry, and wake from it. -/
inductive UnitEvent
  | own (scope tenant : Nat) (sec : Bool)
  | ctx (scope context : Nat) (sec : Bool)
  | lowPower
  | wake
  deriving DecidableEq, Repr

/-- What an observation point of a unit presents on an edge (06 R180): its number, address, value and access kind (1 read, 2 write,
3 execute). -/
structure ObsAcc where
  obs : Nat
  addr : Nat
  val : Nat
  kind : Nat
  deriving DecidableEq, Repr

/-- What the Talus controller reads of one region controller beside its present voltage (13 R412): its power state (0 ACTIVE, 1 IDLE,
2 RETENTION, 3 OFF) and its hottest sensor in °C, 0 standing for every temperature below it. -/
structure RegionRd where
  pstate : Nat
  temp : Nat
  deriving DecidableEq, Repr

/-- What a LEAF_LOAD brings to a Cairn's leaf (03 R90, R91): the Cairn, the value at a tree-clock edge, and the round trip that the calibration
which follows measures, if it does. -/
structure LeafRep where
  cairn : Nat
  val : Nat
  trip : Option Nat
  deriving DecidableEq, Repr

/-- A write to the operand staging of an Echo job's target (09 R309): the job, the byte offset and the bytes. -/
structure StageWrite where
  job : Nat
  off : Nat
  bytes : List Byte
  deriving DecidableEq, Repr

/-- The acknowledgement part of a frame's trailer (15 R464): FSEQ, the number acknowledged, whether it is valid, and NAK. -/
structure Trailer where
  fseq : Nat
  ack : Nat
  ackOk : Bool
  nak : Bool
  deriving DecidableEq, Repr

end Sys2Proof
end

