-- ==== Sys2Proof/Syntax.lean ====
section
/-! DEFINITION. Syntax.lean: the commands of the block, one constructor for each row of spec/opcode_table.json, in the table's
order, those with operands first. An operand carries what the acting agent brings: a master and the word it writes, the Cairn or Spur concerned, the leaf
values of a freeze domain, a frame's fields. -/

namespace Sys2Proof

/-- A command of NYN-1. The docstring of each constructor names the rule that describes it. -/
inductive Instr
  /-- CLASS1_REPORT (R19). -/
  | class1Report (cairn : Nat) (leaf : Nat) (u : Option UnitEvent)
  /-- SUMMIT_ACK (R18). -/
  | summitAck (cairn : Nat)
  /-- MIRROR_UPDATE (R20). -/
  | mirrorUpdate (spur : Nat)
  /-- LIVENESS_FLIT (R21). -/
  | livenessFlit (spur : Nat)
  /-- SPUR_LIVENESS_TIMEOUT (R21). -/
  | spurLivenessTimeout (spur : Nat) (selfCheck : Bool)
  /-- FORCE_SPUR_LOSS (R37). -/
  | forceSpurLoss (m : Master) (val : Word)
  /-- COL_LANE_FAIL (R27). -/
  | colLaneFail (group : Nat)
  /-- REGISTER_WRITE (R57). -/
  | registerWrite (m : Master) (addr : Nat) (width : Nat) (val : Nat)
  /-- READ_CLEAR (R50). -/
  | readClear (m : Master) (addr : Nat)
  /-- APERTURE_ACCESS (R65). -/
  | apertureAccess (m : Master) (addr : Nat) (width : Nat) (write : Bool) (val : Nat)
  /-- APERTURE_ANSWER (R65). -/
  | apertureAnswer (m : Master)
  /-- APERTURE_TIMEOUT (R65). -/
  | apertureTimeout (m : Master)
  /-- EXCL_ACQUIRE (R72). -/
  | exclAcquire (m : Master) (val : Word)
  /-- EXCL_RELEASE (R75). -/
  | exclRelease (m : Master) (val : Word)
  /-- HOST_REQ (R74). -/
  | hostReq (m : Master) (val : Word)
  /-- TSYNC_EPOCH (R80). -/
  | tsyncEpoch (high : Nat) (low : Nat) (edge : Nat) (lE : Nat) (start : Nat) (frame : Nat)
  /-- RELOAD (R85). -/
  | reload (m : Master) (val : Word)
  /-- CAL_SWEEP (R91). -/
  | calSweep (m : Master) (val : Word)
  /-- CAL_SLOT (R91). -/
  | calSlot (spur : Nat) (trip : Option Nat) (xing : Nat)
  /-- LEAF_LOAD (R90). -/
  | leafLoad (load : LeafRep)
  /-- DOMAIN_POWER_UP (R17). -/
  | domainPowerUp (cairns : List Nat)
  /-- DOMAIN_POWER_DOWN (R17). -/
  | domainPowerDown (cairns : List Nat)
  /-- SCHEDULED_ACTION_EFFECT (R93). -/
  | scheduledActionEffect (cairn : Nat) (leaf : Nat)
  /-- CHANNEL_RAISE (R188). -/
  | channelRaise (raise : Nat)
  /-- CUT_CMD_STOP (R118). -/
  | cutCmdStop (m : Master) (val : Word)
  /-- CUT_CMD_GLANCE (R118). -/
  | cutCmdGlance (m : Master) (val : Word)
  /-- CUT_CMD_RESUME (R123). -/
  | cutCmdResume (m : Master) (val : Word)
  /-- CUT_CMD_ABANDON (R136). -/
  | cutCmdAbandon (m : Master) (val : Word)
  /-- CUT_CMD_XDEV (R138). -/
  | cutCmdXdev (m : Master) (val : Word)
  /-- CUT_MESSAGE (R119). -/
  | cutMessage (cairn : Nat) (msg : Nat) (leaf : Nat)
  /-- CUT_EDGE (R108). -/
  | cutEdge (reps : List EdgeRep)
  /-- SPUR_CUT_AGGREGATE (R121). -/
  | spurCutAggregate (spur : Nat)
  /-- CUT_REPORT_TIMEOUT (R121). -/
  | cutReportTimeout (cairn : Nat)
  /-- RESUME_EDGE (R123). -/
  | resumeEdge (reps : List EdgeRep)
  /-- RELEASE_AGGREGATE (R123). -/
  | releaseAggregate (spur : Nat)
  /-- SHADOW_DRAIN (R126). -/
  | shadowDrain (cairn : Nat)
  /-- DIVERTED_WRITE (R130). -/
  | divertedWrite (cairn : Nat) (page : Nat) (addr : Nat) (bytes : List Byte)
  /-- PAGE_COPY_DONE (R130). -/
  | pageCopyDone (cairn : Nat) (page : Nat)
  /-- XCUT_RECEIVE (R139). -/
  | xcutReceive (kind : Nat) (t : Nat)
  /-- XCUT_ANSWER (R139). -/
  | xcutAnswer (hub : Nat) (code : Nat)
  /-- STEP_GO (R153). -/
  | stepGo (m : Master) (val : Word)
  /-- STEP_MESSAGE (R155). -/
  | stepMessage (cairn : Nat) (msg : Nat) (leaf : Nat)
  /-- STEP_RELEASE_EDGE (R156). -/
  | stepReleaseEdge (reps : List EdgeRep)
  /-- STEP_REPORT_TIMEOUT (R156). -/
  | stepReportTimeout (cairn : Nat)
  /-- STEP_UNIT_COMPLETE (R157). -/
  | stepUnitComplete (cairns : List Nat) (net : Nat) (leaf : Nat)
  /-- STEP_AGGREGATE (R158). -/
  | stepAggregate (spur : Nat)
  /-- STEP_FREEZE_EDGE (R158). -/
  | stepFreezeEdge (reps : List EdgeRep)
  /-- FREEZE_AGGREGATE (R160). -/
  | freezeAggregate (spur : Nat)
  /-- VIEW_READ (R167). -/
  | viewRead (m : Master) (addr : Nat)
  /-- VIEW_DEPOSIT (R168). -/
  | viewDeposit (m : Master) (addr : Nat) (val : Word)
  /-- CAIRN_RAISE (R184). -/
  | cairnRaise (cairn : Nat) (out : Nat)
  /-- XTRIG (R188). -/
  | xtrig (m : Master) (val : Word)
  /-- RUN (R193). -/
  | run (m : Master) (val : Word)
  /-- SA_CANCEL (R195). -/
  | saCancel (m : Master) (val : Word)
  /-- PRB_START (R204). -/
  | prbStart (m : Master) (e : Nat) (val : Word)
  /-- PRB_STOP (R206). -/
  | prbStop (m : Master) (e : Nat) (val : Word)
  /-- PM_DATA_WRITE (R210). -/
  | pmDataWrite (m : Master) (e : Nat) (val : Word)
  /-- PM_DATA_READ (R210). -/
  | pmDataRead (m : Master) (e : Nat)
  /-- ADD (R213). -/
  | add (e : Nat)
  /-- SUB (R213). -/
  | sub (e : Nat)
  /-- AND (R213). -/
  | iAnd (e : Nat)
  /-- OR (R213). -/
  | iOr (e : Nat)
  /-- XOR (R213). -/
  | xor (e : Nat)
  /-- SHL (R213). -/
  | shl (e : Nat)
  /-- SHR (R213). -/
  | shr (e : Nat)
  /-- MUL (R213). -/
  | mul (e : Nat)
  /-- MINU (R213). -/
  | minu (e : Nat)
  /-- MAXU (R213). -/
  | maxu (e : Nat)
  /-- ADDI (R213). -/
  | addi (e : Nat)
  /-- ANDI (R213). -/
  | andi (e : Nat)
  /-- MOVI (R213). -/
  | movi (e : Nat)
  /-- LDM (R214). -/
  | ldm (e : Nat)
  /-- STM (R214). -/
  | stm (e : Nat)
  /-- AADD (R213). -/
  | aadd (e : Nat)
  /-- BEQ (R214). -/
  | beq (e : Nat)
  /-- BNE (R214). -/
  | bne (e : Nat)
  /-- BLTU (R214). -/
  | bltu (e : Nat)
  /-- BGEU (R214). -/
  | bgeu (e : Nat)
  /-- BEQI (R214). -/
  | beqi (e : Nat)
  /-- BNEI (R214). -/
  | bnei (e : Nat)
  /-- BLTUI (R214). -/
  | bltui (e : Nat)
  /-- JAL (R214). -/
  | jal (e : Nat)
  /-- JR (R213). -/
  | jr (e : Nat)
  /-- TIME (R221). -/
  | time (e : Nat)
  /-- WAITT (R214). -/
  | waitt (e : Nat)
  /-- WAITW (R221). -/
  | waitw (e : Nat)
  /-- WAITJ (R223). -/
  | waitj (e : Nat)
  /-- WAITCH (R222). -/
  | waitch (e : Nat)
  /-- WAIT_END (R221). -/
  | waitEnd (e : Nat)
  /-- CRD (R218). -/
  | crd (e : Nat)
  /-- CWR (R218). -/
  | cwr (e : Nat)
  /-- VRD (R218). -/
  | vrd (e : Nat)
  /-- VWR (R218). -/
  | vwr (e : Nat)
  /-- ERRS (R220). -/
  | errs (e : Nat)
  /-- HRD (R219). -/
  | hrd (e : Nat)
  /-- HWR (R219). -/
  | hwr (e : Nat)
  /-- TRIG (R224). -/
  | trig (e : Nat)
  /-- CUT_STOP (R225). -/
  | cutStop (e : Nat)
  /-- CUT_GLANCE (R225). -/
  | cutGlance (e : Nat)
  /-- CUT_RESUME (R225). -/
  | cutResume (e : Nat)
  /-- CUT_ABANDON (R225). -/
  | cutAbandon (e : Nat)
  /-- CUT_STEP (R225). -/
  | cutStep (e : Nat)
  /-- CUT_STEP_TRIG_CLOSE (R225). -/
  | cutStepTrigClose (e : Nat)
  /-- TRC_START (R226). -/
  | trcStart (e : Nat)
  /-- TRC_STOP (R226). -/
  | trcStop (e : Nat)
  /-- DUMP (R226). -/
  | dump (e : Nat)
  /-- JOB_CENSUS (R227). -/
  | jobCensus (e : Nat)
  /-- JOB_ECHO (R227). -/
  | jobEcho (e : Nat)
  /-- LOG (R228). -/
  | log (e : Nat)
  /-- FENCE (R229). -/
  | fence (e : Nat)
  /-- REMAP (R230). -/
  | remap (e : Nat)
  /-- KICK (R232). -/
  | kick (e : Nat)
  /-- HALT (R206). -/
  | halt (e : Nat)
  /-- WATCHDOG_EXPIRY (R232). -/
  | watchdogExpiry (e : Nat)
  /-- RF_PARITY (R233). -/
  | rfParity (e : Nat)
  /-- COU_ENABLE (R242). -/
  | couEnable (m : Master) (val : Word)
  /-- CC_INTRUDE (R243). -/
  | ccIntrude (addr : Nat)
  /-- DUMP_GO (R249). -/
  | dumpGo (m : Master) (val : Word)
  /-- SHADOW_LOAD (R252). -/
  | shadowLoad (reps : List EdgeRep)
  /-- BMU_PAGE_WRITE (R254). -/
  | bmuPageWrite (half : Nat) (ord : Nat) (uc : List Nat) (ce : List Nat)
  /-- LINK_RECORD (R264). -/
  | linkRecord (blk : Nat) (dev : Nat) (peer : Nat) (rx : Nat)
  /-- LINK_TIMEOUT (R264). -/
  | linkTimeout (blk : Nat)
  /-- DRAIN_START (R273). -/
  | drainStart (m : Master) (val : Word)
  /-- DRAIN_STOP (R274). -/
  | drainStop (m : Master) (val : Word)
  /-- DRAIN_ACK (R274). -/
  | drainAck (m : Master) (val : Word)
  /-- DUMP_DRAIN_SEND (R273). -/
  | dumpDrainSend (uc : List Nat)
  /-- COU_RELEASE (R277). -/
  | couRelease (m : Master) (val : Word)
  /-- SLOT_FREE (R277). -/
  | slotFree (slot : Nat)
  /-- AUTO_ARM (R251). -/
  | autoArm (m : Master) (val : Word)
  /-- ABORT (R282). -/
  | abort (m : Master) (val : Word)
  /-- CEN_SUBMIT (R299). -/
  | cenSubmit (m : Master) (val : Word)
  /-- ECH_SUBMIT (R308). -/
  | echSubmit (m : Master) (val : Word)
  /-- CEN_ABORT (R318). -/
  | cenAbort (m : Master) (val : Word)
  /-- ECH_ABORT (R315). -/
  | echAbort (m : Master) (val : Word)
  /-- CENSUS_JOB_DONE (R301). -/
  | censusJobDone (job : Nat) (secPages : List Nat)
  /-- ECHO_CAPTURE_COMPLETE (R309). -/
  | echoCaptureComplete (job : Nat) (last : List (Nat × List Byte)) (leaf : Nat) (out : List Byte)
  /-- ECHO_REPLAY_DONE (R310). -/
  | echoReplayDone (job : Nat) (spare : Nat) (out : List Byte)
  /-- ECHO_COMPARE_DONE (R311). -/
  | echoCompareDone (job : Nat)
  /-- ECHO_TIMEOUT (R315). -/
  | echoTimeout (job : Nat)
  /-- STORE_UC (R323). -/
  | storeUc (core : Nat)
  /-- SCR_CMD_START (R327). -/
  | scrCmdStart (m : Master) (val : Word)
  /-- SCR_CMD_STOP (R327). -/
  | scrCmdStop (m : Master) (val : Word)
  /-- FLOW_PACKET (R337). -/
  | flowPacket (cairn : Nat) (pc : Nat) (n : Nat) (transfer : Bool) (target : Nat) (exc : Bool) (leaf : Nat)
  /-- LOSS (R338). -/
  | loss (cairn : Nat) (leaf : Nat)
  /-- SPILL_INTRUDE (R342). -/
  | spillIntrude (addr : Nat)
  /-- SCR_MARK (R335). -/
  | scrMark (m : Master) (val : Word)
  /-- CLEAR (R348). -/
  | clear (m : Master) (val : Word)
  /-- SCR_DRAIN_START (R344). -/
  | scrDrainStart (m : Master) (val : Word)
  /-- SCR_DRAIN_STOP (R344). -/
  | scrDrainStop (m : Master) (val : Word)
  /-- SCR_DRAIN_ACK (R344). -/
  | scrDrainAck (m : Master) (val : Word)
  /-- BUF_UC (R349). -/
  | bufUc (block : Nat)
  /-- FAULT_DETECT (R357). -/
  | faultDetect (onCairn : Bool) (page : Nat) (bit : Nat) (tenant : Nat) (ctx : Nat) (detail : Nat) (detail2 : Nat)
  /-- CE_COALESCE_TIMER (R358). -/
  | ceCoalesceTimer (cairn : Nat) (bit : Nat)
  /-- FLT_FORCE (R360). -/
  | fltForce (m : Master) (addr : Nat) (val : Word)
  /-- FLT_PAGE_ACK (R55). -/
  | fltPageAck (m : Master) (addr : Nat) (val : Word)
  /-- FLT_ACK_UC (R364). -/
  | fltAckUc (m : Master) (val : Word)
  /-- FLT_ACK_CE (R364). -/
  | fltAckCe (m : Master) (val : Word)
  /-- CE_RD (R362). -/
  | ceRd (m : Master) (val : Word)
  /-- SIG_MON_CHECK (R369). -/
  | sigMonCheck (seqr : Nat) (ok : Bool)
  /-- SIG_MON_TIMEOUT (R369). -/
  | sigMonTimeout (seqr : Nat)
  /-- FENCE_CMD (R371). -/
  | fenceCmd (m : Master) (val : Word)
  /-- FENCE_ORDER (R372). -/
  | fenceOrder (cairn : Nat)
  /-- FENCE_DONE (R372). -/
  | fenceDone (cairn : Nat) (drain : Nat)
  /-- FENCE_STUCK (R372). -/
  | fenceStuck (cairn : Nat)
  /-- UNFENCE (R373). -/
  | unfence (m : Master) (val : Word)
  /-- LAG_BLOCK (R386). -/
  | lagBlock (core : Nat) (issues : List Nat) (writes : List (List Nat)) (mixed : List Nat)
  /-- REMAP_CMD (R389). -/
  | remapCmd (m : Master) (val : Word)
  /-- REMAP_BOUNDARY (R390). -/
  | remapBoundary (core : Nat)
  /-- REMAP_GATE_OPEN (R390). -/
  | remapGateOpen (core : Nat)
  /-- UNMAP (R392). -/
  | unmap (m : Master) (val : Word)
  /-- DROOP_ENTER (R397). -/
  | droopEnter (cairn : Nat) (kind : Nat) (mv : Nat) (mhz : Nat)
  /-- DROOP_EXIT (R397). -/
  | droopExit (cairn : Nat) (stretched : Nat) (bubbles : Nat)
  /-- VF_REQ (R397). -/
  | vfReq (cairn : Nat) (kind : Nat) (target : Nat)
  /-- VF_CHANGE_START (R397). -/
  | vfChangeStart (cairn : Nat)
  /-- VF_DONE (R404). -/
  | vfDone (cairn : Nat)
  /-- PM_INTERVAL (R399). -/
  | pmInterval (cairn : Nat) (est : Nat) (meas : Nat) (limit : Nat)
  /-- DISPATCH_CASE (R401). -/
  | dispatchCase (cairn : Nat) (what : Nat) (tag : Nat) (expert : Nat)
  /-- DISPATCH_SUMMARY (R402). -/
  | dispatchSummary (cairn : Nat)
  /-- BATCH_CANCEL (R403). -/
  | batchCancel (cairn : Nat) (old : Nat) (new : Nat) (tenant : Nat) (ctx : Nat)
  /-- TALUS_SAMPLE (R412). -/
  | talusSample (regs : List RegionRd)
  /-- TAL_COMMIT (R417). -/
  | talCommit (m : Master) (val : Word)
  /-- TALUS_COMMIT_VERIFY (R418). -/
  | talusCommitVerify (ok : Bool)
  /-- TAL_SNAP (R424). -/
  | talSnap (m : Master) (val : Word)
  /-- TAL_TRACK (R413). -/
  | talTrack (m : Master) (val : Word)
  /-- TAL_CLEAR (R423). -/
  | talClear (m : Master) (val : Word)
  /-- LCY_TRANSITION (R437). -/
  | lcyTransition (m : Master) (val : Word)
  /-- LCY_PROVISION (R442). -/
  | lcyProvision (m : Master) (val : Word)
  /-- CERT (R447). -/
  | cert (m : Master) (val : Word)
  /-- CHALLENGE (R448). -/
  | challenge (m : Master) (val : Word)
  /-- RESPOND (R449). -/
  | respond (m : Master) (val : Word)
  /-- DROP (R450). -/
  | drop (m : Master) (val : Word)
  /-- AUTH_BUF_DATA (R435). -/
  | authBufData (m : Master) (write : Bool) (val : Word)
  /-- LCY_STEP_DONE (R439). -/
  | lcyStepDone (ok : Bool)
  /-- HELLO (R473). -/
  | hello (proto : Nat) (rate : Nat) (lanes : Nat) (tool : Nat) (t : Trailer)
  /-- KEEPALIVE (R476). -/
  | keepalive (t : Trailer)
  /-- BYE (R477). -/
  | bye (t : Trailer)
  /-- ACK (R466). -/
  | ack (t : Trailer)
  /-- REG_REQ (R468). -/
  | regReq (tag : Nat) (stop : Bool) (ops : List Nat) (loc : Bool) (dev : Nat) (t : Trailer)
  /-- TRIGGER_IN (R469). -/
  | triggerIn (xdev : Bool) (loc : Bool) (dev : Nat) (t : Trailer)
  /-- RELAY_OPEN (R485). -/
  | relayOpen (dev : Nat) (all : Bool) (share : Nat) (ok : List Nat) (busy : List Nat) (t : Trailer)
  /-- RELAY_CLOSE (R485). -/
  | relayClose (dev : Nat) (all : Bool) (t : Trailer)
  /-- FRAME_BAD (R466). -/
  | frameBad (crc : Bool)
  /-- RATE_TRAIN (R474). -/
  | rateTrain (ok : Bool)
  /-- LANE_LOST (R475). -/
  | laneLost (lane : Nat)
  /-- TX_IDLE (R482). -/
  | txIdle (lane : Nat) (on : Bool)
  /-- PASS_ACC (R480). -/
  | passAcc (val : Nat)
  /-- LEAD_CLAIM (R483). -/
  | leadClaim (m : Master) (val : Word) (lead : Bool) (rival : Nat)
  /-- LEAD_DROP (R483). -/
  | leadDrop (m : Master) (val : Word)
  /-- DISCOVER (R484). -/
  | discover (m : Master) (val : Word)
  /-- HUB_ANNOUNCE (R484). -/
  | hubAnnounce (uid : Nat) (dev : Nat) (status : Nat)
  /-- MEMBER_TIMEOUT (R484). -/
  | memberTimeout (dev : Nat)
  /-- STARTUP_PHASE_DONE (R502). -/
  | startupPhaseDone (self0 : Bool) (self1 : Bool) (uc : List Nat)
  /-- VDD_HUB_LOSS (R492). -/
  | vddHubLoss (done : Nat) (mask : Nat)
  /-- SOFT_RESET_REQUEST (R493). -/
  | softResetRequest (m : Master) (val : Word)
  /-- SOFT_RESET_DONE (R497). -/
  | softResetDone (self0 : Bool) (self1 : Bool)
  /-- REGISTER_READ (R57). -/
  | registerRead (m : Master) (addr : Nat) (width : Nat)
  /-- OBSERVATION_POINT_EDGE (R183). -/
  | observationPointEdge (cairn : Nat) (leaf : Nat) (upd : Bool) (accs : List ObsAcc) (evs : List Nat)
  /-- ECHO_CAPTURE_ISSUE (R309). -/
  | echoCaptureIssue (job : Nat) (leaf : Nat) (relaxed : Bool) (int32 : Bool)
  /-- TOO_LONG (R309). -/
  | tooLong (w : StageWrite)
  /-- BLOCK_LOCK_GAINED (R461). -/
  | blockLockGained (lane : Nat)
  /-- HOKUING_LINKS_DOWN (R484). -/
  | hokuingLinksDown (dev : Nat)
  /-- RELAY_SESSION_OPEN (R485). -/
  | relaySessionOpen (share : Nat)
  /-- RESERVED_FRAME (R465). -/
  | reservedFrame (ftype : Nat) (t : Trailer)
  /-- ARBITER_NUMBER (R31). -/
  | arbiterNumber
  /-- TAKEOVER_COMPLETE (R22). -/
  | takeoverComplete
  /-- EXCL_LEASE_EXPIRY (R75). -/
  | exclLeaseExpiry
  /-- TSYNC_LOST (R80). -/
  | tsyncLost
  /-- SLEW_POINT (R84). -/
  | slewPoint
  /-- REFCLK_GLITCH (R101). -/
  | refclkGlitch
  /-- REFCLK_LOST (R102). -/
  | refclkLost
  /-- PLL_RELOCK (R103). -/
  | pllRelock
  /-- STEP_CLOSE_ISSUE (R158). -/
  | stepCloseIssue
  /-- STEP_DEADLINE (R158). -/
  | stepDeadline
  /-- SEQUENCER_EVAL (R189). -/
  | sequencerEval
  /-- STOP_AFTER_FIRE (R195). -/
  | stopAfterFire
  /-- PIN_PULSE_EDGE (R196). -/
  | pinPulseEdge
  /-- CFG_PARITY (R200). -/
  | cfgParity
  /-- COU_INIT_DONE (R242). -/
  | couInitDone
  /-- CHUNK_TIMER (R261). -/
  | chunkTimer
  /-- CHUNK_COMMIT_STEP_ACK (R262). -/
  | chunkCommitStepAck
  /-- JOB_PARITY (R323). -/
  | jobParity
  /-- TRACE_ACTION_EFFECT (R327). -/
  | traceActionEffect
  /-- PACKET_WRITE (R329). -/
  | packetWrite
  /-- SYNC_TIMER (R331). -/
  | syncTimer
  /-- BLOCK_PAD_TIMEOUT (R341). -/
  | blockPadTimeout
  /-- SPILL_BLOCK_WRITE (R342). -/
  | spillBlockWrite
  /-- TRACE_DRAIN_SEND (R344). -/
  | traceDrainSend
  /-- HEARTBEAT_TOGGLE (R369). -/
  | heartbeatToggle
  /-- TFIT_WINDOW (R395). -/
  | tfitWindow
  /-- TALUS_COUNT (R416). -/
  | talusCount
  /-- TALUS_SCHEDULE (R417). -/
  | talusSchedule
  /-- TALUS_COMMIT_START (R418). -/
  | talusCommitStart
  /-- AUTH_VERIFY_DONE (R435). -/
  | authVerifyDone
  /-- CHALLENGE_EXPIRY (R448). -/
  | challengeExpiry
  /-- TRNG_FAIL (R456). -/
  | trngFail
  /-- FRAME_SEND (R467). -/
  | frameSend
  /-- RETRANSMIT_TIMEOUT (R466). -/
  | retransmitTimeout
  /-- KEEPALIVE_SEND (R476). -/
  | keepaliveSend
  /-- KEEPALIVE_TIMEOUT (R476). -/
  | keepaliveTimeout
  /-- LINK_LOSS (R475). -/
  | linkLoss
  /-- TAP_RESET (R479). -/
  | tapReset
  /-- EXTEST (R479). -/
  | extest
  /-- SAMPLE_PRELOAD (R479). -/
  | samplePreload
  /-- IDCODE (R479). -/
  | idcode
  /-- HIGHZ (R479). -/
  | highz
  /-- CLAMP (R479). -/
  | clamp
  /-- BYPASS (R479). -/
  | bypass
  /-- DISCOVERY_TIMEOUT (R484). -/
  | discoveryTimeout
  /-- RELAY_KEEPALIVE (R486). -/
  | relayKeepalive
  /-- LEAD_LOST (R486). -/
  | leadLost
  /-- PORT_BUF_UC (R490). -/
  | portBufUc
  /-- VDD_HUB_POWER_UP (R501). -/
  | vddHubPowerUp
  /-- PLL_LOCK (R502). -/
  | pllLock
  /-- CHIP_WARM_RESET (R499). -/
  | chipWarmReset
  /-- BMU_READY (R500). -/
  | bmuReady
  /-- SOFT_RESET_APPLY (R497). -/
  | softResetApply
  /-- HUB_IDLE (R504). -/
  | hubIdle
  /-- TRNG_HEALTH_PASS (R456). -/
  | trngHealthPass
  /-- HOKUING_LINKS_UP (R484). -/
  | hokuingLinksUp
  deriving DecidableEq, Repr

end Sys2Proof
end

