-- ==== Sys2Proof/Decode.lean ====
section
/-! DEFINITION. Decode.lean: the command a word spells by the opcode table's bits. -/

namespace Sys2Proof

/-- No row of the opcode table has bits: the block takes commands, not encoded instructions. The encoding of the Pitch engines'
instructions is that of Machine/PitchCode.lean (07 R211). -/
def decodeTableWord (_nbits _w : Nat) : Option Instr := none

end Sys2Proof
end

