-- ==== Sys2Proof/Config.lean ====
section
/-! DEFINITION. Config.lean: what the spec leaves open, as constants without a body: nothing in Lean can evaluate them, so no
statement can rest on a value of theirs. Each is named in an entry of the assumption log. -/

namespace Sys2Proof.Config

/-- A value the spec leaves open: the n-th such value of the run, n the counter State.free (log entry 3). -/
opaque freeValue : Nat → BitVec 64

/-- What a unit's own execution has left at a byte of its state: the number of the run that left it and the byte's key (log entry 3). -/
opaque unitByte : Nat → Nat → BitVec 8

/-- What a unit's own execution has left at byte `o` of the part of its shadow image that is opaque to the manual: the number of the run
and the byte (08 R245; log entry 3). -/
opaque internalByte : Nat → Nat → BitVec 8

/-- Does a BMU's ownership tag mark a stack page secure: the number of the BMU's run and the page on the device (08 R256; log entry 3)? -/
opaque ownTag : Nat → Nat → Bool

/-- Does an I/O ring block serve a Hokuing link on this device (log entry 3)? -/
opaque servesLink : Nat → Bool

/-- The device ID of the hub at the other end of the Hokuing link that an I/O ring block serves (log entry 3). -/
opaque linkPeer : Nat → BitVec 12

/-- BLAKE3 in its default unkeyed mode, the first 16 bytes of its output as a number (08 R254; log entry 10). -/
opaque blake3 : List Byte → BitVec 128

/-- One LZ4 block made from a page, without a dictionary (08 R254; log entry 10). -/
opaque lz4 : List Byte → List Byte

/-- The binary32 code of a sum's compensation after an overflow, when R294 makes it no number (log entry 11). -/
opaque nan32 : BitVec 32

/-- MAXDIST_IDX of a drift record none of whose pairs has a distance, a value R296 does not state (log entry 11). -/
opaque noDistIdx : BitVec 32

/-- SHA-384 of bytes as a number, its first byte least significant (14 R434; log entry 10). -/
opaque sha384 : List Byte → BitVec 384

/-- Does an ECDSA signature on P-384 over SHA-384 verify: public key, message, signature (14 R434; log entry 10)? -/
opaque ecdsaOk : List Byte → List Byte → List Byte → Bool

/-- Does a pure ML-DSA-65 signature with an empty context verify: public key, message, signature (14 R434; log entry 10)? -/
opaque mldsaOk : List Byte → List Byte → List Byte → Bool

end Sys2Proof.Config
end

