-- ==== Sys2Proof/Machine/SMap.lean ====
section
/-! DEFINITION. Machine/SMap.lean: sparse storage by address, in one canonical form (keys strictly rising, no entry equal to
what an unlisted key reads as). Every register file, memory and table of the model is kept in it. -/

namespace Sys2Proof.Machine

/-- Entries by rising key; what an unlisted key reads as is given by each reader. -/
abbrev SMap (α : Type) := List (Nat × α)

/-- The value at key `i`; `d` where it is not listed. -/
def smGet {α : Type} (d : α) : SMap α → Nat → α
  | [], _ => d
  | (k, v) :: m, i => if i = k then v else smGet d m i

/-- `m` with `v` at key `i`: writing what an unlisted key reads as removes the entry, and a canonical `m` stays so. -/
def smSet {α : Type} [DecidableEq α] (d : α) : SMap α → Nat → α → SMap α
  | [], i, v => if v = d then [] else [(i, v)]
  | (k, w) :: m, i, v =>
    if i = k then (if v = d then smSet d m i v else (i, v) :: m)
    else if i < k ∧ v ≠ d then (i, v) :: (k, w) :: m
    else (k, w) :: smSet d m i v

/-- The value of every entry changed by `f` of its key and value, in canonical form again. -/
def smMap {α : Type} [DecidableEq α] (d : α) (f : Nat → α → α) : SMap α → SMap α
  | [] => []
  | (k, v) :: m => if f k v = d then smMap d f m else (k, f k v) :: smMap d f m

/-- The entries whose key satisfies `p`. -/
def smKeep {α : Type} (p : Nat → Bool) (m : SMap α) : SMap α := m.filter fun e => p e.1

/-- Canonical form above a bound: keys at least `lo` and rising, no entry equal to `d`. -/
def smWfFrom {α : Type} [DecidableEq α] (d : α) : Nat → SMap α → Bool
  | _, [] => true
  | lo, (k, v) :: m => decide (lo ≤ k) && decide (v ≠ d) && smWfFrom d (k + 1) m

/-- Canonical form. -/
def smWf {α : Type} [DecidableEq α] (d : α) (m : SMap α) : Bool := smWfFrom d 0 m

/-- Words or bytes `i` to `i + n - 1`, in rising order. -/
def smRange {α : Type} (d : α) (m : SMap α) (i n : Nat) : List α := (List.range n).map fun k => smGet d m (i + k)

/-- `m` with the listed values at keys `i`, `i + 1` and on. -/
def smSetList {α : Type} [DecidableEq α] (d : α) (m : SMap α) (i : Nat) : List α → SMap α
  | [] => m
  | v :: vs => smSetList d (smSet d m i v) (i + 1) vs

end Sys2Proof.Machine
end

