-- ==== Sys2Proof/Machine/Numeric.lean ====
section
/-! DEFINITION. Machine/Numeric.lean: the formats Census and Echo read, their classes and values, the counting record and the
drift record (09 R288 to R296, R303 to R305). -/

namespace Sys2Proof.Machine

/-! ### Exact numbers and binary32 -/

/-- The number m · 2^e. -/
structure Dy where
  m : Int
  e : Int
  deriving DecidableEq, Repr

/-- Zero. -/
def Dy.zero : Dy := ⟨0, 0⟩

/-- Exact sum. -/
def Dy.add (a b : Dy) : Dy :=
  let e := min a.e b.e
  ⟨a.m * 2 ^ (a.e - e).toNat + b.m * 2 ^ (b.e - e).toNat, e⟩

/-- Negation. -/
def Dy.neg (a : Dy) : Dy := ⟨-a.m, a.e⟩

/-- Magnitude. -/
def Dy.abs (a : Dy) : Dy := ⟨a.m.natAbs, a.e⟩

/-- Exact product. -/
def Dy.mul (a b : Dy) : Dy := ⟨a.m * b.m, a.e + b.e⟩

/-- Is a ≤ b? -/
def Dy.le (a b : Dy) : Bool := decide ((a.add b.neg).m ≤ 0)

/-- ⌊log₂|a|⌋ of a number that is not 0. -/
def Dy.log2 (a : Dy) : Int := (Nat.log2 a.m.natAbs : Int) + a.e

/-- A binary32 operand or result: signed zeros are one value, which no field of a record can tell apart. -/
inductive Num
  | fin (d : Dy)
  | inf (neg : Bool)
  | nan
  deriving DecidableEq, Repr

/-- Rounding to binary32, to nearest even (R294). -/
def round32 (d : Dy) : Num :=
  if d.m = 0 then .fin Dy.zero
  else
    let lsb := max (d.log2 - 23) (-149)
    let sh := lsb - d.e
    let r : Dy :=
      if sh ≤ 0 then d
      else
        let k := 2 ^ sh.toNat
        let a := d.m.natAbs
        let q := a / k
        let up := decide (k < 2 * (a % k)) || (2 * (a % k) == k && q % 2 == 1)
        ⟨d.m.sign * ((if up then q + 1 else q : Nat) : Int), lsb⟩
    if 128 ≤ r.log2 then .inf (decide (d.m < 0)) else .fin r

/-- Sum in binary32. -/
def Num.add : Num → Num → Num
  | .fin a, .fin b => round32 (a.add b)
  | .inf a, .inf b => if a = b then .inf a else .nan
  | .inf a, .fin _ => .inf a
  | .fin _, .inf b => .inf b
  | _, _ => .nan

/-- Negation. -/
def Num.neg : Num → Num
  | .fin a => .fin a.neg
  | .inf b => .inf (!b)
  | .nan => .nan

/-- |a| ≥ |b|; false where either is no number. -/
def Num.absGe : Num → Num → Bool
  | .fin a, .fin b => b.abs.le a.abs
  | .inf _, .fin _ => true
  | .inf _, .inf _ => true
  | _, _ => false

/-- Is it infinite? -/
def Num.isInf : Num → Bool
  | .inf _ => true
  | _ => false

/-- The square in binary32 of a number first rounded to binary32 (R294). -/
def sq32 (d : Dy) : Num :=
  match round32 d with
  | .fin a => round32 (a.mul a)
  | .inf _ => .inf false
  | .nan => .nan

/-- The binary32 code of a value. -/
def enc32 : Num → Nat
  | .nan => Config.nan32.toNat
  | .inf b => (if b then 2 ^ 31 else 0) + 0x7F800000
  | .fin d =>
    if d.m = 0 then 0
    else
      let s := if d.m < 0 then 2 ^ 31 else 0
      let lsb := max (d.log2 - 23) (-149)
      let q := if d.e ≤ lsb then d.m.natAbs / 2 ^ (lsb - d.e).toNat else d.m.natAbs * 2 ^ (d.e - lsb).toNat
      if q < 2 ^ 23 then s + q else s + (lsb + 150).toNat * 2 ^ 23 + (q - 2 ^ 23)

/-- The binary64 code of a magnitude (R293): every value of R288 is normal in binary64. -/
def enc64 (d : Dy) : Nat :=
  if d.m = 0 then 0
  else
    let lsb := d.log2 - 52
    let q := if d.e ≤ lsb then d.m.natAbs / 2 ^ (lsb - d.e).toNat else d.m.natAbs * 2 ^ (d.e - lsb).toNat
    (lsb + 1075).toNat * 2 ^ 52 + (q - 2 ^ 52)

/-! ### Formats (R288 to R290) -/

/-- What the codes with every exponent bit set stand for. -/
inductive TopExp
  | ieee | e4m3 | finite | int
  deriving DecidableEq, Repr

/-- A format: element bits, exponent and mantissa bits, bias, top codes, whether it is MX, and its default HBASE. -/
structure Fmt where
  bits : Nat
  exp : Nat
  man : Nat
  bias : Int
  top : TopExp
  mx : Bool
  hbase : Int
  deriving DecidableEq, Repr

/-- The formats by FMT code; none for a reserved code. -/
def fmtOf : Nat → Option Fmt
  | 0x01 => some ⟨32, 8, 23, 127, .ieee, false, -40⟩
  | 0x02 => some ⟨16, 8, 7, 127, .ieee, false, -40⟩
  | 0x03 => some ⟨16, 5, 10, 15, .ieee, false, -24⟩
  | 0x04 => some ⟨8, 4, 3, 7, .e4m3, false, -9⟩
  | 0x05 => some ⟨8, 5, 2, 15, .ieee, false, -16⟩
  | 0x06 => some ⟨6, 3, 2, 3, .finite, false, -4⟩
  | 0x07 => some ⟨6, 2, 3, 1, .finite, false, -3⟩
  | 0x08 => some ⟨4, 2, 1, 1, .finite, false, -1⟩
  | 0x09 => some ⟨8, 0, 7, 0, .int, false, 0⟩
  | 0x0A => some ⟨4, 0, 3, 0, .int, false, 0⟩
  | 0x0B => some ⟨32, 0, 31, 0, .int, false, 0⟩
  | 0x11 => some ⟨8, 4, 3, 7, .e4m3, true, -31⟩
  | 0x12 => some ⟨8, 5, 2, 15, .ieee, true, -31⟩
  | 0x13 => some ⟨6, 3, 2, 3, .finite, true, -31⟩
  | 0x14 => some ⟨6, 2, 3, 1, .finite, true, -31⟩
  | 0x15 => some ⟨4, 2, 1, 1, .finite, true, -31⟩
  | 0x16 => some ⟨8, 0, 7, 0, .int, true, -31⟩
  | _ => none

/-- The class of an element (R291). -/
inductive Cls
  | zero | subnormal | normal | inf | nan
  deriving DecidableEq, Repr

/-- Sign bit, exponent field and mantissa field of a code. -/
def Fmt.sgn (f : Fmt) (c : Nat) : Bool := decide (2 ^ (f.bits - 1) ≤ c)
def Fmt.expo (f : Fmt) (c : Nat) : Nat := c / 2 ^ f.man % 2 ^ f.exp
def Fmt.mant (f : Fmt) (c : Nat) : Nat := c % 2 ^ f.man

/-- The two's complement value of a code. -/
def Fmt.intVal (f : Fmt) (c : Nat) : Int := if f.sgn c then (c : Int) - 2 ^ f.bits else c

/-- The class taken from the element code. -/
def Fmt.cls (f : Fmt) (c : Nat) : Cls :=
  let top := f.expo c == 2 ^ f.exp - 1
  match f.top with
  | .int => if c = 0 then .zero else .normal
  | .ieee =>
    if top then (if f.mant c = 0 then .inf else .nan)
    else if f.expo c = 0 then (if f.mant c = 0 then .zero else .subnormal) else .normal
  | .e4m3 =>
    if top ∧ f.mant c = 7 then .nan
    else if f.expo c = 0 then (if f.mant c = 0 then .zero else .subnormal) else .normal
  | .finite => if f.expo c = 0 then (if f.mant c = 0 then .zero else .subnormal) else .normal

/-- The element's value, without an MX scale; a code of class INF or NAN has none. -/
def Fmt.val (f : Fmt) (c : Nat) : Dy :=
  match f.top with
  | .int => ⟨f.intVal c, if f.mx then -6 else 0⟩
  | _ =>
    let sg : Int := if f.sgn c then -1 else 1
    if f.expo c = 0 then ⟨sg * (f.mant c : Int), 1 - f.bias - f.man⟩
    else ⟨sg * ((2 ^ f.man + f.mant c : Nat) : Int), (f.expo c : Int) - f.bias - f.man⟩

/-- Does an element count as SAT: the largest finite magnitude, or an integer's end of range (R291)? -/
def Fmt.sat (f : Fmt) (c : Nat) : Bool :=
  let m := c % 2 ^ (f.bits - 1)
  match f.top with
  | .int => c == 2 ^ (f.bits - 1) || c == 2 ^ (f.bits - 1) - 1
  | .ieee => m == (2 ^ f.exp - 1) * 2 ^ f.man - 1
  | .e4m3 => m == 2 ^ (f.bits - 1) - 2
  | .finite => m == 2 ^ (f.bits - 1) - 1

/-- The spacing of a format's element values at a magnitude, as an exponent of 2 (R295). -/
def Fmt.spacing (f : Fmt) (x : Dy) : Int :=
  if f.top = .int then (if f.mx then -6 else 0)
  else if x.m = 0 then 1 - f.bias - f.man else max (x.log2 - f.man) (1 - f.bias - f.man)

/-- Where Census reads a region: its bytes from the first, its scale bytes by block (127 where scales are taken as 1), and for
each element why it is left out: 0 counted, 1 uncorrectable word, 2 secure page. -/
structure Region where
  fmt : Fmt
  byte : Nat → Byte
  scale : Nat → Nat
  out : Nat → Nat

/-- Code of element `i` (R289): elements packed little-endian from the first byte. -/
def Region.code (r : Region) (i : Nat) : Nat :=
  let lo := i * r.fmt.bits
  let w := (List.range 5).foldl (fun n k => n + (r.byte (lo / 8 + k)).toNat * 256 ^ k) 0
  w / 2 ^ (lo % 8) % 2 ^ r.fmt.bits

/-- Is the scale of element `i` NaN? -/
def Region.scaleNan (r : Region) (i : Nat) : Bool := r.fmt.mx && r.scale (i / 32) == 255

/-- The class of element `i`. -/
def Region.cls (r : Region) (i : Nat) : Cls := if r.scaleNan i then .nan else r.fmt.cls (r.code i)

/-- The value of element `i`, with its scale. -/
def Region.val (r : Region) (i : Nat) : Dy :=
  let d := r.fmt.val (r.code i)
  if r.fmt.mx then ⟨d.m, d.e + (r.scale (i / 32) : Int) - 127⟩ else d

/-- Is element `i` among the finite ones? -/
def Region.finite (r : Region) (i : Nat) : Bool :=
  match r.cls i with
  | .inf => false
  | .nan => false
  | _ => true

/-! ### The counting record (R291 to R294, R305) -/

/-- A sum under Neumaier's compensation, and whether it has overflowed. -/
structure NSum where
  s : Num
  c : Num
  ovf : Bool
  deriving DecidableEq, Repr

/-- No sum. -/
def NSum.zero : NSum := ⟨.fin Dy.zero, .fin Dy.zero, false⟩

/-- `add` of R294. -/
def NSum.add (a : NSum) (x : Num) : NSum :=
  let t := a.s.add x
  let c := if a.s.absGe x then a.c.add ((a.s.add t.neg).add x) else a.c.add ((x.add t.neg).add a.s)
  ⟨t, c, a.ovf || t.isInf || x.isInf⟩

/-- One sum added into another, as the tree and the last step of a block do. -/
def NSum.join (a b : NSum) : NSum :=
  let r := a.add b.s
  ⟨r.s, r.c.add b.c, r.ovf || b.ovf⟩

/-- One level of the pairwise tree: lane j takes lane j + step. -/
def laneStep (step : Nat) (l : List NSum) : List NSum :=
  (List.range 32).map fun j =>
    if j % (2 * step) = 0 then (l.getD j NSum.zero).join (l.getD (j + step) NSum.zero) else l.getD j NSum.zero

/-- The lanes of a block reduced to lane 0. -/
def laneTree (l : List NSum) : NSum := ([1, 2, 4, 8, 16].foldl (fun l k => laneStep k l) l).getD 0 NSum.zero

/-- The lanes at the start of a block. -/
def lanes0 : List NSum := List.replicate 32 NSum.zero

/-- What a pass over a region has counted. -/
structure Tally where
  n : Nat
  zero : Nat
  subn : Nat
  norm : Nat
  inf : Nat
  nan : Nat
  sat : Nat
  maxAbs : Dy
  maxIdx : Nat
  nanIdx : Nat
  uc : Nat
  red : Nat
  scaleNan : Bool
  hist : SMap Nat
  blk : Nat
  lanes : List NSum
  total : NSum
  deriving DecidableEq, Repr

/-- Nothing counted. -/
def Tally.init : Tally :=
  ⟨0, 0, 0, 0, 0, 0, 0, Dy.zero, 0xFFFFFFFF, 0xFFFFFFFF, 0, 0, false, [], 0, lanes0, NSum.zero⟩

/-- The block closes into the running sum. -/
def Tally.flush (t : Tally) (blk : Nat) : Tally := { t with blk := blk, lanes := lanes0, total := t.total.join (laneTree t.lanes) }

/-- Bin of the exponent histogram (R292). -/
def histBin (x : Dy) (hbase : Int) : Nat := (min (max (x.log2 - hbase + 1) 0) 63).toNat

/-- The greatest magnitude and the lowest index at which it occurs (R293). -/
def Tally.top (t : Tally) (i : Nat) (x : Dy) : Tally :=
  if t.maxIdx = 0xFFFFFFFF ∨ !(x.abs.le t.maxAbs) then { t with maxAbs := x.abs, maxIdx := i } else t

/-- A finite element enters the histogram, the maximum and the sum of squares. -/
def Tally.finite (t : Tally) (r : Region) (hbase : Int) (i : Nat) (counted : Bool) : Tally :=
  let x := r.val i
  let t := t.top i x
  let t := if counted then { t with hist := smSet 0 t.hist (histBin x hbase) (smGet 0 t.hist (histBin x hbase) + 1) } else t
  { t with lanes := t.lanes.set (i % 32) ((t.lanes.getD (i % 32) NSum.zero).add (sq32 x)) }

/-- One element counted, or left out (R291, R303). -/
def Tally.step (r : Region) (hbase : Int) (t : Tally) (i : Nat) : Tally :=
  let b := i * r.fmt.bits / 32768
  let t := if b = t.blk then t else t.flush b
  if r.out i = 1 then { t with uc := t.uc + 1 }
  else if r.out i = 2 then { t with red := t.red + 1 }
  else
    let t := { t with n := t.n + 1, scaleNan := t.scaleNan || r.scaleNan i }
    match r.cls i with
    | .zero => ({ t with zero := t.zero + 1 }).finite r hbase i false
    | .subnormal => ({ t with subn := t.subn + 1 }).finite r hbase i true
    | .normal =>
      ({ t with norm := t.norm + 1, sat := if r.fmt.sat (r.code i) then t.sat + 1 else t.sat }).finite r hbase i true
    | .inf => { t with inf := t.inf + 1 }
    | .nan => { t with nan := t.nan + 1, nanIdx := if t.nan = 0 then i else t.nanIdx }

/-- A region of `len` elements counted. -/
def Region.count (r : Region) (hbase : Int) (len : Nat) : Tally :=
  let t := (List.range len).foldl (Tally.step r hbase) Tally.init
  t.flush t.blk

/-- An unsigned number of `n` bytes, low byte first (R6). -/
def leBytes : Nat → Nat → List Byte
  | 0, _ => []
  | n + 1, v => BitVec.ofNat 8 v :: leBytes n (v / 256)

/-- A signed 16-bit field. -/
def s16 (h : Int) : Nat := (h % 65536).toNat

/-- The 320-byte counting record (R305); `unit` says that every scale was taken as 1. -/
def Tally.record (t : Tally) (fmt : Nat) (hbase : Int) (unit : Bool) : List Byte :=
  let ovf := t.total.ovf
  let flags := (if unit then 1 else 0) + (if ovf then 2 else 0) + (if t.uc = 0 then 0 else 4) + (if t.red = 0 then 0 else 8)
    + (if t.scaleNan then 16 else 0)
  leBytes 1 fmt ++ leBytes 1 flags ++ leBytes 2 (s16 hbase) ++ leBytes 4 t.n ++ leBytes 4 t.zero ++ leBytes 4 t.subn
  ++ leBytes 4 t.norm ++ leBytes 4 t.inf ++ leBytes 4 t.nan ++ leBytes 4 t.sat ++ leBytes 8 (enc64 t.maxAbs)
  ++ leBytes 4 t.maxIdx ++ leBytes 4 t.nanIdx ++ leBytes 4 (enc32 t.total.s) ++ leBytes 4 (enc32 t.total.c)
  ++ leBytes 4 t.uc ++ leBytes 4 t.red ++ (List.range 64).flatMap fun b => leBytes 4 (smGet 0 t.hist b)

/-- The record of a dump page whose FMT is reserved or INT32 (R304). -/
def badFmtRecord (fmt : Nat) : List Byte := ({ Tally.init with uc := 0 }).record fmt 0 false |>.set 1 32

/-- The Census record of a dump page over its raw bytes (R304); `out` says why an element is left out (R303). -/
def pageRecord (fmt : Nat) (raw : List Byte) (out : Fmt → Nat → Nat) : List Byte :=
  match fmtOf fmt with
  | none => badFmtRecord fmt
  | some f =>
    if fmt = 0x0B then badFmtRecord fmt
    else
      let r : Region := ⟨f, fun i => raw.getD i 0, fun _ => 127, out f⟩
      (r.count f.hbase (8 * raw.length / f.bits)).record fmt f.hbase f.mx

/-! ### Drift-compare (R295, R296) -/

/-- The ordinal of a floating-point code. -/
def Fmt.ordinal (f : Fmt) (c : Nat) : Int :=
  let m : Int := (c % 2 ^ (f.bits - 1) : Nat)
  if f.sgn c then -m else m

/-- The least number of steps of size 2^u in |d|. -/
def ceilSteps (d : Dy) (u : Int) : Nat :=
  let a := d.m.natAbs
  if u ≤ d.e then a * 2 ^ (d.e - u).toNat else (a + 2 ^ (u - d.e).toNat - 1) / 2 ^ (u - d.e).toNat

/-- The distance of a pair; none for a mismatch (R295). -/
def distance (a b : Region) (i : Nat) : Option Nat :=
  let ca := a.cls i
  let cb := b.cls i
  if ca = .nan ∧ cb = .nan then some 0
  else if ca = .inf ∧ cb = .inf ∧ a.fmt.sgn (a.code i) = b.fmt.sgn (b.code i) then some 0
  else if !a.finite i ∨ !b.finite i then none
  else if a.fmt.mx then
    let x := a.val i
    let y := b.val i
    let sc : Int := (max (a.scale (i / 32)) (b.scale (i / 32)) : Nat)
    let top := if y.abs.le x.abs then x.abs else y.abs
    let u := a.fmt.spacing ⟨top.m, top.e - (sc - 127)⟩
    some (ceilSteps (x.add y.neg) (u + (sc - 127)))
  else if a.fmt.top = .int then some (a.fmt.intVal (a.code i) - b.fmt.intVal (b.code i)).natAbs
  else some (a.fmt.ordinal (a.code i) - b.fmt.ordinal (b.code i)).natAbs

/-- Bin of the drift histogram. -/
def driftBin : Option Nat → Nat
  | none => 15
  | some d => if d = 0 then 0 else if 8192 ≤ d then 14 else Nat.log2 d + 1

/-- What a pass over pairs has found; `aRaw` and `bRaw` hold a code and, above bit 31, a scale byte. -/
structure Drift where
  n : Nat
  beyond : Nat
  first : Nat
  aRaw : Nat
  bRaw : Nat
  maxD : Nat
  maxIdx : Nat
  uc : Bool
  red : Bool
  scaleNan : Bool
  hist : SMap Nat
  deriving DecidableEq, Repr

/-- Nothing compared. -/
def Drift.init : Drift := ⟨0, 0, 0xFFFFFFFF, 0, 0, 0, 0, false, false, false, []⟩

/-- Code and scale byte of an element as A_RAW and B_RAW hold them. -/
def Region.raw (r : Region) (i : Nat) : Nat := r.code i + (if r.fmt.mx then r.scale (i / 32) * 2 ^ 32 else 0)

/-- One pair compared, or left out (R296, R303). -/
def Drift.step (a b : Region) (tol : Nat) (t : Drift) (i : Nat) : Drift :=
  if a.out i ≠ 0 ∨ b.out i ≠ 0 then
    { t with uc := t.uc || a.out i == 1 || b.out i == 1, red := t.red || a.out i == 2 || b.out i == 2 }
  else
    let d := distance a b i
    let bin := driftBin d
    let bey := match d with | none => true | some k => decide (tol < k)
    let sat := match d with | none => 0 | some k => min k 0xFFFFFFFF
    let t := { t with n := t.n + 1, scaleNan := t.scaleNan || a.scaleNan i || b.scaleNan i,
                      hist := smSet 0 t.hist bin (smGet 0 t.hist bin + 1) }
    let t := if bey then
        { t with beyond := t.beyond + 1, first := if t.beyond = 0 then i else t.first,
                 aRaw := if t.beyond = 0 then a.raw i else t.aRaw, bRaw := if t.beyond = 0 then b.raw i else t.bRaw }
      else t
    if t.maxD < sat then { t with maxD := sat, maxIdx := i } else t

/-- Two regions of `len` elements compared. -/
def driftOf (a b : Region) (tol len : Nat) : Drift :=
  let t := (List.range len).foldl (Drift.step a b tol) Drift.init
  let at0 := (List.range len).find? fun i => a.out i == 0 && b.out i == 0 && (distance a b i).isSome
  if t.maxD = 0 then { t with maxIdx := at0.getD Config.noDistIdx.toNat } else t

/-- The 128-byte drift record (R305); `extra` holds the RELAXED and EQUAL_DIGEST flags. -/
def Drift.record (t : Drift) (fmt tol extra : Nat) (hide : Bool) : List Byte :=
  let flags := extra + (if t.uc then 1 else 0) + (if t.red || hide then 2 else 0) + (if t.scaleNan then 8 else 0)
  leBytes 1 fmt ++ leBytes 1 flags ++ leBytes 2 0 ++ leBytes 4 t.n ++ leBytes 4 tol ++ leBytes 4 t.beyond ++ leBytes 4 t.first
  ++ leBytes 4 t.maxD ++ leBytes 4 t.maxIdx ++ leBytes 4 0 ++ leBytes 8 (if hide then 0 else t.aRaw)
  ++ leBytes 8 (if hide then 0 else t.bRaw) ++ leBytes 16 0 ++ (List.range 16).flatMap fun k => leBytes 4 (smGet 0 t.hist k)

end Sys2Proof.Machine
end

