-- ==== Sys2Proof/Machine/Regs.lean ====
section
/-! DEFINITION. Machine/Regs.lean: the register map of the hub pages and of the Cairn page, as the chapters' register tables give
it: addresses (namespace R for the hub, C for offsets of the Cairn page), bit fields (F, CF) and one row per register with its
access code, the bits a write changes, its reset value and whether it is banked per master (02 R41, R50, R63; 17 R511). -/

namespace Sys2Proof.Machine

/-- A bit field: the register's address (or Cairn-page offset), lowest bit and width. -/
structure Fld where
  addr : Nat
  lo : Nat
  width : Nat
  deriving DecidableEq, Repr

/-- Access codes of 02 R50. -/
inductive Acc
  | ro | rw | w1c | w1s | wo | rc | rwl
  deriving DecidableEq, Repr

/-- One row of a register table: `count` words from `addr`, `stride` bytes apart. -/
structure RegRow where
  addr : Nat
  count : Nat
  stride : Nat
  acc : Acc
  mask : Nat
  reset : Nat
  banked : Bool
  deriving DecidableEq, Repr

/-! ### SUM -/

def R.SUM_DEV_ID : Nat := 0x40
def F.SUM_DEV_ID_DEV_ID : Fld := ⟨R.SUM_DEV_ID, 0, 12⟩
def F.SUM_DEV_ID_VALID : Fld := ⟨R.SUM_DEV_ID, 31, 1⟩
def R.SUM_SEQ_NEXT : Nat := 0x44
def R.SUM_SEQ_EPOCH : Nat := 0x48
def R.SUM_TOPO_STAT : Nat := 0x4C
def F.SUM_TOPO_STAT_SPUR0_ST : Fld := ⟨R.SUM_TOPO_STAT, 0, 2⟩
def F.SUM_TOPO_STAT_SPUR1_ST : Fld := ⟨R.SUM_TOPO_STAT, 2, 2⟩
def F.SUM_TOPO_STAT_COL_GRP_OK : Fld := ⟨R.SUM_TOPO_STAT, 4, 3⟩
def R.SUM_TOPO_CTRL : Nat := 0x50
def F.SUM_TOPO_CTRL_FORCE_SPUR0_LOSS : Fld := ⟨R.SUM_TOPO_CTRL, 0, 1⟩
def F.SUM_TOPO_CTRL_FORCE_SPUR1_LOSS : Fld := ⟨R.SUM_TOPO_CTRL, 1, 1⟩
def R.SUM_TAKEOVER_T_LO : Nat := 0x54
def R.SUM_TAKEOVER_T_HI : Nat := 0x58
def R.SUM_ENUM : Nat := 0x5C
def F.SUM_ENUM_HALF0_CNT : Fld := ⟨R.SUM_ENUM, 0, 12⟩
def F.SUM_ENUM_HALF1_CNT : Fld := ⟨R.SUM_ENUM, 16, 12⟩
def R.SUM_ARB_CTRL : Nat := 0x80
def F.SUM_ARB_CTRL_PASS_WT : Fld := ⟨R.SUM_ARB_CTRL, 0, 4⟩
def F.SUM_ARB_CTRL_HOST_WT : Fld := ⟨R.SUM_ARB_CTRL, 4, 4⟩
def R.SUM_EXCL : Nat := 0x84
def F.SUM_EXCL_EXCL : Fld := ⟨R.SUM_EXCL, 0, 1⟩
def F.SUM_EXCL_ACQUIRE : Fld := ⟨R.SUM_EXCL, 1, 1⟩
def F.SUM_EXCL_RELEASE : Fld := ⟨R.SUM_EXCL, 2, 1⟩
def F.SUM_EXCL_HOST_REQ : Fld := ⟨R.SUM_EXCL, 3, 1⟩
def F.SUM_EXCL_LEASE_MS : Fld := ⟨R.SUM_EXCL, 16, 16⟩
def R.SUM_CWIN_TMO : Nat := 0x88
def F.SUM_CWIN_TMO_TMO : Fld := ⟨R.SUM_CWIN_TMO, 0, 24⟩
def R.SUM_ERR : Nat := 0x8C
def F.SUM_ERR_CODE : Fld := ⟨R.SUM_ERR, 0, 4⟩
def F.SUM_ERR_COUNT : Fld := ⟨R.SUM_ERR, 8, 8⟩
def F.SUM_ERR_VALID : Fld := ⟨R.SUM_ERR, 31, 1⟩
def R.SUM_ERR_ADDR : Nat := 0x90
def F.SUM_ERR_ADDR_ADDR : Fld := ⟨R.SUM_ERR_ADDR, 0, 20⟩
def F.SUM_ERR_ADDR_CAIRN : Fld := ⟨R.SUM_ERR_ADDR, 20, 12⟩
def R.SUM_ARB_STAT : Nat := 0x94
def F.SUM_ARB_STAT_PASS_UP : Fld := ⟨R.SUM_ARB_STAT, 0, 1⟩
def F.SUM_ARB_STAT_EXCL : Fld := ⟨R.SUM_ARB_STAT, 1, 1⟩
def F.SUM_ARB_STAT_PASS_OUT : Fld := ⟨R.SUM_ARB_STAT, 4, 4⟩
def F.SUM_ARB_STAT_HOST_OUT : Fld := ⟨R.SUM_ARB_STAT, 8, 4⟩
def R.SUM_CUT_CTRL : Nat := 0xC0
def F.SUM_CUT_CTRL_PORT_KIND : Fld := ⟨R.SUM_CUT_CTRL, 0, 1⟩
def F.SUM_CUT_CTRL_FULL_POLICY : Fld := ⟨R.SUM_CUT_CTRL, 1, 2⟩
def R.SUM_CUT_LEAD : Nat := 0xC4
def F.SUM_CUT_LEAD_LEAD : Fld := ⟨R.SUM_CUT_LEAD, 0, 24⟩
def R.SUM_XCUT_LEAD : Nat := 0xC8
def F.SUM_XCUT_LEAD_LEAD : Fld := ⟨R.SUM_XCUT_LEAD, 0, 24⟩
def R.SUM_CUT_CMD : Nat := 0xCC
def F.SUM_CUT_CMD_KIND : Fld := ⟨R.SUM_CUT_CMD, 0, 2⟩
def F.SUM_CUT_CMD_ABS : Fld := ⟨R.SUM_CUT_CMD, 2, 1⟩
def F.SUM_CUT_CMD_XDEV : Fld := ⟨R.SUM_CUT_CMD, 3, 1⟩
def R.SUM_CUT_REQ_T_LO : Nat := 0xD0
def R.SUM_CUT_REQ_T_HI : Nat := 0xD4
def R.SUM_CUT_STAT : Nat := 0xD8
def F.SUM_CUT_STAT_STATE : Fld := ⟨R.SUM_CUT_STAT, 0, 3⟩
def F.SUM_CUT_STAT_KIND : Fld := ⟨R.SUM_CUT_STAT, 3, 1⟩
def F.SUM_CUT_STAT_PARTIAL : Fld := ⟨R.SUM_CUT_STAT, 4, 1⟩
def F.SUM_CUT_STAT_XDEV : Fld := ⟨R.SUM_CUT_STAT, 5, 1⟩
def F.SUM_CUT_STAT_CLAMPED : Fld := ⟨R.SUM_CUT_STAT, 6, 1⟩
def F.SUM_CUT_STAT_LAST_REFUSAL : Fld := ⟨R.SUM_CUT_STAT, 8, 4⟩
def F.SUM_CUT_STAT_CUT_ID : Fld := ⟨R.SUM_CUT_STAT, 16, 16⟩
def R.SUM_CUT_T_LO : Nat := 0xDC
def R.SUM_CUT_T_HI : Nat := 0xE0
def R.SUM_CUT_SEQ : Nat := 0xE4
def R.SUM_CUT_SRC : Nat := 0xE8
def F.SUM_CUT_SRC_MERGED : Fld := ⟨R.SUM_CUT_SRC, 16, 16⟩
def F.SUM_CUT_SRC_SRC : Fld := ⟨R.SUM_CUT_SRC, 0, 13⟩
def R.SUM_CUT_ACKS : Nat := 0xEC
def F.SUM_CUT_ACKS_REPORTED : Fld := ⟨R.SUM_CUT_ACKS, 0, 12⟩
def F.SUM_CUT_ACKS_DORMANT : Fld := ⟨R.SUM_CUT_ACKS, 16, 12⟩
def R.SUM_CUT_UNCAPT : Nat := 0xF0
def R.SUM_DIVERT_CNT : Nat := 0xF4
def R.SUM_DIVERT_HELD : Nat := 0xF8
def F.SUM_DIVERT_HELD_HELD : Fld := ⟨R.SUM_DIVERT_HELD, 0, 16⟩
def R.SUM_XCUT_STAT : Nat := 0xFC
def F.SUM_XCUT_STAT_ACCEPTED : Fld := ⟨R.SUM_XCUT_STAT, 0, 12⟩
def F.SUM_XCUT_STAT_REFUSED : Fld := ⟨R.SUM_XCUT_STAT, 16, 12⟩
def R.SUM_STEP_CMD : Nat := 0x100
def F.SUM_STEP_CMD_GO : Fld := ⟨R.SUM_STEP_CMD, 0, 1⟩
def F.SUM_STEP_CMD_ABS : Fld := ⟨R.SUM_STEP_CMD, 1, 1⟩
def F.SUM_STEP_CMD_TRIG_CLOSE : Fld := ⟨R.SUM_STEP_CMD, 2, 1⟩
def R.SUM_STEP_TMO : Nat := 0x104
def F.SUM_STEP_TMO_TMO : Fld := ⟨R.SUM_STEP_TMO, 0, 24⟩
def R.SUM_STEP_STAT : Nat := 0x108
def F.SUM_STEP_STAT_STATE : Fld := ⟨R.SUM_STEP_STAT, 0, 2⟩
def F.SUM_STEP_STAT_CLAMPED : Fld := ⟨R.SUM_STEP_STAT, 2, 1⟩
def F.SUM_STEP_STAT_CAUSE : Fld := ⟨R.SUM_STEP_STAT, 3, 3⟩
def F.SUM_STEP_STAT_LAST_REFUSAL : Fld := ⟨R.SUM_STEP_STAT, 8, 4⟩
def F.SUM_STEP_STAT_STEP_NO : Fld := ⟨R.SUM_STEP_STAT, 16, 16⟩
def R.SUM_STEP_UNITS : Nat := 0x10C
def F.SUM_STEP_UNITS_STEPPING : Fld := ⟨R.SUM_STEP_UNITS, 0, 12⟩
def F.SUM_STEP_UNITS_INCOMPLETE : Fld := ⟨R.SUM_STEP_UNITS, 16, 12⟩
def R.SUM_STEP_FOLLOW : Nat := 0x110
def F.SUM_STEP_FOLLOW_FOLLOWING : Fld := ⟨R.SUM_STEP_FOLLOW, 0, 12⟩
def F.SUM_STEP_FOLLOW_DORMANT : Fld := ⟨R.SUM_STEP_FOLLOW, 12, 12⟩
def F.SUM_STEP_FOLLOW_MISSING : Fld := ⟨R.SUM_STEP_FOLLOW, 24, 8⟩
def R.SUM_STEP_T_LO : Nat := 0x114
def R.SUM_STEP_T_HI : Nat := 0x118
def R.SUM_STEP_END_T_LO : Nat := 0x11C
def R.SUM_STEP_END_T_HI : Nat := 0x120
def R.SUM_STEP_DFLT : Nat := 0x124
def R.SUM_STEP_ENG : Nat := 0x128
def F.SUM_STEP_ENG_ENG_SEL : Fld := ⟨R.SUM_STEP_ENG, 0, 8⟩
def F.SUM_STEP_ENG_ENG_COUNT : Fld := ⟨R.SUM_STEP_ENG, 16, 8⟩
def R.SUM_STEP_ENGST : Nat := 0x12C
def F.SUM_STEP_ENGST_REACHED : Fld := ⟨R.SUM_STEP_ENGST, 0, 8⟩
def F.SUM_STEP_ENGST_INCOMPLETE : Fld := ⟨R.SUM_STEP_ENGST, 8, 8⟩
def F.SUM_STEP_ENGST_REFUSED : Fld := ⟨R.SUM_STEP_ENGST, 16, 8⟩
def R.SUM_RST_CMD : Nat := 0x140
def F.SUM_RST_CMD_SOFT : Fld := ⟨R.SUM_RST_CMD, 0, 1⟩
def F.SUM_RST_CMD_KEY : Fld := ⟨R.SUM_RST_CMD, 16, 16⟩
def R.SUM_RST_STAT : Nat := 0x144
def F.SUM_RST_STAT_LAST : Fld := ⟨R.SUM_RST_STAT, 0, 2⟩
def F.SUM_RST_STAT_WARM_ACTIVE : Fld := ⟨R.SUM_RST_STAT, 2, 1⟩
def F.SUM_RST_STAT_SOFT_PENDING : Fld := ⟨R.SUM_RST_STAT, 3, 1⟩
def F.SUM_RST_STAT_BOTH : Fld := ⟨R.SUM_RST_STAT, 4, 1⟩
def F.SUM_RST_STAT_SOFT_MASTER : Fld := ⟨R.SUM_RST_STAT, 8, 1⟩
def R.SUM_START_STAT : Nat := 0x148
def F.SUM_START_STAT_PHASE : Fld := ⟨R.SUM_START_STAT, 0, 3⟩
def F.SUM_START_STAT_LEDGER_LOST : Fld := ⟨R.SUM_START_STAT, 3, 1⟩
def F.SUM_START_STAT_EPOCH_BURNED : Fld := ⟨R.SUM_START_STAT, 4, 1⟩
def F.SUM_START_STAT_LCY_RESUMED : Fld := ⟨R.SUM_START_STAT, 5, 1⟩
def F.SUM_START_STAT_LCY_INVALID : Fld := ⟨R.SUM_START_STAT, 6, 1⟩
def F.SUM_START_STAT_SPUR0_FAIL : Fld := ⟨R.SUM_START_STAT, 7, 1⟩
def F.SUM_START_STAT_SPUR1_FAIL : Fld := ⟨R.SUM_START_STAT, 8, 1⟩
def F.SUM_START_STAT_EPOCH_SPENT : Fld := ⟨R.SUM_START_STAT, 9, 1⟩
def R.SUM_START_T : Nat := 0x14C
def R.SUM_WARM_T_LO : Nat := 0x150
def R.SUM_WARM_T_HI : Nat := 0x154
def R.SUM_PSTATE : Nat := 0x158
def F.SUM_PSTATE_STATE : Fld := ⟨R.SUM_PSTATE, 0, 2⟩
def R.SUM_SOFT_WAIT : Nat := 0x15C
def F.SUM_SOFT_WAIT_W : Fld := ⟨R.SUM_SOFT_WAIT, 0, 24⟩

/-! ### RDG -/

def R.RDG_NOW_LO : Nat := 0x1040
def R.RDG_NOW_HI : Nat := 0x1044
def R.RDG_STAT : Nat := 0x1048
def F.RDG_STAT_LOCKED : Fld := ⟨R.RDG_STAT, 0, 1⟩
def F.RDG_STAT_HOLDOVER : Fld := ⟨R.RDG_STAT, 1, 1⟩
def F.RDG_STAT_LOADED : Fld := ⟨R.RDG_STAT, 2, 1⟩
def F.RDG_STAT_ALIGNED : Fld := ⟨R.RDG_STAT, 3, 1⟩
def F.RDG_STAT_SLEWING : Fld := ⟨R.RDG_STAT, 4, 1⟩
def F.RDG_STAT_TSYNC_OK : Fld := ⟨R.RDG_STAT, 5, 1⟩
def F.RDG_STAT_CAL_DONE : Fld := ⟨R.RDG_STAT, 6, 1⟩
def F.RDG_STAT_SWEEP_BUSY : Fld := ⟨R.RDG_STAT, 7, 1⟩
def F.RDG_STAT_RELOAD_ARMED : Fld := ⟨R.RDG_STAT, 8, 1⟩
def R.RDG_CTRL : Nat := 0x104C
def F.RDG_CTRL_TRACK_EN : Fld := ⟨R.RDG_CTRL, 0, 1⟩
def F.RDG_CTRL_BG_CAL_EN : Fld := ⟨R.RDG_CTRL, 1, 1⟩
def F.RDG_CTRL_CAL_SWEEP : Fld := ⟨R.RDG_CTRL, 2, 1⟩
def F.RDG_CTRL_RELOAD : Fld := ⟨R.RDG_CTRL, 3, 1⟩
def R.RDG_EPOCH_INT : Nat := 0x1050
def F.RDG_EPOCH_INT_N : Fld := ⟨R.RDG_EPOCH_INT, 0, 24⟩
def R.RDG_EPOCH_TK_LO : Nat := 0x1054
def R.RDG_EPOCH_TK_HI : Nat := 0x1058
def R.RDG_OFFSET : Nat := 0x105C
def R.RDG_SLEW_REM : Nat := 0x1060
def R.RDG_REF_GLITCH : Nat := 0x1064
def F.RDG_REF_GLITCH_CNT : Fld := ⟨R.RDG_REF_GLITCH, 0, 16⟩
def R.RDG_TSYNC_BAD : Nat := 0x1068
def F.RDG_TSYNC_BAD_CNT : Fld := ⟨R.RDG_TSYNC_BAD, 0, 16⟩
def R.RDG_CAL_STAT : Nat := 0x106C
def F.RDG_CAL_STAT_NEXT_LEAF : Fld := ⟨R.RDG_CAL_STAT, 0, 12⟩
def F.RDG_CAL_STAT_FAIL_CNT : Fld := ⟨R.RDG_CAL_STAT, 16, 12⟩
def R.RDG_SWEEP_CNT : Nat := 0x1070
def R.RDG_LEAF_VALID : Nat := 0x1074
def F.RDG_LEAF_VALID_HALF0 : Fld := ⟨R.RDG_LEAF_VALID, 0, 12⟩
def F.RDG_LEAF_VALID_HALF1 : Fld := ⟨R.RDG_LEAF_VALID, 16, 12⟩
def R.RDG_FRAME_FLAGS : Nat := 0x1078
def F.RDG_FRAME_FLAGS_FLAGS : Fld := ⟨R.RDG_FRAME_FLAGS, 0, 8⟩
def R.RDG_CAL_NEXT1 : Nat := 0x107C
def F.RDG_CAL_NEXT1_NEXT_LEAF : Fld := ⟨R.RDG_CAL_NEXT1, 0, 12⟩

/-! ### CRS -/

def R.CRS_CTRL : Nat := 0x2040
def F.CRS_CTRL_RUN : Fld := ⟨R.CRS_CTRL, 0, 1⟩
def F.CRS_CTRL_START_STATE : Fld := ⟨R.CRS_CTRL, 1, 4⟩
def F.CRS_CTRL_SA_CANCEL : Fld := ⟨R.CRS_CTRL, 5, 1⟩
def R.CRS_STAT : Nat := 0x2044
def F.CRS_STAT_STATE : Fld := ⟨R.CRS_STAT, 0, 4⟩
def F.CRS_STAT_RUNNING : Fld := ⟨R.CRS_STAT, 4, 1⟩
def F.CRS_STAT_WR_IGN : Fld := ⟨R.CRS_STAT, 5, 1⟩
def F.CRS_STAT_SA_PENDING : Fld := ⟨R.CRS_STAT, 6, 1⟩
def F.CRS_STAT_STALLED : Fld := ⟨R.CRS_STAT, 7, 1⟩
def F.CRS_STAT_CFG_ERR : Fld := ⟨R.CRS_STAT, 8, 4⟩
def F.CRS_STAT_ERR_TR : Fld := ⟨R.CRS_STAT, 12, 2⟩
def F.CRS_STAT_ERR_ST : Fld := ⟨R.CRS_STAT, 14, 4⟩
def R.CRS_CH_STICKY_LO : Nat := 0x2048
def R.CRS_CH_STICKY_HI : Nat := 0x204C
def R.CRS_CH_PEND_LO : Nat := 0x2050
def R.CRS_CH_PEND_HI : Nat := 0x2054
def R.CRS_CH_SEEN_LO : Nat := 0x2058
def R.CRS_CH_SEEN_HI : Nat := 0x205C
def R.CRS_ALARM_T_LO : Nat := 0x2060
def R.CRS_ALARM_T_HI : Nat := 0x2064
def R.CRS_XTRIG : Nat := 0x2068
def R.CRS_RAISE_CNT : Nat := 0x206C
def R.CRS_LAST_TRANS : Nat := 0x2070
def F.CRS_LAST_TRANS_FROM : Fld := ⟨R.CRS_LAST_TRANS, 0, 4⟩
def F.CRS_LAST_TRANS_TO : Fld := ⟨R.CRS_LAST_TRANS, 4, 4⟩
def F.CRS_LAST_TRANS_COND : Fld := ⟨R.CRS_LAST_TRANS, 10, 7⟩
def F.CRS_LAST_TRANS_INDEX : Fld := ⟨R.CRS_LAST_TRANS, 8, 2⟩
def R.CRS_LAST_SEQ : Nat := 0x2074
def R.CRS_RUN_RIGHTS : Nat := 0x2078
def R.CRS_SA_T_LO : Nat := 0x2080
def R.CRS_SA_T_HI : Nat := 0x2084
def R.CRS_CNT_CFG (k : Nat) : Nat := 0x20A0 + 4 * k
def F.CRS_CNT_CFG_EN (k : Nat) : Fld := ⟨(R.CRS_CNT_CFG k), 0, 1⟩
def F.CRS_CNT_CFG_MODE (k : Nat) : Fld := ⟨(R.CRS_CNT_CFG k), 1, 2⟩
def F.CRS_CNT_CFG_CH (k : Nat) : Fld := ⟨(R.CRS_CNT_CFG k), 3, 6⟩
def F.CRS_CNT_CFG_PRESCALE (k : Nat) : Fld := ⟨(R.CRS_CNT_CFG k), 9, 4⟩
def F.CRS_CNT_CFG_AUTO_RESET (k : Nat) : Fld := ⟨(R.CRS_CNT_CFG k), 13, 1⟩
def F.CRS_CNT_CFG_STATES (k : Nat) : Fld := ⟨(R.CRS_CNT_CFG k), 16, 16⟩
def R.CRS_CNT_LIM (k : Nat) : Nat := 0x20C0 + 4 * k
def R.CRS_CNT_VAL (k : Nat) : Nat := 0x20E0 + 4 * k
def R.CRS_ST_ENTRY (k : Nat) : Nat := 0x2100 + 4 * k
def F.CRS_ST_ENTRY_RST (k : Nat) : Fld := ⟨(R.CRS_ST_ENTRY k), 0, 8⟩
def F.CRS_ST_ENTRY_CLR_PEND (k : Nat) : Fld := ⟨(R.CRS_ST_ENTRY k), 8, 1⟩
def R.CRS_TR (k : Nat) : Nat := 0x2140 + 4 * k
def F.CRS_TR_COND (k : Nat) : Fld := ⟨(R.CRS_TR k), 0, 7⟩
def F.CRS_TR_EN (k : Nat) : Fld := ⟨(R.CRS_TR k), 7, 1⟩
def F.CRS_TR_NEXT (k : Nat) : Fld := ⟨(R.CRS_TR k), 8, 4⟩
def F.CRS_TR_ACT_A (k : Nat) : Fld := ⟨(R.CRS_TR k), 12, 4⟩
def F.CRS_TR_PARAM_A (k : Nat) : Fld := ⟨(R.CRS_TR k), 16, 4⟩
def F.CRS_TR_ACT_B (k : Nat) : Fld := ⟨(R.CRS_TR k), 20, 4⟩
def F.CRS_TR_PARAM_B (k : Nat) : Fld := ⟨(R.CRS_TR k), 24, 4⟩
def R.CRS_PARAM (k : Nat) : Nat := 0x2240 + 4 * k

/-! ### PRB -/

def R.PRB_CTRL (e : Nat) : Nat := 0x3040 + 0x1000 * e
def F.PRB_CTRL_START (e : Nat) : Fld := ⟨(R.PRB_CTRL e), 0, 1⟩
def F.PRB_CTRL_STOP (e : Nat) : Fld := ⟨(R.PRB_CTRL e), 1, 1⟩
def F.PRB_CTRL_WRST (e : Nat) : Fld := ⟨(R.PRB_CTRL e), 2, 1⟩
def R.PRB_STAT (e : Nat) : Nat := 0x3044 + 0x1000 * e
def F.PRB_STAT_STATE (e : Nat) : Fld := ⟨(R.PRB_STAT e), 0, 2⟩
def F.PRB_STAT_STOP_CODE (e : Nat) : Fld := ⟨(R.PRB_STAT e), 4, 4⟩
def F.PRB_STAT_OUT_WIN (e : Nat) : Fld := ⟨(R.PRB_STAT e), 8, 4⟩
def F.PRB_STAT_OUT_JOB (e : Nat) : Fld := ⟨(R.PRB_STAT e), 12, 3⟩
def F.PRB_STAT_HALT_ARG (e : Nat) : Fld := ⟨(R.PRB_STAT e), 16, 16⟩
def R.PRB_ENTRY (e : Nat) : Nat := 0x3048 + 0x1000 * e
def F.PRB_ENTRY_ENTRY (e : Nat) : Fld := ⟨(R.PRB_ENTRY e), 0, 16⟩
def R.PRB_PC (e : Nat) : Nat := 0x304C + 0x1000 * e
def F.PRB_PC_PC (e : Nat) : Fld := ⟨(R.PRB_PC e), 0, 16⟩
def R.PRB_CODE_WIN (e : Nat) : Nat := 0x3050 + 0x1000 * e
def F.PRB_CODE_WIN_BASE (e : Nat) : Fld := ⟨(R.PRB_CODE_WIN e), 0, 16⟩
def F.PRB_CODE_WIN_LIM (e : Nat) : Fld := ⟨(R.PRB_CODE_WIN e), 16, 16⟩
def R.PRB_DATA_WIN (e : Nat) : Nat := 0x3054 + 0x1000 * e
def F.PRB_DATA_WIN_BASE (e : Nat) : Fld := ⟨(R.PRB_DATA_WIN e), 0, 16⟩
def F.PRB_DATA_WIN_LIM (e : Nat) : Fld := ⟨(R.PRB_DATA_WIN e), 16, 16⟩
def R.PRB_WDOG (e : Nat) : Nat := 0x3058 + 0x1000 * e
def F.PRB_WDOG_LIM (e : Nat) : Fld := ⟨(R.PRB_WDOG e), 0, 24⟩
def R.PRB_RIGHTS_REC (e : Nat) : Nat := 0x305C + 0x1000 * e
def R.PRB_START_SRC (e : Nat) : Nat := 0x3060 + 0x1000 * e
def F.PRB_START_SRC_SRC (e : Nat) : Fld := ⟨(R.PRB_START_SRC e), 0, 13⟩
def F.PRB_START_SRC_CREST (e : Nat) : Fld := ⟨(R.PRB_START_SRC e), 13, 1⟩
def R.PRB_ACC_ERR (e : Nat) : Nat := 0x3064 + 0x1000 * e
def F.PRB_ACC_ERR_CODE (e : Nat) : Fld := ⟨(R.PRB_ACC_ERR e), 0, 4⟩
def F.PRB_ACC_ERR_RESULT (e : Nat) : Fld := ⟨(R.PRB_ACC_ERR e), 4, 4⟩
def F.PRB_ACC_ERR_CAIRN (e : Nat) : Fld := ⟨(R.PRB_ACC_ERR e), 8, 12⟩
def F.PRB_ACC_ERR_COUNT (e : Nat) : Fld := ⟨(R.PRB_ACC_ERR e), 20, 8⟩
def F.PRB_ACC_ERR_VALID (e : Nat) : Fld := ⟨(R.PRB_ACC_ERR e), 31, 1⟩
def R.PRB_RETIRED (e : Nat) : Nat := 0x3068 + 0x1000 * e
def R.PRB_STALL (e : Nat) : Nat := 0x306C + 0x1000 * e
def R.PRB_STOP_T_LO (e : Nat) : Nat := 0x3070 + 0x1000 * e
def R.PRB_STOP_T_HI (e : Nat) : Nat := 0x3074 + 0x1000 * e
def R.PRB_P (e k : Nat) : Nat := 0x3080 + 0x1000 * e + 4 * k
def R.PRB_PM_ADDR (e : Nat) : Nat := 0x3100 + 0x1000 * e
def F.PRB_PM_ADDR_ADDR (e : Nat) : Fld := ⟨(R.PRB_PM_ADDR e), 0, 16⟩
def F.PRB_PM_ADDR_AUTOINC (e : Nat) : Fld := ⟨(R.PRB_PM_ADDR e), 16, 1⟩
def R.PRB_PM_DATA (e : Nat) : Nat := 0x3104 + 0x1000 * e
def R.PRB_PM_STAT (e : Nat) : Nat := 0x3108 + 0x1000 * e
def F.PRB_PM_STAT_WR_IGN (e : Nat) : Fld := ⟨(R.PRB_PM_STAT e), 0, 1⟩
def F.PRB_PM_STAT_UC_READ (e : Nat) : Fld := ⟨(R.PRB_PM_STAT e), 1, 1⟩
def F.PRB_PM_STAT_CE_CNT (e : Nat) : Fld := ⟨(R.PRB_PM_STAT e), 8, 8⟩

/-! ### COU -/

def R.COU_CTRL : Nat := 0x8040
def F.COU_CTRL_ENABLE : Fld := ⟨R.COU_CTRL, 0, 1⟩
def F.COU_CTRL_GLANCE_PROF : Fld := ⟨R.COU_CTRL, 1, 4⟩
def F.COU_CTRL_AUTO_PROF : Fld := ⟨R.COU_CTRL, 5, 4⟩
def F.COU_CTRL_AUTO_ARM : Fld := ⟨R.COU_CTRL, 9, 1⟩
def F.COU_CTRL_DRAIN_FREE : Fld := ⟨R.COU_CTRL, 10, 1⟩
def F.COU_CTRL_ABORT : Fld := ⟨R.COU_CTRL, 11, 1⟩
def R.COU_STAT : Nat := 0x8044
def F.COU_STAT_INIT_BUSY : Fld := ⟨R.COU_STAT, 0, 1⟩
def F.COU_STAT_CAP_STATE : Fld := ⟨R.COU_STAT, 1, 3⟩
def F.COU_STAT_CAP_SLOT : Fld := ⟨R.COU_STAT, 4, 2⟩
def F.COU_STAT_OLDEST : Fld := ⟨R.COU_STAT, 6, 2⟩
def F.COU_STAT_USED : Fld := ⟨R.COU_STAT, 8, 4⟩
def F.COU_STAT_DRAINING : Fld := ⟨R.COU_STAT, 12, 1⟩
def R.COU_CC_BASE : Nat := 0x8048
def F.COU_CC_BASE_BASE : Fld := ⟨R.COU_CC_BASE, 0, 24⟩
def R.COU_CC_SIZE : Nat := 0x804C
def F.COU_CC_SIZE_SIZE : Fld := ⟨R.COU_CC_SIZE, 0, 5⟩
def R.COU_SHADOW_TOTAL : Nat := 0x8050
def R.COU_FREE : Nat := 0x8054
def R.COU_RESERVED : Nat := 0x8058
def R.COU_LAST_REFUSAL : Nat := 0x805C
def F.COU_LAST_REFUSAL_CODE : Fld := ⟨R.COU_LAST_REFUSAL, 0, 4⟩
def F.COU_LAST_REFUSAL_CUT_CODE : Fld := ⟨R.COU_LAST_REFUSAL, 8, 4⟩
def F.COU_LAST_REFUSAL_SRC : Fld := ⟨R.COU_LAST_REFUSAL, 16, 13⟩
def R.COU_CMD : Nat := 0x8060
def F.COU_CMD_PROFILE : Fld := ⟨R.COU_CMD, 0, 4⟩
def F.COU_CMD_GO : Fld := ⟨R.COU_CMD, 4, 1⟩
def R.COU_RELEASE : Nat := 0x8064
def F.COU_RELEASE_SLOT : Fld := ⟨R.COU_RELEASE, 0, 2⟩
def F.COU_RELEASE_CHUNK : Fld := ⟨R.COU_RELEASE, 8, 19⟩
def F.COU_RELEASE_ALL : Fld := ⟨R.COU_RELEASE, 31, 1⟩
def R.COU_DRAIN_CTRL : Nat := 0x8068
def F.COU_DRAIN_CTRL_START : Fld := ⟨R.COU_DRAIN_CTRL, 0, 1⟩
def F.COU_DRAIN_CTRL_STOP : Fld := ⟨R.COU_DRAIN_CTRL, 1, 1⟩
def F.COU_DRAIN_CTRL_SLOT : Fld := ⟨R.COU_DRAIN_CTRL, 2, 2⟩
def F.COU_DRAIN_CTRL_WINDOW : Fld := ⟨R.COU_DRAIN_CTRL, 4, 4⟩
def R.COU_DRAIN_ACK : Nat := 0x806C
def R.COU_DRAIN_STAT : Nat := 0x8070
def F.COU_DRAIN_STAT_SENT : Fld := ⟨R.COU_DRAIN_STAT, 0, 19⟩
def F.COU_DRAIN_STAT_ACTIVE : Fld := ⟨R.COU_DRAIN_STAT, 19, 1⟩
def F.COU_DRAIN_STAT_END : Fld := ⟨R.COU_DRAIN_STAT, 20, 3⟩
def R.COU_AUTO_RIGHTS : Nat := 0x8074
def R.COU_LINK_TMO : Nat := 0x8078
def F.COU_LINK_TMO_TMO : Fld := ⟨R.COU_LINK_TMO, 0, 24⟩
def R.COU_CAP_PAGES : Nat := 0x807C
def R.COU_PROF (k : Nat) : Nat := 0x8080 + 4 * k
def F.COU_PROF_KINDS (k : Nat) : Fld := ⟨(R.COU_PROF k), 0, 7⟩
def F.COU_PROF_SRAM (k : Nat) : Fld := ⟨(R.COU_PROF k), 7, 1⟩
def F.COU_PROF_LIST (k : Nat) : Fld := ⟨(R.COU_PROF k), 8, 3⟩
def F.COU_PROF_CUT (k : Nat) : Fld := ⟨(R.COU_PROF k), 11, 2⟩
def F.COU_PROF_RESUME (k : Nat) : Fld := ⟨(R.COU_PROF k), 13, 1⟩
def F.COU_PROF_LZ4 (k : Nat) : Fld := ⟨(R.COU_PROF k), 14, 1⟩
def F.COU_PROF_DEDUP (k : Nat) : Fld := ⟨(R.COU_PROF k), 15, 1⟩
def F.COU_PROF_SET_REF (k : Nat) : Fld := ⟨(R.COU_PROF k), 16, 1⟩
def F.COU_PROF_CENSUS (k : Nat) : Fld := ⟨(R.COU_PROF k), 17, 1⟩
def F.COU_PROF_AUTO_DRAIN (k : Nat) : Fld := ⟨(R.COU_PROF k), 18, 1⟩
def R.COU_PLIST_LO (k : Nat) : Nat := 0x80C0 + 8 * k
def R.COU_PLIST_HI (k : Nat) : Nat := 0x80C4 + 8 * k
def F.COU_PLIST_HI_ENTRIES (k : Nat) : Fld := ⟨(R.COU_PLIST_HI k), 16, 16⟩
def F.COU_PLIST_HI_ADDR_HI (k : Nat) : Fld := ⟨(R.COU_PLIST_HI k), 0, 16⟩
def R.COU_SLOT (k : Nat) : Nat := 0x80E0 + 4 * k
def F.COU_SLOT_STATE (k : Nat) : Fld := ⟨(R.COU_SLOT k), 0, 2⟩
def F.COU_SLOT_TRUNCATED (k : Nat) : Fld := ⟨(R.COU_SLOT k), 2, 1⟩
def F.COU_SLOT_PARTIAL (k : Nat) : Fld := ⟨(R.COU_SLOT k), 3, 1⟩
def F.COU_SLOT_DRAIN_DONE (k : Nat) : Fld := ⟨(R.COU_SLOT k), 4, 1⟩
def F.COU_SLOT_COMMITTED (k : Nat) : Fld := ⟨(R.COU_SLOT k), 8, 19⟩
def R.COU_RAW_GR : Nat := 0x80F0
def R.COU_STORED_GR : Nat := 0x80F4
def R.COU_DIVERT_Q : Nat := 0x80F8
def F.COU_DIVERT_Q_Q0 : Fld := ⟨R.COU_DIVERT_Q, 0, 7⟩
def F.COU_DIVERT_Q_Q1 : Fld := ⟨R.COU_DIVERT_Q, 16, 7⟩
def R.COU_REF : Nat := 0x80FC
def F.COU_REF_VALID : Fld := ⟨R.COU_REF, 0, 1⟩
def F.COU_REF_BANK : Fld := ⟨R.COU_REF, 1, 1⟩
def R.COU_REF_T_LO : Nat := 0x8100
def R.COU_REF_T_HI : Nat := 0x8104

/-! ### CEN -/

def R.CEN_CTRL : Nat := 0x9040
def F.CEN_CTRL_BW_LIMIT : Fld := ⟨R.CEN_CTRL, 0, 8⟩
def R.CEN_STAT : Nat := 0x9044
def F.CEN_STAT_CENSUS : Fld := ⟨R.CEN_STAT, 0, 6⟩
def F.CEN_STAT_ECHO : Fld := ⟨R.CEN_STAT, 8, 4⟩
def F.CEN_STAT_SLOTS : Fld := ⟨R.CEN_STAT, 16, 4⟩
def R.CEN_SUBMIT : Nat := 0x9048
def R.CEN_SUBMIT_STAT : Nat := 0x904C
def F.CEN_SUBMIT_STAT_JOB_ID : Fld := ⟨R.CEN_SUBMIT_STAT, 0, 16⟩
def F.CEN_SUBMIT_STAT_REFUSAL : Fld := ⟨R.CEN_SUBMIT_STAT, 16, 8⟩
def R.CEN_JOB_SEL : Nat := 0x9050
def F.CEN_JOB_SEL_ID : Fld := ⟨R.CEN_JOB_SEL, 0, 16⟩
def R.CEN_JOB_WORD_LO : Nat := 0x9054
def R.CEN_JOB_WORD_HI : Nat := 0x9058
def R.CEN_ABORT : Nat := 0x905C
def R.CEN_DONE_CNT : Nat := 0x9060
def R.CEN_BYTES_LO : Nat := 0x9064
def R.CEN_BYTES_HI : Nat := 0x9068
def R.CEN_PAGE_RECS : Nat := 0x906C

/-! ### ECH -/

def R.ECH_CTRL : Nat := 0xA040
def F.ECH_CTRL_EN : Fld := ⟨R.ECH_CTRL, 0, 1⟩
def R.ECH_TMO : Nat := 0xA044
def F.ECH_TMO_TMO : Fld := ⟨R.ECH_TMO, 0, 24⟩
def R.ECH_SUBMIT : Nat := 0xA048
def R.ECH_ABORT : Nat := 0xA04C
def R.ECH_CORE_BUSY : Nat := 0xA050
def F.ECH_CORE_BUSY_BUSY : Fld := ⟨R.ECH_CORE_BUSY, 0, 8⟩
def R.ECH_RUNS : Nat := 0xA054
def R.ECH_VERD0 : Nat := 0xA058
def F.ECH_VERD0_EQUAL : Fld := ⟨R.ECH_VERD0, 0, 16⟩
def F.ECH_VERD0_WITHIN : Fld := ⟨R.ECH_VERD0, 16, 16⟩
def R.ECH_VERD1 : Nat := 0xA05C
def F.ECH_VERD1_DIVERGED : Fld := ⟨R.ECH_VERD1, 0, 16⟩
def F.ECH_VERD1_UNRESOLVED : Fld := ⟨R.ECH_VERD1, 16, 16⟩
def R.ECH_VERD2 : Nat := 0xA060
def F.ECH_VERD2_TARGET_SUSPECT : Fld := ⟨R.ECH_VERD2, 0, 16⟩
def F.ECH_VERD2_SPARE_A_SUSPECT : Fld := ⟨R.ECH_VERD2, 16, 16⟩
def F.ECH_VERD2_SPARE_SUSPECT : Fld := ⟨R.ECH_VERD2, 16, 16⟩
def R.ECH_ABORTS : Nat := 0xA064
def F.ECH_ABORTS_CNT : Fld := ⟨R.ECH_ABORTS, 0, 16⟩
def R.ECH_LAST : Nat := 0xA068
def F.ECH_LAST_TARGET : Fld := ⟨R.ECH_LAST, 0, 12⟩
def F.ECH_LAST_VERDICT : Fld := ⟨R.ECH_LAST, 12, 3⟩
def F.ECH_LAST_JOB_ID : Fld := ⟨R.ECH_LAST, 16, 16⟩

/-! ### SCR -/

def R.SCR_CTRL : Nat := 0xB040
def F.SCR_CTRL_MODE : Fld := ⟨R.SCR_CTRL, 0, 2⟩
def F.SCR_CTRL_RING_STOP : Fld := ⟨R.SCR_CTRL, 2, 1⟩
def F.SCR_CTRL_CLEAR : Fld := ⟨R.SCR_CTRL, 3, 1⟩
def F.SCR_CTRL_AUTO_THR : Fld := ⟨R.SCR_CTRL, 4, 1⟩
def F.SCR_CTRL_MIN_LEVEL : Fld := ⟨R.SCR_CTRL, 5, 2⟩
def F.SCR_CTRL_SAMPLE : Fld := ⟨R.SCR_CTRL, 8, 4⟩
def R.SCR_STAT : Nat := 0xB044
def F.SCR_STAT_MASK : Fld := ⟨R.SCR_STAT, 0, 12⟩
def F.SCR_STAT_LEVEL : Fld := ⟨R.SCR_STAT, 12, 2⟩
def F.SCR_STAT_RUNNING : Fld := ⟨R.SCR_STAT, 14, 1⟩
def F.SCR_STAT_SEC_DATA : Fld := ⟨R.SCR_STAT, 15, 1⟩
def F.SCR_STAT_SEC_OK : Fld := ⟨R.SCR_STAT, 16, 1⟩
def F.SCR_STAT_RING_FULL : Fld := ⟨R.SCR_STAT, 17, 1⟩
def F.SCR_STAT_DRAINING : Fld := ⟨R.SCR_STAT, 18, 1⟩
def R.SCR_CMD : Nat := 0xB048
def F.SCR_CMD_OP : Fld := ⟨R.SCR_CMD, 0, 2⟩
def F.SCR_CMD_ABS : Fld := ⟨R.SCR_CMD, 2, 1⟩
def F.SCR_CMD_MASK : Fld := ⟨R.SCR_CMD, 16, 16⟩
def R.SCR_REQ_T_LO : Nat := 0xB04C
def R.SCR_REQ_T_HI : Nat := 0xB050
def R.SCR_CMD_STAT : Nat := 0xB054
def F.SCR_CMD_STAT_OUTCOME : Fld := ⟨R.SCR_CMD_STAT, 0, 2⟩
def F.SCR_CMD_STAT_CLAMPED : Fld := ⟨R.SCR_CMD_STAT, 2, 1⟩
def R.SCR_RIGHTS : Nat := 0xB058
def R.SCR_MARK : Nat := 0xB05C
def R.SCR_FLOW_EN (k : Nat) : Nat := 0xB060 + 4 * k
def R.SCR_WR_BLK : Nat := 0xB080
def R.SCR_WR_OFF : Nat := 0xB084
def F.SCR_WR_OFF_OFF : Fld := ⟨R.SCR_WR_OFF, 0, 12⟩
def R.SCR_OLD_BLK : Nat := 0xB088
def R.SCR_FILL : Nat := 0xB08C
def F.SCR_FILL_BLOCKS : Fld := ⟨R.SCR_FILL, 0, 12⟩
def F.SCR_FILL_F : Fld := ⟨R.SCR_FILL, 16, 7⟩
def R.SCR_SPILL_BASE_LO : Nat := 0xB090
def R.SCR_SPILL_BASE_HI : Nat := 0xB094
def R.SCR_SPILL_SIZE : Nat := 0xB098
def F.SCR_SPILL_SIZE_SIZE : Fld := ⟨R.SCR_SPILL_SIZE, 0, 15⟩
def R.SCR_SPILL_WR : Nat := 0xB09C
def R.SCR_SPILL_OLD : Nat := 0xB0A0
def R.SCR_DRAIN_CTRL : Nat := 0xB0A4
def F.SCR_DRAIN_CTRL_START : Fld := ⟨R.SCR_DRAIN_CTRL, 0, 1⟩
def F.SCR_DRAIN_CTRL_STOP : Fld := ⟨R.SCR_DRAIN_CTRL, 1, 1⟩
def F.SCR_DRAIN_CTRL_WINDOW : Fld := ⟨R.SCR_DRAIN_CTRL, 8, 6⟩
def R.SCR_DRAIN_ACK : Nat := 0xB0A8
def R.SCR_DRAIN_STAT : Nat := 0xB0AC
def F.SCR_DRAIN_STAT_ACTIVE : Fld := ⟨R.SCR_DRAIN_STAT, 0, 1⟩
def F.SCR_DRAIN_STAT_END : Fld := ⟨R.SCR_DRAIN_STAT, 1, 3⟩
def R.SCR_DRAIN_SENT : Nat := 0xB0B0
def R.SCR_RD_BLK : Nat := 0xB0B4
def R.SCR_RD_HALF : Nat := 0xB0B8
def F.SCR_RD_HALF_HALF : Fld := ⟨R.SCR_RD_HALF, 0, 1⟩
def R.SCR_RD_STAT : Nat := 0xB0BC
def F.SCR_RD_STAT_HELD : Fld := ⟨R.SCR_RD_STAT, 0, 1⟩
def F.SCR_RD_STAT_DAMAGED : Fld := ⟨R.SCR_RD_STAT, 1, 1⟩
def F.SCR_RD_STAT_WITHHELD : Fld := ⟨R.SCR_RD_STAT, 2, 1⟩
def R.SCR_LOST : Nat := 0xB0C0
def R.SCR_DROP : Nat := 0xB0C4
def R.SCR_LATE : Nat := 0xB0C8
def F.SCR_LATE_CNT : Fld := ⟨R.SCR_LATE, 0, 16⟩
def R.SCR_GAPS : Nat := 0xB0CC
def F.SCR_GAPS_CNT : Fld := ⟨R.SCR_GAPS, 0, 16⟩
def R.SCR_RD_WIN (k : Nat) : Nat := 0xB800 + 4 * k

/-! ### FLT -/

def R.FLT_CTRL : Nat := 0xC040
def F.FLT_CTRL_FATAL_STOP : Fld := ⟨R.FLT_CTRL, 0, 1⟩
def F.FLT_CTRL_FATAL_DUMP : Fld := ⟨R.FLT_CTRL, 1, 1⟩
def F.FLT_CTRL_FATAL_KIND : Fld := ⟨R.FLT_CTRL, 2, 1⟩
def F.FLT_CTRL_FORCE_DRY : Fld := ⟨R.FLT_CTRL, 3, 1⟩
def R.FLT_STAT : Nat := 0xC044
def F.FLT_STAT_ESC_STATE : Fld := ⟨R.FLT_STAT, 0, 2⟩
def F.FLT_STAT_FATAL_N : Fld := ⟨R.FLT_STAT, 2, 1⟩
def F.FLT_STAT_HB_RUN : Fld := ⟨R.FLT_STAT, 3, 1⟩
def F.FLT_STAT_SERVICE : Fld := ⟨R.FLT_STAT, 4, 1⟩
def F.FLT_STAT_STORM_ARMED : Fld := ⟨R.FLT_STAT, 5, 1⟩
def F.FLT_STAT_RING_FULL : Fld := ⟨R.FLT_STAT, 6, 1⟩
def R.FLT_ACK : Nat := 0xC048
def F.FLT_ACK_CE : Fld := ⟨R.FLT_ACK, 0, 1⟩
def F.FLT_ACK_UC : Fld := ⟨R.FLT_ACK, 1, 1⟩
def F.FLT_ACK_UC_SEQ_LO : Fld := ⟨R.FLT_ACK, 16, 16⟩
def R.FLT_CLASS_FLAGS : Nat := 0xC04C
def F.FLT_CLASS_FLAGS_CE_VALID : Fld := ⟨R.FLT_CLASS_FLAGS, 0, 1⟩
def F.FLT_CLASS_FLAGS_CE_OVF : Fld := ⟨R.FLT_CLASS_FLAGS, 1, 1⟩
def F.FLT_CLASS_FLAGS_UC_VALID : Fld := ⟨R.FLT_CLASS_FLAGS, 2, 1⟩
def F.FLT_CLASS_FLAGS_UC_OVF : Fld := ⟨R.FLT_CLASS_FLAGS, 3, 1⟩
def F.FLT_CLASS_FLAGS_FATAL_VALID : Fld := ⟨R.FLT_CLASS_FLAGS, 4, 1⟩
def F.FLT_CLASS_FLAGS_FATAL_OVF : Fld := ⟨R.FLT_CLASS_FLAGS, 5, 1⟩
def F.FLT_CLASS_FLAGS_UC_ACK_BY_RESET : Fld := ⟨R.FLT_CLASS_FLAGS, 6, 1⟩
def R.FLT_CE_CNT : Nat := 0xC050
def R.FLT_UC_CNT : Nat := 0xC054
def R.FLT_FATAL_CNT : Nat := 0xC058
def R.FLT_CE_WR : Nat := 0xC05C
def F.FLT_CE_WR_WR : Fld := ⟨R.FLT_CE_WR, 0, 16⟩
def R.FLT_CE_RD : Nat := 0xC060
def F.FLT_CE_RD_RD : Fld := ⟨R.FLT_CE_RD, 0, 16⟩
def R.FLT_CE_LOST : Nat := 0xC064
def R.FLT_FENCED : Nat := 0xC068
def F.FLT_FENCED_UNITS : Fld := ⟨R.FLT_FENCED, 0, 12⟩
def F.FLT_FENCED_ENGINES : Fld := ⟨R.FLT_FENCED, 16, 4⟩
def R.FLT_FENCE_THR : Nat := 0xC06C
def F.FLT_FENCE_THR_THR : Fld := ⟨R.FLT_FENCE_THR, 0, 12⟩
def R.FLT_SVC_STAT : Nat := 0xC070
def F.FLT_SVC_STAT_CORES_OUT : Fld := ⟨R.FLT_SVC_STAT, 8, 8⟩
def F.FLT_SVC_STAT_COND : Fld := ⟨R.FLT_SVC_STAT, 0, 4⟩
def R.FLT_FENCE_CMD : Nat := 0xC074
def R.FLT_UNFENCE : Nat := 0xC078
def R.FLT_FENCE_SEL : Nat := 0xC07C
def F.FLT_FENCE_SEL_ID : Fld := ⟨R.FLT_FENCE_SEL, 0, 12⟩
def R.FLT_FENCE_STAT : Nat := 0xC080
def F.FLT_FENCE_STAT_FENCED : Fld := ⟨R.FLT_FENCE_STAT, 0, 1⟩
def F.FLT_FENCE_STAT_PENDING : Fld := ⟨R.FLT_FENCE_STAT, 1, 1⟩
def F.FLT_FENCE_STAT_AWAIT_WAKE : Fld := ⟨R.FLT_FENCE_STAT, 2, 1⟩
def F.FLT_FENCE_STAT_ENGINE : Fld := ⟨R.FLT_FENCE_STAT, 3, 1⟩
def F.FLT_FENCE_STAT_CAUSE : Fld := ⟨R.FLT_FENCE_STAT, 4, 4⟩
def F.FLT_FENCE_STAT_LAST_OUTCOME : Fld := ⟨R.FLT_FENCE_STAT, 16, 4⟩
def R.FLT_FENCE_SEQ : Nat := 0xC084
def R.FLT_HIST_HEAD : Nat := 0xC088
def F.FLT_HIST_HEAD_SLOT : Fld := ⟨R.FLT_HIST_HEAD, 0, 4⟩
def F.FLT_HIST_HEAD_CNT : Fld := ⟨R.FLT_HIST_HEAD, 16, 16⟩
def R.FLT_CE_FIRST (k : Nat) : Nat := 0xC100 + 4 * k
def R.FLT_UC_FIRST (k : Nat) : Nat := 0xC140 + 4 * k
def R.FLT_FATAL_FIRST (k : Nat) : Nat := 0xC180 + 4 * k
def R.FLT_CE_WIN (k : Nat) : Nat := 0xC200 + 4 * k
def R.FLT_HIST (k : Nat) : Nat := 0xC400 + 4 * k
def R.FLT_FENCE_MAP (k : Nat) : Nat := 0xC800 + 4 * k

/-! ### WCH -/

def R.WCH_CTRL : Nat := 0xD040
def F.WCH_CTRL_LAG_EN : Fld := ⟨R.WCH_CTRL, 0, 1⟩
def F.WCH_CTRL_TFIT_EN : Fld := ⟨R.WCH_CTRL, 1, 1⟩
def F.WCH_CTRL_DISP_EN : Fld := ⟨R.WCH_CTRL, 2, 1⟩
def R.WCH_STAT : Nat := 0xD044
def F.WCH_STAT_FLAGGED : Fld := ⟨R.WCH_STAT, 0, 8⟩
def F.WCH_STAT_REMAP_PENDING : Fld := ⟨R.WCH_STAT, 8, 8⟩
def F.WCH_STAT_ENG_FENCED : Fld := ⟨R.WCH_STAT, 16, 8⟩
def R.WCH_LAG_SEL : Nat := 0xD048
def F.WCH_LAG_SEL_CORE : Fld := ⟨R.WCH_LAG_SEL, 0, 3⟩
def R.WCH_OP_TK : Nat := 0xD04C
def F.WCH_OP_TK_TK : Fld := ⟨R.WCH_OP_TK, 0, 24⟩
def R.WCH_LAG_THR : Nat := 0xD050
def F.WCH_LAG_THR_THR : Fld := ⟨R.WCH_LAG_THR, 0, 8⟩
def R.WCH_BLOCKS : Nat := 0xD054
def R.WCH_CORE_STAT : Nat := 0xD058
def F.WCH_CORE_STAT_FREE : Fld := ⟨R.WCH_CORE_STAT, 0, 4⟩
def F.WCH_CORE_STAT_SERVING : Fld := ⟨R.WCH_CORE_STAT, 4, 4⟩
def F.WCH_CORE_STAT_ECHO : Fld := ⟨R.WCH_CORE_STAT, 8, 4⟩
def F.WCH_CORE_STAT_FENCED : Fld := ⟨R.WCH_CORE_STAT, 12, 4⟩
def F.WCH_CORE_STAT_PENDING : Fld := ⟨R.WCH_CORE_STAT, 16, 1⟩
def F.WCH_CORE_STAT_PEND_POS : Fld := ⟨R.WCH_CORE_STAT, 17, 7⟩
def F.WCH_CORE_STAT_RETIRED : Fld := ⟨R.WCH_CORE_STAT, 24, 8⟩
def R.WCH_REMAP_CMD : Nat := 0xD05C
def F.WCH_REMAP_CMD_ARRAY : Fld := ⟨R.WCH_REMAP_CMD, 0, 12⟩
def F.WCH_REMAP_CMD_SPARE : Fld := ⟨R.WCH_REMAP_CMD, 16, 12⟩
def R.WCH_REMAP_RES : Nat := 0xD060
def F.WCH_REMAP_RES_OUTCOME : Fld := ⟨R.WCH_REMAP_RES, 0, 4⟩
def F.WCH_REMAP_RES_SPARE : Fld := ⟨R.WCH_REMAP_RES, 16, 12⟩
def R.WCH_UNMAP : Nat := 0xD064
def R.WCH_REMAP_CNT : Nat := 0xD068
def F.WCH_REMAP_CNT_REMAPS : Fld := ⟨R.WCH_REMAP_CNT, 0, 16⟩
def F.WCH_REMAP_CNT_UNMAPS : Fld := ⟨R.WCH_REMAP_CNT, 16, 16⟩
def R.WCH_DISP_INT : Nat := 0xD06C
def F.WCH_DISP_INT_INT : Fld := ⟨R.WCH_DISP_INT, 0, 24⟩
def R.WCH_TIE_CNT : Nat := 0xD070
def R.WCH_OVF_CNT : Nat := 0xD074
def R.WCH_SKIP_CNT : Nat := 0xD078
def R.WCH_DUP_CNT : Nat := 0xD07C
def R.WCH_STALE_CNT : Nat := 0xD080
def R.WCH_DROOP_CNT : Nat := 0xD084
def R.WCH_BUBBLE_CNT : Nat := 0xD088
def R.WCH_VF_DEFER_CNT : Nat := 0xD08C
def R.WCH_PMD_MAP : Nat := 0xD090
def R.WCH_TFIT_CTRL : Nat := 0xD094
def F.WCH_TFIT_CTRL_TARGET : Fld := ⟨R.WCH_TFIT_CTRL, 0, 8⟩
def F.WCH_TFIT_CTRL_LOW : Fld := ⟨R.WCH_TFIT_CTRL, 8, 8⟩
def F.WCH_TFIT_CTRL_SAMPLE_MAX : Fld := ⟨R.WCH_TFIT_CTRL, 16, 4⟩
def R.WCH_TFIT_STAT : Nat := 0xD098
def F.WCH_TFIT_STAT_STEP : Fld := ⟨R.WCH_TFIT_STAT, 0, 5⟩
def F.WCH_TFIT_STAT_INTAKE : Fld := ⟨R.WCH_TFIT_STAT, 8, 8⟩
def F.WCH_TFIT_STAT_MOVES : Fld := ⟨R.WCH_TFIT_STAT, 16, 16⟩
def R.WCH_LAG (k : Nat) : Nat := 0xD100 + 4 * k
def F.WCH_LAG_LAG (k : Nat) : Fld := ⟨(R.WCH_LAG k), 0, 16⟩
def F.WCH_LAG_CAIRN (k : Nat) : Fld := ⟨(R.WCH_LAG k), 16, 12⟩
def F.WCH_LAG_VALID (k : Nat) : Fld := ⟨(R.WCH_LAG k), 31, 1⟩

/-! ### TAL -/

def R.TAL_CTRL : Nat := 0xE040
def F.TAL_CTRL_SNAP : Fld := ⟨R.TAL_CTRL, 0, 1⟩
def F.TAL_CTRL_COMMIT : Fld := ⟨R.TAL_CTRL, 1, 1⟩
def R.TAL_STAT : Nat := 0xE044
def F.TAL_STAT_READY : Fld := ⟨R.TAL_STAT, 0, 1⟩
def F.TAL_STAT_BOOT_OK : Fld := ⟨R.TAL_STAT, 1, 1⟩
def F.TAL_STAT_COMMIT_BUSY : Fld := ⟨R.TAL_STAT, 2, 1⟩
def F.TAL_STAT_COMMIT_PEND : Fld := ⟨R.TAL_STAT, 3, 1⟩
def F.TAL_STAT_SNAP_BUSY : Fld := ⟨R.TAL_STAT, 4, 1⟩
def F.TAL_STAT_LOST : Fld := ⟨R.TAL_STAT, 5, 1⟩
def F.TAL_STAT_SNAP_VALID : Fld := ⟨R.TAL_STAT, 6, 1⟩
def F.TAL_STAT_PERSIST : Fld := ⟨R.TAL_STAT, 7, 1⟩
def F.TAL_STAT_SPENT : Fld := ⟨R.TAL_STAT, 8, 1⟩
def R.TAL_GEN_LO : Nat := 0xE048
def R.TAL_GEN_HI : Nat := 0xE04C
def R.TAL_BOOT_CNT : Nat := 0xE050
def R.TAL_COMMIT_T_LO : Nat := 0xE054
def R.TAL_COMMIT_T_HI : Nat := 0xE058
def R.TAL_NEXT_S : Nat := 0xE05C
def F.TAL_NEXT_S_S : Fld := ⟨R.TAL_NEXT_S, 0, 10⟩
def R.TAL_SLOT_MAP : Nat := 0xE060
def F.TAL_SLOT_MAP_BAD_SLOTS : Fld := ⟨R.TAL_SLOT_MAP, 0, 8⟩
def F.TAL_SLOT_MAP_NEWEST : Fld := ⟨R.TAL_SLOT_MAP, 8, 3⟩
def F.TAL_SLOT_MAP_USABLE : Fld := ⟨R.TAL_SLOT_MAP, 16, 4⟩
def R.TAL_RD_SEL : Nat := 0xE064
def F.TAL_RD_SEL_SRC : Fld := ⟨R.TAL_RD_SEL, 0, 1⟩
def F.TAL_RD_SEL_SLOT : Fld := ⟨R.TAL_RD_SEL, 1, 3⟩
def R.TAL_RD_OFF : Nat := 0xE068
def F.TAL_RD_OFF_WIN : Fld := ⟨R.TAL_RD_OFF, 11, 5⟩
def R.TAL_PERSIST : Nat := 0xE06C
def F.TAL_PERSIST_BOOTS : Fld := ⟨R.TAL_PERSIST, 0, 4⟩
def F.TAL_PERSIST_CE_LIM : Fld := ⟨R.TAL_PERSIST, 16, 16⟩
def R.TAL_CE_TRACK : Nat := 0xE070
def F.TAL_CE_TRACK_LIM : Fld := ⟨R.TAL_CE_TRACK, 0, 24⟩
def R.TAL_TRACK : Nat := 0xE074
def R.TAL_TRACK_CNT : Nat := 0xE078
def F.TAL_TRACK_CNT_TRACKED_OVF : Fld := ⟨R.TAL_TRACK_CNT, 16, 16⟩
def F.TAL_TRACK_CNT_ENTRIES : Fld := ⟨R.TAL_TRACK_CNT, 0, 9⟩
def R.TAL_PERSIST_CNT : Nat := 0xE07C
def F.TAL_PERSIST_CNT_CNT : Fld := ⟨R.TAL_PERSIST_CNT, 0, 9⟩
def R.TAL_CLEAR : Nat := 0xE080
def R.TAL_RD_WIN (k : Nat) : Nat := 0xE800 + 4 * k

/-! ### LCY -/

def R.LCY_STAT : Nat := 0xF040
def F.LCY_STAT_STATE : Fld := ⟨R.LCY_STAT, 0, 3⟩
def F.LCY_STAT_DECIDED : Fld := ⟨R.LCY_STAT, 3, 1⟩
def F.LCY_STAT_IN_TRANSITION : Fld := ⟨R.LCY_STAT, 4, 1⟩
def F.LCY_STAT_TARGET : Fld := ⟨R.LCY_STAT, 5, 3⟩
def F.LCY_STAT_PM : Fld := ⟨R.LCY_STAT, 8, 8⟩
def F.LCY_STAT_COUNTER : Fld := ⟨R.LCY_STAT, 16, 5⟩
def F.LCY_STAT_RESUMING : Fld := ⟨R.LCY_STAT, 21, 1⟩
def F.LCY_STAT_STALLED : Fld := ⟨R.LCY_STAT, 22, 1⟩
def F.LCY_STAT_RESUMED : Fld := ⟨R.LCY_STAT, 23, 1⟩
def F.LCY_STAT_EPOCH : Fld := ⟨R.LCY_STAT, 24, 4⟩
def R.LCY_CMD : Nat := 0xF044
def F.LCY_CMD_OP : Fld := ⟨R.LCY_CMD, 0, 4⟩
def R.LCY_RESULT : Nat := 0xF048
def R.LCY_CODE : Nat := 0xF04C
def F.LCY_CODE_CODE : Fld := ⟨R.LCY_CODE, 0, 24⟩
def R.LCY_VOTE : Nat := 0xF050
def F.LCY_VOTE_DISAGREE : Fld := ⟨R.LCY_VOTE, 0, 8⟩
def F.LCY_VOTE_DIST : Fld := ⟨R.LCY_VOTE, 8, 4⟩
def R.LCY_TOKENS : Nat := 0xF054
def F.LCY_TOKENS_PROVISIONED : Fld := ⟨R.LCY_TOKENS, 0, 8⟩
def F.LCY_TOKENS_CONSUMED : Fld := ⟨R.LCY_TOKENS, 8, 8⟩
def R.LCY_PROV : Nat := 0xF058
def F.LCY_PROV_DEVICE_UID : Fld := ⟨R.LCY_PROV, 0, 1⟩
def F.LCY_PROV_ROOT : Fld := ⟨R.LCY_PROV, 1, 1⟩
def F.LCY_PROV_JEX : Fld := ⟨R.LCY_PROV, 2, 1⟩
def F.LCY_PROV_OWNER : Fld := ⟨R.LCY_PROV, 3, 1⟩
def F.LCY_PROV_FIELD_HOST : Fld := ⟨R.LCY_PROV, 4, 1⟩
def R.LCY_FIELD_HOST : Nat := 0xF05C
def R.LCY_TIME_LO : Nat := 0xF060
def R.LCY_TIME_HI : Nat := 0xF064
def R.LCY_UID (k : Nat) : Nat := 0xF080 + 4 * k

/-! ### AUTH -/

def R.AUTH_HELD_PASS : Nat := 0x10040
def R.AUTH_HELD_HOST : Nat := 0x10044
def R.AUTH_BASE : Nat := 0x10048
def R.AUTH_CERT : Nat := 0x1004C
def R.AUTH_JEX : Nat := 0x10050
def R.AUTH_CMD : Nat := 0x10054
def F.AUTH_CMD_OP : Fld := ⟨R.AUTH_CMD, 0, 4⟩
def F.AUTH_CMD_REQ : Fld := ⟨R.AUTH_CMD, 24, 3⟩
def R.AUTH_RESULT : Nat := 0x10058
def F.AUTH_RESULT_STATUS : Fld := ⟨R.AUTH_RESULT, 0, 2⟩
def F.AUTH_RESULT_OP : Fld := ⟨R.AUTH_RESULT, 4, 4⟩
def F.AUTH_RESULT_CODE : Fld := ⟨R.AUTH_RESULT, 8, 8⟩
def R.AUTH_BUF_ADDR : Nat := 0x1005C
def F.AUTH_BUF_ADDR_AUTOINC : Fld := ⟨R.AUTH_BUF_ADDR, 16, 1⟩
def F.AUTH_BUF_ADDR_ADDR : Fld := ⟨R.AUTH_BUF_ADDR, 0, 11⟩
def R.AUTH_BUF_DATA : Nat := 0x10060
def R.AUTH_CERT_SER_LO : Nat := 0x10064
def R.AUTH_CERT_SER_HI : Nat := 0x10068
def R.AUTH_CERT_MAX : Nat := 0x1006C
def R.AUTH_CHAL_REQ : Nat := 0x10070
def F.AUTH_CHAL_REQ_OUTSTANDING : Fld := ⟨R.AUTH_CHAL_REQ, 0, 1⟩
def F.AUTH_CHAL_REQ_REQ : Fld := ⟨R.AUTH_CHAL_REQ, 24, 3⟩
def R.AUTH_BOOT : Nat := 0x10074
def F.AUTH_BOOT_BOOT_CNT : Fld := ⟨R.AUTH_BOOT, 0, 31⟩
def F.AUTH_BOOT_BOOT_OK : Fld := ⟨R.AUTH_BOOT, 31, 1⟩
def R.AUTH_REFUSE_CNT : Nat := 0x10078
def F.AUTH_REFUSE_CNT_CNT : Fld := ⟨R.AUTH_REFUSE_CNT, 0, 16⟩
def R.AUTH_CHAL (k : Nat) : Nat := 0x10080 + 4 * k

/-! ### PASS -/

def R.PASS_CTRL : Nat := 0x11040
def F.PASS_CTRL_LANE0_EN : Fld := ⟨R.PASS_CTRL, 0, 1⟩
def F.PASS_CTRL_LANE1_EN : Fld := ⟨R.PASS_CTRL, 1, 1⟩
def F.PASS_CTRL_MAX_RATE : Fld := ⟨R.PASS_CTRL, 2, 2⟩
def F.PASS_CTRL_TX_IDLE_OFF : Fld := ⟨R.PASS_CTRL, 4, 1⟩
def F.PASS_CTRL_TAP_ACC_EN : Fld := ⟨R.PASS_CTRL, 5, 1⟩
def F.PASS_CTRL_DEEMPH : Fld := ⟨R.PASS_CTRL, 6, 2⟩
def F.PASS_CTRL_TX_SWING : Fld := ⟨R.PASS_CTRL, 8, 2⟩
def R.PASS_STAT : Nat := 0x11044
def F.PASS_STAT_SESSION : Fld := ⟨R.PASS_STAT, 0, 2⟩
def F.PASS_STAT_RATE : Fld := ⟨R.PASS_STAT, 2, 2⟩
def F.PASS_STAT_LANES : Fld := ⟨R.PASS_STAT, 4, 2⟩
def F.PASS_STAT_TRAINING : Fld := ⟨R.PASS_STAT, 6, 1⟩
def F.PASS_STAT_LEAD : Fld := ⟨R.PASS_STAT, 7, 1⟩
def F.PASS_STAT_SESSION_ID : Fld := ⟨R.PASS_STAT, 16, 16⟩
def R.PASS_RATE : Nat := 0x11048
def F.PASS_RATE_MBPS : Fld := ⟨R.PASS_RATE, 0, 24⟩
def R.PASS_PEER : Nat := 0x1104C
def R.PASS_KA_TMO : Nat := 0x11050
def F.PASS_KA_TMO_MS : Fld := ⟨R.PASS_KA_TMO, 0, 16⟩
def R.PASS_FRM_TX : Nat := 0x11054
def R.PASS_FRM_RX : Nat := 0x11058
def R.PASS_RETX : Nat := 0x1105C
def F.PASS_RETX_CNT : Fld := ⟨R.PASS_RETX, 0, 16⟩
def R.PASS_CRC_ERR : Nat := 0x11060
def F.PASS_CRC_ERR_CNT : Fld := ⟨R.PASS_CRC_ERR, 0, 16⟩
def R.PASS_TRIG_IN : Nat := 0x11064
def F.PASS_TRIG_IN_ACCEPTED : Fld := ⟨R.PASS_TRIG_IN, 0, 16⟩
def F.PASS_TRIG_IN_REFUSED : Fld := ⟨R.PASS_TRIG_IN, 16, 16⟩
def R.PASS_FAB_CTRL : Nat := 0x11068
def F.PASS_FAB_CTRL_LEAD_CLAIM : Fld := ⟨R.PASS_FAB_CTRL, 0, 1⟩
def F.PASS_FAB_CTRL_LEAD_DROP : Fld := ⟨R.PASS_FAB_CTRL, 1, 1⟩
def F.PASS_FAB_CTRL_DISCOVER : Fld := ⟨R.PASS_FAB_CTRL, 2, 1⟩
def R.PASS_FAB_STAT : Nat := 0x1106C
def F.PASS_FAB_STAT_MEMBERS : Fld := ⟨R.PASS_FAB_STAT, 0, 13⟩
def F.PASS_FAB_STAT_DISC_BUSY : Fld := ⟨R.PASS_FAB_STAT, 13, 1⟩
def F.PASS_FAB_STAT_CLAIM_REFUSED : Fld := ⟨R.PASS_FAB_STAT, 14, 1⟩
def F.PASS_FAB_STAT_RELAYS : Fld := ⟨R.PASS_FAB_STAT, 16, 12⟩
def R.PASS_FAB_SEL : Nat := 0x11070
def F.PASS_FAB_SEL_ID : Fld := ⟨R.PASS_FAB_SEL, 0, 12⟩
def R.PASS_FAB_ENT : Nat := 0x11074
def F.PASS_FAB_ENT_PRESENT : Fld := ⟨R.PASS_FAB_ENT, 0, 1⟩
def F.PASS_FAB_ENT_RELAY_UP : Fld := ⟨R.PASS_FAB_ENT, 1, 1⟩
def F.PASS_FAB_ENT_FATAL : Fld := ⟨R.PASS_FAB_ENT, 2, 1⟩
def F.PASS_FAB_ENT_SERVICE : Fld := ⟨R.PASS_FAB_ENT, 3, 1⟩
def F.PASS_FAB_ENT_HB_OK : Fld := ⟨R.PASS_FAB_ENT, 4, 1⟩
def F.PASS_FAB_ENT_LCY : Fld := ⟨R.PASS_FAB_ENT, 5, 3⟩
def R.PASS_SESSION_T_LO : Nat := 0x11078
def R.PASS_SESSION_T_HI : Nat := 0x1107C
def R.PASS_FAB_UID (k : Nat) : Nat := 0x11080 + 4 * k

/-! ### SPR -/

def R.SPR_STAT (e : Nat) : Nat := 0x12040 + 0x1000 * e
def F.SPR_STAT_STATE (e : Nat) : Fld := ⟨(R.SPR_STAT e), 0, 2⟩
def F.SPR_STAT_MIRROR_OK (e : Nat) : Fld := ⟨(R.SPR_STAT e), 2, 1⟩
def R.SPR_STAGE_USED (e : Nat) : Nat := 0x12044 + 0x1000 * e
def F.SPR_STAGE_USED_USED (e : Nat) : Fld := ⟨(R.SPR_STAGE_USED e), 0, 11⟩
def F.SPR_STAGE_USED_HWM (e : Nat) : Fld := ⟨(R.SPR_STAGE_USED e), 16, 11⟩
def R.SPR_LIVE_MISS (e : Nat) : Nat := 0x12048 + 0x1000 * e
def F.SPR_LIVE_MISS_CNT (e : Nat) : Fld := ⟨(R.SPR_LIVE_MISS e), 0, 16⟩
def R.SPR_PRESENT_CNT (e : Nat) : Nat := 0x1204C + 0x1000 * e
def F.SPR_PRESENT_CNT_CNT (e : Nat) : Fld := ⟨(R.SPR_PRESENT_CNT e), 0, 12⟩
def R.SPR_DORMANT_CNT (e : Nat) : Nat := 0x12050 + 0x1000 * e
def F.SPR_DORMANT_CNT_CNT (e : Nat) : Fld := ⟨(R.SPR_DORMANT_CNT e), 0, 12⟩

/-! ### COL -/

def R.COL_STAT : Nat := 0x14040
def F.COL_STAT_GRP_OK : Fld := ⟨R.COL_STAT, 0, 3⟩
def F.COL_STAT_GRP_SPARED : Fld := ⟨R.COL_STAT, 3, 3⟩
def F.COL_STAT_LOST : Fld := ⟨R.COL_STAT, 6, 1⟩
def R.COL_LANE_CE : Nat := 0x14044
def F.COL_LANE_CE_CNT : Fld := ⟨R.COL_LANE_CE, 0, 16⟩
def R.COL_XING_TK : Nat := 0x14048
def F.COL_XING_TK_TK : Fld := ⟨R.COL_XING_TK, 0, 8⟩

/-! ### CWIN -/

def R.CWIN_SEL0 : Nat := 0x20040
def F.CWIN_SEL0_CAIRN_ID : Fld := ⟨R.CWIN_SEL0, 0, 12⟩
def R.CWIN_SEL1 : Nat := 0x20044
def F.CWIN_SEL1_CAIRN_ID : Fld := ⟨R.CWIN_SEL1, 0, 12⟩
def R.CWIN_SEL2 : Nat := 0x20048
def F.CWIN_SEL2_CAIRN_ID : Fld := ⟨R.CWIN_SEL2, 0, 12⟩
def R.CWIN_STAT : Nat := 0x2004C
def F.CWIN_STAT_LAST_CODE : Fld := ⟨R.CWIN_STAT, 0, 4⟩
def F.CWIN_STAT_OUTSTANDING : Fld := ⟨R.CWIN_STAT, 4, 4⟩
def R.CWIN_TOTAL : Nat := 0x20050
def R.CWIN_ERRS : Nat := 0x20054
def R.CWIN_SPUR : Nat := 0x20058
def F.CWIN_SPUR_SERVER0 : Fld := ⟨R.CWIN_SPUR, 0, 1⟩
def F.CWIN_SPUR_SERVER1 : Fld := ⟨R.CWIN_SPUR, 1, 1⟩
def F.CWIN_SPUR_SERVER2 : Fld := ⟨R.CWIN_SPUR, 2, 1⟩

/-! ### CRN -/

def C.CUT_STAT : Nat := 0x100
def CF.CUT_STAT_STATE : Fld := ⟨C.CUT_STAT, 0, 3⟩
def CF.CUT_STAT_FENCED_AT_CUT : Fld := ⟨C.CUT_STAT, 4, 1⟩
def CF.CUT_STAT_LATE : Fld := ⟨C.CUT_STAT, 5, 1⟩
def CF.CUT_STAT_HELD_AFTER_WAKE : Fld := ⟨C.CUT_STAT, 6, 1⟩
def CF.CUT_STAT_CUT_ID : Fld := ⟨C.CUT_STAT, 16, 16⟩
def C.CUT_EDGE_LO : Nat := 0x104
def C.CUT_EDGE_HI : Nat := 0x108
def C.CUT_EVT : Nat := 0x10C
def C.SHADOW : Nat := 0x110
def CF.SHADOW_SIZE : Fld := ⟨C.SHADOW, 0, 20⟩
def CF.SHADOW_HELD : Fld := ⟨C.SHADOW, 31, 1⟩
def C.CUT_KIND (k : Nat) : Nat := 0x114 + 4 * k
def C.U_STATE : Nat := 0x140
def CF.U_STATE_ACT : Fld := ⟨C.U_STATE, 0, 4⟩
def C.U_OWNER : Nat := 0x144
def CF.U_OWNER_TENANT : Fld := ⟨C.U_OWNER, 0, 16⟩
def CF.U_OWNER_SEC : Fld := ⟨C.U_OWNER, 31, 1⟩
def C.U_CTX : Nat := 0x148
def CF.U_CTX_CTX : Fld := ⟨C.U_CTX, 0, 20⟩
def C.A_OPCNT : Nat := 0x14C
def C.A_POS : Nat := 0x150
def CF.A_POS_SPARE_IDLE : Fld := ⟨C.A_POS, 7, 1⟩
def CF.A_POS_RETIRED : Fld := ⟨C.A_POS, 8, 1⟩
def CF.A_POS_POS : Fld := ⟨C.A_POS, 0, 7⟩
def C.G_PC_LO : Nat := 0x14C
def C.G_PC_HI : Nat := 0x150
def C.G_RETIRED : Nat := 0x154
def C.G_CAUSE : Nat := 0x158
def C.B_CHAN : Nat := 0x14C
def CF.B_CHAN_STACK : Fld := ⟨C.B_CHAN, 0, 3⟩
def CF.B_CHAN_CHAN : Fld := ⟨C.B_CHAN, 3, 5⟩
def CF.B_CHAN_G : Fld := ⟨C.B_CHAN, 8, 8⟩
def C.B_CC_BASE : Nat := 0x150
def C.B_CC_LEN : Nat := 0x154
def C.R_SITE : Nat := 0x14C
def CF.R_SITE_MESH : Fld := ⟨C.R_SITE, 0, 1⟩
def CF.R_SITE_ROW : Fld := ⟨C.R_SITE, 8, 4⟩
def CF.R_SITE_COL : Fld := ⟨C.R_SITE, 16, 4⟩
def C.R_OCC : Nat := 0x150
def CF.R_OCC_OCC : Fld := ⟨C.R_OCC, 0, 16⟩
def C.R_GRANTS : Nat := 0x154
def C.S_SEC (k : Nat) : Nat := 0x14C + 4 * k
def C.I_LINK : Nat := 0x14C
def CF.I_LINK_SERVES : Fld := ⟨C.I_LINK, 0, 1⟩
def CF.I_LINK_UP : Fld := ⟨C.I_LINK, 1, 1⟩
def C.P_VF : Nat := 0x14C
def CF.P_VF_MV : Fld := ⟨C.P_VF, 0, 12⟩
def CF.P_VF_MHZ : Fld := ⟨C.P_VF, 16, 12⟩
def C.STEP_CTRL : Nat := 0x120
def CF.STEP_CTRL_MODE : Fld := ⟨C.STEP_CTRL, 0, 2⟩
def CF.STEP_CTRL_COUNT : Fld := ⟨C.STEP_CTRL, 8, 8⟩
def CF.STEP_CTRL_NET : Fld := ⟨C.STEP_CTRL, 16, 2⟩
def C.STEP_STAT : Nat := 0x124
def CF.STEP_STAT_DONE : Fld := ⟨C.STEP_STAT, 0, 8⟩
def CF.STEP_STAT_REACHED : Fld := ⟨C.STEP_STAT, 8, 1⟩
def CF.STEP_STAT_INCOMPLETE : Fld := ⟨C.STEP_STAT, 9, 1⟩
def CF.STEP_STAT_DEPOSITED : Fld := ⟨C.STEP_STAT, 10, 1⟩
def CF.STEP_STAT_FENCED_IN_STEP : Fld := ⟨C.STEP_STAT, 11, 1⟩
def CF.STEP_STAT_UREF : Fld := ⟨C.STEP_STAT, 12, 3⟩
def CF.STEP_STAT_STEP_NO : Fld := ⟨C.STEP_STAT, 16, 16⟩
def C.STEP_TOTAL : Nat := 0x128
def C.VIEW_SEL : Nat := 0x130
def CF.VIEW_SEL_SPACE : Fld := ⟨C.VIEW_SEL, 0, 4⟩
def C.VIEW_ADDR_LO : Nat := 0x134
def C.VIEW_ADDR_HI : Nat := 0x138
def C.VIEW_STAT : Nat := 0x13C
def CF.VIEW_STAT_RESULT : Fld := ⟨C.VIEW_STAT, 0, 4⟩
def CF.VIEW_STAT_LIVE : Fld := ⟨C.VIEW_STAT, 4, 1⟩
def CF.VIEW_STAT_SPACES : Fld := ⟨C.VIEW_STAT, 16, 16⟩
def C.CMP_CTRL (k : Nat) : Nat := 0x40 + 36 * k
def CF.CMP_CTRL_EN (k : Nat) : Fld := ⟨(C.CMP_CTRL k), 0, 1⟩
def CF.CMP_CTRL_OBS (k : Nat) : Fld := ⟨(C.CMP_CTRL k), 1, 3⟩
def CF.CMP_CTRL_AKIND (k : Nat) : Fld := ⟨(C.CMP_CTRL k), 4, 2⟩
def CF.CMP_CTRL_VMODE (k : Nat) : Fld := ⟨(C.CMP_CTRL k), 6, 2⟩
def CF.CMP_CTRL_AINV (k : Nat) : Fld := ⟨(C.CMP_CTRL k), 8, 1⟩
def C.CMP_ADDR_LO (k : Nat) : Nat := 0x44 + 36 * k
def C.CMP_ADDR_HI (k : Nat) : Nat := 0x48 + 36 * k
def C.CMP_AMASK_LO (k : Nat) : Nat := 0x4C + 36 * k
def C.CMP_AMASK_HI (k : Nat) : Nat := 0x50 + 36 * k
def C.CMP_VAL_LO (k : Nat) : Nat := 0x54 + 36 * k
def C.CMP_VAL_HI (k : Nat) : Nat := 0x58 + 36 * k
def C.CMP_VMASK_LO (k : Nat) : Nat := 0x5C + 36 * k
def C.CMP_VMASK_HI (k : Nat) : Nat := 0x60 + 36 * k
def C.RNG_CTRL : Nat := 0x88
def CF.RNG_CTRL_EN : Fld := ⟨C.RNG_CTRL, 0, 1⟩
def CF.RNG_CTRL_OBS : Fld := ⟨C.RNG_CTRL, 1, 3⟩
def CF.RNG_CTRL_AKIND : Fld := ⟨C.RNG_CTRL, 4, 2⟩
def CF.RNG_CTRL_OUTSIDE : Fld := ⟨C.RNG_CTRL, 6, 1⟩
def C.RNG_BASE_LO : Nat := 0x8C
def C.RNG_BASE_HI : Nat := 0x90
def C.RNG_LIM_LO : Nat := 0x94
def C.RNG_LIM_HI : Nat := 0x98
def C.ECNT_CFG (k : Nat) : Nat := 0x9C + 4 * k
def CF.ECNT_CFG_EN (k : Nat) : Fld := ⟨(C.ECNT_CFG k), 0, 1⟩
def CF.ECNT_CFG_EVT (k : Nat) : Fld := ⟨(C.ECNT_CFG k), 1, 6⟩
def CF.ECNT_CFG_AUTO_RESET (k : Nat) : Fld := ⟨(C.ECNT_CFG k), 7, 1⟩
def C.ECNT_LIM (k : Nat) : Nat := 0xAC + 4 * k
def C.ECNT_VAL (k : Nat) : Nat := 0xBC + 4 * k
def C.OUT0 : Nat := 0xCC
def CF.OUT0_EN : Fld := ⟨C.OUT0, 0, 1⟩
def CF.OUT0_CH : Fld := ⟨C.OUT0, 1, 6⟩
def CF.OUT0_ALL : Fld := ⟨C.OUT0, 7, 1⟩
def CF.OUT0_SEL : Fld := ⟨C.OUT0, 8, 7⟩
def CF.OUT0_HOLD : Fld := ⟨C.OUT0, 16, 8⟩
def C.OUT1 : Nat := 0xD0
def CF.OUT1_EN : Fld := ⟨C.OUT1, 0, 1⟩
def CF.OUT1_CH : Fld := ⟨C.OUT1, 1, 6⟩
def CF.OUT1_ALL : Fld := ⟨C.OUT1, 7, 1⟩
def CF.OUT1_SEL : Fld := ⟨C.OUT1, 8, 7⟩
def CF.OUT1_HOLD : Fld := ⟨C.OUT1, 16, 8⟩
def C.CRS_STAT : Nat := 0xD4
def CF.CRS_STAT_SEEN : Fld := ⟨C.CRS_STAT, 0, 7⟩
def CF.CRS_STAT_RESTORED : Fld := ⟨C.CRS_STAT, 8, 1⟩
def CF.CRS_STAT_RAISES : Fld := ⟨C.CRS_STAT, 16, 16⟩
def C.CRS_MERGED : Nat := 0xD8
def CF.CRS_MERGED_M0 : Fld := ⟨C.CRS_MERGED, 0, 16⟩
def CF.CRS_MERGED_M1 : Fld := ⟨C.CRS_MERGED, 16, 16⟩

/-- The rows of page SUM. -/
def rowsSUM : List RegRow := [
  ⟨0x40, 1, 4, .rw, 0x80000FFF, 0x0, false⟩,
  ⟨0x44, 1, 4, .ro, 0x0, 0x0, false⟩,
  ⟨0x48, 1, 4, .ro, 0x0, 0x0, false⟩,
  ⟨0x4C, 1, 4, .ro, 0x0, 0x70, false⟩,
  ⟨0x50, 1, 4, .rwl, 0x3, 0x0, false⟩,
  ⟨0x54, 1, 4, .ro, 0x0, 0x0, false⟩,
  ⟨0x58, 1, 4, .ro, 0x0, 0x0, false⟩,
  ⟨0x5C, 1, 4, .ro, 0x0, 0x0, false⟩,
  ⟨0x80, 1, 4, .rw, 0xFF, 0x11, false⟩,
  ⟨0x84, 1, 4, .rw, 0xFFFF0000, 0x3E80000, false⟩,
  ⟨0x88, 1, 4, .rw, 0xFFFFFF, 0x2710, false⟩,
  ⟨0x8C, 1, 4, .rc, 0x0, 0x0, true⟩,
  ⟨0x90, 1, 4, .ro, 0x0, 0x0, true⟩,
  ⟨0x94, 1, 4, .ro, 0x0, 0x0, false⟩,
  ⟨0xC0, 1, 4, .rw, 0x7, 0x0, false⟩,
  ⟨0xC4, 1, 4, .rw, 0xFFFFFF, 0x190, false⟩,
  ⟨0xC8, 1, 4, .rw, 0xFFFFFF, 0x1068, false⟩,
  ⟨0xCC, 1, 4, .wo, 0x0, 0x0, false⟩,
  ⟨0xD0, 1, 4, .rw, 0xFFFFFFFF, 0x0, false⟩,
  ⟨0xD4, 1, 4, .rw, 0xFFFFFFFF, 0x0, false⟩,
  ⟨0xD8, 1, 4, .ro, 0x0, 0x0, false⟩,
  ⟨0xDC, 1, 4, .ro, 0x0, 0x0, false⟩,
  ⟨0xE0, 1, 4, .ro, 0x0, 0x0, false⟩,
  ⟨0xE4, 1, 4, .ro, 0x0, 0x0, false⟩,
  ⟨0xE8, 1, 4, .ro, 0x0, 0x0, false⟩,
  ⟨0xEC, 1, 4, .ro, 0x0, 0x0, false⟩,
  ⟨0xF0, 1, 4, .ro, 0x0, 0x0, false⟩,
  ⟨0xF4, 1, 4, .rc, 0x0, 0x0, false⟩,
  ⟨0xF8, 1, 4, .ro, 0x0, 0x0, false⟩,
  ⟨0xFC, 1, 4, .ro, 0x0, 0x0, false⟩,
  ⟨0x100, 1, 4, .wo, 0x0, 0x0, false⟩,
  ⟨0x104, 1, 4, .rw, 0xFFFFFF, 0x61A8, false⟩,
  ⟨0x108, 1, 4, .ro, 0x0, 0x0, false⟩,
  ⟨0x10C, 1, 4, .ro, 0x0, 0x0, false⟩,
  ⟨0x110, 1, 4, .ro, 0x0, 0x0, false⟩,
  ⟨0x114, 1, 4, .ro, 0x0, 0x0, false⟩,
  ⟨0x118, 1, 4, .ro, 0x0, 0x0, false⟩,
  ⟨0x11C, 1, 4, .ro, 0x0, 0x0, false⟩,
  ⟨0x120, 1, 4, .ro, 0x0, 0x0, false⟩,
  ⟨0x124, 1, 4, .rw, 0x3FFF, 0x17F5, false⟩,
  ⟨0x128, 1, 4, .rw, 0xFF00FF, 0x0, false⟩,
  ⟨0x12C, 1, 4, .ro, 0x0, 0x0, false⟩,
  ⟨0x140, 1, 4, .wo, 0x0, 0x0, false⟩,
  ⟨0x144, 1, 4, .ro, 0x0, 0x0, false⟩,
  ⟨0x148, 1, 4, .ro, 0x0, 0x0, false⟩,
  ⟨0x14C, 1, 4, .ro, 0x0, 0x0, false⟩,
  ⟨0x150, 1, 4, .ro, 0x0, 0x0, false⟩,
  ⟨0x154, 1, 4, .ro, 0x0, 0x0, false⟩,
  ⟨0x158, 1, 4, .ro, 0x0, 0x0, false⟩,
  ⟨0x15C, 1, 4, .ro, 0x0, 0x0, false⟩]

/-- The rows of page RDG. -/
def rowsRDG : List RegRow := [
  ⟨0x1040, 1, 4, .ro, 0x0, 0x0, false⟩,
  ⟨0x1044, 1, 4, .ro, 0x0, 0x0, false⟩,
  ⟨0x1048, 1, 4, .ro, 0x0, 0x0, false⟩,
  ⟨0x104C, 1, 4, .rw, 0x3, 0x3, false⟩,
  ⟨0x1050, 1, 4, .rw, 0xFFFFFF, 0x186A0, false⟩,
  ⟨0x1054, 1, 4, .ro, 0x0, 0x0, false⟩,
  ⟨0x1058, 1, 4, .ro, 0x0, 0x0, false⟩,
  ⟨0x105C, 1, 4, .ro, 0x0, 0x0, false⟩,
  ⟨0x1060, 1, 4, .ro, 0x0, 0x0, false⟩,
  ⟨0x1064, 1, 4, .rc, 0x0, 0x0, false⟩,
  ⟨0x1068, 1, 4, .rc, 0x0, 0x0, false⟩,
  ⟨0x106C, 1, 4, .ro, 0x0, 0x0, false⟩,
  ⟨0x1070, 1, 4, .ro, 0x0, 0x0, false⟩,
  ⟨0x1074, 1, 4, .ro, 0x0, 0x0, false⟩,
  ⟨0x1078, 1, 4, .ro, 0x0, 0x0, false⟩,
  ⟨0x107C, 1, 4, .ro, 0x0, 0x0, false⟩]

/-- The rows of page CRS. -/
def rowsCRS : List RegRow := [
  ⟨0x2040, 1, 4, .rw, 0x1F, 0x0, false⟩,
  ⟨0x2044, 1, 4, .ro, 0x0, 0x0, false⟩,
  ⟨0x2048, 1, 4, .rw, 0xFFFFFFFF, 0x0, false⟩,
  ⟨0x204C, 1, 4, .rw, 0xFFFFFFFF, 0x0, false⟩,
  ⟨0x2050, 1, 4, .ro, 0x0, 0x0, false⟩,
  ⟨0x2054, 1, 4, .ro, 0x0, 0x0, false⟩,
  ⟨0x2058, 1, 4, .w1c, 0xFFFFFFFF, 0x0, false⟩,
  ⟨0x205C, 1, 4, .w1c, 0xFFFFFFFF, 0x0, false⟩,
  ⟨0x2060, 1, 4, .rw, 0xFFFFFFFF, 0x0, false⟩,
  ⟨0x2064, 1, 4, .rw, 0xFFFFFFFF, 0x0, false⟩,
  ⟨0x2068, 1, 4, .wo, 0x0, 0x0, false⟩,
  ⟨0x206C, 1, 4, .rc, 0x0, 0x0, false⟩,
  ⟨0x2070, 1, 4, .ro, 0x0, 0x0, false⟩,
  ⟨0x2074, 1, 4, .ro, 0x0, 0x0, false⟩,
  ⟨0x2078, 1, 4, .ro, 0x0, 0x0, false⟩,
  ⟨0x2080, 1, 4, .ro, 0x0, 0x0, false⟩,
  ⟨0x2084, 1, 4, .ro, 0x0, 0x0, false⟩,
  ⟨0x20A0, 8, 4, .rw, 0xFFFF3FFF, 0x0, false⟩,
  ⟨0x20C0, 8, 4, .rw, 0xFFFFFFFF, 0x0, false⟩,
  ⟨0x20E0, 8, 4, .rw, 0xFFFFFFFF, 0x0, false⟩,
  ⟨0x2100, 16, 4, .rw, 0x1FF, 0x0, false⟩,
  ⟨0x2140, 64, 4, .rw, 0xFFFFFFF, 0x0, false⟩,
  ⟨0x2240, 16, 4, .rw, 0xFFFFFFFF, 0x0, false⟩]

/-- The rows of page PRB0. -/
def rowsPRB0 : List RegRow := [
  ⟨0x3040, 1, 4, .rw, 0x4, 0x0, false⟩,
  ⟨0x3044, 1, 4, .ro, 0x0, 0x0, false⟩,
  ⟨0x3048, 1, 4, .rw, 0xFFFF, 0x0, false⟩,
  ⟨0x304C, 1, 4, .ro, 0x0, 0x0, false⟩,
  ⟨0x3050, 1, 4, .rw, 0xFFFFFFFF, 0x0, false⟩,
  ⟨0x3054, 1, 4, .rw, 0xFFFFFFFF, 0x0, false⟩,
  ⟨0x3058, 1, 4, .rw, 0xFFFFFF, 0x0, false⟩,
  ⟨0x305C, 1, 4, .ro, 0x0, 0x0, false⟩,
  ⟨0x3060, 1, 4, .ro, 0x0, 0x0, false⟩,
  ⟨0x3064, 1, 4, .ro, 0x0, 0x0, false⟩,
  ⟨0x3068, 1, 4, .ro, 0x0, 0x0, false⟩,
  ⟨0x306C, 1, 4, .ro, 0x0, 0x0, false⟩,
  ⟨0x3070, 1, 4, .ro, 0x0, 0x0, false⟩,
  ⟨0x3074, 1, 4, .ro, 0x0, 0x0, false⟩,
  ⟨0x3080, 32, 4, .rw, 0xFFFFFFFF, 0x0, false⟩,
  ⟨0x3100, 1, 4, .rw, 0x1FFFF, 0x0, true⟩,
  ⟨0x3104, 1, 4, .rw, 0xFFFFFFFF, 0x0, false⟩,
  ⟨0x3108, 1, 4, .rc, 0x0, 0x0, false⟩]

/-- The rows of page PRB1. -/
def rowsPRB1 : List RegRow := [
  ⟨0x4040, 1, 4, .rw, 0x4, 0x0, false⟩,
  ⟨0x4044, 1, 4, .ro, 0x0, 0x0, false⟩,
  ⟨0x4048, 1, 4, .rw, 0xFFFF, 0x0, false⟩,
  ⟨0x404C, 1, 4, .ro, 0x0, 0x0, false⟩,
  ⟨0x4050, 1, 4, .rw, 0xFFFFFFFF, 0x0, false⟩,
  ⟨0x4054, 1, 4, .rw, 0xFFFFFFFF, 0x0, false⟩,
  ⟨0x4058, 1, 4, .rw, 0xFFFFFF, 0x0, false⟩,
  ⟨0x405C, 1, 4, .ro, 0x0, 0x0, false⟩,
  ⟨0x4060, 1, 4, .ro, 0x0, 0x0, false⟩,
  ⟨0x4064, 1, 4, .ro, 0x0, 0x0, false⟩,
  ⟨0x4068, 1, 4, .ro, 0x0, 0x0, false⟩,
  ⟨0x406C, 1, 4, .ro, 0x0, 0x0, false⟩,
  ⟨0x4070, 1, 4, .ro, 0x0, 0x0, false⟩,
  ⟨0x4074, 1, 4, .ro, 0x0, 0x0, false⟩,
  ⟨0x4080, 32, 4, .rw, 0xFFFFFFFF, 0x0, false⟩,
  ⟨0x4100, 1, 4, .rw, 0x1FFFF, 0x0, true⟩,
  ⟨0x4104, 1, 4, .rw, 0xFFFFFFFF, 0x0, false⟩,
  ⟨0x4108, 1, 4, .rc, 0x0, 0x0, false⟩]

/-- The rows of page PRB2. -/
def rowsPRB2 : List RegRow := [
  ⟨0x5040, 1, 4, .rw, 0x4, 0x0, false⟩,
  ⟨0x5044, 1, 4, .ro, 0x0, 0x0, false⟩,
  ⟨0x5048, 1, 4, .rw, 0xFFFF, 0x0, false⟩,
  ⟨0x504C, 1, 4, .ro, 0x0, 0x0, false⟩,
  ⟨0x5050, 1, 4, .rw, 0xFFFFFFFF, 0x0, false⟩,
  ⟨0x5054, 1, 4, .rw, 0xFFFFFFFF, 0x0, false⟩,
  ⟨0x5058, 1, 4, .rw, 0xFFFFFF, 0x0, false⟩,
  ⟨0x505C, 1, 4, .ro, 0x0, 0x0, false⟩,
  ⟨0x5060, 1, 4, .ro, 0x0, 0x0, false⟩,
  ⟨0x5064, 1, 4, .ro, 0x0, 0x0, false⟩,
  ⟨0x5068, 1, 4, .ro, 0x0, 0x0, false⟩,
  ⟨0x506C, 1, 4, .ro, 0x0, 0x0, false⟩,
  ⟨0x5070, 1, 4, .ro, 0x0, 0x0, false⟩,
  ⟨0x5074, 1, 4, .ro, 0x0, 0x0, false⟩,
  ⟨0x5080, 32, 4, .rw, 0xFFFFFFFF, 0x0, false⟩,
  ⟨0x5100, 1, 4, .rw, 0x1FFFF, 0x0, true⟩,
  ⟨0x5104, 1, 4, .rw, 0xFFFFFFFF, 0x0, false⟩,
  ⟨0x5108, 1, 4, .rc, 0x0, 0x0, false⟩]

/-- The rows of page PRB3. -/
def rowsPRB3 : List RegRow := [
  ⟨0x6040, 1, 4, .rw, 0x4, 0x0, false⟩,
  ⟨0x6044, 1, 4, .ro, 0x0, 0x0, false⟩,
  ⟨0x6048, 1, 4, .rw, 0xFFFF, 0x0, false⟩,
  ⟨0x604C, 1, 4, .ro, 0x0, 0x0, false⟩,
  ⟨0x6050, 1, 4, .rw, 0xFFFFFFFF, 0x0, false⟩,
  ⟨0x6054, 1, 4, .rw, 0xFFFFFFFF, 0x0, false⟩,
  ⟨0x6058, 1, 4, .rw, 0xFFFFFF, 0x0, false⟩,
  ⟨0x605C, 1, 4, .ro, 0x0, 0x0, false⟩,
  ⟨0x6060, 1, 4, .ro, 0x0, 0x0, false⟩,
  ⟨0x6064, 1, 4, .ro, 0x0, 0x0, false⟩,
  ⟨0x6068, 1, 4, .ro, 0x0, 0x0, false⟩,
  ⟨0x606C, 1, 4, .ro, 0x0, 0x0, false⟩,
  ⟨0x6070, 1, 4, .ro, 0x0, 0x0, false⟩,
  ⟨0x6074, 1, 4, .ro, 0x0, 0x0, false⟩,
  ⟨0x6080, 32, 4, .rw, 0xFFFFFFFF, 0x0, false⟩,
  ⟨0x6100, 1, 4, .rw, 0x1FFFF, 0x0, true⟩,
  ⟨0x6104, 1, 4, .rw, 0xFFFFFFFF, 0x0, false⟩,
  ⟨0x6108, 1, 4, .rc, 0x0, 0x0, false⟩]

/-- The rows of page COU. -/
def rowsCOU : List RegRow := [
  ⟨0x8040, 1, 4, .rw, 0x5FF, 0x0, false⟩,
  ⟨0x8044, 1, 4, .ro, 0x0, 0x0, false⟩,
  ⟨0x8048, 1, 4, .rw, 0xFFFFFF, 0x0, false⟩,
  ⟨0x804C, 1, 4, .rw, 0x1F, 0x4, false⟩,
  ⟨0x8050, 1, 4, .ro, 0x0, 0x4C00, false⟩,
  ⟨0x8054, 1, 4, .ro, 0x0, 0x0, false⟩,
  ⟨0x8058, 1, 4, .ro, 0x0, 0x0, false⟩,
  ⟨0x805C, 1, 4, .ro, 0x0, 0x0, false⟩,
  ⟨0x8060, 1, 4, .wo, 0x0, 0x0, false⟩,
  ⟨0x8064, 1, 4, .wo, 0x0, 0x0, false⟩,
  ⟨0x8068, 1, 4, .rw, 0xFC, 0x80, false⟩,
  ⟨0x806C, 1, 4, .wo, 0x0, 0x0, false⟩,
  ⟨0x8070, 1, 4, .ro, 0x0, 0x0, false⟩,
  ⟨0x8074, 1, 4, .ro, 0x0, 0x0, false⟩,
  ⟨0x8078, 1, 4, .rw, 0xFFFFFF, 0x9C40, false⟩,
  ⟨0x807C, 1, 4, .ro, 0x0, 0x0, false⟩,
  ⟨0x8080, 1, 4, .rw, 0x7FFFF, 0x1C0FF, false⟩,
  ⟨0x8084, 15, 4, .rw, 0x7FFFF, 0x0, false⟩,
  ⟨0x80C0, 4, 8, .rw, 0xFFFFFFF0, 0x0, false⟩,
  ⟨0x80C4, 4, 8, .rw, 0xFFFFFFFF, 0x0, false⟩,
  ⟨0x80E0, 4, 4, .ro, 0x0, 0x0, false⟩,
  ⟨0x80F0, 1, 4, .ro, 0x0, 0x0, false⟩,
  ⟨0x80F4, 1, 4, .ro, 0x0, 0x0, false⟩,
  ⟨0x80F8, 1, 4, .ro, 0x0, 0x0, false⟩,
  ⟨0x80FC, 1, 4, .ro, 0x0, 0x0, false⟩,
  ⟨0x8100, 1, 4, .ro, 0x0, 0x0, false⟩,
  ⟨0x8104, 1, 4, .ro, 0x0, 0x0, false⟩]

/-- The rows of page CEN. -/
def rowsCEN : List RegRow := [
  ⟨0x9040, 1, 4, .rw, 0xFF, 0x8, false⟩,
  ⟨0x9044, 1, 4, .ro, 0x0, 0x0, false⟩,
  ⟨0x9048, 1, 4, .wo, 0x0, 0x0, false⟩,
  ⟨0x904C, 1, 4, .ro, 0x0, 0x0, true⟩,
  ⟨0x9050, 1, 4, .rw, 0xFFFF, 0x0, true⟩,
  ⟨0x9054, 1, 4, .ro, 0x0, 0x2, false⟩,
  ⟨0x9058, 1, 4, .ro, 0x0, 0x0, false⟩,
  ⟨0x905C, 1, 4, .wo, 0x0, 0x0, false⟩,
  ⟨0x9060, 1, 4, .ro, 0x0, 0x0, false⟩,
  ⟨0x9064, 1, 4, .ro, 0x0, 0x0, false⟩,
  ⟨0x9068, 1, 4, .ro, 0x0, 0x0, false⟩,
  ⟨0x906C, 1, 4, .ro, 0x0, 0x0, false⟩]

/-- The rows of page ECH. -/
def rowsECH : List RegRow := [
  ⟨0xA040, 1, 4, .rw, 0x1, 0x1, false⟩,
  ⟨0xA044, 1, 4, .rw, 0xFFFFFF, 0x2710, false⟩,
  ⟨0xA048, 1, 4, .wo, 0x0, 0x0, false⟩,
  ⟨0xA04C, 1, 4, .wo, 0x0, 0x0, false⟩,
  ⟨0xA050, 1, 4, .ro, 0x0, 0x0, false⟩,
  ⟨0xA054, 1, 4, .ro, 0x0, 0x0, false⟩,
  ⟨0xA058, 1, 4, .ro, 0x0, 0x0, false⟩,
  ⟨0xA05C, 1, 4, .ro, 0x0, 0x0, false⟩,
  ⟨0xA060, 1, 4, .ro, 0x0, 0x0, false⟩,
  ⟨0xA064, 1, 4, .ro, 0x0, 0x0, false⟩,
  ⟨0xA068, 1, 4, .ro, 0x0, 0x0, false⟩]

/-- The rows of page SCR. -/
def rowsSCR : List RegRow := [
  ⟨0xB040, 1, 4, .rw, 0xF77, 0x210, false⟩,
  ⟨0xB044, 1, 4, .ro, 0x0, 0x0, false⟩,
  ⟨0xB048, 1, 4, .wo, 0x0, 0x0, false⟩,
  ⟨0xB04C, 1, 4, .rw, 0xFFFFFFFF, 0x0, false⟩,
  ⟨0xB050, 1, 4, .rw, 0xFFFFFFFF, 0x0, false⟩,
  ⟨0xB054, 1, 4, .ro, 0x0, 0x0, true⟩,
  ⟨0xB058, 1, 4, .ro, 0x0, 0x0, false⟩,
  ⟨0xB05C, 1, 4, .wo, 0x0, 0x0, false⟩,
  ⟨0xB060, 8, 4, .rw, 0xFFFFFFFF, 0x0, false⟩,
  ⟨0xB080, 1, 4, .ro, 0x0, 0x0, false⟩,
  ⟨0xB084, 1, 4, .ro, 0x0, 0x0, false⟩,
  ⟨0xB088, 1, 4, .ro, 0x0, 0x0, false⟩,
  ⟨0xB08C, 1, 4, .ro, 0x0, 0x0, false⟩,
  ⟨0xB090, 1, 4, .rw, 0xFFF00000, 0x0, false⟩,
  ⟨0xB094, 1, 4, .rw, 0xFFFF, 0x0, false⟩,
  ⟨0xB098, 1, 4, .rw, 0x7FFF, 0x0, false⟩,
  ⟨0xB09C, 1, 4, .ro, 0x0, 0x0, false⟩,
  ⟨0xB0A0, 1, 4, .ro, 0x0, 0x0, false⟩,
  ⟨0xB0A4, 1, 4, .rw, 0x3F00, 0x2000, false⟩,
  ⟨0xB0A8, 1, 4, .wo, 0x0, 0x0, false⟩,
  ⟨0xB0AC, 1, 4, .ro, 0x0, 0x0, false⟩,
  ⟨0xB0B0, 1, 4, .ro, 0x0, 0x0, false⟩,
  ⟨0xB0B4, 1, 4, .rw, 0xFFFFFFFF, 0x0, true⟩,
  ⟨0xB0B8, 1, 4, .rw, 0x1, 0x0, true⟩,
  ⟨0xB0BC, 1, 4, .ro, 0x0, 0x0, true⟩,
  ⟨0xB0C0, 1, 4, .rc, 0x0, 0x0, false⟩,
  ⟨0xB0C4, 1, 4, .rc, 0x0, 0x0, false⟩,
  ⟨0xB0C8, 1, 4, .rc, 0x0, 0x0, false⟩,
  ⟨0xB0CC, 1, 4, .rc, 0x0, 0x0, false⟩,
  ⟨0xB800, 512, 4, .ro, 0x0, 0x0, false⟩]

/-- The rows of page FLT. -/
def rowsFLT : List RegRow := [
  ⟨0xC040, 1, 4, .rw, 0xF, 0x3, false⟩,
  ⟨0xC044, 1, 4, .ro, 0x0, 0x28, false⟩,
  ⟨0xC048, 1, 4, .wo, 0x0, 0x0, false⟩,
  ⟨0xC04C, 1, 4, .ro, 0x0, 0x0, false⟩,
  ⟨0xC050, 1, 4, .ro, 0x0, 0x0, false⟩,
  ⟨0xC054, 1, 4, .ro, 0x0, 0x0, false⟩,
  ⟨0xC058, 1, 4, .ro, 0x0, 0x0, false⟩,
  ⟨0xC05C, 1, 4, .ro, 0x0, 0x0, false⟩,
  ⟨0xC060, 1, 4, .rw, 0xFFFF, 0x0, false⟩,
  ⟨0xC064, 1, 4, .rc, 0x0, 0x0, false⟩,
  ⟨0xC068, 1, 4, .ro, 0x0, 0x0, false⟩,
  ⟨0xC06C, 1, 4, .rw, 0xFFF, 0x10, false⟩,
  ⟨0xC070, 1, 4, .ro, 0x0, 0x0, false⟩,
  ⟨0xC074, 1, 4, .wo, 0x0, 0x0, false⟩,
  ⟨0xC078, 1, 4, .rwl, 0xFFF, 0x0, false⟩,
  ⟨0xC07C, 1, 4, .rw, 0xFFF, 0x0, true⟩,
  ⟨0xC080, 1, 4, .ro, 0x0, 0x0, true⟩,
  ⟨0xC084, 1, 4, .ro, 0x0, 0x0, true⟩,
  ⟨0xC088, 1, 4, .ro, 0x0, 0x0, false⟩,
  ⟨0xC100, 16, 4, .ro, 0x0, 0x0, false⟩,
  ⟨0xC140, 16, 4, .ro, 0x0, 0x0, false⟩,
  ⟨0xC180, 16, 4, .ro, 0x0, 0x0, false⟩,
  ⟨0xC200, 16, 4, .ro, 0x0, 0x0, false⟩,
  ⟨0xC400, 256, 4, .ro, 0x0, 0x0, false⟩,
  ⟨0xC800, 94, 4, .ro, 0x0, 0x0, false⟩]

/-- The rows of page WCH. -/
def rowsWCH : List RegRow := [
  ⟨0xD040, 1, 4, .rw, 0x7, 0x5, false⟩,
  ⟨0xD044, 1, 4, .ro, 0x0, 0x0, false⟩,
  ⟨0xD048, 1, 4, .rw, 0x7, 0x0, true⟩,
  ⟨0xD04C, 1, 4, .ro, 0x0, 0x0, false⟩,
  ⟨0xD050, 1, 4, .rw, 0xFF, 0x3, false⟩,
  ⟨0xD054, 1, 4, .ro, 0x0, 0x0, false⟩,
  ⟨0xD058, 1, 4, .ro, 0x0, 0x0, false⟩,
  ⟨0xD05C, 1, 4, .wo, 0x0, 0x0, false⟩,
  ⟨0xD060, 1, 4, .ro, 0x0, 0x0, true⟩,
  ⟨0xD064, 1, 4, .rwl, 0xFFF, 0x0, false⟩,
  ⟨0xD068, 1, 4, .ro, 0x0, 0x0, false⟩,
  ⟨0xD06C, 1, 4, .rw, 0xFFFFFF, 0x2710, false⟩,
  ⟨0xD070, 1, 4, .ro, 0x0, 0x0, false⟩,
  ⟨0xD074, 1, 4, .ro, 0x0, 0x0, false⟩,
  ⟨0xD078, 1, 4, .ro, 0x0, 0x0, false⟩,
  ⟨0xD07C, 1, 4, .ro, 0x0, 0x0, false⟩,
  ⟨0xD080, 1, 4, .ro, 0x0, 0x0, false⟩,
  ⟨0xD084, 1, 4, .ro, 0x0, 0x0, false⟩,
  ⟨0xD088, 1, 4, .ro, 0x0, 0x0, false⟩,
  ⟨0xD08C, 1, 4, .ro, 0x0, 0x0, false⟩,
  ⟨0xD090, 1, 4, .ro, 0x0, 0x0, false⟩,
  ⟨0xD094, 1, 4, .rw, 0xFFFFF, 0x82850, false⟩,
  ⟨0xD098, 1, 4, .ro, 0x0, 0x0, false⟩,
  ⟨0xD100, 128, 4, .ro, 0x0, 0x0, false⟩]

/-- The rows of page TAL. -/
def rowsTAL : List RegRow := [
  ⟨0xE040, 1, 4, .rw, 0x0, 0x0, false⟩,
  ⟨0xE044, 1, 4, .ro, 0x0, 0x0, false⟩,
  ⟨0xE048, 1, 4, .ro, 0x0, 0x0, false⟩,
  ⟨0xE04C, 1, 4, .ro, 0x0, 0x0, false⟩,
  ⟨0xE050, 1, 4, .ro, 0x0, 0x0, false⟩,
  ⟨0xE054, 1, 4, .ro, 0x0, 0x0, false⟩,
  ⟨0xE058, 1, 4, .ro, 0x0, 0x0, false⟩,
  ⟨0xE05C, 1, 4, .ro, 0x0, 0x384, false⟩,
  ⟨0xE060, 1, 4, .ro, 0x0, 0x0, false⟩,
  ⟨0xE064, 1, 4, .rw, 0xF, 0x0, true⟩,
  ⟨0xE068, 1, 4, .rw, 0xF800, 0x0, true⟩,
  ⟨0xE06C, 1, 4, .rw, 0xFFFF000F, 0x27100003, false⟩,
  ⟨0xE070, 1, 4, .rw, 0xFFFFFF, 0x3E8, false⟩,
  ⟨0xE074, 1, 4, .wo, 0x0, 0x0, false⟩,
  ⟨0xE078, 1, 4, .ro, 0x0, 0x0, false⟩,
  ⟨0xE07C, 1, 4, .ro, 0x0, 0x0, false⟩,
  ⟨0xE080, 1, 4, .rwl, 0xFFFFFFFF, 0x0, false⟩,
  ⟨0xE800, 512, 4, .ro, 0x0, 0x0, false⟩]

/-- The rows of page LCY. -/
def rowsLCY : List RegRow := [
  ⟨0xF040, 1, 4, .ro, 0x0, 0x0, false⟩,
  ⟨0xF044, 1, 4, .wo, 0x0, 0x0, false⟩,
  ⟨0xF048, 1, 4, .ro, 0x0, 0x0, true⟩,
  ⟨0xF04C, 1, 4, .ro, 0x0, 0x0, false⟩,
  ⟨0xF050, 1, 4, .ro, 0x0, 0x0, false⟩,
  ⟨0xF054, 1, 4, .ro, 0x0, 0x0, false⟩,
  ⟨0xF058, 1, 4, .ro, 0x0, 0x0, false⟩,
  ⟨0xF05C, 1, 4, .ro, 0x0, 0x8401, false⟩,
  ⟨0xF060, 1, 4, .ro, 0x0, 0x0, false⟩,
  ⟨0xF064, 1, 4, .ro, 0x0, 0x0, false⟩,
  ⟨0xF080, 8, 4, .ro, 0x0, 0x0, false⟩]

/-- The rows of page AUTH. -/
def rowsAUTH : List RegRow := [
  ⟨0x10040, 1, 4, .ro, 0x0, 0x0, false⟩,
  ⟨0x10044, 1, 4, .ro, 0x0, 0x0, false⟩,
  ⟨0x10048, 1, 4, .ro, 0x0, 0x0, true⟩,
  ⟨0x1004C, 1, 4, .ro, 0x0, 0x0, true⟩,
  ⟨0x10050, 1, 4, .ro, 0x0, 0x0, true⟩,
  ⟨0x10054, 1, 4, .wo, 0x0, 0x0, false⟩,
  ⟨0x10058, 1, 4, .ro, 0x0, 0x0, true⟩,
  ⟨0x1005C, 1, 4, .rw, 0x107FF, 0x0, true⟩,
  ⟨0x10060, 1, 4, .rw, 0xFFFFFFFF, 0x0, true⟩,
  ⟨0x10064, 1, 4, .ro, 0x0, 0x0, true⟩,
  ⟨0x10068, 1, 4, .ro, 0x0, 0x0, true⟩,
  ⟨0x1006C, 1, 4, .ro, 0x0, 0x0, true⟩,
  ⟨0x10070, 1, 4, .ro, 0x0, 0x0, true⟩,
  ⟨0x10074, 1, 4, .ro, 0x0, 0x0, false⟩,
  ⟨0x10078, 1, 4, .rc, 0x0, 0x0, false⟩,
  ⟨0x10080, 8, 4, .ro, 0x0, 0x0, true⟩]

/-- The rows of page PASS. -/
def rowsPASS : List RegRow := [
  ⟨0x11040, 1, 4, .rw, 0x3FF, 0x17B, false⟩,
  ⟨0x11044, 1, 4, .ro, 0x0, 0x0, false⟩,
  ⟨0x11048, 1, 4, .ro, 0x0, 0x0, false⟩,
  ⟨0x1104C, 1, 4, .ro, 0x0, 0x0, false⟩,
  ⟨0x11050, 1, 4, .rw, 0xFFFF, 0x64, false⟩,
  ⟨0x11054, 1, 4, .ro, 0x0, 0x0, false⟩,
  ⟨0x11058, 1, 4, .ro, 0x0, 0x0, false⟩,
  ⟨0x1105C, 1, 4, .rc, 0x0, 0x0, false⟩,
  ⟨0x11060, 1, 4, .rc, 0x0, 0x0, false⟩,
  ⟨0x11064, 1, 4, .ro, 0x0, 0x0, false⟩,
  ⟨0x11068, 1, 4, .rw, 0x0, 0x0, false⟩,
  ⟨0x1106C, 1, 4, .ro, 0x0, 0x0, false⟩,
  ⟨0x11070, 1, 4, .rw, 0xFFF, 0x0, true⟩,
  ⟨0x11074, 1, 4, .ro, 0x0, 0x0, true⟩,
  ⟨0x11078, 1, 4, .ro, 0x0, 0x0, false⟩,
  ⟨0x1107C, 1, 4, .ro, 0x0, 0x0, false⟩,
  ⟨0x11080, 8, 4, .ro, 0x0, 0x0, true⟩]

/-- The rows of page SPR0. -/
def rowsSPR0 : List RegRow := [
  ⟨0x12040, 1, 4, .ro, 0x0, 0x4, false⟩,
  ⟨0x12044, 1, 4, .ro, 0x0, 0x0, false⟩,
  ⟨0x12048, 1, 4, .rc, 0x0, 0x0, false⟩,
  ⟨0x1204C, 1, 4, .ro, 0x0, 0x0, false⟩,
  ⟨0x12050, 1, 4, .ro, 0x0, 0x0, false⟩]

/-- The rows of page SPR1. -/
def rowsSPR1 : List RegRow := [
  ⟨0x13040, 1, 4, .ro, 0x0, 0x4, false⟩,
  ⟨0x13044, 1, 4, .ro, 0x0, 0x0, false⟩,
  ⟨0x13048, 1, 4, .rc, 0x0, 0x0, false⟩,
  ⟨0x1304C, 1, 4, .ro, 0x0, 0x0, false⟩,
  ⟨0x13050, 1, 4, .ro, 0x0, 0x0, false⟩]

/-- The rows of page COL. -/
def rowsCOL : List RegRow := [
  ⟨0x14040, 1, 4, .ro, 0x0, 0x7, false⟩,
  ⟨0x14044, 1, 4, .rc, 0x0, 0x0, false⟩,
  ⟨0x14048, 1, 4, .ro, 0x0, 0x0, false⟩]

/-- The rows of page CWIN. -/
def rowsCWIN : List RegRow := [
  ⟨0x20040, 1, 4, .rw, 0xFFF, 0x0, true⟩,
  ⟨0x20044, 1, 4, .rw, 0xFFF, 0x0, true⟩,
  ⟨0x20048, 1, 4, .rw, 0xFFF, 0x0, true⟩,
  ⟨0x2004C, 1, 4, .ro, 0x0, 0x0, true⟩,
  ⟨0x20050, 1, 4, .ro, 0x0, 0x0, true⟩,
  ⟨0x20054, 1, 4, .ro, 0x0, 0x0, true⟩,
  ⟨0x20058, 1, 4, .ro, 0x0, 0x0, true⟩]

/-- The rows of the Cairn page that every kind has (offsets); the kind-specific words stand in `rowsCairnKind`. -/
def rowsCairn : List RegRow := [
  ⟨0x100, 1, 4, .ro, 0x0, 0x0, false⟩,
  ⟨0x104, 1, 4, .ro, 0x0, 0x0, false⟩,
  ⟨0x108, 1, 4, .ro, 0x0, 0x0, false⟩,
  ⟨0x10C, 1, 4, .ro, 0x0, 0x0, false⟩,
  ⟨0x110, 1, 4, .ro, 0x0, 0x0, false⟩,
  ⟨0x114, 3, 4, .ro, 0x0, 0x0, false⟩,
  ⟨0x120, 1, 4, .rw, 0x3FF03, 0x0, false⟩,
  ⟨0x124, 1, 4, .ro, 0x0, 0x0, false⟩,
  ⟨0x128, 1, 4, .ro, 0x0, 0x0, false⟩,
  ⟨0x130, 1, 4, .rw, 0xF, 0x0, true⟩,
  ⟨0x134, 1, 4, .rw, 0xFFFFFE00, 0x0, true⟩,
  ⟨0x138, 1, 4, .rw, 0xFFFFFFFF, 0x0, true⟩,
  ⟨0x13C, 1, 4, .ro, 0x0, 0x0, true⟩,
  ⟨0x40, 2, 36, .rw, 0x1FF, 0x0, false⟩,
  ⟨0x44, 2, 36, .rw, 0xFFFFFFFF, 0x0, false⟩,
  ⟨0x48, 2, 36, .rw, 0xFFFFFFFF, 0x0, false⟩,
  ⟨0x4C, 2, 36, .rw, 0xFFFFFFFF, 0x0, false⟩,
  ⟨0x50, 2, 36, .rw, 0xFFFFFFFF, 0x0, false⟩,
  ⟨0x54, 2, 36, .rw, 0xFFFFFFFF, 0x0, false⟩,
  ⟨0x58, 2, 36, .rw, 0xFFFFFFFF, 0x0, false⟩,
  ⟨0x5C, 2, 36, .rw, 0xFFFFFFFF, 0x0, false⟩,
  ⟨0x60, 2, 36, .rw, 0xFFFFFFFF, 0x0, false⟩,
  ⟨0x88, 1, 4, .rw, 0x7F, 0x0, false⟩,
  ⟨0x8C, 1, 4, .rw, 0xFFFFFFFF, 0x0, false⟩,
  ⟨0x90, 1, 4, .rw, 0xFFFFFFFF, 0x0, false⟩,
  ⟨0x94, 1, 4, .rw, 0xFFFFFFFF, 0x0, false⟩,
  ⟨0x98, 1, 4, .rw, 0xFFFFFFFF, 0x0, false⟩,
  ⟨0x9C, 4, 4, .rw, 0xFF, 0x0, false⟩,
  ⟨0xAC, 4, 4, .rw, 0xFFFFFFFF, 0x0, false⟩,
  ⟨0xBC, 4, 4, .rw, 0xFFFFFFFF, 0x0, false⟩,
  ⟨0xCC, 1, 4, .rw, 0xFF7FFF, 0x0, false⟩,
  ⟨0xD0, 1, 4, .rw, 0xFF7FFF, 0x0, false⟩,
  ⟨0xD4, 1, 4, .ro, 0x0, 0x0, false⟩,
  ⟨0xD8, 1, 4, .rc, 0x0, 0x0, false⟩]

/-- Every row of the hub pages. -/
def hubRows : List RegRow := rowsSUM ++ rowsRDG ++ rowsCRS ++ rowsPRB0 ++ rowsPRB1 ++ rowsPRB2 ++ rowsPRB3 ++ rowsCOU ++ rowsCEN ++ rowsECH ++ rowsSCR ++ rowsFLT ++ rowsWCH ++ rowsTAL ++ rowsLCY ++ rowsAUTH ++ rowsPASS ++ rowsSPR0 ++ rowsSPR1 ++ rowsCOL ++ rowsCWIN

end Sys2Proof.Machine
end

