-- ==== Sys2Proof/Machine/Types.lean ====
section
/-! DEFINITION. Machine/Types.lean: the plain data the parts of the hub exchange and keep: events and fault records, scheduled
actions, queue entries, commands between masters and the hub. -/

namespace Sys2Proof.Machine

/-- The named events of the hub (10 R336 and the event tables of the chapters); `fault` stands for every fault record. -/
inductive EvName
  | seqWrap | evtDrop | accessDenied | exclRequest | exclEnd | timeLoad | alignChange | slewEnd | lateAction
  | cut | cutDone | cutRefused | resumeSched | resumed | captureDone | divertFull | cutPartial | xcutRefused
  | step | stepRefused | stepDone | deposit
  | transition | actionRefused | stopAfterSet | stopAfterCancel | traceAct | dumpReq | pitchStart | pinPulse | crsRun
  | crsRestoreMiss
  | engStart | engStop | pitchLog | fenceReq | remapReq
  | dumpOpen | dumpRefused | captureWait | dumpClosed | refSet | drainStart | drainEnd | release | releaseRefused
  | cenDone | echoCaptured | echoDone
  | traceState | traceLevel | traceGap | spillFull | traceDrainEnd
  | fence | fenceDone | fenceRefused | unfence | ctxFailed | ucAcked | stormRearm | serviceChange
  | remap | remapCancel | droopEnter | droopExit | vfReq | vfDefer | vfSuperseded | vfDone | pmMeasureOnly
  | dispatchSummary | batchCancel | staleFirst
  | talusCommit | persistSet | persistClear | trackFull | ledgerClear
  | lcyStart | lcyCommit | lcyDone | lcyResume | tokenConsumed | provisioned | certAccepted | challengeIssued | jexGranted
  | authRefused | grantsEnded | epochBurned
  | sessionUp | sessionEnd | rateChange | trigIn | leadChange | discoveryDone | hubJoined | hubLeft
  | hubReady | warmReset | warmDone | softReset
  | own | ctx | dormant | resume
  | fault
  deriving DecidableEq, Repr

/-- One value of an event's Carries column: a value of at most 32 bits, or a 64-bit value (two payload words, 10 R336). -/
inductive EvVal
  | w (n : Nat)
  | d (n : Nat)
  deriving DecidableEq, Repr

/-- The 32-bit words of Carries values: each takes the fewest that hold it, a 64-bit value two, low first (10 R336). -/
def EvVal.words : EvVal → List Nat
  | .w n => [n % 2 ^ 32]
  | .d n => [n % 2 ^ 32, n / 2 ^ 32 % 2 ^ 32]

/-- What a fault report adds to an event: the fields of the fault record (11 R378) that its source fixes. -/
structure FltInfo where
  page : Nat
  bit : Nat
  cls : Nat
  react : Nat
  rflags : Nat
  count : Nat
  tenant : Nat
  ctx : Nat
  causeSeq : Nat
  detail : Nat
  detail2 : Nat
  deriving DecidableEq, Repr

/-- An event on its way to the arbiter: its name, 13-bit source (01 R29), Ridgeline stamp, Carries values, fault fields for a
fault, whether it belongs to a secure or privileged context (10 R340), and the Cairn's own tag of the report. -/
structure Ev where
  name : EvName
  src : Nat
  stamp : Nat
  data : List EvVal
  flt : Option FltInfo := none
  sec : Bool := false
  tag : Nat := 0
  deriving DecidableEq, Repr

/-- A numbered event. -/
structure NumEv where
  seq : Nat
  epoch : Nat
  ev : Ev
  deriving DecidableEq, Repr

/-- A fault record of the collector (11 R378). -/
structure FltRec where
  seq : Nat
  epoch : Nat
  stamp : Nat
  src : Nat
  info : FltInfo
  deriving DecidableEq, Repr

/-- The kinds of scheduled action a leaf can hold (03 R93; 04, 05, 08, 10). -/
inductive ActKind
  | cutStop | cutGlance | resume | stepRelease | stepClose | traceStart | traceStop | shadowLoad
  deriving DecidableEq, Repr

/-- A scheduled action pending at a leaf: its kind, its T and the number it belongs to (cut ID, step number or mask). -/
structure PendAct where
  kind : ActKind
  t : Nat
  arg : Nat
  deriving DecidableEq, Repr

/-- An entry of a Cairn's event queue (01 R18): sent to the Spur, and numbered by the arbiter, or not yet. -/
structure QEnt where
  ev : Ev
  sent : Bool
  numbered : Bool
  deriving DecidableEq, Repr

/-- A fault report a Cairn holds because its queue is full (11 R358): one for each source bit. -/
structure PendFlt where
  info : FltInfo
  stamp : Nat
  deriving DecidableEq, Repr

/-- The coalescing interval of one CE source (11 R358). -/
structure CeCoal where
  bit : Nat
  start : Nat
  info : FltInfo
  count : Nat
  deriving DecidableEq, Repr

end Sys2Proof.Machine
end

