-- ==== Sys2Proof/Machine/Base.lean ====
section
/-! DEFINITION. Machine/Base.lean: the parts of the state that the hub's tree, its register space, the time base, the cut and
step schedulers and the Cairns hold, beside their registers (01 to 05, 11). -/

namespace Sys2Proof.Machine

/-- A class 0 message Summit has issued (01 R12; 03 R93): what it orders, its T, the cut ID, step number or mask it carries, and
for a step T_d and TRIG_CLOSE in `arg2`. -/
structure Msg where
  kind : ActKind
  t : Nat
  arg : Nat
  arg2 : Nat
  deriving DecidableEq, Repr

/-- One access of a master to a CWIN aperture, in flight or held at the arbiter (02 R65): its address, the Cairn and page offset
selected when it won arbitration, the Spur it went to, the code with which it will complete where that is decided, and its place in
the order in which class 2 accesses of all agents arrive (01 R10). -/
structure ApAcc where
  master : Master
  addr : Nat
  cairn : Nat
  off : Nat
  write : Bool
  val : Nat
  t0 : Nat
  spur : Nat
  fate : Option Nat
  no : Nat
  deriving DecidableEq, Repr

/-- What a master last saw of the register space: completion code (02 R48) and read data. -/
structure Resp where
  code : Nat
  data : Nat
  deriving DecidableEq, Repr

/-- What Nynil keeps per master beside the banked registers: the captured _HI value and the held _LO write (02 R46), whether a
RIGHTS error has raised ACCESS_DENIED since SUM_ERR was read (R61), and the last completion. -/
structure MstSt where
  capHi : Option (Nat × Nat)
  heldLo : Option (Nat × Nat)
  denied : Bool
  resp : Resp
  deriving DecidableEq, Repr

/-- The mirrored entry of a Cairn in the other Spur's table (01 R20). -/
structure MirEnt where
  present : Bool
  dormant : Bool
  fenced : Bool
  window : Nat
  unacked : Nat
  deriving DecidableEq, Repr

/-- Summit's arbiter, the Spurs and Col beside their registers (01): the internal sources' inputs; each Spur's FIFO, what the Spur holds
for it while it has no room (R30, R32), and the hub cycle of its last entry with the entries of that cycle (R30); the next message
number and the messages under their numbers; the actions pending at every leaf; the time of each Spur's last liveness flit; the Spur
that is taking over, when the other was lost and whether its SPUR_LOST is numbered (R22); the mirrored tables and the changes still to
be sent (R20); the accesses in flight, those held at the arbiter and the next place in arrival order (R10); what is kept per master;
the time of the last Pass access; whose turn the round robin of 02 R70 has and its grants of this turn. -/
structure SumSt where
  intq : List Ev
  fifo0 : List Ev
  fifo1 : List Ev
  wait0 : List Ev
  wait1 : List Ev
  in0 : Nat × Nat
  in1 : Nat × Nat
  msgNo : Nat
  msgs : SMap (Option Msg)
  sched : List PendAct
  live0 : Nat
  live1 : Nat
  takeover : Option Nat
  lostT : Nat
  lostNum : Bool
  mirror : SMap MirEnt
  mirPend0 : List Nat
  mirPend1 : List Nat
  aps : List ApAcc
  held : List ApAcc
  arrNo : Nat
  passM : MstSt
  hostM : MstSt
  lastPass : Nat
  rrTurn : Master
  rrUsed : Nat
  deriving DecidableEq, Repr

/-- A Spur's calibration sweep (03 R91): the next leaf's index in its set, when its slot falls due, and whether every leaf of
the set has had its slot in this sweep. -/
structure Sweep where
  pos : Nat
  next : Nat
  full : Bool
  deriving DecidableEq, Repr

/-- Ridgeline beside its registers (03): the master counter; whether the PLL has locked; ticks since power-up; the last accepted
epoch's edge, tick and interval N; whether TSYNC_LOST, REFCLK_LOST has been raised since it; whether the next epoch is free of the
checks of R80; |D| ≤ 2; glitches of the last 25,000 tk; the last tick of bad REFCLK; slew left; the tick after a slew point that
advanced by 0; the sweeps; leaves to retry; leaves whose LEAF_TIME has been raised; the one-way delay that each leaf's last good
calibration measured, which is the offset its Spur gives it (R90 to R92); how far the earlier of the two values that a half's leaves
present lies behind the master (R88; log entry 17). -/
structure RdgSt where
  now : Nat
  running : Bool
  raw : Nat
  lastE : Option Nat
  lastRaw : Nat
  interval : Nat
  tsyncLost : Bool
  refLost : Bool
  checkOff : Bool
  offOk : Bool
  glitches : List Nat
  refBad : Nat
  slewRem : Int
  skipTick : Bool
  sweep0 : Sweep
  sweep1 : Sweep
  failing : List Nat
  leafTime : List Nat
  delay : SMap (Option Nat)
  lag0 : Nat
  lag1 : Nat
  deriving DecidableEq, Repr

/-- A cut or resume Summit has scheduled and not finished (04 R118 to R123): its kind, cut ID, T, requester, whether its message
is issued and its number, the Cairns whose report their Spur holds, those reported missing, those dormant at T that have come up
since (R137), and which Spurs have sent their aggregate. -/
structure CutJob where
  kind : ActKind
  id : Nat
  t : Nat
  src : Nat
  xdev : Bool
  issued : Bool
  msg : Nat
  reported : List Nat
  missing : List Nat
  woken : List Nat
  agg0 : Bool
  agg1 : Bool
  deriving DecidableEq, Repr

/-- A page of a divert set (04 R129): the Cairn of its slice or BMU, and its page number: in the slice, or on the device. -/
structure PageId where
  cairn : Nat
  page : Nat
  deriving DecidableEq, Repr

/-- A write held by write-divert (04 R130): the page and what it writes. -/
structure HeldWr where
  pg : PageId
  addr : Nat
  bytes : List Byte
  deriving DecidableEq, Repr

/-- A cross-device request a hub holds while its links are down (15 R487): its KIND and requester. -/
structure XReq where
  kind : Nat
  src : Nat
  deriving DecidableEq, Repr

/-- A cross-device cut or resume as the lead hub sends it to its members (04 R138, R142): its KIND, T and cut ID. -/
structure XMsg where
  kind : Nat
  t : Nat
  id : Nat
  deriving DecidableEq, Repr

/-- The cut scheduler beside its registers (04): the jobs; whether a STOP is in effect; Cairns reported missing at the last cut;
the capture in progress, if any (its cut ID, whether its cut or load is done, whether it was abandoned), whether a DIVERT_FULL escalated it, the epoch of the last CUT event, the uncaptured pages, the
two divert queues, the held writes, pages captured by divert and in the background, pages lost, Cairns whose HELD is 1; whether writes
are held under R134; pages that were asked for while their queue was full (05 R172); the position map as it stood at the STOP's first cut
edge (05 R151); remote hubs that have yet to answer a cross-device cut and this hub's cut ID of it, whether this hub refused one, the
code and, where it was not aligned, the RDG_STAT that it answered with (03 R100), the requests it has forwarded to the lead hub, and
the last cut or resume that it has sent its members as lead (R138, R142). -/
structure CutSt where
  jobs : List CutJob
  stop : Bool
  noAck : List Nat
  cap : Bool
  capId : Nat
  capReady : Bool
  capAband : Bool
  esc : Bool
  epoch : Nat
  pages : List PageId
  queue0 : List PageId
  queue1 : List PageId
  held : List HeldWr
  capDivert : Nat
  capBack : Nat
  lost : Nat
  heldIds : List Nat
  escHold : Bool
  asked : List PageId
  map : SMap (Option Nat)
  xWait : List Nat
  xId : Nat
  xRefused : Bool
  xAns : Nat
  xStat : Nat
  xFwd : List XReq
  xSent : Option XMsg
  deriving DecidableEq, Repr

/-- A page entry of the Cairn record (08 R268); DATA_OFF as a position in the log, not yet reduced modulo the data area. -/
structure PageEnt where
  ord : Nat
  cairn : Nat
  pclass : Nat
  disp : Nat
  census : Bool
  diverted : Bool
  sec : Bool
  memUc : Bool
  index : Nat
  off : Nat
  len : Nat
  digest : Nat
  data : Nat
  deriving DecidableEq, Repr

/-- A link record (08 R269). -/
structure LinkRec where
  peerDev : Nat
  peerCairn : Nat
  status : Nat
  tx : Nat
  ack : Nat
  rx : Nat
  inFirst : Nat
  inCount : Nat
  deriving DecidableEq, Repr

/-- A chunk (08 R261, R262): its number, its data range in the log, the time of its first page entry, its page entries, the units
whose entry joins it, whether the link records do, and the commit steps acknowledged. -/
structure Chunk where
  n : Nat
  start : Nat
  fin : Nat
  first : Nat
  pages : List PageEnt
  units : List Nat
  links : Bool
  step : Nat
  deriving DecidableEq, Repr

/-- A slot (08 R266): the values of its header; the profile word and the page list (page number, format) read at acceptance; the
reference bank its pages are compared with; and its committed chunks. -/
structure Slot where
  st : Nat
  gen : Nat
  id : Nat
  t : Nat
  seq : Nat
  epoch : Nat
  escT : Nat
  cutId : Nat
  kind : Nat
  xdev : Bool
  after : Bool
  prof : Nat
  profW : Nat
  stepNo : Nat
  devId : Nat
  stepEnd : Nat
  refT : Nat
  flags : Nat
  committed : Nat
  start : Nat
  fin : Nat
  released : Nat
  ack : Nat
  expected : Nat
  stored : Nat
  same : Nat
  zero : Nat
  lost : Nat
  redacted : Nat
  rawGr : Nat
  storedGr : Nat
  capt : Nat
  dorm : Nat
  noAck : Nat
  links : Nat
  lcy : Nat
  rights : Nat
  plist : List (Nat × Nat)
  doneT : Nat
  closeT : Nat
  copy : Nat
  ref : Option Nat
  chunks : List Chunk
  deriving DecidableEq, Repr

/-- A drain of a slot through Pass (08 R273, R274): the last chunk sent, whether the first and the final header have been sent,
and whether it is paused by a warm reset. -/
structure Drain where
  slot : Nat
  sent : Nat
  head : Bool
  tail : Bool
  paused : Bool
  deriving DecidableEq, Repr

/-- A unit's part in the step under way (05 R149 to R158): its latched mode (1 HOLD, 2 STEP, 3 FOLLOW), count and NET, the step
units it has completed, whether it has reported its release, reached its count, ended incomplete or frozen, whether it is a
member of a stepped engine, and whether a resume has taken it out of the step (R162). -/
structure StepUnit where
  cairn : Nat
  mode : Nat
  count : Nat
  net : Nat
  done : Nat
  released : Bool
  reached : Bool
  incomplete : Bool
  frozen : Bool
  eng : Bool
  ended : Bool
  deriving DecidableEq, Repr

/-- The step scheduler beside its registers (05): the step under way with its T_s, T_d and T_e, whether its message and a waiting
close are issued, the Cairns reported missing, the units, for each core whose engine's first member has had the step message whether
the engine is refused (R152), and the aggregates each Spur has sent. -/
structure StepSt where
  active : Bool
  tS : Nat
  tD : Nat
  tE : Option Nat
  trigClose : Bool
  issued : Bool
  closeWait : Bool
  missing : List Nat
  units : List StepUnit
  engRef : List (Nat × Bool)
  rel0 : Bool
  rel1 : Bool
  done0 : Bool
  done1 : Bool
  frz0 : Bool
  frz1 : Bool
  deriving DecidableEq, Repr

/-- An output's moving parts in a Cairn (06 R184): the tick of the edge of its last raise (log entry 12), and whether a raise is due. -/
structure OutSt where
  last : Option Nat
  level : Bool
  deriving DecidableEq, Repr

/-- A Cairn and the unit it sits in, as far as Nynil reads or writes them. Of its leaf (03 R87 to R92): whether it is valid, the value
and the offset that it was given, and which of its half's two values it presents. -/
structure Cairn where
  powered : Bool
  regs : SMap Word
  leafValid : Bool
  leafFrom : Nat
  leafOff : Nat
  leafLag : Nat
  leafFails : Nat
  leafFault : Bool
  acts : List PendAct
  due : List PendAct
  rxMsgs : List Nat
  queue : List QEnt
  nextTag : Nat
  dropped : Nat
  pendFlt : List PendFlt
  ceCoal : List CeCoal
  fencedHere : Bool
  noAnswer : Bool
  views : SMap (Option Byte)
  seed : Nat
  ucWords : List Nat
  endT : Nat
  dormT : Nat
  asleep : Bool
  out0 : OutSt
  out1 : OutSt
  ecTerm : Nat
  echoBusy : Bool
  flowRun : Bool
  flow : List (List Nat)
  flowLost : Nat
  icount : Nat
  flowLast : Nat
  deriving DecidableEq, Repr

/-- A record this hub has sent a peer hub of a link that both serve (08 R264): the peer's device ID, the local Cairn ID, and TX_SEQ, ACK_SEQ
and RX_SEQ as captured. -/
structure LinkOut where
  peer : Nat
  cairn : Nat
  tx : Nat
  ack : Nat
  rx : Nat
  deriving DecidableEq, Repr

/-- Couloir beside its registers (08): the slots; the slot being captured; the next dump ID; the requester whose CUT event will
name the dump; the open chunk and the chunks closed and not committed; the next granule of the log; image bytes still reserved;
the Cairns whose shadow is loaded; state pages in each Spur's staging buffer; state pages lost with a Spur; the end of the capture;
whether the final chunk is closed; links without a record and the records; when the exchange began; the time at which the capture
begins; the Cairns that have taken a CURRENT dump's load; CAPTURE_WAIT raised; the drain; the units whose entry has joined a chunk; the reference's
generation and copy; the Cairns as they stood at the cut edge or the load, and those reported missing at the cut; the copies of headers and
of the reference record in which an uncorrectable word is known; the link records sent to the peers of the last cross-device cut. -/
structure CouSt where
  slot0 : Slot
  slot1 : Slot
  slot2 : Slot
  slot3 : Slot
  cur : Option Nat
  nextId : Nat
  openCh : Option Chunk
  closing : List Chunk
  head : Nat
  resBytes : Nat
  loaded : List Nat
  stage0 : List Nat
  stage1 : List Nat
  stateLost : List Nat
  written : List Nat
  capEnd : Bool
  lastClosed : Bool
  linkWait : List Nat
  linkRecs : SMap (Option LinkRec)
  linkT : Nat
  capT : Nat
  loadSeen : List Nat
  waiting : Bool
  drain : Option Drain
  unitDone : List Nat
  refGen : Nat
  refCopy : Nat
  shots : SMap (Option Cairn)
  missed : List Nat
  ucMeta : List Nat
  linkOut : List LinkOut
  deriving DecidableEq, Repr

/-- The Spur's retained copy for a Cairn (06 R185; 11 R373): Crest block, and whether the copy was started at a takeover. -/
structure Retain where
  crest : SMap Word
  fresh : Bool
  deriving DecidableEq, Repr

/-- A fence in Summit's records (11 R372, R373, R515): its FENCE event is numbered (`fenced`); it is decided and FENCE_DONE is not
yet in (`pending`); AWAIT_WAKE; ENGINE, and the unit that its FENCE event names; CAUSE and cause sequence number; the FENCE event's
number and time, or the time of its application at wake; the order has reached the Cairn; the drain has ended and FENCE_DONE is
raised; it was applied at a wake and its FENCE_DONE waits for the leaf; FENCE_STUCK has been raised. -/
structure FenceRec where
  fenced : Bool
  pending : Bool
  awaitWake : Bool
  engine : Bool
  lead : Nat
  cause : Nat
  causeSeq : Nat
  seq : Nat
  since : Nat
  ordered : Bool
  drained : Bool
  wake : Bool
  stuck : Bool
  deriving DecidableEq, Repr

/-- The fault collector beside its registers (11): the class latches, the CE ring and FLT_HIST by slot, the fences by Cairn ID, the
FATAL latch whose record waits for a number (R367), HEARTBEAT's level, when it next changes, the sequencers (0 event arbiter, 1 fault
collector, 2 cut scheduler, 3 authorisation engine, 4 Talus controller, 5 port controller) that have passed a check point since its
last change, when each last did, and the cores whose engine is fenced. -/
structure FltSt where
  ce : Option FltRec
  uc : Option FltRec
  fatal : Option FltRec
  ring : SMap (Option FltRec)
  hist : SMap (Option FltRec)
  fences : SMap FenceRec
  direct : Bool
  heartbeat : Bool
  hbNext : Nat
  checked : List Nat
  checkT : SMap Nat
  engFenced : List Nat
  deriving DecidableEq, Repr

/-- The collector at VDD_HUB power-up. -/
def FltSt.init : FltSt := ⟨none, none, none, [], [], [], false, false, 1250000, [], [], []⟩

/-- A Cairn whose domain is down: it holds no state (01 R17). -/
def Cairn.off : Cairn :=
  { powered := false, regs := [], leafValid := false, leafFrom := 0, leafOff := 0, leafLag := 0, leafFails := 0, leafFault := false, acts := [], due := [], rxMsgs := [],
    queue := [], nextTag := 0, dropped := 0, pendFlt := [], ceCoal := [], fencedHere := false, noAnswer := false,
    views := [], seed := 0, ucWords := [], endT := 0, dormT := 0, asleep := false,
    out0 := ⟨none, false⟩, out1 := ⟨none, false⟩, ecTerm := 0, echoBusy := false, flowRun := false, flow := [], flowLost := 0, icount := 0,
    flowLast := 0 }

/-- A FREE slot. -/
def Slot.free : Slot :=
  { st := 0, gen := 0, id := 0, t := 0, seq := 0, epoch := 0, escT := 0, cutId := 0, kind := 0, xdev := false, after := false,
    prof := 0, profW := 0, stepNo := 0, devId := 0, stepEnd := 0, refT := 0, flags := 0, committed := 0, start := 0, fin := 0,
    released := 0, ack := 0, expected := 0, stored := 0, same := 0, zero := 0, lost := 0, redacted := 0, rawGr := 0, storedGr := 0,
    capt := 0, dorm := 0, noAck := 0, links := 0, lcy := 0, rights := 0, plist := [], doneT := 0, closeT := 0, copy := 0,
    ref := none, chunks := [] }

/-- Couloir with no dump. -/
def CouSt.init : CouSt :=
  { slot0 := Slot.free, slot1 := Slot.free, slot2 := Slot.free, slot3 := Slot.free, cur := none, nextId := 1, openCh := none,
    closing := [], head := 0, resBytes := 0, loaded := [], stage0 := [], stage1 := [], stateLost := [], written := [],
    capEnd := false, lastClosed := false, linkWait := [], linkRecs := [], linkT := 0, capT := 0, loadSeen := [], waiting := false, drain := none,
    unitDone := [], refGen := 0, refCopy := 0, shots := [], missed := [], ucMeta := [],
    linkOut := [] }

/-- No step under way. -/
def StepSt.init : StepSt :=
  { active := false, tS := 0, tD := 0, tE := none, trigClose := false, issued := false, closeWait := false, missing := [],
    units := [], engRef := [], rel0 := false, rel1 := false, done0 := false, done1 := false, frz0 := false, frz1 := false }

/-- The cut scheduler with nothing scheduled. -/
def CutSt.init : CutSt :=
  { jobs := [], stop := false, noAck := [], cap := false, capId := 0, capReady := false, capAband := false, esc := false, epoch := 0, pages := [],
    queue0 := [], queue1 := [], held := [], capDivert := 0, capBack := 0, lost := 0, heldIds := [], escHold := false, asked := [],
    map := [], xWait := [], xId := 0, xRefused := false, xAns := 0, xStat := 0, xFwd := [], xSent := none }

/-- No fence. -/
def FenceRec.none : FenceRec := ⟨false, false, false, false, 0, 0, 0, 0, 0, false, false, false, false⟩

/-- A mirrored entry never sent. -/
def MirEnt.none : MirEnt := ⟨false, false, false, 0, 0⟩

/-- No retained copy. -/
def Retain.none : Retain := ⟨[], false⟩

end Sys2Proof.Machine
end

