-- ==== Sys2Proof/Machine/Parts.lean ====
section
/-! DEFINITION. Machine/Parts.lean: the parts of the state that the watch function, the job dispatcher, Census, Echo and the Pitch
engines hold beside their registers (07, 09, 12). -/

namespace Sys2Proof.Machine

/-- A remap of a core that is pending (12 R390, R392): the position, the array that serves it, the array that will, its CAUSE, the
fault's sequence number for CAUSE FAULT, whether B has passed and the gate is closed, and whether the Spur applied it at wake. -/
structure Remap where
  core : Nat
  pos : Nat
  from_ : Nat
  to_ : Nat
  cause : Nat
  seq : Nat
  gated : Bool
  synth : Bool
  deriving DecidableEq, Repr

/-- A region controller's droop and change sequence (12 R397 to R399): whether a response is active and since when, the last
DROOP_EXIT, the change in progress and the one deferred (kind, target, time of request), judged intervals beyond the limit in a row,
whether a response fell in the present interval, and measurement-only mode. -/
structure VfSt where
  droop : Bool
  droopT : Nat
  lastExit : Option Nat
  change : Option (Nat × Nat × Nat)
  defer : Option (Nat × Nat × Nat)
  run : Nat
  droopIn : Bool
  measure : Bool
  deriving DecidableEq, Repr

/-- A region controller at rest. -/
def VfSt.init : VfSt := ⟨false, 0, none, none, none, 0, false, false⟩

/-- A BMU's dispatch counts of the present interval, when it began, and cancelled generations (tag, tenant, context) whose first
stale answer has not come (12 R401 to R403). -/
structure DispSt where
  tie : Nat
  ovf : Nat
  skip : Nat
  dup : Nat
  stale : Nat
  start : Nat
  tags : List (Nat × Nat × Nat)
  deriving DecidableEq, Repr

/-- A BMU with nothing counted. -/
def DispSt.init : DispSt := ⟨0, 0, 0, 0, 0, 0, []⟩

/-- The watch function beside its registers (12): the maps (key 128 · core + position; none where a position's own array serves
it), the retired arrays, the lag entries (LAG and VALID at bit 16), WCH_OP_TK and WCH_BLOCKS per core, pending remaps, arrays that
wait for a remap of their core to end (with the fault's sequence number), fences that follow a numbered REMAP event, the engines'
copies of WCH_LAG_SEL, the governor's baseline, its windows below LOW in a row, its blocks at the start of the window and when the
window began, the region controllers and the BMUs, and the positions (key 128 · core + position) whose serving array has changed since their core's last delivered block. -/
structure WchSt where
  map : SMap (Option Nat)
  retired : List Nat
  lag : SMap Nat
  opTk : SMap Nat
  blocks : SMap Nat
  pend : List Remap
  waiting : List (Nat × Nat)
  fenceAfter : List (Nat × Nat × Nat)
  selEng : SMap Nat
  baseSample : Nat
  baseMin : Nat
  lowRun : Nat
  winBlocks : Nat
  winT : Nat
  vf : SMap VfSt
  disp : SMap DispSt
  moved : List Nat
  deriving DecidableEq, Repr

/-- The watch function at VDD_HUB power-up. -/
def WchSt.init : WchSt :=
  ⟨[], [], [], [], [], [], [], [], [], 0, 0, 0, 0, 0, [], [], []⟩

/-- Where an Echo job stands (09 R309 to R311): armed, capturing, captured; a replay's digest is held with it. -/
inductive EchoPhase
  | armed | capturing | captured
  deriving DecidableEq, Repr

/-- What an Echo job and its core's capture store hold beside its descriptor (09 R306 to R317): the spares, its deadline, the operations the
tap has still to let pass, the captured issue's leaf value, the target's operation count, CFG, SEED and ACC in the order of their spaces,
whether CFG permits relaxed accumulation and names INT32, whether the target was secure, the recorded writes to the operand staging in
order, each with its byte offset, and the output ACC of the target and of each spare that has replayed. -/
structure EchoSt where
  spareA : Nat
  spareB : Nat
  deadline : Nat
  skip : Nat
  phase : EchoPhase
  capT : Nat
  opcnt : Nat
  inputs : List Byte
  relaxed : Bool
  int32 : Bool
  sec : Bool
  stream : List (Nat × List Byte)
  outT : List Byte
  outA : Option (List Byte)
  outB : Option (List Byte)
  deriving DecidableEq, Repr

/-- A job of the dispatcher's table (09 R300; 07 R227): its ID, launcher's source number, recorded rights, time of acceptance,
descriptor, whether it has finished, and then its STATUS and SUMMARY; for Echo what it holds. -/
structure Job where
  id : Nat
  src : Nat
  rights : Nat
  t0 : Nat
  desc : List Nat
  done : Bool
  status : Nat
  summary : Nat
  echo : Option EchoSt
  deriving DecidableEq, Repr

/-- The dispatcher beside its registers (09): the next job ID, the table in order of acceptance, and job ends whose event waits for
the BMUs or the target's Cairn after a warm reset (the Cairn, the event and its values). -/
structure CenSt where
  nextId : Nat
  jobs : List Job
  defer : List (Nat × EvName × List EvVal)
  deriving DecidableEq, Repr

/-- The dispatcher with no job. -/
def CenSt.init : CenSt := ⟨1, [], []⟩

/-- A window access of an engine in flight (07 R218): the register it writes (none for a write), the Cairn, whether it is a view
access, the space, the byte offset or address, W64, the value to write, when it was issued, the Spur it went to, its place in arrival
order (01 R10), the code with which it will complete where that is decided, and whether the recorded set held DUMP_SECURE when it was
issued (R205, R218). -/
structure WinAcc where
  rd : Option Nat
  cairn : Nat
  view : Bool
  space : Nat
  off : Nat
  wide : Bool
  val : Nat
  t0 : Nat
  spur : Nat
  no : Nat
  fate : Option Nat
  sec : Bool
  deriving DecidableEq, Repr

/-- What a Pitch engine waits for (07 R214, R221 to R223). -/
inductive WaitFor
  | time (t : Nat)
  | windows
  | job (id t rd : Nat)
  | chan (ch t rd : Nat)
  deriving DecidableEq, Repr

/-- A Pitch engine beside its registers (07): its wait and when it began, the time of its start or last KICK, its window accesses in
flight, and the holding registers of R46. -/
structure EngSt where
  wait : Option WaitFor
  waitT : Nat
  kickT : Nat
  wins : List WinAcc
  capHi : Option (Nat × Nat)
  heldLo : Option (Nat × Nat)
  chSeen : List Nat
  deriving DecidableEq, Repr

/-- An engine at rest. -/
def EngSt.init : EngSt := ⟨none, 0, 0, [], none, none, []⟩

/-- The Pitch engines and their program memory beside their registers (07): the program memory and the addresses of its uncorrectable words. -/
structure PrbSt where
  eng : SMap EngSt
  pm : SMap Word
  pmUc : List Nat
  deriving DecidableEq, Repr

/-- The engines after power-up: memory of zeros (07 R207). -/
def PrbSt.init : PrbSt := ⟨[], [], []⟩

end Sys2Proof.Machine
end

