-- ==== Sys2Proof/Machine/Stores.lean ====
section
/-! DEFINITION. Machine/Stores.lean: the parts of the state that Crest, Scree, Talus, the authorisation engine, Pass and the resets
hold beside their registers (06, 10, 13 to 16). -/

namespace Sys2Proof.Machine

/-! ### Crest (06) -/

/-- A raise that a Cairn has sent on both paths (06 R184, R188; 01 R12): its message number, channel and source, and whether the
first copy has arrived. -/
structure RaiseFl where
  num : Nat
  ch : Nat
  src : Nat
  first : Bool
  deriving DecidableEq, Repr

/-- A PIN_PULSE under way (06 R196): T_p, WIDTH in units of 10 ns, HB and LANE, and whether T_p has passed. -/
structure Pulse where
  tp : Nat
  width : Nat
  hb : Bool
  lane : Bool
  begun : Bool
  deriving DecidableEq, Repr

/-- Crest beside its registers (06): the next number of a raise, raises in transport, accepted raises (channel, source) that are in
no snapshot yet, the raiser of each pending channel, snapshot bits held while the Crest FIFO was full, the state entered in the last
cycle, the counters to be reset, the ticks at the last evaluation, WHAT of the pending STOP_AFTER, pin pulses, and the ACT_B that the
next hub cycle issues (its code, its parameter and the master value of its transition's cycle, R194). -/
structure CrsSt where
  nextNum : Nat
  flight : List RaiseFl
  wait : List (Nat × Nat)
  raiser : SMap Nat
  held : List (Nat × Nat)
  entered : Option Nat
  rst : Nat
  lastT : Nat
  saWhat : Nat
  pulses : List Pulse
  actB : Option (Nat × Nat × Nat)
  deriving DecidableEq, Repr

/-- Crest at VDD_HUB power-up. -/
def CrsSt.init : CrsSt := ⟨0, [], [], [], [], none, 0, 0, 0, [], none⟩

/-! ### Scree (10) -/

/-- A scheduled trace start or stop (10 R327, R328): its T, mask, recorded rights, FLOW selection (eight words, empty where FLOW is
not named) and requester. -/
structure TrAct where
  start : Bool
  t : Nat
  mask : Nat
  rights : Nat
  flow : List Nat
  src : Nat
  deriving DecidableEq, Repr

/-- A packet in the reorder stage (10 R329): its stamp, place among equal stamps (class and key), TYPE, source bit if it has one,
whether it holds secure content, the GC and absolute target of a FLOW, and its bytes after the header. -/
structure Pkt where
  stamp : Nat
  ord : Nat
  key : Nat
  typ : Nat
  bit : Option Nat
  sec : Bool
  gc : Nat
  target : Nat
  body : List Byte
  deriving DecidableEq, Repr

/-- A block of the hub buffer (10 R332): BLOCK_NO, the bytes after its header, FIRST, SYNCOFF, SEC, DAMAGED, and when it took its
first byte. -/
structure Blk where
  no : Nat
  body : List Byte
  first : Nat
  sync : Nat
  sec : Bool
  dam : Bool
  t : Nat
  deriving DecidableEq, Repr

/-- A trace drain (10 R344): whether it is a copy, the blocks a copy has still to send, the blocks sent and not acknowledged, and
the last acknowledged. -/
structure TrDrain where
  copy : Bool
  todo : List Nat
  sent : List Nat
  acked : Option Nat
  deriving DecidableEq, Repr

/-- Scree beside its registers (10): scheduled starts and stops; the reorder stage; the intervals in which each source bit was set
(bit, T of the start, T of the stop); the FLOW selection in force; units that hold a secure context, by UNIT code, with the stamp
since when; since when the trace has been whole; the block being written, completed blocks in the hub buffer, blocks in the spill
ring (with whether they were written since the trace last started from mask 0); the next BLOCK_NO; the running time; the address
base of each GC; packets lost since level 3 was entered; the last SYNC's multiple; T of the stop whose flush is in progress; the
drain; whether the BMUs are not ready for spill writes. -/
structure ScrSt where
  acts : List TrAct
  stage : List Pkt
  spans : List (Nat × Nat × Option Nat)
  flowOn : List Nat
  secure : SMap (Option Nat)
  contT : Nat
  cur : Option Blk
  buf : List Blk
  ring : List (Nat × Bool)
  nextNo : Nat
  runT : Nat
  bases : SMap Nat
  lostNow : Nat
  lastSync : Nat
  flush : Option Nat
  drain : Option TrDrain
  paused : Bool
  deriving DecidableEq, Repr

/-- Scree with no trace, its next block `n`. -/
def ScrSt.init (n : Nat) : ScrSt := ⟨[], [], [], [], [], 0, none, [], [], n, 0, [], 0, 0, none, none, false⟩

/-! ### Talus (13) -/

/-- A tracked-unit entry (13 R413). -/
structure Trk where
  id : Nat
  pinned : Bool
  fenced : Bool
  retired : Bool
  pUc : Bool
  pCe : Bool
  firstBoot : Nat
  ce : Nat
  uc : Nat
  fatal : Nat
  ceBoot : Nat
  ucBoots : Nat
  ceBoots : Nat
  remaps : Nat
  fences : Nat
  flags : Nat
  lastBoot : Nat
  lastSrc : Nat
  lastStamp : Nat
  deriving DecidableEq, Repr

/-- What an image of the ledger holds (13 R409 to R415): BOOT_CNT, CLEAR_CNT, CLEAR_BOOT, the values of TAL_PERSIST and
TAL_CE_TRACK, BAD_SLOTS, the counters by their byte offset in the image, the tracked-unit table, and the two record rings by index. -/
structure Ledger where
  boot : Nat
  clearCnt : Nat
  clearBoot : Nat
  persistCfg : Nat
  ceTrack : Nat
  bad : Nat
  cnt : SMap Nat
  trk : List Trk
  fences : SMap (List Byte)
  watch : SMap (List Byte)
  deriving DecidableEq, Repr

/-- An image: the ledger with the header fields and GEN of its commit or snapshot. -/
structure TalImg where
  led : Ledger
  gen : Nat
  slot : Nat
  cause : Nat
  t : Nat
  seq : Nat
  epoch : Nat
  lcy : Nat
  deriving DecidableEq, Repr

/-- A commit in progress (13 R418): its image, and whether its TALUS_COMMIT event has been numbered. -/
structure Commit where
  img : TalImg
  numbered : Bool
  deriving DecidableEq, Repr

/-- The Talus controller beside its registers and the MRAM (13): the working copy; milliseconds not yet carried, by the offset of
their counter; uptime likewise; numbered events not yet counted; CE counts of this boot of units without an entry; hub clock ticks at which the next
scheduled commit falls due and at which the last sample was taken; the commit in progress and the causes held; the highest GEN; the
read buffer. -/
structure TalSt where
  work : Ledger
  ms : SMap Nat
  queue : List NumEv
  ceBoot : SMap Nat
  nextDue : Nat
  sampleT : Nat
  commit : Option Commit
  held : List Nat
  gen : Nat
  snap : Option TalImg
  deriving DecidableEq, Repr

/-- An empty ledger, with the reset values of TAL_PERSIST and TAL_CE_TRACK (13 R420). -/
def Ledger.empty : Ledger := ⟨0, 0, 0, 0x27100003, 0x3E8, 0, [], [], [], []⟩

/-- The controller at VDD_HUB power-up. -/
def TalSt.init : TalSt := ⟨Ledger.empty, [], [], [], 0, 0, none, [], 0, none⟩

/-! ### The authorisation engine and its OTP (14) -/

/-- A field of OTP in three copies (14 R431). -/
structure Tri where
  a : Nat
  b : Nat
  c : Nat
  deriving DecidableEq, Repr

/-- A slot of the life-cycle log. -/
structure LogSlot where
  state : Tri
  tgt : Tri
  pm : Tri
  deriving DecidableEq, Repr

/-- The OTP of the authorisation engine (14 R431) but for DEVICE_UID: the log; fields of one copy by key (2 ROOT, 3 JEX, 5 OWNER,
6 FIELD_HOST, 16 + k TOKEN k; 1 stands for DEVICE_UID) and their WRITTEN flags; CONSUMED; EPOCH; whether the reference row reads its pattern; whether
DEVICE_UID holds an uncorrectable word. -/
structure OtpSt where
  log : SMap LogSlot
  fields : SMap Nat
  written : SMap Tri
  consumed : SMap Tri
  epoch : Tri
  refBad : Bool
  uidUc : Bool
  deriving DecidableEq, Repr

/-- Nothing written in a field. -/
def Tri.zero : Tri := ⟨0, 0, 0⟩

/-- An unused slot. -/
def LogSlot.empty : LogSlot := ⟨Tri.zero, Tri.zero, Tri.zero⟩

/-- OTP as a new die has it: no bit set. -/
def OtpSt.blank : OtpSt := ⟨[], [], [], [], Tri.zero, false, false⟩

/-- A transition in progress (14 R436 to R440): the states it leads from and to, its log slot, the
token it consumes, the step being carried out (1 to 8), and whether it resumed. -/
structure LcyRun where
  from_ : Nat
  to_ : Nat
  slot : Nat
  token : Nat
  step : Nat
  resumed : Bool
  deriving DecidableEq, Repr

/-- An object or command under verification (14 R435): the submitting master, whether it was given to LCY_CMD, its OP, and the bytes
of the object. -/
structure AuthJob where
  master : Master
  lcy : Bool
  op : Nat
  obj : List Byte
  deriving DecidableEq, Repr

/-- The authorisation engine beside its registers (14): the transition in progress; fields whose copies disagreed at the last
decision (log slots, 32 + k CONSUMED k, 64 EPOCH); whether the key store is zeroised and whether the matrix engines are held in
reset; the object under verification; whether the random-number generator passes; the two request buffers; when each master's
challenge was issued. -/
structure AuthSt where
  run : Option LcyRun
  disagree : List Nat
  keysGone : Bool
  engHold : Bool
  job : Option AuthJob
  trngOk : Bool
  bufP : SMap Word
  bufH : SMap Word
  chalP : Nat
  chalH : Nat
  deriving DecidableEq, Repr

/-- The engine at VDD_HUB power-up. -/
def AuthSt.init : AuthSt := ⟨none, [], false, true, none, true, [], [], 0, 0⟩

/-! ### Pass (15) -/

/-- A frame of the hub (15 R464): FTYPE, the class of R467, the device it concerns, its payload as 64-bit words, FSEQ, and how
often it has been retransmitted in a row. -/
structure Frame where
  ftype : Nat
  cls : Nat
  dev : Nat
  words : List Nat
  fseq : Nat
  retx : Nat
  deriving DecidableEq, Repr

/-- A REG_REQ being carried out (15 R468): TAG, STOP_ON_ERR, the access words left, and the answers so far; whether an aperture
access of it is in flight. -/
structure RegReq where
  tag : Nat
  stop : Bool
  ops : List Nat
  done : List Nat
  waiting : Bool
  deriving DecidableEq, Repr

/-- A member of the lead hub's table (15 R484, R487, R489). -/
structure Member where
  uid : Nat
  present : Bool
  relay : Bool
  status : Nat
  lastT : Nat
  deriving DecidableEq, Repr

/-- A frame that the lead hub carries to the hub with device ID `dev` over its relay session (15 R485): its FTYPE and payload. -/
structure Carried where
  dev : Nat
  ftype : Nat
  words : List Nat
  deriving DecidableEq, Repr

/-- The port controller beside its registers (15): block lock of the lanes and lanes at electrical idle; the FSEQ expected and the
next one to send; the last FSEQ accepted; ACK and NAK due; frames to send; frames sent and not acknowledged, and from which of them
to retransmit; when acknowledgement last progressed, an access or frame was last accepted and KEEPALIVE last sent; the frame last
sent; training in progress (rate, lanes, stage); single-lane sending; REG_REQs being carried out; the next SESSION_ID; the next
marker number and markers sent (T_p, number). The TAP: its instruction, boundary-scan effect in force, the result PASS_ACC captures
(data, code, DONE, BUSY) and whether an access is in flight. The fabric: the member table, whether discovery is the first since the
claim, DEVICE_UIDs that have answered it with the state they report, members it found new and since when it runs; cross-device requests held; frames carried to
relayed hubs, the last first. -/
structure PassSt where
  lock0 : Bool
  lock1 : Bool
  idle0 : Bool
  idle1 : Bool
  rxNext : Nat
  txNext : Nat
  lastFseq : Option Nat
  ackDue : Bool
  nakDue : Bool
  sendq : List Frame
  unacked : List Frame
  resend : Nat
  progT : Nat
  lastRx : Nat
  kaT : Nat
  lastTx : Option Frame
  train : Option (Nat × Nat × Nat)
  single : Bool
  reqs : List RegReq
  nextId : Nat
  markNo : Nat
  marks : List (Nat × Nat)
  ir : Nat
  accData : Nat
  accCode : Nat
  accDone : Bool
  accBusy : Bool
  accWait : Bool
  members : SMap (Option Member)
  first : Bool
  found : List (Nat × Nat)
  fresh : Nat
  discT : Option Nat
  heldX : List XReq
  carried : List Carried
  deriving DecidableEq, Repr

/-- The port at power-up: lanes at electrical idle, the TAP at IDCODE (15 R479; 16 R501). -/
def PassSt.init : PassSt :=
  { lock0 := false, lock1 := false, idle0 := true, idle1 := true, rxNext := 0, txNext := 0, lastFseq := none, ackDue := false,
    nakDue := false, sendq := [], unacked := [], resend := 0, progT := 0, lastRx := 0, kaT := 0, lastTx := none, train := none,
    single := false, reqs := [], nextId := 1, markNo := 0, marks := [], ir := 0x02, accData := 0, accCode := 0, accDone := false,
    accBusy := false, accWait := false, members := [], first := false, found := [], fresh := 0, discT := none, heldX := [],
    carried := [] }

/-! ### Resets (16) -/

/-- A hub soft reset that is pending (16 R497): its master, when it was accepted, the step of a life-cycle transition whose OTP
action was in progress then, and whether W has passed. -/
structure SoftRun where
  master : Master
  t0 : Nat
  otp : Option Nat
  applied : Bool
  deriving DecidableEq, Repr

/-- Resets beside their registers (16): whether VDD_HUB is at power good; the soft reset pending; the Cairns that a chip warm reset
has taken down and that have neither a valid leaf again nor been found dormant; whether the BMUs have yet to report ready after a
warm reset; WARM_RESET and the events that follow it in a fixed order, and the one of them now at the arbiter; since when the idle conditions have held. -/
structure RstSt where
  on : Bool
  soft : Option SoftRun
  warmWait : List Nat
  bmuWait : Bool
  chain : List Ev
  chainCur : Option Ev
  idleT : Option Nat
  deriving DecidableEq, Repr

/-- VDD_HUB at power good and no reset under way. -/
def RstSt.init : RstSt := ⟨true, none, [], false, [], none, none⟩

end Sys2Proof.Machine
end

