-- ==== Sys2Proof/Machine/State.lean ====
section
/-! DEFINITION. Machine/State.lean: the whole state of the hub, its stops, and the state after reset. -/

namespace Sys2Proof.Machine

/-- Why the machine stops with a fault. -/
inductive Fault
  /-- A command names a Cairn, Spur, engine, lane or other part that the spec says does not exist (01 R13, R15). Raised by the
  meanings through `withCairn` and its like. Safe: no agent of the hardware sends such a command. -/
  | noSuchPart
  deriving DecidableEq, Repr

/-- Why a command has no meaning. -/
inductive Refusal
  /-- The row of the opcode table has no meaning yet. Raised by `exec` alone. Safe. -/
  | notModelled (mnemonic : String)
  deriving DecidableEq, Repr

/-- The state of NYN-1 and of what it reads and writes. -/
structure State where
  /-- Commands that wait, first in, first out. -/
  pending : List Instr
  /-- Counter of the free values taken (the model's own; log entry 3). -/
  free : Nat
  /-- The hub's registers by byte address; banked copies above 0x10_0000 (02 R41, R63). -/
  regs : SMap Word
  sum : SumSt
  rdg : RdgSt
  cut : CutSt
  stp : StepSt
  cou : CouSt
  flt : FltSt
  wch : WchSt
  cen : CenSt
  prb : PrbSt
  crs : CrsSt
  scr : ScrSt
  tal : TalSt
  auth : AuthSt
  pass : PassSt
  rst : RstSt
  cairns : SMap Cairn
  retain : SMap Retain
  /-- Stack memory by device byte address (08 R514). -/
  mem : SMap Byte
  /-- log₂ of the interleave granule every BMU shows (08 R514). -/
  gran : Nat
  /-- The freeze domain of each unit, named by its anchor's Cairn ID, and the power/clock region it lies in, for the units of which
  `domDefault` does not say it (04 R107; log entry 61). -/
  doms : SMap (Option (Nat × Nat))
  /-- DEVICE_UID as OTP holds it (14 R430). -/
  uid : Nat
  otp : OtpSt
  /-- The slots of the Talus store that hold a valid image (13 R408). -/
  mram : SMap (Option TalImg)
  deriving DecidableEq, Repr

/-! ### After reset -/

/-- The addresses of a row of a register table: for a banked one the host's copies too (02 R63). -/
def RegRow.addrs (r : RegRow) : List Nat :=
  let own := (List.range r.count).map fun i => r.addr + r.stride * i
  if r.banked then own ++ own.map (· + 0x100000) else own

/-- The hub's registers at their reset values (the register tables of the chapters; 17 R511). -/
def resetRegs : SMap Word :=
  (hubRows.filter fun r => r.reset != 0).foldl (fun m r =>
    r.addrs.foldl (fun m a => smSet 0 m a (BitVec.ofNat 32 r.reset)) m) []

/-- A master that has made no access. -/
def MstSt.init : MstSt := ⟨none, none, false, ⟨0, 0⟩⟩

/-- Summit with nothing waiting (01). -/
def SumSt.init : SumSt :=
  { intq := [], fifo0 := [], fifo1 := [], wait0 := [], wait1 := [], in0 := (0, 0), in1 := (0, 0), msgNo := 0, msgs := [], sched := [], live0 := 0, live1 := 0, takeover := none, lostT := 0,
    lostNum := false,
    mirror := [], mirPend0 := [], mirPend1 := [], aps := [], held := [], arrNo := 0, passM := MstSt.init,
    hostM := MstSt.init, lastPass := 0, rrTurn := .pass, rrUsed := 0 }

/-- Ridgeline before the PLL locks (03 R76; 16 R501). -/
def RdgSt.init : RdgSt :=
  { now := 0, running := false, raw := 0, lastE := none, lastRaw := 0, interval := 100000, tsyncLost := false, refLost := false,
    checkOff := false, offOk := false, glitches := [], refBad := 0, slewRem := 0, skipTick := false, sweep0 := ⟨0, 0, false⟩,
    sweep1 := ⟨0, 0, false⟩, failing := [], leafTime := [], delay := [], lag0 := 0, lag1 := 0 }

/-- VDD_HUB has reached power good (16 R492, R501): start-up waits in phase PLL, and the units' domains are down. What lies in OTP and
in the MRAM outlasts it; a device out of the factory holds neither (log entries 6, 8). -/
def State.reset : State :=
  { pending := [], free := 0, regs := resetRegs, sum := SumSt.init, rdg := RdgSt.init, cut := CutSt.init, stp := StepSt.init,
    cou := CouSt.init, flt := FltSt.init, wch := WchSt.init, cen := CenSt.init, prb := PrbSt.init, crs := CrsSt.init,
    scr := ScrSt.init 0, tal := TalSt.init, auth := AuthSt.init, pass := PassSt.init, rst := RstSt.init, cairns := [], retain := [],
    mem := [], gran := 12, doms := [], uid := 0, otp := OtpSt.blank, mram := [] }

end Sys2Proof.Machine
end

