-- ==== Sys2Proof/Machine/Ops.lean ====
section
/-! DEFINITION. Machine/Ops.lean: the named operations every meaning is written from: fields and registers, Cairns, where a unit
lies and who serves it, events and faults on their way to the arbiter, free values. -/

namespace Sys2Proof.Machine

open Host

/-- The outcome every meaning of this package answers with. -/
abbrev Out := Outcome State Fault Refusal

/-! ### Fields and registers -/

/-- The value of a bit field in a word. -/
def Fld.get (f : Fld) (w : Word) : Nat := w.toNat / 2 ^ f.lo % 2 ^ f.width

/-- A word with a bit field replaced; a value too wide is cut to the field. -/
def Fld.set (f : Fld) (w : Word) (n : Nat) : Word :=
  BitVec.ofNat 32 (w.toNat - w.toNat / 2 ^ f.lo % 2 ^ f.width * 2 ^ f.lo + n % 2 ^ f.width * 2 ^ f.lo)

/-- Bit `i` of a number. -/
def bit (n i : Nat) : Bool := n / 2 ^ i % 2 == 1

/-- A Bool as a one-bit number. -/
def b2n (b : Bool) : Nat := if b then 1 else 0

/-- The number with bit `i` set. -/
def setBit (n i : Nat) : Nat := if bit n i then n else n + 2 ^ i

/-- The number with bit `i` clear. -/
def clrBit (n i : Nat) : Nat := if bit n i then n - 2 ^ i else n

/-- Bits `lo` to `lo + width - 1` of a number. -/
def bits (n lo width : Nat) : Nat := n / 2 ^ lo % 2 ^ width

/-- The register at a hub address. -/
def State.rd (s : State) (a : Nat) : Nat := (smGet 0 s.regs a).toNat

/-- The state with a hub register written. -/
def State.wr (s : State) (a n : Nat) : State := { s with regs := smSet 0 s.regs a (BitVec.ofNat 32 n) }

/-- A field of a hub register. -/
def State.f (s : State) (f : Fld) : Nat := f.get (smGet 0 s.regs f.addr)

/-- The state with a field of a hub register written. -/
def State.setF (s : State) (f : Fld) (n : Nat) : State :=
  { s with regs := smSet 0 s.regs f.addr (f.set (smGet 0 s.regs f.addr) n) }

/-- The 64-bit value of a _LO and _HI pair (02 R46). -/
def State.rd64 (s : State) (lo : Nat) : Nat := s.rd lo + 2 ^ 32 * s.rd (lo + 4)

/-- Both halves of a pair written. -/
def State.wr64 (s : State) (lo n : Nat) : State := (s.wr lo (n % 2 ^ 32)).wr (lo + 4) (n / 2 ^ 32)

/-- A counter register one higher, wrapping at 2^32. -/
def State.bump (s : State) (a : Nat) : State := s.wr a ((s.rd a + 1) % 2 ^ 32)

/-- A counter field raised by `n`, saturating at the field's greatest value. -/
def State.satAdd (s : State) (f : Fld) (n : Nat) : State := s.setF f (min (s.f f + n) (2 ^ f.width - 1))

/-- A counter field raised by `n`, wrapping in the field. -/
def State.wrapAdd (s : State) (f : Fld) (n : Nat) : State := s.setF f ((s.f f + n) % 2 ^ f.width)

/-- A whole register raised by `n`, saturating at 0xFFFF_FFFF. -/
def State.satAddR (s : State) (a n : Nat) : State := s.wr a (min (s.rd a + n) (2 ^ 32 - 1))

/-- The address of a master's copy of a banked register (02 R63): the host's copy lies above the map. -/
def bk (m : Master) (a : Nat) : Nat := match m with | .pass => a | .host => a + 0x100000

/-- A field of a master's copy of a banked register. -/
def bkF (m : Master) (f : Fld) : Fld := ⟨bk m f.addr, f.lo, f.width⟩

/-- The source number that names a master as requester (01 R29). -/
def mSrc : Master → Nat | .pass => 0x1010 | .host => 0x1011

/-- The master's number as events carry it (0 Pass, 1 host). -/
def mNum : Master → Nat | .pass => 0 | .host => 1

/-- The master counter (03 R76). -/
def State.now (s : State) : Nat := s.rdg.now

/-- Ticks since the counter started, which no load and no slew moves: what the spec gives as a span of time is measured in them
(log entry 12). -/
def State.clk (s : State) : Nat := s.rdg.raw

/-- A free value, and the state that has taken it (log entry 3). -/
def State.takeFree (s : State) : Nat × State :=
  ((Config.freeValue s.free).toNat, { s with free := s.free + 1 })

/-! ### Units and who serves them -/

/-- The unit kind of a Cairn ID as its PG_ID.TYPE names it (1 array to 7 region controller); 0 for an ID that names no unit
(01 R13, R15; 02 R44). -/
def kindOf (id : Nat) : Nat :=
  if id < 0x420 then 1 else if id < 0x520 then 2 else if id < 0x620 then 3 else if id < 0x760 then 4
  else if id < 0xB60 then 5 else if id < 0xBA0 then 6 else if id < 0xBC0 then 7 else 0

/-- The half a unit lies in (01 R13). -/
def halfOf (id : Nat) : Nat :=
  match kindOf id with
  | 1 => if id < 0x210 then 0 else 1
  | 2 => if id < 0x4A0 then 0 else 1
  | 3 => if id < 0x5A0 then 0 else 1
  | 4 => if (id - 0x620) % 16 < 8 then 0 else 1
  | 5 => if id < 0x960 then 0 else 1
  | 6 => if id < 0xB80 then 0 else 1
  | _ => if id < 0xBB0 then 0 else 1

/-- The core of an array or general core. -/
def coreOf (id : Nat) : Nat := if id < 0x420 then id / 132 else (id - 0x420) / 32

/-- The Cairn ID of array `a` of core `c`. -/
def arrayId (c a : Nat) : Nat := 132 * c + a

/-- The mesh of a router. -/
def meshOf (id : Nat) : Nat := (id - 0x620) / 160

/-- The anchor of a unit's freeze domain and the number of its region, where the device's own map says nothing else: the arrays of a core lie
in one domain, any other unit in one of its own; a region controller lies in its own region, any other unit in the first of its half
(04 R107; log entry 61). -/
def domDefault (id : Nat) : Nat × Nat :=
  match kindOf id with
  | 1 => (arrayId (coreOf id) 0, 16 * halfOf id)
  | 7 => (id, id - 0xBA0)
  | _ => (id, 16 * halfOf id)

/-- The anchor of a unit's freeze domain and the number of the domain's region (04 R107). -/
def State.domOf (s : State) (id : Nat) : Nat × Nat := (smGet none s.doms id).getD (domDefault id)

/-- Do two units lie in one freeze domain? -/
def State.sameDom (s : State) (a b : Nat) : Bool := (s.domOf a).1 == (s.domOf b).1

/-- The units of the freeze domains in which the units listed lie: a domain is powered as one (04 R107). -/
def State.domUnits (s : State) (ids : List Nat) : List Nat :=
  (List.range 0xBC0).filter fun i => kindOf i != 0 && ids.any (s.sameDom i)

/-- The field that holds a Spur's state (01 R36). -/
def spurFld (h : Nat) : Fld := if h = 0 then F.SUM_TOPO_STAT_SPUR0_ST else F.SUM_TOPO_STAT_SPUR1_ST

/-- The state of a Spur: 0 ACTIVE, 1 SERVING_BOTH, 2 LOST. -/
def State.spur (s : State) (h : Nat) : Nat := s.f (spurFld h)

/-- The Spur that serves a half now. -/
def State.server (s : State) (h : Nat) : Nat := if s.spur h = 2 then 1 - h else h

/-- Both Spurs are lost, or the one that serves both is (01 R26). -/
def State.hubLost (s : State) : Bool := s.spur 0 == 2 && s.spur 1 == 2

/-- Is Spur `p` the one that answers for the Cairn now? -/
def State.serves (s : State) (p id : Nat) : Bool := s.server (halfOf id) == p

/-- A Cairn and its unit; a Cairn not listed is one whose domain is down. -/
def State.cairn (s : State) (id : Nat) : Cairn := smGet Cairn.off s.cairns id

/-- The state with a Cairn replaced. -/
def State.setCairn (s : State) (id : Nat) (c : Cairn) : State := { s with cairns := smSet Cairn.off s.cairns id c }

/-- The state with a Cairn changed by `g`. -/
def State.modC (s : State) (id : Nat) (g : Cairn → Cairn) : State := s.setCairn id (g (s.cairn id))

/-- A register of the Cairn page, by offset. -/
def Cairn.rd (c : Cairn) (o : Nat) : Nat := (smGet 0 c.regs o).toNat

/-- The Cairn with a register written. -/
def Cairn.wr (c : Cairn) (o n : Nat) : Cairn := { c with regs := smSet 0 c.regs o (BitVec.ofNat 32 n) }

/-- A field of a Cairn register. -/
def Cairn.f (c : Cairn) (f : Fld) : Nat := f.get (smGet 0 c.regs f.addr)

/-- The Cairn with a field written. -/
def Cairn.setF (c : Cairn) (f : Fld) (n : Nat) : Cairn :=
  { c with regs := smSet 0 c.regs f.addr (f.set (smGet 0 c.regs f.addr) n) }

/-- A Cairn's whole-word counter one higher, wrapping. -/
def Cairn.bump (c : Cairn) (o : Nat) : Cairn := c.wr o ((c.rd o + 1) % 2 ^ 32)

/-- Is the unit's domain powered? A Cairn whose domain is down is dormant (01 R17). -/
def State.dormant (s : State) (id : Nat) : Bool := !(s.cairn id).powered

/-- Runs `k` for a Cairn ID that names a unit; any other ID names no part (01 R15). -/
def withCairn (id : Nat) (k : Out) : Out := if kindOf id = 0 then .fault .noSuchPart else k

/-- Runs `k` for a Spur number. -/
def withSpur (p : Nat) (k : Out) : Out := if p < 2 then k else .fault .noSuchPart

/-- Runs `k` for a Pitch engine number. -/
def withEngine (e : Nat) (k : Out) : Out := if e < 4 then k else .fault .noSuchPart

/-- Applies a change to the Cairns listed, in the list's order. -/
def State.forEach (s : State) (ids : List Nat) (g : State → Nat → State) : State := ids.foldl g s

/-! ### The mirror of the Spur tables (01 R20) -/

/-- A change of a Cairn's entry that its Spur has still to send to the other Spur: until then the other's mirror is not current (R38).
While one Spur is lost, no mirror is kept. -/
def State.touch (s : State) (id : Nat) : State :=
  if s.spur 0 = 2 ∨ s.spur 1 = 2 then s
  else if halfOf id = 0 then
    ({ s with sum := { s.sum with mirPend0 := s.sum.mirPend0.filter (· ≠ id) ++ [id] } }).setF (F.SPR_STAT_MIRROR_OK 1) 0
  else ({ s with sum := { s.sum with mirPend1 := s.sum.mirPend1.filter (· ≠ id) ++ [id] } }).setF (F.SPR_STAT_MIRROR_OK 0) 0

/-! ### What a leaf presents (03 R87, R88) -/

/-- How far the earlier of the two values that the valid leaves of a half present lies behind the master (log entry 17). -/
def State.lag (s : State) (h : Nat) : Nat := min (if h = 0 then s.rdg.lag0 else s.rdg.lag1) 1

/-- The value that a valid leaf presents now. -/
def State.leafVal (s : State) (id : Nat) : Nat := s.now - (s.lag (halfOf id) + min (s.cairn id).leafLag 1)

/-- The leaf's own count of tree-clock ticks, to which it adds its calibrated offset (03 R87). -/
def State.leafCount (s : State) (id : Nat) : Nat := s.leafVal id - (s.cairn id).leafOff

/-- Does the leaf read `v` now? -/
def State.leafOk (s : State) (id v : Nat) : Bool := v == s.leafVal id

/-- May a happening at the Cairn carry leaf value `v`: the value that a valid leaf reads; before its leaf is valid the Cairn stamps nothing
for good (03 R90, R98)? -/
def State.leafShows (s : State) (id v : Nat) : Bool := !(s.cairn id).leafValid || s.leafOk id v

/-! ### Events -/

/-- The page whose PG_EVT_CNT counts a hub source's events (02 R56; 14 R457). -/
def evPage (src : Nat) (n : EvName) : Nat :=
  match src with
  | 0x1000 => 0x00
  | 0x1001 => 0x02
  | 0x1002 => 0x03
  | 0x1003 => 0x04
  | 0x1004 => 0x05
  | 0x1005 => 0x06
  | 0x1006 => 0x0C
  | 0x1007 =>
    if n = .lcyStart ∨ n = .lcyCommit ∨ n = .lcyDone ∨ n = .lcyResume ∨ n = .tokenConsumed ∨ n = .provisioned then 0x0F else 0x10
  | 0x1008 => 0x0E
  | 0x1009 => 0x11
  | 0x100A => 0x12
  | 0x100B => 0x13
  | 0x100C => 0x14
  | 0x100D => 0x01
  | 0x100E => 0x08
  | _ => 0x0B

/-- A hub source raises an event: counted on its page and entered at its arbiter input, stamped with master time. -/
def State.raise (s : State) (n : EvName) (src : Nat) (data : List EvVal) (sec : Bool := false) : State :=
  let s := s.bump (evPage src n * 0x1000 + 0x24)
  { s with sum := { s.sum with intq := s.sum.intq ++ [{ name := n, src := src, stamp := s.now, data := data, sec := sec }] } }

/-- The offset of PG_EVT_CNT on every page. -/
def pgEvtCnt : Nat := 0x24

/-- The most entries a Cairn's event queue holds (01 R18). -/
def evQueueLen : Nat := 8

/-- A Cairn's event queue takes a report, with the Cairn's next tag; what a unit reports while CRN_U_OWNER.SEC is 1 is marked (10 R340). -/
def Cairn.enqueue (c : Cairn) (e : Ev) : Cairn :=
  { c with queue := c.queue ++ [⟨{ e with tag := c.nextTag, sec := e.sec || c.f CF.U_OWNER_SEC == 1 }, false, false⟩], nextTag := c.nextTag + 1 }

/-- A unit raises a non-fault event at its Cairn: counted always, and queued, or counted as dropped when the queue is full
(01 R18; 02 R56). The stamp is the leaf's value (03 R98), which the caller gives. -/
def State.raiseC (s : State) (id : Nat) (n : EvName) (stamp : Nat) (data : List EvVal) (sec : Bool := false) : State :=
  (s.modC id fun c =>
    let c := c.bump pgEvtCnt
    if c.queue.length < evQueueLen then c.enqueue { name := n, src := id, stamp := stamp, data := data, sec := sec }
    else { c with dropped := c.dropped + 1 }).touch id

/-! ### The Spurs' inputs at the arbiter (01 R30, R32) -/

/-- The entries of a Spur's input. -/
def State.fifo (s : State) (p : Nat) : List Ev := if p = 0 then s.sum.fifo0 else s.sum.fifo1

/-- What a Spur holds for its input. -/
def State.wait (s : State) (p : Nat) : List Ev := if p = 0 then s.sum.wait0 else s.sum.wait1

/-- The most entries a Spur's input holds (R30). -/
def fifoLen : Nat := 64

/-- May Spur `p` enter a report of `src` now: its input has room, and no earlier report of that source stands at the other Spur's input,
as it may after a takeover (R30, R32)? -/
def State.fifoRoom (s : State) (p src : Nat) : Bool :=
  decide ((s.fifo p).length < fifoLen) && !((s.fifo (1 - p) ++ s.wait (1 - p)).any fun e => e.src == src)

/-- An entry among those of one hub cycle, which stand in ascending Cairn ID (R30). -/
def insBySrc (e : Ev) : List Ev → List Ev
  | [] => [e]
  | x :: xs => if x.src ≤ e.src then x :: insBySrc e xs else e :: x :: xs

/-- Spur `p`'s input takes an entry, in order of arrival; those of one hub cycle (2.5 tk) in ascending Cairn ID (R30). -/
def State.fifoPut (s : State) (p : Nat) (e : Ev) : State :=
  let cyc := s.clk * 2 / 5
  let l := s.fifo p
  let last := if p = 0 then s.sum.in0 else s.sum.in1
  let k := if last.1 = cyc then min last.2 l.length else 0
  let l := l.take (l.length - k) ++ insBySrc e (l.drop (l.length - k))
  if p = 0 then { s with sum := { s.sum with fifo0 := l, in0 := (cyc, k + 1) } }
  else { s with sum := { s.sum with fifo1 := l, in1 := (cyc, k + 1) } }

/-- Spur `p` raises an event itself: it enters its input, or waits in the Spur while it may not. -/
def State.spurPut (s : State) (p : Nat) (e : Ev) : State :=
  if (s.wait p).isEmpty && s.fifoRoom p e.src then s.fifoPut p e
  else if p = 0 then { s with sum := { s.sum with wait0 := s.sum.wait0 ++ [e] } }
  else { s with sum := { s.sum with wait1 := s.sum.wait1 ++ [e] } }

/-- The oldest event that Spur `p` holds enters its input, if it may. -/
def State.fifoFill (s : State) (p : Nat) : State :=
  match s.wait p with
  | [] => s
  | e :: es =>
    if s.fifoRoom p e.src then
      let s := if p = 0 then { s with sum := { s.sum with wait0 := es } } else { s with sum := { s.sum with wait1 := es } }
      s.fifoPut p e
    else s

/-- A Spur raises an event on behalf of a Cairn it answers for, with the Cairn as source: straight into its own input, and counted on
the page of a powered Cairn (02 R56). -/
def State.raiseSpur (s : State) (id : Nat) (n : EvName) (data : List EvVal) (stamp : Nat := s.now) : State :=
  let s := if s.dormant id then s else s.modC id fun c => c.bump pgEvtCnt
  s.spurPut (s.server (halfOf id)) { name := n, src := id, stamp := stamp, data := data, sec := (s.cairn id).f CF.U_OWNER_SEC == 1 }

/-! ### Faults -/

/-- Class (1 CE, 2 UC, 3 FATAL; 0 none) and reaction of a Cairn fault source (11 R352, R354). -/
def cairnFlt (kind b : Nat) : Nat × Nat :=
  if b = 0 then (2, 0)
  else if b = 1 ∨ b = 2 then (2, if kind = 1 then 3 else 2)
  else match kind, b with
  | 1, 8 => (1, 0) | 1, 9 => (2, 3) | 1, 10 => (2, 3) | 1, 11 => (2, 3) | 1, 12 => (1, 0) | 1, 13 => (1, 0)
  | 2, 8 => (1, 0) | 2, 9 => (2, 1) | 2, 10 => (1, 0) | 2, 11 => (2, 2) | 2, 12 => (1, 0)
  | 3, 8 => (1, 0) | 3, 9 => (2, 1) | 3, 10 => (1, 0) | 3, 11 => (2, 2) | 3, 12 => (1, 0)
  | 4, 8 => (1, 0) | 4, 9 => (2, 2) | 4, 10 => (2, 2) | 4, 11 => (1, 0) | 4, 12 => (1, 0)
  | 5, 8 => (1, 0) | 5, 9 => (2, 1) | 5, 10 => (1, 0) | 5, 11 => (2, 2) | 5, 12 => (1, 0)
  | 6, 8 => (1, 0) | 6, 9 => (2, 2) | 6, 10 => (2, 2) | 6, 11 => (1, 0)
  | 7, 8 => (1, 0) | 7, 9 => (2, 0) | 7, 10 => (2, 0) | 7, 11 => (3, 0)
  | _, _ => (0, 0)

/-- Class of a hub page's fault source (11 R356 and the chapters it names); 0 for a reserved bit. No hub source has a
containing reaction. -/
def hubFlt (page b : Nat) : Nat :=
  match page, b with
  | 0x00, 0 => 3 | 0x00, 1 => 3 | 0x00, 2 => 3
  | 0x12, 0 => 2 | 0x12, 1 => 1 | 0x12, 2 => 2
  | 0x13, 0 => 2 | 0x13, 1 => 1 | 0x13, 2 => 2
  | 0x14, 0 => 1 | 0x14, 1 => 3
  | 0x0C, 0 => 2 | 0x0C, 1 => 3 | 0x0C, 2 => 3 | 0x0C, 3 => 1 | 0x0C, 4 => 2 | 0x0C, 5 => 3
  | 0x01, 0 => 1 | 0x01, 1 => 2 | 0x01, 2 => 1 | 0x01, 3 => 1 | 0x01, 4 => 1
  | 0x02, 0 => 2
  | 0x03, 0 => 1 | 0x03, 1 => 2 | 0x03, 2 => 1 | 0x03, 3 => 2
  | 0x04, 0 => 1 | 0x04, 1 => 2 | 0x04, 2 => 1 | 0x04, 3 => 2
  | 0x05, 0 => 1 | 0x05, 1 => 2 | 0x05, 2 => 1 | 0x05, 3 => 2
  | 0x06, 0 => 1 | 0x06, 1 => 2 | 0x06, 2 => 1 | 0x06, 3 => 2
  | 0x08, 0 => 1 | 0x08, 1 => 2 | 0x08, 2 => 2 | 0x08, 3 => 1
  | 0x09, 0 => 2
  | 0x0A, 0 => 1 | 0x0A, 1 => 2
  | 0x0B, 0 => 1 | 0x0B, 1 => 2 | 0x0B, 2 => 1
  | 0x0E, 0 => 1 | 0x0E, 1 => 2 | 0x0E, 2 => 2 | 0x0E, 3 => 2 | 0x0E, 4 => 2
  | 0x0F, 0 => 1 | 0x0F, 1 => 2 | 0x0F, 2 => 3
  | 0x10, 0 => 2 | 0x10, 1 => 2
  | 0x11, 0 => 1 | 0x11, 1 => 1 | 0x11, 2 => 2
  | _, _ => 0

/-- The source number with which a hub page raises its faults (01 R29; 11 R356). -/
def fltSrc (page : Nat) : Nat :=
  match page with
  | 0x00 => 0x1000 | 0x01 => 0x100D | 0x02 => 0x1001 | 0x03 => 0x1002 | 0x04 => 0x1003 | 0x05 => 0x1004 | 0x06 => 0x1005
  | 0x08 => 0x100E | 0x09 => 0x100E | 0x0A => 0x100E | 0x0B => 0x100F | 0x0C => 0x1006 | 0x0E => 0x1008
  | 0x0F => 0x1007 | 0x10 => 0x1007 | 0x11 => 0x1009 | 0x12 => 0x100A | 0x13 => 0x100B | _ => 0x100C

/-- The page's fault registers after source `b` of class `cls` faults (02 R55), in a register file whose page begins at `o`. -/
def pageFault (m : SMap Word) (o b cls : Nat) : SMap Word :=
  let first := (smGet 0 m (o + 0x10)).toNat
  let flags := setBit (smGet 0 m (o + 0x14)).toNat b
  if bit first 31 then smSet 0 m (o + 0x14) (BitVec.ofNat 32 (setBit flags 31))
  else smSet 0 (smSet 0 m (o + 0x14) (BitVec.ofNat 32 flags)) (o + 0x10) (BitVec.ofNat 32 (2 ^ 31 + cls * 256 + b))

/-- A page's fault registers after a write to PG_FLT_ACK (02 R55). -/
def pageAck (m : SMap Word) (o v : Nat) : SMap Word :=
  let first := (smGet 0 m (o + 0x10)).toNat
  let flags := (smGet 0 m (o + 0x14)).toNat
  let kept := (List.range 31).foldl (fun n i => if bit v i then clrBit n i else n) flags
  if bit first 31 ∧ bit v (first % 32) then
    smSet 0 (smSet 0 m (o + 0x14) (BitVec.ofNat 32 (clrBit kept 31))) (o + 0x10) (BitVec.ofNat 32 (first % 32))
  else smSet 0 m (o + 0x14) (BitVec.ofNat 32 kept)

/-- Life-cycle state in force (14 R429): 0 RAW, 1 TEST, 2 TEST_OPEN, 3 PERSO, 4 FIELD, 5 RMA, 6 SCRAP, 7 INVALID or undecided. -/
def State.lcs (s : State) : Nat := if s.f F.LCY_STAT_DECIDED = 1 then s.f F.LCY_STAT_STATE else 7

/-- Is a source of class `cls` held back by its mask bit (11 R359)? -/
def State.masked (s : State) (mask b cls : Nat) : Bool :=
  bit mask b && (cls == 1 || (cls == 2 && s.lcs == 2))

/-- RFLAGS bits of a fault record (11 R378). -/
def rfForced : Nat := 1
def rfQueued : Nat := 2
def rfUnnumbered : Nat := 4
def rfAckByReset : Nat := 8
def rfDamaged : Nat := 16
def rfEngine : Nat := 32
def rfRefused : Nat := 64

/-- FATAL_N is driven and HEARTBEAT held at once (11 R367, R368). -/
def State.fatalPins (s : State) : State :=
  ((s.setF F.FLT_STAT_FATAL_N 1).setF F.FLT_STAT_HB_RUN 0).setF F.FLT_STAT_ESC_STATE 2

/-- HUB_LOST, SIG_MON and ARB_PARITY set the FATAL latch and the pins without waiting for a number (11 R367): until the arbiter gives
one, the record is UNNUMBERED. -/
def State.fatalDirect (s : State) (i : FltInfo) (src : Nat) : State :=
  let s := s.fatalPins
  if s.flt.fatal.isSome then s
  else
    let r : FltRec := ⟨2 ^ 32 - 1, s.rd R.SUM_SEQ_EPOCH, s.now, src, { i with rflags := setBit i.rflags 2 }⟩
    ({ s with flt := { s.flt with fatal := some r, direct := true } }).setF F.FLT_CLASS_FLAGS_FATAL_VALID 1

/-- A hub page's source detects a fault (11 R357): page registers always; unless the mask holds it back, the report goes to the
arbiter. `rflags` carries FORCED; `causeSeq`, `detail` and `detail2` as 11 R378. -/
def State.hubFault (s : State) (page b : Nat) (rflags causeSeq detail detail2 : Nat := 0) : State :=
  let cls := hubFlt page b
  if cls = 0 then s else
  let m := s.masked (s.rd (page * 0x1000 + 0x1C)) b cls
  let s := { s with regs := pageFault s.regs (page * 0x1000) b cls }
  if m then s else
  let i : FltInfo := ⟨page, b, cls, 0, rflags, 1, 0, 0, causeSeq, detail, detail2⟩
  let s := if page = 0 then s.fatalDirect i (fltSrc page) else s
  { s with sum := { s.sum with
      intq := s.sum.intq ++ [{ name := .fault, src := fltSrc page, stamp := s.now, data := [], flt := some i }] } }

/-- A source of a hub memory detects a fault in the 64-byte word at byte `a` of it (11 R378). The address, where no command gives it, and the
syndrome are free: no chapter lays the hub's memories out or gives their codes (log entry 3). -/
def State.hubMemFault (s : State) (page b : Nat) (a : Option Nat) (scrub : Nat := 0) : State :=
  let x := s.takeFree
  let y := x.2.takeFree
  y.2.hubFault page b 0 0 (a.getD x.1 / 64 * 64) (y.1 % 2 ^ 16 + 2 ^ 16 * scrub)

/-- The Cairn reports a fault, or holds the report while its queue is full (01 R18; 11 R358). -/
def Cairn.report (c : Cairn) (id stamp : Nat) (i : FltInfo) : Cairn :=
  if c.queue.length < evQueueLen then
    c.enqueue { name := .fault, src := id, stamp := stamp, data := [], flt := some i }
  else if c.pendFlt.any (fun p => p.info.bit == i.bit) then
    { c with pendFlt := c.pendFlt.map fun p =>
        if p.info.bit = i.bit then { p with info := { p.info with count := min (p.info.count + i.count) (2 ^ 32 - 1) } } else p }
  else { c with pendFlt := c.pendFlt ++ [⟨{ i with rflags := setBit i.rflags 1 }, stamp⟩] }

/-- The coalescing interval of a CE source in tk (11 R358). -/
def ceInterval : Nat := 2500

/-- A fault with the tenant and context that the unit holds (11 R352, R378), where its reaction is a fence. -/
def Cairn.heldInfo (c : Cairn) (i : FltInfo) : FltInfo := { i with tenant := c.f CF.U_OWNER_TENANT, ctx := c.f CF.U_CTX_CTX }

/-- A Cairn's source detects a fault: page registers always; unless masked, UC and FATAL are reported singly and CE is coalesced
(11 R357 to R359). -/
def State.cairnFault (s : State) (id : Nat) (i : FltInfo) : State :=
  let cr := cairnFlt (kindOf id) i.bit
  if cr.1 = 0 then s else
  let c := s.cairn id
  let m := s.masked (c.rd 0x1C) i.bit cr.1
  let c := { c with regs := pageFault c.regs 0 i.bit cr.1 }
  let i := if cr.2 = 2 then c.heldInfo i else i
  let i := { i with page := 0xFF, cls := cr.1, react := cr.2 }
  let c :=
    if m then c
    else if cr.1 = 1 then
      if c.ceCoal.any (fun q => q.bit == i.bit) then
        { c with ceCoal := c.ceCoal.map fun q => if q.bit = i.bit then { q with count := q.count + 1, info := i } else q }
      else { (c.report id (s.leafVal id) i) with ceCoal := c.ceCoal ++ [⟨i.bit, s.clk, i, 0⟩] }
    else c.report id (s.leafVal id) i
  (s.setCairn id c).touch id

/-- A fault the Spur raises on a Cairn's behalf (04 R121): page registers of the Cairn if it is powered, and the report in the
Spur's own input. -/
def State.spurFault (s : State) (id b : Nat) : State :=
  let cr := cairnFlt (kindOf id) b
  let c := s.cairn id
  let m := s.masked (c.rd 0x1C) b cr.1
  let s := if c.powered then s.setCairn id { c with regs := pageFault c.regs 0 b cr.1 } else s
  if m then s else
  let i : FltInfo := ⟨0xFF, b, cr.1, cr.2, 0, 1, 0, 0, 0, 0, 0⟩
  let i := if 2 ≤ cr.2 then c.heldInfo i else i
  s.spurPut (s.server (halfOf id)) { name := .fault, src := id, stamp := s.now, data := [], flt := some i, sec := c.f CF.U_OWNER_SEC == 1 }

/-- The fault fields of a detection that carries nothing more than its bit. -/
def fltBit (b : Nat) : FltInfo := ⟨0xFF, b, 0, 0, 0, 1, 0, 0, 0, 0, 0⟩

/-- A reader that consumes no data for a context meets at byte `a` an uncorrectable word, LATENT source `b` (11 R355, R378), or a corrected one,
its memory's CE source `b` (R354). The syndrome is free: no chapter gives the memory codes (log entry 3). -/
def State.latentFault (s : State) (id b a : Nat) : State :=
  let x := s.takeFree
  x.2.cairnFault id { fltBit b with detail := a / 64 * 64, detail2 := x.1 % 2 ^ 16 }

/-! ### What a unit holds (05 R165, R166) -/

/-- Key of a byte of a unit's state space (05 R165); space 15 stands for the summary. -/
def viewKey (space a : Nat) : Nat := space * 2 ^ 40 + a

/-- A byte of a unit's own state: what Nynil has written there since the unit last ran; else what its run left, or 0 while it has not
run since its domain came up (16 R512; log entry 3). -/
def Cairn.unitByte (c : Cairn) (k : Nat) : Byte :=
  match smGet none c.views k with
  | some b => b
  | none => if c.seed = 0 then 0 else Config.unitByte c.seed k

/-- Bytes of a unit's state written from a key on. -/
def Cairn.putBytes (c : Cairn) (k : Nat) (bs : List Byte) : Cairn := { c with views := smSetList none c.views k (bs.map some) }

/-- A 32-bit word of a unit's state. -/
def Cairn.unitWord (c : Cairn) (k : Nat) : Nat :=
  (c.unitByte k).toNat + 2 ^ 8 * (c.unitByte (k + 1)).toNat + 2 ^ 16 * (c.unitByte (k + 2)).toNat + 2 ^ 24 * (c.unitByte (k + 3)).toNat

/-- A unit runs: what it holds from here on is its own doing (log entry 3). -/
def State.unitRuns (s : State) (id : Nat) : State :=
  if s.dormant id then s
  else { s.modC id fun c => { c with views := [], seed := s.free + 1 } with free := s.free + 1 }

/-- A summary register that a unit's own execution moves (05 R166). -/
def Cairn.sumWord (c : Cairn) (o : Nat) : Nat := c.unitWord (viewKey 15 o)

/-! ### Summit's messages and the leaves' places (01 R12; 03 R94, R97) -/

/-- Does a FLOW selection of eight words name general core `g` (0 to 255; 10 R327, R347)? -/
def flowBit (ws : List Nat) (g : Nat) : Bool := bit (ws.getD (g / 32) 0) (g % 32)

/-- Pending trace starts and stops with FLOW that hold a place at general core `g`'s leaf (10 R327). -/
def State.flowAt (s : State) (g : Nat) : Nat := (s.scr.acts.filter fun a => decide (s.now < a.t + 2) && flowBit a.flow g).length

/-- The most places that pending trace actions hold at any one leaf. -/
def State.flowPlaces (s : State) : Nat :=
  if s.scr.acts.all fun a => a.flow.isEmpty then 0 else (List.range 256).foldl (fun n g => max n (s.flowAt g)) 0

/-- Does an action still hold its place at a leaf (03 R97): its T has not passed at every leaf (R88), or it belongs to a step, whose messages
hold theirs until the units have frozen (05 R154, R158)? -/
def State.holdsPlace (s : State) (a : PendAct) : Bool :=
  decide (s.now < a.t + 2) || a.kind == .stepRelease || a.kind == .stepClose

/-- Actions Summit counts as pending at every leaf (03 R97). -/
def State.everyLeaf (s : State) : Nat := (s.sum.sched.filter s.holdsPlace).length

/-- Places taken at the fullest leaf. -/
def State.places (s : State) : Nat := s.everyLeaf + s.flowPlaces

/-- A request that would make a fifth pending action is refused SCHED_FULL (03 R97). -/
def State.schedFull (s : State) : Bool := decide (4 ≤ s.places)

/-- The least T Summit issues now (03 R94). -/
def State.minT (s : State) : Nat := s.now + 100

/-- A place taken at every leaf. -/
def State.takePlace (s : State) (a : PendAct) : State :=
  { s with sum := { s.sum with sched := s.sum.sched.filter s.holdsPlace ++ [a] } }

/-- The place of an action freed, or its T changed to the one issued. -/
def State.dropPlace (s : State) (p : PendAct → Bool) : State :=
  { s with sum := { s.sum with sched := s.sum.sched.filter fun a => !p a } }

/-- A number given to a new message: no receiver has had a copy of it (01 R12). -/
def State.newNumber (s : State) (n : Nat) : State :=
  ((s.cairns.filter fun e => e.2.rxMsgs.contains n).map (·.1)).foldl (fun s id =>
    s.modC id fun c => { c with rxMsgs := c.rxMsgs.filter (· ≠ n) }) s

/-- Summit sends a class 0 message: it takes the next 16-bit message number (01 R12). -/
def State.send (s : State) (m : Msg) : Nat × State :=
  let n := s.sum.msgNo
  (n, ({ s with sum := { s.sum with msgNo := (n + 1) % 2 ^ 16, msgs := smSet none s.sum.msgs n (some m) } }).newNumber n)

/-! ### Completions (02 R48) -/

def codeOk : Nat := 0
def codeNoPage : Nat := 1
def codeNoUnit : Nat := 2
def codeDormant : Nat := 3
def codeSpurLost : Nat := 4
def codeTimeout : Nat := 5
def codeRights : Nat := 6
def codeExcl : Nat := 7
def codeAlign : Nat := 8
def codeReset : Nat := 9

/-- What Nynil keeps for a master. -/
def State.mst (s : State) : Master → MstSt | .pass => s.sum.passM | .host => s.sum.hostM

/-- The state with a master's part replaced. -/
def State.setMst (s : State) (m : Master) (x : MstSt) : State :=
  match m with
  | .pass => { s with sum := { s.sum with passM := x } }
  | .host => { s with sum := { s.sum with hostM := x } }

/-- Rights bits (14 R443). -/
def rtObserve : Nat := 0
def rtInspect : Nat := 1
def rtHalt : Nat := 2
def rtDeposit : Nat := 3
def rtTrigger : Nat := 4
def rtProbe : Nat := 5
def rtTrace : Nat := 6
def rtDump : Nat := 7
def rtCensus : Nat := 8
def rtWatch : Nat := 9
def rtFault : Nat := 10
def rtFaultInject : Nat := 11
def rtTime : Nat := 12
def rtPort : Nat := 13
def rtExclusive : Nat := 14
def rtLedgerRead : Nat := 15
def rtTraceSecure : Nat := 24
def rtDumpSecure : Nat := 25
def rtDepositField : Nat := 26

/-- A master's held set (14 R444): AUTH_HELD_PASS or AUTH_HELD_HOST. -/
def State.heldSet (s : State) : Master → Nat
  | .pass => s.rd R.AUTH_HELD_PASS
  | .host => s.rd R.AUTH_HELD_HOST

/-- Does the master hold a right now? -/
def State.has (s : State) (m : Master) (r : Nat) : Bool := bit (s.heldSet m) r

end Sys2Proof.Machine
end

