-- ==== Sys2Proof/Machine/Ridge.lean ====
section
/-! DEFINITION. Machine/Ridge.lean: the Ridgeline counter, TSYNC epochs, slews, calibration sweeps and REFCLK (03). -/

namespace Sys2Proof.Machine

/-! ### The counter -/

/-- Every change of ALIGNED raises ALIGN_CHANGE (03 R86). -/
def State.realign (s : State) : State :=
  let a := s.f F.RDG_STAT_LOADED == 1 && s.f F.RDG_STAT_HOLDOVER == 0 && !s.rdg.tsyncLost && s.rdg.offOk && s.rdg.slewRem == 0
  if b2n a = s.f F.RDG_STAT_ALIGNED then s
  else (s.setF F.RDG_STAT_ALIGNED (b2n a)).raise .alignChange 0x100D [.w (b2n a)]

/-- A signed value as a 32-bit register shows it, saturating (03 R104). -/
def signed32 (d : Int) : Nat :=
  if d > 2147483647 then 0x7FFFFFFF else if d < -2147483648 then 0x80000000
  else if d < 0 then (4294967296 + d).toNat else d.toNat

/-- The slew left is now `d`; a slew that ends raises SLEW_END (03 R84). -/
def State.setSlew (s : State) (d : Int) : State :=
  let was := s.rdg.slewRem
  let s := { s with rdg := { s.rdg with slewRem := d, skipTick := false } }
  let s := (s.wr R.RDG_SLEW_REM (signed32 d)).setF F.RDG_STAT_SLEWING (b2n (d ≠ 0))
  if was ≠ 0 ∧ d = 0 then s.raise .slewEnd 0x100D [] else s

/-- Is a slew point due on the next tick (03 R84)? -/
def State.slewDue (s : State) : Bool :=
  s.rdg.running && s.rdg.slewRem != 0 && !s.rdg.skipTick && s.rdg.now % 1024 == 0

/-- The slew point: the counter advances by 0 when the device is ahead and by 2 when it is behind (03 R84). -/
def State.slewPoint (s : State) : State :=
  let ahead := decide (0 < s.rdg.slewRem)
  let d := if ahead then s.rdg.slewRem - 1 else s.rdg.slewRem + 1
  let n := s.rdg.now
  let s := { s with rdg := { s.rdg with raw := s.rdg.raw + 1, now := if ahead then n else n + 2 } }
  let s := s.setSlew d
  ({ s with rdg := { s.rdg with skipTick := ahead } }).realign

/-- One tick (03 R76): the counter advances by 1, except at a slew point. TSYNC_OK falls when the expected epoch's last frame bit
has passed without an accepted epoch. -/
def State.tick (s : State) : State :=
  if !s.rdg.running then s
  else if s.slewDue then s.slewPoint
  else
    let s := { s with rdg := { s.rdg with raw := s.rdg.raw + 1, now := s.rdg.now + 1, skipTick := false } }
    if s.f F.RDG_STAT_TSYNC_OK = 1 ∧ s.rdg.lastRaw + 25 * (s.rdg.interval + 1114) < s.rdg.raw then s.setF F.RDG_STAT_TSYNC_OK 0 else s

/-! ### TSYNC -/

/-- One step of CRC-16 with polynomial 0x1021 (03 R79). -/
def crcStep (crc : Nat) (b : Bool) : Nat :=
  let top := bit crc 15 != b
  let sh := crc * 2 % 65536
  if top then Nat.xor sh 0x1021 else sh

/-- CRC-16 of bits 1 to 72 of a time-of-day frame, in transmission order (03 R79). -/
def frameCrc (frame : Nat) : Nat := (List.range 72).foldl (fun c i => crcStep c (bit frame (i + 1))) 0xFFFF

/-- Is the frame valid (03 R79)? `start` is the edge of its start bit after E. -/
def frameOk (start frame : Nat) : Bool :=
  decide (16 ≤ start) && decide (start ≤ 1024) && bit frame 0 && !bit frame 89 && bits frame 73 16 == frameCrc frame

/-- N as RDG_EPOCH_INT sets it (03 R104). -/
def State.epochInt (s : State) : Nat := min (max (s.f F.RDG_EPOCH_INT_N) 10000) 10000000

/-- A bad epoch (03 R80): counted, raised as TSYNC_BAD; one that stands at or after the expected instant clears TSYNC_OK. -/
def State.badEpoch (s : State) (edge : Nat) : State :=
  let s := (s.satAdd F.RDG_TSYNC_BAD_CNT 1).hubFault 0x01 2
  match s.rdg.lastE with
  | none => s
  | some e => if e + s.rdg.interval ≤ edge then s.setF F.RDG_STAT_TSYNC_OK 0 else s

/-- Whether the last accepted epoch gave |D| ≤ 2 (03 R86); a load leaves D at 0. -/
def State.setOffOk (s : State) (b : Bool) : State := { s with rdg := { s.rdg with offOk := b } }

/-- The counter set as R82 says: to EPOCH_TK plus what has passed since E; TIME_LOAD carries the old and new values; no multiple of 65,536
between the two is a master value of the trace (10 R331). DESIGN CHOICE: a
load that carries the counter past 2^64 - 1 leaves a greater number, and what is read or stored of it is the number modulo 2^64; R76
says only that the counter does not wrap in service (log entry 60). -/
def State.timeLoad (s : State) (tk lE : Nat) : State :=
  let old := s.rdg.now
  let new := tk + (old - lE)
  let s := { s with rdg := { s.rdg with now := new }, scr := { s.scr with lastSync := (new + 65535) / 65536 - 1 } }
  let s := s.setF F.RDG_STAT_LOADED 1
  s.raise .timeLoad 0x100D [.d old, .d new]

/-- An accepted epoch of offset D with LOADED at 1 (03 R83, R85). DESIGN CHOICE: with TRACK_EN at 0 a slew already in progress goes on with
what it has left; R83 says only that none is started (log entry 60). -/
def State.offset (s : State) (tk lE : Nat) : State :=
  let d : Int := (lE : Int) - (tk : Int)
  let s := s.wr R.RDG_OFFSET (signed32 d)
  let small := decide (-2 ≤ d) && decide (d ≤ 2)
  let s := s.setOffOk small
  if s.f F.RDG_STAT_RELOAD_ARMED = 1 ∧ d < 0 then
    ((s.setF F.RDG_STAT_RELOAD_ARMED 0).setSlew 0).timeLoad tk lE
  else
    let s := s.setF F.RDG_STAT_RELOAD_ARMED 0
    if s.f F.RDG_CTRL_TRACK_EN = 0 then s
    else
      let s := s.setSlew (if -1 ≤ d ∧ d ≤ 1 then 0 else d)
      if (3 ≤ d ∨ d ≤ -3) ∧ !s.rdg.tsyncLost ∧ !s.rdg.refLost then s.hubFault 0x01 4 else s

/-- An accepted epoch (03 R80, R82, R83). -/
def State.acceptEpoch (s : State) (edge tk lE flags : Nat) : State :=
  let s := (s.wr64 R.RDG_EPOCH_TK_LO tk).wr R.RDG_FRAME_FLAGS flags
  let s := s.setF F.RDG_STAT_TSYNC_OK 1
  let since := s.rdg.now - lE
  let s := if s.f F.RDG_STAT_LOADED = 0 then (s.timeLoad tk lE).setOffOk true else s.offset tk lE
  let s := { s with rdg := { s.rdg with
      lastE := some edge, lastRaw := s.rdg.raw - since, interval := s.epochInt,
      tsyncLost := false, refLost := false, checkOff := false } }
  s.realign

/-- A mark or runt with the frame that follows it: `high` edges sampled high after `low` sampled low, E at REFCLK edge `edge`,
the local counter value `lE` at E, the start bit `start` edges after E and the 90 bits of the frame (03 R78 to R80, R102). -/
def State.tsync (s : State) (high low edge lE start frame : Nat) : State :=
  if s.f F.RDG_STAT_HOLDOVER = 1 then s
  else
    let tk := bits frame 1 64
    let mark := decide (8 ≤ high) && decide (8 ≤ low)
    let timed := match s.rdg.lastE with
      | none => true
      | some e => s.rdg.tsyncLost || s.rdg.checkOff ||
          (edge == e + s.rdg.interval && tk == s.rd64 R.RDG_EPOCH_TK_LO + 25 * s.rdg.interval)
    if mark && frameOk start frame && timed then s.acceptEpoch edge tk lE (bits frame 65 8) else s.badEpoch edge

/-- Three expected epoch instants have passed with no accepted epoch (03 R80). -/
def State.tsyncLoss (s : State) : State :=
  let s := (s.setF F.RDG_STAT_TSYNC_OK 0).hubFault 0x01 3
  ({ s with rdg := { s.rdg with tsyncLost := true } }).realign

/-! ### REFCLK -/

/-- REFCLK_LOST: holdover (03 R102). -/
def State.refclkLost (s : State) : State :=
  let s := ((s.setF F.RDG_STAT_HOLDOVER 1).setF F.RDG_STAT_LOCKED 0).hubFault 0x01 1
  ({ s with rdg := { s.rdg with refLost := true, glitches := [], refBad := s.clk } }).realign

/-- A REFCLK glitch; the 16th within 25,000 tk is a loss of REFCLK (03 R101). -/
def State.refclkGlitch (s : State) : State :=
  let s := (s.satAdd F.RDG_REF_GLITCH_CNT 1).hubFault 0x01 0
  let g := s.rdg.glitches.filter (fun t => decide (s.clk < t + 25000)) ++ [s.clk]
  let s := { s with rdg := { s.rdg with glitches := g, refBad := s.clk } }
  if 16 ≤ g.length ∧ s.f F.RDG_STAT_HOLDOVER = 0 then s.refclkLost else s

/-- The PLL relocks without a phase step (03 R103). -/
def State.pllRelock (s : State) : State :=
  let s := (s.setF F.RDG_STAT_HOLDOVER 0).setF F.RDG_STAT_LOCKED 1
  ({ s with rdg := { s.rdg with checkOff := true } }).realign

/-! ### Calibration (03 R91, R92) -/

/-- The n-th unit of a half, in ascending Cairn ID (01 R13). -/
def nthId (h n : Nat) : Nat :=
  if n < 528 then 0x210 * h + n
  else if n < 656 then 0x420 + 0x80 * h + (n - 528)
  else if n < 784 then 0x520 + 0x80 * h + (n - 656)
  else if n < 944 then 0x620 + (n - 784) / 8 * 16 + 8 * h + (n - 784) % 8
  else if n < 1456 then 0x760 + 0x200 * h + (n - 944)
  else if n < 1488 then 0xB60 + 0x20 * h + (n - 1456)
  else 0xBA0 + 0x10 * h + (n - 1488)

/-- How many leaves the set of a Spur's sweep holds: none for a lost Spur. -/
def State.sweepLen (s : State) (p : Nat) : Nat :=
  match s.spur p with | 0 => 1504 | 1 => 3008 | _ => 0

/-- The leaf at an index of a Spur's set. -/
def State.sweepId (s : State) (p n : Nat) : Nat := if s.spur p = 1 then n else nthId p n

/-- A Spur's sweep. -/
def State.sweep (s : State) (p : Nat) : Sweep := if p = 0 then s.rdg.sweep0 else s.rdg.sweep1

/-- The state with a Spur's sweep replaced, and NEXT_LEAF showing it (03 R104). DESIGN CHOICE: a Spur whose sweep has given every leaf of
its set its slot, while the other's has not, shows 0: no next leaf stands in its sweep (log entry 60). -/
def State.setSweep (s : State) (p : Nat) (w : Sweep) : State :=
  let s := if p = 0 then { s with rdg := { s.rdg with sweep0 := w } } else { s with rdg := { s.rdg with sweep1 := w } }
  let n := if w.pos < s.sweepLen p then s.sweepId p w.pos else 0
  let s := if s.server 0 = p then s.setF F.RDG_CAL_STAT_NEXT_LEAF n else s
  if s.server 1 = p then s.setF F.RDG_CAL_NEXT1_NEXT_LEAF n else s

/-- Ticks from one slot of a sweep to the next: 64 in an immediate sweep, 4,096 in the background. -/
def State.slotTk (s : State) : Nat := if s.f F.RDG_STAT_SWEEP_BUSY = 1 then 64 else 4096

/-- Both sweeps begin again from the lowest Cairn ID of their sets; a sweep cut short is abandoned with this (03 R91). -/
def State.sweepStart (s : State) : State :=
  let w : Sweep := ⟨0, s.clk + s.slotTk, false⟩
  (s.setSweep 0 w).setSweep 1 w

/-- A change of the sets, or a hub soft reset: any sweep is cut short (03 R91). -/
def State.sweepCut (s : State) : State := (s.setF F.RDG_STAT_SWEEP_BUSY 0).sweepStart

/-- A write of CAL_SWEEP (03 R91). -/
def State.calSweep (s : State) : State :=
  if s.f F.RDG_STAT_SWEEP_BUSY = 1 ∨ s.f F.RDG_STAT_CAL_DONE = 0 then s
  else (s.setF F.RDG_STAT_SWEEP_BUSY 1).sweepStart

/-- Does a Spur's slot fall due now? -/
def State.slotDue (s : State) (p : Nat) : Bool :=
  s.rdg.running && s.f F.RDG_STAT_CAL_DONE == 1 && (s.f F.RDG_STAT_SWEEP_BUSY == 1 || s.f F.RDG_CTRL_BG_CAL_EN == 1)
  && s.spur p != 2 && !(s.sweep p).full && decide ((s.sweep p).next ≤ s.clk)

/-- A failed measurement (03 R92): the first makes the Spur retry the leaf in its next slot, the second raises LEAF_TIME. -/
def State.calFail (s : State) (id : Nat) : State :=
  if s.rdg.failing.contains id then
    let new := !s.rdg.leafTime.contains id
    let s := { s with rdg := { s.rdg with
      failing := s.rdg.failing.filter (· ≠ id), leafTime := if new then s.rdg.leafTime ++ [id] else s.rdg.leafTime } }
    let s := if new then s.satAdd F.RDG_CAL_STAT_FAIL_CNT 1 else s
    s.spurFault id 0
  else { s with rdg := { s.rdg with failing := s.rdg.failing ++ [id] } }

/-- The one-way delay of a leaf: half its round trip, for half 1 with COL_XING_TK (03 R91). -/
def State.delayOf (s : State) (id trip : Nat) : Nat := trip / 2 + (if halfOf id = 1 then s.f F.COL_XING_TK_TK else 0)

/-- Is a measured round trip good (03 R92): measured at all, and within 2 tk of the leaf's previous calibration? -/
def State.tripOk (s : State) (id : Nat) (trip : Option Nat) : Bool :=
  match trip, smGet none s.rdg.delay id with
  | none, _ => false
  | some _, none => true
  | some t, some d => decide (s.delayOf id t ≤ d + 2) && decide (d ≤ s.delayOf id t + 2)

/-- A leaf is calibrated (03 R91, R92): a good round trip gives it a new offset, and which of its half's two values it presents from then
on is free (log entry 17); otherwise it keeps its last good offset. -/
def State.calibrate (s : State) (id : Nat) (trip : Option Nat) : State :=
  if s.tripOk id trip then
    let d := s.delayOf id (trip.getD 0)
    let x := s.takeFree
    let s := x.2.modC id fun c => { c with leafOff := d, leafLag := x.1 % 2 }
    { s with rdg := { s.rdg with delay := smSet none s.rdg.delay id (some d), failing := s.rdg.failing.filter (· ≠ id) } }
  else s.calFail id

/-- The sweep slot of Spur `p`: the round trip of the next leaf, if it can be measured, with `xing` the crossing latency of the time-tree
group; a dormant or invalid leaf's slot passes unused (03 R91, R92). -/
def State.calSlot (s : State) (p : Nat) (trip : Option Nat) (xing : Nat) : State :=
  let w := s.sweep p
  let id := s.sweepId p w.pos
  let c := s.cairn id
  let used := c.powered && c.leafValid
  let s := if used ∧ halfOf id = 1 then s.setF F.COL_XING_TK_TK xing else s
  let retry := used && !s.tripOk id trip && !s.rdg.failing.contains id
  let s := if used then s.calibrate id trip else s
  let pos := if retry then w.pos else w.pos + 1
  let s := s.setSweep p ⟨pos, w.next + s.slotTk, decide (s.sweepLen p ≤ pos)⟩
  let done := fun (q : Nat) => (s.sweep q).full || (s.spur q == 2 && s.spur (1 - q) == 1)
  let full := done 0 && done 1
  if full then ((s.bump R.RDG_SWEEP_CNT).setF F.RDG_STAT_SWEEP_BUSY 0).sweepStart else s

/-! ### Control -/

/-- Is a scheduled action pending at any leaf (03 R85, R97)? -/
def State.anyAction (s : State) : Bool := s.places != 0 || s.cairns.any fun e => !e.2.acts.isEmpty

/-- A write of RELOAD (03 R85). -/
def State.reload (s : State) : State := if s.anyAction then s else s.setF F.RDG_STAT_RELOAD_ARMED 1

/-- A master's write to RDG_CTRL (03 R105). -/
def State.rdgCtrl (s : State) (v : Nat) : State :=
  let was := s.f F.RDG_CTRL_BG_CAL_EN
  let s := (s.setF F.RDG_CTRL_TRACK_EN (bits v 0 1)).setF F.RDG_CTRL_BG_CAL_EN (bits v 1 1)
  let s := if was ≠ bits v 1 1 ∧ s.f F.RDG_STAT_SWEEP_BUSY = 0 then s.sweepStart else s
  let s := if bit v 2 then s.calSweep else s
  if bit v 3 then s.reload else s

end Sys2Proof.Machine
end

