-- ==== Sys2Proof/Machine/Summit.lean ====
section
/-! DEFINITION. Machine/Summit.lean: Spurs, their mirrors and takeover, Col, and how the accesses of a master to the Cairn window
are kept and completed (01, 02). -/

namespace Sys2Proof.Machine

/-! ### Spurs -/

/-- A Spur's state in SUM_TOPO_STAT and SPR_STAT (01 R36, R38). -/
def State.setSpur (s : State) (p st : Nat) : State := (s.setF (spurFld p) st).setF (F.SPR_STAT_STATE p) st

/-- The liveness intervals of a Spur that have passed without a flit since its last are counted (01 R38). -/
def State.liveMiss (s : State) (p : Nat) : State :=
  s.satAdd (F.SPR_LIVE_MISS_CNT p) ((s.clk - (if p = 0 then s.sum.live0 else s.sum.live1)) / 256 - 1)

/-- The liveness flit of a Spur: intervals missed since the last are counted, and the loss timer restarts (01 R21, R38). -/
def State.liveFlit (s : State) (p : Nat) : State :=
  let s := s.liveMiss p
  if p = 0 then { s with sum := { s.sum with live0 := s.clk } } else { s with sum := { s.sum with live1 := s.clk } }

/-- The other half of a pair of Spurs. -/
def otherSpur (p : Nat) : Nat := 1 - p

/-- Window accesses in flight to a Cairn, of masters and of Pitch engines: its window-session state (log entry 59). -/
def State.windowsOf (s : State) (id : Nat) : Nat :=
  (s.sum.aps.filter fun a => a.cairn == id).length
    + [0, 1, 2, 3].foldl (fun n e => n + ((smGet EngSt.init s.prb.eng e).wins.filter fun w => w.cairn == id).length) 0

/-- The mirrored entry of a Cairn as its Spur's table has it now (01 R20): its unacknowledged class 1 entries are all that its queue
holds (R18). -/
def State.entryOf (s : State) (id : Nat) : MirEnt :=
  let c := s.cairn id
  let fr := smGet FenceRec.none s.flt.fences id
  ⟨true, !c.powered && !s.rst.warmWait.contains id, fr.fenced, s.windowsOf id, c.queue.length⟩

/-- A Spur sends one waiting change of its table to the other (01 R20); its partner's mirror is current when none waits. -/
def State.mirrorSend (s : State) (p : Nat) : State :=
  match (if p = 0 then s.sum.mirPend0 else s.sum.mirPend1) with
  | [] => s
  | id :: rest =>
    let s := { s with sum := { s.sum with mirror := smSet MirEnt.none s.sum.mirror id (s.entryOf id) } }
    let s := if p = 0 then { s with sum := { s.sum with mirPend0 := rest } } else { s with sum := { s.sum with mirPend1 := rest } }
    s.setF (F.SPR_STAT_MIRROR_OK (otherSpur p)) (b2n rest.isEmpty)

/-! ### Completions of a master's accesses (02 R48, R71) -/

/-- SUM_ERR and SUM_ERR_ADDR take an error; the first RIGHTS error since SUM_ERR was read raises ACCESS_DENIED (02 R61, R71). -/
def State.recordErr (s : State) (m : Master) (code addr sel : Nat) : State :=
  let first := s.f (bkF m F.SUM_ERR_VALID) == 0
  let s := s.satAdd (bkF m F.SUM_ERR_COUNT) 1
  let s := if first then
      ((s.setF (bkF m F.SUM_ERR_CODE) code).setF (bkF m F.SUM_ERR_VALID) 1).wr (bk m R.SUM_ERR_ADDR) (sel * 0x100000 + addr)
    else s
  if code = codeRights ∧ !(s.mst m).denied then
    (s.setMst m { s.mst m with denied := true }).raise .accessDenied 0x1007 [.w (mNum m), .w addr]
  else s

/-- A hub access completes: the code and data go back to the master, an error into its SUM_ERR. -/
def State.complete (s : State) (m : Master) (addr code data : Nat) : State :=
  let s := s.setMst m { s.mst m with resp := ⟨code, data⟩ }
  if code = codeOk then s else s.recordErr m code addr 0

/-- A window session of a Cairn changes (01 R20); IDs that name no unit have no entry. -/
def State.touchWin (s : State) (id : Nat) : State := if kindOf id = 0 then s else s.touch id

/-- An aperture access completes: as a hub access, and counted in CWIN_STAT, CWIN_TOTAL and CWIN_ERRS (02 R62). -/
def State.apComplete (s : State) (a : ApAcc) (code data : Nat) : State :=
  let m := a.master
  let s := s.setMst m { s.mst m with resp := ⟨code, data⟩ }
  let s := ((s.setF (bkF m F.CWIN_STAT_LAST_CODE) code).bump (bk m R.CWIN_TOTAL)).touchWin a.cairn
  if code = codeOk then s else (s.bump (bk m R.CWIN_ERRS)).recordErr m code a.addr a.cairn

/-- A master's aperture accesses in flight, oldest first. -/
def State.apsOf (s : State) (m : Master) : List ApAcc := s.sum.aps.filter fun a => a.master == m

/-- The oldest access of a list with the fate it has. -/
def fatedPrefix : List ApAcc → List (ApAcc × Nat)
  | [] => []
  | a :: as => match a.fate with | none => [] | some c => (a, c) :: fatedPrefix as

/-- The accesses of a list that remain once those whose fate is decided at its head have completed. -/
def fatedRest : List ApAcc → List ApAcc
  | [] => []
  | a :: as => match a.fate with | none => a :: as | some _ => fatedRest as

/-- Every access of a master whose completion is decided, and none before it is open, completes, in order (02 R47). -/
def State.apFlush (s : State) (m : Master) : State :=
  let mine := s.apsOf m
  let s := { s with sum := { s.sum with aps := (s.sum.aps.filter fun a => a.master != m) ++ fatedRest mine } }
  (fatedPrefix mine).foldl (fun s x => s.apComplete x.1 x.2 0) s

/-- The accesses in flight that satisfy `p` will complete with `code`. -/
def State.apFate (s : State) (p : ApAcc → Bool) (code : Nat) : State :=
  let s := { s with sum := { s.sum with aps := s.sum.aps.map fun a => if p a && a.fate.isNone then { a with fate := some code } else a } }
  (s.apFlush .pass).apFlush .host

/-- An aperture access enters the window, its fate decided or not (02 R65 to R68), behind every access that has arrived (01 R10). -/
def State.apEnter (s : State) (a : ApAcc) : State :=
  let s : State := { s with sum := { s.sum with aps := s.sum.aps ++ [{ a with no := s.sum.arrNo }], arrNo := s.sum.arrNo + 1 } }
  (s.touchWin a.cairn).apFlush a.master

/-! ### Loss of a Spur and takeover -/

/-- What the Spurs hold for their inputs goes to the Spur that serves its source now (01 R23). -/
def State.waitSort (s : State) : State :=
  let all := s.sum.wait0 ++ s.sum.wait1
  let dest := fun (p : Nat) => all.filter fun e => s.server (halfOf e.src) == p
  { s with sum := { s.sum with wait0 := dest 0, wait1 := dest 1 } }

/-- SPUR_LOST has its number (01 R22): SUM_TAKEOVER_T records the time. -/
def State.lossNumbered (s : State) : State :=
  ({ s with sum := { s.sum with lostNum := true } }).wr64 R.SUM_TAKEOVER_T_LO s.now

/-- Summit declares a Spur lost (01 R21, R22, R26, R68): its state, SPUR_LOST, HUB_LOST when no Spur remains, the aperture accesses in
flight to it, and the retention copies it kept (06 R185); `rflags` carries FORCED. A SPUR_LOST that its mask holds back waits for no number (log entry 59). -/
def State.spurLost (s : State) (p : Nat) (rflags : Nat := 0) : State :=
  let s : State := { s with retain := smKeep (fun id => s.server (halfOf id) != p) s.retain }
  let s := s.setSpur p 2
  let s := s.hubFault (0x12 + p) 0 rflags
  let s := { s with sum := { s.sum with lostT := s.clk, lostNum := false, takeover := if s.hubLost then none else some (otherSpur p) } }
  let s := if s.masked (s.rd (0x1201C + 0x1000 * p)) 0 2 then s.lossNumbered else s
  let s := if s.hubLost then s.hubFault 0x00 0 else s
  s.waitSort.apFate (fun a => a.spur == p) codeSpurLost

/-- The class 1 entries of a Cairn to be sent again: those that have no number and stand in no input of the arbiter (01 R22, R23). -/
def State.resend (s : State) (id : Nat) : State :=
  let inFifo := fun (t : Nat) => (s.sum.fifo0 ++ s.sum.fifo1).any fun e => e.src == id && e.tag == t
  s.modC id fun c => { c with queue := c.queue.map fun q => if q.numbered || inFifo q.ev.tag then q else { q with sent := false } }

/-- The surviving Spur promotes its mirror of half `q`'s table (01 R22): what the lost Spur had not yet sent it learns from the Cairns'
answers (log entry 59). -/
def State.promote (s : State) (q : Nat) : State :=
  let late := if q = 0 then s.sum.mirPend0 else s.sum.mirPend1
  let mir := late.foldl (fun m id => smSet MirEnt.none m id (s.entryOf id)) s.sum.mirror
  { s with sum := { s.sum with mirror := mir, mirPend0 := [], mirPend1 := [] } }

/-- Cairns of a half that the mirror shows as present and not dormant. -/
def State.mirrorUp (s : State) (q : Nat) : Nat :=
  (s.sum.mirror.filter fun e => halfOf e.1 == q && e.2.present && !e.2.dormant).length

/-- Takeover is complete (01 R22): the surviving Spur has promoted its mirror and serves both halves, and it asks the Cairns of the
lost Spur's half to resend what is not acknowledged. -/
def State.takeoverDone (s : State) (p : Nat) : State :=
  let q := otherSpur p
  let s := (s.setSpur p 1).promote q
  let n := s.f (F.SPR_PRESENT_CNT_CNT q)
  let s := s.setF (F.SPR_PRESENT_CNT_CNT p) (s.f (F.SPR_PRESENT_CNT_CNT p) + n)
  let s := s.setF (F.SPR_DORMANT_CNT_CNT p) (s.f (F.SPR_DORMANT_CNT_CNT p) + (n - s.mirrorUp q))
  let s := { s with sum := { s.sum with takeover := none } }
  let s := s.forEach ((s.cairns.map (·.1)).filter fun id => halfOf id == q) State.resend
  s.sweepCut

/-- Is the takeover complete (01 R22): SPUR_LOST has its number, and the 176 tk from the declaration to the end of the sequence have
passed? -/
def State.takeoverDue (s : State) : Bool := s.sum.lostNum && decide (s.sum.lostT + 176 ≤ s.clk)

/-- Has takeover made the Spur that answers for a Cairn ready (01 R22; 02 R68)? -/
def State.reachable (s : State) (id : Nat) : Bool :=
  !s.hubLost && (s.spur (halfOf id) != 2 || s.spur (s.server (halfOf id)) == 1)

/-- A Cairn's dormancy changes: its Spur's SPR_DORMANT_CNT (01 R38), by `up`. -/
def State.countDormant (s : State) (id : Nat) (up : Bool) : State :=
  let f := F.SPR_DORMANT_CNT_CNT (s.server (halfOf id))
  s.setF f (if up then s.f f + 1 else s.f f - 1)

/-! ### Col (01 R27) -/

/-- A lane of a Col group fails. -/
def State.colLane (s : State) (g : Nat) : State :=
  if bit (s.f F.COL_STAT_GRP_SPARED) g then
    let ok := clrBit (s.f F.COL_STAT_GRP_OK) g
    ((((s.setF F.COL_STAT_GRP_OK ok).setF F.SUM_TOPO_STAT_COL_GRP_OK ok)).setF F.COL_STAT_LOST 1).hubFault 0x14 1
  else
    ((s.setF F.COL_STAT_GRP_SPARED (setBit (s.f F.COL_STAT_GRP_SPARED) g)).satAdd F.COL_LANE_CE_CNT 1).hubFault 0x14 0

/-! ### The exclusive session (02 R70 to R75) -/

/-- Is the Pass exclusive session held? -/
def State.excl (s : State) : Bool := s.f F.SUM_EXCL_EXCL == 1

/-- Causes EXCL_END carries (log entry 9): RELEASE, lease, end of the Pass session, reset. -/
def exclByRelease : Nat := 0
def exclByLease : Nat := 1
def exclBySession : Nat := 2
def exclByReset : Nat := 3

/-- The exclusive session, if held, ends (02 R74, R75). -/
def State.exclEnd (s : State) (cause : Nat) : State :=
  if s.excl then
    ((s.setF F.SUM_EXCL_EXCL 0).setF F.SUM_EXCL_HOST_REQ 0).raise .exclEnd 0x1009 [.w cause]
  else s

/-- A Pass write to SUM_EXCL (02 R72), whose right EXCLUSIVE the access has shown: the lease, then ACQUIRE, then RELEASE. DESIGN CHOICE: the
spec gives no order for a write with ACQUIRE and RELEASE both 1; here the session starts or is renewed and ends at once, with EXCL_END
(log entry 60). -/
def State.exclPass (s : State) (v : Nat) : State :=
  let s := s.setF F.SUM_EXCL_LEASE_MS (bits v 16 16)
  let s := if bit v 1 then (if s.excl then s.setF F.SUM_EXCL_HOST_REQ 0 else s.setF F.SUM_EXCL_EXCL 1) else s
  if bit v 2 then s.exclEnd exclByRelease else s

/-- A host write to SUM_EXCL that asks for release (02 R74). -/
def State.exclHost (s : State) (v : Nat) : State :=
  if bit v 3 then (s.setF F.SUM_EXCL_HOST_REQ 1).raise .exclRequest 0x1009 [] else s

/-- The time at which the lease runs out (02 R75). -/
def State.leaseEnd (s : State) : Nat := s.sum.lastPass + max (s.f F.SUM_EXCL_LEASE_MS) 1 * 2500000

end Sys2Proof.Machine
end

