-- ==== Sys2Proof/Machine/Couloir.lean ====
section
/-! DEFINITION. Machine/Couloir.lean: the crash cache, slots and headers, reservations, chunks and their commitment, and the layouts
of the Cairn record (08 R239 to R271). What requests cuts or runs on from them stands in Machine/Dump.lean. -/

namespace Sys2Proof.Machine

/-! ### Bytes and check codes -/

/-- The low `n` bytes of a number, least significant first. -/
def le (n v : Nat) : List Byte := (List.range n).map fun i => BitVec.ofNat 8 (v / 2 ^ (8 * i))

/-- The number a list of bytes spells, least significant first. -/
def ofLe : List Byte → Nat
  | [] => 0
  | b :: bs => b.toNat + 256 * ofLe bs

/-- One bit of the reflected CRC-32C (08 R266). -/
def crc32cBit (c : Nat) : Nat := if c % 2 = 1 then Nat.xor (c / 2) 0x82F63B78 else c / 2

/-- CRC-32C of bytes, from a running value. -/
def crc32cFrom (c : Nat) : List Byte → Nat
  | [] => c
  | b :: bs => crc32cFrom ((List.range 8).foldl (fun x _ => crc32cBit x) (Nat.xor c b.toNat)) bs

/-- CRC-32C: polynomial 0x1EDC_6F41 reflected, initial value and final exclusive-or 0xFFFF_FFFF (08 R266). -/
def crc32c (bs : List Byte) : Nat := Nat.xor (crc32cFrom 0xFFFFFFFF bs) 0xFFFFFFFF

/-- ⌈a ÷ b⌉. -/
def ceilDiv (a b : Nat) : Nat := (a + b - 1) / b

/-! ### Stack memory and the crash cache (08 R239, R240, R514) -/

/-- Bytes of stack memory. -/
def memTop : Nat := 1536000000000

/-- Channel index of a device byte address. -/
def State.chanOf (s : State) (a : Nat) : Nat := a / 2 ^ s.gran % 256

/-- Channel-local byte address of a device byte address. -/
def State.localOf (s : State) (a : Nat) : Nat := a / (256 * 2 ^ s.gran) * 2 ^ s.gran + a % 2 ^ s.gran

/-- Device byte address of a channel-local byte address. -/
def State.deviceOf (s : State) (c x : Nat) : Nat := x / 2 ^ s.gran * (256 * 2 ^ s.gran) + c * 2 ^ s.gran + x % 2 ^ s.gran

/-- COU_CC_SIZE.SIZE as it acts. -/
def State.ccSize (s : State) : Nat :=
  let n := s.f F.COU_CC_SIZE_SIZE
  if n = 0 ∨ 16 < n then 4 else n

/-- D, the blocks of the data area. -/
def State.ccData (s : State) : Nat := s.ccSize * 65536

/-- Granules of the data area. -/
def State.ccGranules (s : State) : Nat := s.ccData * 64

/-- Is the crash cache enabled? -/
def State.ccOn (s : State) : Bool := s.f F.COU_CTRL_ENABLE == 1

/-- Does a channel-local byte address lie in the region (it does in none while ENABLE is 0)? -/
def State.ccLocal (s : State) (x : Nat) : Bool :=
  s.ccOn && decide (s.f F.COU_CC_BASE_BASE ≤ x / 4096) && decide (x / 4096 < s.f F.COU_CC_BASE_BASE + 64 + s.ccData / 256)

/-- Does a device byte address lie in the crash cache? -/
def State.inCc (s : State) (a : Nat) : Bool := s.ccLocal (s.localOf a)

/-! ### Scree's spill ring, where accelerator writes meet it (10 R341, R342) -/

/-- Scree's enabled mask (10 R327). -/
def State.trMask (s : State) : Nat := s.f F.SCR_STAT_MASK

/-- Is the trace running, or its flush in progress? -/
def State.tracing (s : State) : Bool := s.trMask != 0 || s.scr.flush.isSome

/-- SCR_CTRL.MODE as it acts: 0 RING, 1 SPILL, 2 PORT. -/
def State.trMode (s : State) : Nat := if s.f F.SCR_CTRL_MODE = 3 then 0 else s.f F.SCR_CTRL_MODE

/-- N, the blocks of the spill ring. -/
def State.ringLen (s : State) : Nat := min (s.f F.SCR_SPILL_SIZE_SIZE) 16384 * 256

/-- Does a device byte address lie in the spill ring while it is in use? -/
def State.inRing (s : State) (a : Nat) : Bool :=
  let base := s.rd64 R.SCR_SPILL_BASE_LO / 2 ^ 20 * 2 ^ 20
  (s.trMode != 0 && (s.tracing || !s.scr.ring.isEmpty)) && decide (base ≤ a) && decide (a < base + s.ringLen * 4096)

/-- A write of the accelerator to stack memory at device address `a`: it is discarded, with its fault, where any byte of it falls in the
crash cache or in the spill ring in use (R243; 10 R342). -/
def State.stackWrite (s : State) (a : Nat) (bytes : List Byte) : State :=
  let at_ := (List.range bytes.length).map (a + ·)
  if at_.any s.inCc then s.hubFault 0x08 3
  else if at_.any s.inRing then s.hubFault 0x0B 2
  else { s with mem := smSetList 0 s.mem a bytes }

/-- Device byte address of byte `i` of logical metadata block `b`. -/
def State.metaAddr (s : State) (b i : Nat) : Nat :=
  s.deviceOf (b % 256) ((s.f F.COU_CC_BASE_BASE + b / 256) * 4096 + i)

/-- Device byte address of byte `i` of a granule of the log. -/
def State.granAddr (s : State) (g i : Nat) : Nat :=
  let g := g % s.ccGranules
  let d := g / 64
  s.deviceOf (d % 256) ((s.f F.COU_CC_BASE_BASE + 64 + d / 256) * 4096 + g % 64 * 64 + i)

/-- Bytes written to stack memory, each at the address `at_` gives its position. -/
def State.putBytes (s : State) (at_ : Nat → Nat) (bs : List Byte) : State :=
  { s with mem := (bs.zipIdx).foldl (fun m e => smSet 0 m (at_ e.2) e.1) s.mem }

/-- Bytes of the metadata area from byte offset `o` on. -/
def State.putMeta (s : State) (o : Nat) (bs : List Byte) : State :=
  s.putBytes (fun i => s.metaAddr ((o + i) / 4096) ((o + i) % 4096)) bs

/-- The whole metadata area zeroed (R242). -/
def State.zeroMeta (s : State) : State :=
  let lo := s.f F.COU_CC_BASE_BASE
  { s with mem := smKeep (fun a => decide (s.localOf a / 4096 < lo) || decide (lo + 64 ≤ s.localOf a / 4096)) s.mem }

/-- Metadata byte offset of slot `n`'s manifest region (R241). -/
def manifestOff (n : Nat) : Nat := (3088 + 3316 * n) * 4096

/-- The bytes of a slot's manifest region zeroed (R277). -/
def State.zeroManifest (s : State) (n : Nat) : State :=
  let lo := s.f F.COU_CC_BASE_BASE
  { s with mem := smKeep (fun a =>
      let b := (s.localOf a / 4096 - lo) * 256 + s.chanOf a
      !(decide (lo ≤ s.localOf a / 4096) && decide (3088 + 3316 * n ≤ b) && decide (b < 3088 + 3316 * (n + 1)))) s.mem }

/-! ### Slots -/

/-- A slot by number. -/
def CouSt.slot (c : CouSt) (n : Nat) : Slot :=
  match n with | 0 => c.slot0 | 1 => c.slot1 | 2 => c.slot2 | _ => c.slot3

/-- A slot replaced. -/
def CouSt.setSlot (c : CouSt) (n : Nat) (x : Slot) : CouSt :=
  match n with | 0 => { c with slot0 := x } | 1 => { c with slot1 := x } | 2 => { c with slot2 := x } | _ => { c with slot3 := x }

def State.slot (s : State) (n : Nat) : Slot := s.cou.slot n

/-- The end in the log of a slot's chunk `k`; of chunk 0, the slot's first granule. -/
def Slot.endOf (x : Slot) (k : Nat) : Nat :=
  match x.chunks.filter fun c => c.n == k with
  | c :: _ => c.fin
  | [] => x.start

/-- Does a slot hold data that is not released (an OPEN or CAPTURING one always does)? -/
def Slot.live (x : Slot) : Bool := x.st == 1 || x.st == 2 || (x.st == 3 && decide (x.released < x.committed))

/-- The first unreleased granule of the log: of the live slot with the lowest dump ID (R277); the head where none is live. -/
def CouSt.tail (c : CouSt) : Nat :=
  [c.slot0, c.slot1, c.slot2, c.slot3].foldl (fun g x => if x.live then min g (x.endOf x.released) else g) c.head

/-- Number of the slot that holds the oldest unreleased data (R282). -/
def CouSt.oldest (c : CouSt) : Nat :=
  ([0, 1, 2, 3].foldl (fun (p : Nat × Nat) n =>
    if (c.slot n).live ∧ ((c.slot n).id < p.2 ∨ p.2 = 0) then (n, (c.slot n).id) else p) (0, 0)).1

/-- Granules in use. -/
def CouSt.usedGr (c : CouSt) : Nat := c.head - c.tail

/-- Blocks still reserved for image data (R250, R258). -/
def CouSt.reserved (c : CouSt) : Nat := ceilDiv c.resBytes 4096

/-- Free data blocks. -/
def State.freeBlocks (s : State) : Nat := if s.ccOn then (s.ccGranules - s.cou.usedGr) / 64 else 0

/-- Is a block free for page data, outside the reservation (R258)? -/
def State.blockFree (s : State) : Bool := decide (s.cou.reserved < s.freeBlocks)

/-- COU_STAT, COU_FREE, COU_RESERVED and the slot registers show the slots (R281, R282). -/
def State.couShow (s : State) : State :=
  let c := s.cou
  let used := b2n (c.slot0.st ≠ 0) + 2 * b2n (c.slot1.st ≠ 0) + 4 * b2n (c.slot2.st ≠ 0) + 8 * b2n (c.slot3.st ≠ 0)
  let s := (s.setF F.COU_STAT_USED used).setF F.COU_STAT_OLDEST c.oldest
  let s := (s.wr R.COU_FREE s.freeBlocks).wr R.COU_RESERVED c.reserved
  let s := [0, 1, 2, 3].foldl (fun s n =>
    let x := c.slot n
    ((((s.setF (F.COU_SLOT_STATE n) x.st).setF (F.COU_SLOT_TRUNCATED n) (bits x.flags 1 1)).setF (F.COU_SLOT_PARTIAL n)
      (bits x.flags 0 1)).setF (F.COU_SLOT_DRAIN_DONE n) (bits x.flags 5 1)).setF (F.COU_SLOT_COMMITTED n) x.committed) s
  s

/-- A slot replaced, and shown. -/
def State.setSlot (s : State) (n : Nat) (x : Slot) : State := ({ s with cou := s.cou.setSlot n x }).couShow

/-! ### Image sizes and ordinals (R244 to R246) -/

/-- Image size of a unit kind in units of 64 bytes. -/
def shadowSize (kind : Nat) : Nat :=
  match kind with | 1 => 160 | 2 => 2282 | 3 => 1152 | 4 => 192 | 5 => 64 | 6 => 1088 | 7 => 16 | _ => 0

/-- Units of a kind. -/
def kindUnits (kind : Nat) : Nat :=
  match kind with | 1 => 1056 | 2 => 256 | 3 => 256 | 4 => 320 | 5 => 1024 | 6 => 64 | 7 => 32 | _ => 0

/-- State pages of a unit kind. -/
def statePages (kind : Nat) : Nat := ceilDiv (shadowSize kind * 64) 4096

/-- Raw bytes of state page `i` of a unit kind; the last may be partial (R245). -/
def stateLen (kind i : Nat) : Nat := min 4096 (shadowSize kind * 64 - 4096 * i)

/-- Ordinal of state page 0 of a unit (R246). -/
def firstOrd (id : Nat) : Nat :=
  match kindOf id with
  | 1 => 3 * id
  | 2 => 3168 + 36 * (id - 0x420)
  | 3 => 12384 + 18 * (id - 0x520)
  | 4 => 16992 + 3 * (id - 0x620)
  | 5 => 17952 + (id - 0x760)
  | 6 => 18976 + 17 * (id - 0xB60)
  | _ => 20064 + (id - 0xBA0)

/-- The unit, class (0 state, 1 slice data, 2 stack) and index of an ordinal; for a stack page the unit is 0 and the index its
position in the page list. -/
def ordPage (o : Nat) : Nat × Nat × Nat :=
  if o < 3168 then (o / 3, 0, o % 3)
  else if o < 12384 then (0x420 + (o - 3168) / 36, 0, (o - 3168) % 36)
  else if o < 16992 then (0x520 + (o - 12384) / 18, 0, (o - 12384) % 18)
  else if o < 17952 then (0x620 + (o - 16992) / 3, 0, (o - 16992) % 3)
  else if o < 18976 then (0x760 + (o - 17952), 0, 0)
  else if o < 20064 then (0xB60 + (o - 18976) / 17, 0, (o - 18976) % 17)
  else if o < 20096 then (0xBA0 + (o - 20064), 0, 0)
  else if o < 118400 then (0x760 + (o - 20096) / 96, 1, (o - 20096) % 96)
  else (0, 2, o - 118400)

/-- Fields of a profile word (R283). -/
def pfKinds (w : Nat) : Nat := bits w 0 7
def pfSram (w : Nat) : Bool := bit w 7
def pfList (w : Nat) : Nat := bits w 8 3
def pfCut (w : Nat) : Nat := bits w 11 2
def pfResume (w : Nat) : Bool := bit w 13
def pfLz4 (w : Nat) : Bool := bit w 14
def pfDedup (w : Nat) : Bool := bit w 15
def pfSetRef (w : Nat) : Bool := bit w 16
def pfCensus (w : Nat) : Bool := bit w 17
def pfAutoDrain (w : Nat) : Bool := bit w 18

/-- Does a profile select a unit's kind? -/
def selects (w id : Nat) : Bool := bit (pfKinds w) (kindOf id - 1)

/-- S: image bytes of every Cairn of the selected kinds, dormant ones included (R250). -/
def imageBytes (w : Nat) : Nat :=
  ([1, 2, 3, 4, 5, 6, 7].filter fun k => bit (pfKinds w) (k - 1)).foldl (fun n k => n + kindUnits k * shadowSize k * 64) 0

/-- Ordinals a profile covers with a list of `n` pages (R266). -/
def pagesExpected (w n : Nat) : Nat :=
  ([1, 2, 3, 4, 5, 6, 7].filter fun k => bit (pfKinds w) (k - 1)).foldl (fun m k => m + kindUnits k * statePages k) 0
  + (if pfSram w then 98304 else 0) + n

/-! ### Layouts of the record (R266 to R269, R271) -/

/-- DATA_START and DATA_END as a header holds them. -/
def State.granule (s : State) (g : Nat) : Nat := g % s.ccGranules

/-- Bytes 0x00 to 0xFB of a slot's header; `uid` is DEVICE_UID (R266). -/
def State.headerBody (s : State) (n : Nat) (x : Slot) (uid : Nat) : List Byte :=
  le 4 0x524E5243 ++ le 2 1 ++ le 1 n ++ le 1 x.st ++ le 4 x.gen ++ le 4 x.id ++ le 8 x.t ++ le 4 x.seq ++ le 4 x.epoch
  ++ le 8 x.escT ++ le 2 x.cutId ++ le 1 (x.kind + 4 * b2n x.xdev + 8 * b2n x.after) ++ le 1 x.prof ++ le 2 x.stepNo
  ++ le 2 x.devId ++ le 8 x.stepEnd ++ le 8 x.refT ++ le 4 x.flags ++ le 4 x.committed ++ le 4 (s.granule x.start)
  ++ le 4 (s.granule x.fin) ++ le 4 x.released ++ le 4 x.ack ++ le 4 x.expected ++ le 4 x.stored ++ le 4 x.same ++ le 4 x.zero
  ++ le 4 x.lost ++ le 4 x.redacted ++ le 4 x.rawGr ++ le 4 x.storedGr ++ le 2 x.capt ++ le 2 x.dorm ++ le 2 x.noAck
  ++ le 1 x.links ++ le 1 x.lcy ++ le 4 x.rights ++ le 4 x.plist.length ++ le 8 x.doneT ++ le 8 x.closeT ++ le 32 uid
  ++ List.replicate 68 0

/-- A page entry (R268). -/
def State.pageBytes (s : State) (chunk : Nat) (e : PageEnt) : List Byte :=
  le 16 e.digest
  ++ le 4 (e.cairn + 2 ^ 12 * e.pclass + 2 ^ 16 * e.disp + 2 ^ 20 * b2n e.census + 2 ^ 21 * b2n e.diverted + 2 ^ 22 * b2n e.sec
      + 2 ^ 23 * b2n e.memUc)
  ++ le 4 e.index ++ le 4 (if e.len = 0 ∧ !e.census then 0 else s.granule e.off) ++ le 4 (e.len + 2 ^ 13 * chunk)

/-- A link record (R269). -/
def linkBytes (id chunk : Nat) (l : LinkRec) : List Byte :=
  le 2 id ++ le 2 l.peerDev ++ le 2 l.peerCairn ++ le 1 l.status ++ le 1 0 ++ le 4 l.tx ++ le 4 l.ack ++ le 4 l.rx
  ++ le 4 l.inFirst ++ le 4 l.inCount ++ le 4 chunk

/-- A Cairn as the dump in progress records it: as it stood at its cut edge or shadow load; one that had none, as it stands. -/
def State.shot (s : State) (id : Nat) : Cairn := (smGet none s.cou.shots id).getD (s.cairn id)

/-- UFLAGS of a unit entry (R259, R267), from what its Cairn held at the cut and what Couloir holds. -/
def State.uflags (s : State) (x : Slot) (id : Nat) : Nat :=
  let c := s.shot id
  let seen := (smGet none s.cou.shots id).isSome
  let fr := smGet FenceRec.none s.flt.fences id
  let noAck := s.cou.missed.contains id
  let inc := s.cou.stateLost.any fun o => (ordPage o).1 == id
  let cap := s.cou.loaded.contains id
  let after := x.after && c.f CF.STEP_STAT_STEP_NO == x.stepNo
  let sec := c.f CF.U_OWNER_SEC == 1
  b2n (cap && !inc) + 2 * b2n (!seen && !noAck) + 4 * b2n noAck + 8 * c.f CF.CUT_STAT_LATE + 16 * c.f CF.CUT_STAT_FENCED_AT_CUT
  + 32 * b2n (seen && fr.fenced && c.f CF.CUT_STAT_FENCED_AT_CUT == 0) + 64 * c.f CF.STEP_STAT_DEPOSITED
  + 128 * b2n (after && c.f CF.STEP_STAT_REACHED == 1) + 256 * b2n (after && c.f CF.STEP_STAT_INCOMPLETE == 1)
  + 512 * c.f CF.CUT_STAT_HELD_AFTER_WAKE + 1024 * b2n sec + 2048 * b2n (sec && !bit x.rights rtDumpSecure) + 4096 * b2n inc
  + 8192 * b2n (!selects x.profW id)

/-- A unit entry (R267): `dormT` is the final stamp of the unit's DORMANT packet. -/
def State.unitBytes (s : State) (x : Slot) (id chunk dormT : Nat) : List Byte :=
  let c := s.shot id
  let k := kindOf id
  let fr := smGet FenceRec.none s.flt.fences id
  let uf := s.uflags x id
  let edge := if bit uf 1 then dormT else c.rd C.CUT_EDGE_LO + 2 ^ 32 * c.rd C.CUT_EDGE_HI
  le 2 (id + 2 ^ 12 * k) ++ le 2 uf ++ le 4 (c.rd C.CUT_STAT) ++ le 8 edge ++ le 4 (c.rd C.CUT_EVT)
  ++ le 2 (c.f CF.U_OWNER_TENANT) ++ le 2 0 ++ le 4 (c.f CF.U_CTX_CTX) ++ le 4 (shadowSize k * 64) ++ le 4 (firstOrd id)
  ++ le 2 (statePages k) ++ le 2 (c.f CF.STEP_STAT_STEP_NO) ++ le 4 chunk ++ le 4 (if bit uf 5 then fr.seq else 0)
  ++ le 8 c.endT ++ le 4 (c.rd C.STEP_STAT) ++ le 4 0

/-- A chunk record (R269); its digest is over its unit entries, link records and page entries as they are written. -/
def State.chunkBytes (s : State) (ch : Chunk) (entries : List Byte) (links : Nat) : List Byte :=
  le 4 ch.n ++ le 4 (s.granule ch.start) ++ le 4 (ch.fin - ch.start) ++ le 2 ch.pages.length ++ le 2 (ch.units.length + links)
  ++ le 16 (Config.blake3 entries).toNat

/-- The reference record (R271), without its CRC. -/
def refBody (gen t bank : Nat) (valid : Bool) : List Byte :=
  le 4 0x464E5243 ++ le 4 gen ++ le 8 t ++ le 1 bank ++ le 1 (b2n valid) ++ List.replicate 42 0

/-! ### Headers, refusals and release -/

/-- Metadata byte offset of a header copy (R241). -/
def hdrOff (n k : Nat) : Nat := 4096 + 0x200 * n + 0x100 * k

/-- A copy of a header or of the reference record is written at metadata byte `o`: what was there before is no longer read. -/
def State.putCopy (s : State) (o : Nat) (bs : List Byte) : State :=
  { s.putMeta o bs with cou := { s.cou with ucMeta := s.cou.ucMeta.filter (· ≠ o) } }

/-- A header write (R266, R270): GEN one higher, the other copy written. -/
def State.hdrWrite (s : State) (n : Nat) : State :=
  let x := s.slot n
  let x := { x with gen := x.gen + 1, copy := 1 - x.copy }
  let s := s.setSlot n x
  let body := s.headerBody n x s.uid
  s.putCopy (hdrOff n x.copy) (body ++ le 4 (crc32c body))

/-- The slot is FREE. DESIGN CHOICE: Couloir writes its header with STATE FREE and the dump ID it held, so that the next ID follows the highest
recorded (R266); the spec gives the code and no write of it (log entry 60). -/
def State.slotFreed (s : State) (n : Nat) : State :=
  let x := s.slot n
  (s.setSlot n { Slot.free with gen := x.gen, copy := x.copy, id := x.id }).hdrWrite n

/-! ### Reading the copies back (R270, R271, R279, R284) -/

/-- `n` bytes of the metadata area from byte `o` on. -/
def State.getMeta (s : State) (o n : Nat) : List Byte :=
  (List.range n).map fun i => smGet 0 s.mem (s.metaAddr ((o + i) / 4096) ((o + i) % 4096))

/-- The number in `n` bytes of a record from byte `o` on. -/
def field (bs : List Byte) (o n : Nat) : Nat := ofLe ((bs.drop o).take n)

/-- Is a copy correct: its MAGIC, its CRC over all before it, and no uncorrectable word in it? -/
def State.copyOk (s : State) (o magic len : Nat) : Bool :=
  let bs := s.getMeta o len
  !s.cou.ucMeta.contains o && field bs 0 4 == magic && field bs (len - 4) 4 == crc32c (bs.take (len - 4))

/-- Of two copies at `o0` and `o1`, GEN at byte `g`, the correct one whose GEN is higher: 0 or 1. -/
def State.bestCopy (s : State) (o0 o1 g magic len : Nat) : Option Nat :=
  match s.copyOk o0 magic len, s.copyOk o1 magic len with
  | true, true => some (if field (s.getMeta o0 len) g 4 < field (s.getMeta o1 len) g 4 then 1 else 0)
  | true, false => some 0
  | false, true => some 1
  | false, false => none

/-- The header copy of a slot that counts. -/
def State.hdrBest (s : State) (n : Nat) : Option Nat := s.bestCopy (hdrOff n 0) (hdrOff n 1) 8 0x524E5243 256

/-- The reference copy that counts. -/
def State.refBest (s : State) : Option Nat := s.bestCopy 0 0x40 4 0x464E5243 64

/-- Has no header of a slot been written since the region was zeroed? -/
def State.hdrNever (s : State) (n : Nat) : Bool := (s.getMeta (hdrOff n 0) 512).all (· == 0)

/-- A slot as a header copy gives it; what the header does not hold is what Couloir keeps of the dump. -/
def Slot.ofHeader (x : Slot) (k : Nat) (bs : List Byte) : Slot :=
  let g := field bs
  let c := g 0x44 4
  if g 7 1 = 0 then { Slot.free with gen := g 8 4, copy := k, id := g 0xC 4 }
  else
    { x with
      st := g 7 1, gen := g 8 4, id := g 0xC 4, t := g 0x10 8, seq := g 0x18 4, epoch := g 0x1C 4, escT := g 0x20 8, cutId := g 0x28 2,
      kind := g 0x2A 1 % 4, xdev := bit (g 0x2A 1) 2, after := bit (g 0x2A 1) 3, prof := g 0x2B 1, stepNo := g 0x2C 2,
      devId := g 0x2E 2, stepEnd := g 0x30 8, refT := g 0x38 8, flags := g 0x40 4, committed := c, fin := x.endOf c,
      released := g 0x50 4, ack := g 0x54 4, expected := g 0x58 4, stored := g 0x5C 4, same := g 0x60 4, zero := g 0x64 4,
      lost := g 0x68 4, redacted := g 0x6C 4, rawGr := g 0x70 4, storedGr := g 0x74 4, capt := g 0x78 2, dorm := g 0x7A 2,
      noAck := g 0x7C 2, links := g 0x7E 1, lcy := g 0x7F 1, rights := g 0x80 4, doneT := g 0x88 8, closeT := g 0x90 8, copy := k,
      chunks := x.chunks.filter fun ch => decide (ch.n ≤ c) }

/-- CAP_STATE of COU_STAT. -/
def State.capState (s : State) (v : Nat) : State := s.setF F.COU_STAT_CAP_STATE v

/-- The capture begins in the hub cycle in which the counter reaches T (R252); the header takes DEV_ID and LCY then (R266). DESIGN CHOICE: so does
that of a CURRENT dump, whose shadow load stands for its cut (log entry 60). -/
def State.couSync (s : State) : State :=
  match s.cou.cur with
  | none => s
  | some n =>
    let x := s.slot n
    if x.st = 1 ∧ s.cou.capT ≠ 0 ∧ s.cou.capT ≤ s.now then (s.setSlot n { x with st := 2, devId := s.f F.SUM_DEV_ID_DEV_ID, lcy := s.lcs }).capState 2 else s

/-- Refusal codes of R249. -/
def couNone : Nat := 0
def couDisabled : Nat := 1
def couBusy : Nat := 2
def couNoSlot : Nat := 3
def couCacheShort : Nat := 4
def couBadList : Nat := 5
def couNotStopped : Nat := 6
def couCutRefused : Nat := 7
def couBadProfile : Nat := 8

/-- A refused dump request (R249). -/
def State.dumpRefuse (s : State) (code cutCode src : Nat) : State :=
  let s := ((s.setF F.COU_LAST_REFUSAL_CODE code).setF F.COU_LAST_REFUSAL_CUT_CODE cutCode).setF F.COU_LAST_REFUSAL_SRC src
  s.raise .dumpRefused 0x100E [.w code, .w cutCode, .w src]

/-- Entry `i` of a page list at device address `a`: address, pages, format and the reserved bytes (R247). -/
def State.plistEntry (s : State) (a i : Nat) : Nat × Nat × Nat × Nat :=
  let g := fun o n => ofLe (smRange 0 s.mem (a + 16 * i + o) n)
  (g 0 8, g 8 4, g 12 1, g 13 3)

/-- A page list's entries. -/
def State.plistEntries (s : State) (l : Nat) : List (Nat × Nat × Nat × Nat) :=
  let a := s.rd (R.COU_PLIST_LO l) + 2 ^ 32 * (s.rd (R.COU_PLIST_HI l) % 2 ^ 16)
  (List.range (s.f (F.COU_PLIST_HI_ENTRIES l))).map (s.plistEntry a)

/-- Does a 4 KiB page touch the crash cache? -/
def State.pageInCc (s : State) (a : Nat) : Bool :=
  s.ccOn && (List.range (4096 / min 4096 (2 ^ s.gran))).any fun i => s.inCc (a + i * min 4096 (2 ^ s.gran))

/-- Is an entry one that R247 allows? -/
def State.entryOk (s : State) (e : Nat × Nat × Nat × Nat) : Bool :=
  e.2.1 != 0 && e.1 % 4096 == 0 && e.2.2.2 == 0 && decide (e.1 + 4096 * e.2.1 ≤ memTop)
  && !(List.range e.2.1).any fun i => s.pageInCc (e.1 + 4096 * i)

/-- Is a page list one that R247 allows? -/
def State.plistOk (s : State) (l : Nat) : Bool :=
  let es := s.plistEntries l
  decide (es.foldl (fun n e => n + e.2.1) 0 ≤ 262144) && es.all s.entryOk

/-- The pages of a page list in order: page number on the device and format. -/
def State.plistPages (s : State) (l : Nat) : List (Nat × Nat) :=
  (s.plistEntries l).flatMap fun e => (List.range e.2.1).map fun i => (e.1 / 4096 + i, e.2.2.1)

/-- The page list of a profile; empty where it names none. -/
def State.profPages (s : State) (w : Nat) : List (Nat × Nat) :=
  if pfList w = 0 ∨ 4 < pfList w then [] else s.plistPages (pfList w - 1)

/-- The lowest FREE slot. -/
def CouSt.freeSlot (c : CouSt) : Option Nat := [0, 1, 2, 3].find? fun n => (c.slot n).st == 0

/-- The codes 1 to 5, 6 and 8 that apply to a request with profile word `w`, in the order of R249; `cutMatters` is false for a dump
a GLANCE opens under R248. 0 where none applies. -/
def State.dumpCode (s : State) (w : Nat) (cutMatters : Bool) : Nat :=
  if !s.ccOn ∨ s.f F.COU_STAT_INIT_BUSY = 1 then couDisabled
  else if s.cou.cur.isSome then couBusy
  else if s.cou.freeSlot.isNone then couNoSlot
  else if s.freeBlocks < s.cou.reserved + ceilDiv (imageBytes w) 4096 then couCacheShort
  else if pfList w ≠ 0 ∧ pfList w ≤ 4 ∧ !s.plistOk (pfList w - 1) then couBadList
  else if cutMatters ∧ pfCut w = 2 ∧ s.f F.SUM_CUT_STAT_STATE ≠ 2 then couNotStopped
  else if (cutMatters ∧ pfCut w = 3) ∨ 4 < pfList w then couBadProfile
  else couNone

/-- Rights under which a dump for a requester captures (R251). -/
def State.rightsOf (s : State) (src : Nat) : Nat :=
  if src = 0x1010 then s.heldSet .pass
  else if src = 0x1011 then s.heldSet .host
  else if src = 0x1001 then s.rd R.CRS_RUN_RIGHTS
  else if 0x1002 ≤ src ∧ src ≤ 0x1005 then s.rd (R.PRB_RIGHTS_REC (src - 0x1002))
  else s.rd R.COU_AUTO_RIGHTS

/-- A slot is taken and its space reserved (R250, steps 1 and 2); `kind` is 0 GLANCE, 1 STOP, 2 CURRENT. -/
def State.slotOpen (s : State) (n prof w kind src : Nat) : State :=
  let pl := s.profPages w
  let ref := if s.f F.COU_REF_VALID = 1 then some (s.f F.COU_REF_BANK) else none
  let x : Slot := { Slot.free with
    gen := (s.slot n).gen, copy := (s.slot n).copy,
    st := 1, id := s.cou.nextId, kind := kind, prof := prof, profW := w, start := s.cou.head, fin := s.cou.head,
    expected := pagesExpected w pl.length, lcy := s.lcs, rights := s.rightsOf src, plist := pl, ref := ref,
    refT := if ref.isSome && pfDedup w then s.rd64 R.COU_REF_T_LO else 0, devId := s.f F.SUM_DEV_ID_DEV_ID }
  let s := { s with cou := { s.cou with
    cur := some n, nextId := s.cou.nextId + 1, openCh := none, closing := [], resBytes := imageBytes w, loaded := [],
    stateLost := [], written := [], capEnd := false, lastClosed := false, linkWait := [], linkRecs := [], waiting := false,
    unitDone := [], capT := 0, loadSeen := [], shots := [], missed := [] } }
  let s := s.setSlot n x
  ((((s.setF F.COU_STAT_CAP_SLOT n).capState 1).wr R.COU_CAP_PAGES 0).wr R.COU_RAW_GR 0).wr R.COU_STORED_GR 0

/-- The slot returns to FREE and the reservation is released (R250). -/
def State.slotUndo (s : State) (n : Nat) : State :=
  let s := { s with cou := { s.cou with cur := none, nextId := s.cou.nextId - 1, resBytes := 0 } }
  (s.setSlot n { Slot.free with gen := (s.slot n).gen, copy := (s.slot n).copy }).capState 0

/-- DUMP_OPEN, once the cut or load is scheduled with `t` (R250, step 4). -/
def State.dumpOpened (s : State) (n t cutId src : Nat) : State :=
  let s := s.setSlot n { s.slot n with t := t, cutId := cutId }
  let s := { s with cou := { s.cou with capT := if s.cou.capT = 0 then t else s.cou.capT } }
  (s.hdrWrite n).raise .dumpOpen 0x100E [.w n, .w (s.slot n).id, .w (s.slot n).prof, .w src, .w cutId]

/-! ### Chunks (R261, R262) -/

/-- A page recorded with no data (08 R259, R135): disposition 5 LOST, 6 REDACTED or 7 INCOMPLETE. -/
def bareEntry (ord cairn pclass disp index : Nat) : PageEnt :=
  ⟨ord, cairn, pclass, disp, false, false, false, false, index, 0, 0, 0, 0⟩

/-- The open chunk, opened where none is. -/
def State.chunkNow (s : State) : Chunk :=
  match s.cou.openCh with
  | some c => c
  | none =>
    let n := match s.cou.cur with | some k => (s.slot k).committed + s.cou.closing.length + 1 | none => 1
    ⟨n, s.cou.head, s.cou.head, s.clk, [], [], false, 0⟩

/-- The open chunk closes and waits for its commit. -/
def State.chunkClose (s : State) : State :=
  let c := s.chunkNow
  { s with cou := { s.cou with openCh := none, closing := s.cou.closing ++ [{ c with fin := s.cou.head }] } }

/-- COU_RAW_GR and COU_STORED_GR show the slot being captured. -/
def State.capShow (s : State) (n : Nat) : State :=
  (s.wr R.COU_RAW_GR (s.slot n).rawGr).wr R.COU_STORED_GR (s.slot n).storedGr

/-- Raw length of an entry's page (R245, R254). -/
def PageEnt.raw (e : PageEnt) : Nat := if e.pclass = 0 then stateLen (kindOf e.cairn) e.index else 4096

/-- The slot's counts with one more committed page entry (R266). -/
def Slot.count (x : Slot) (e : PageEnt) : Slot :=
  { x with
    stored := x.stored + b2n (e.disp == 1 || e.disp == 2), same := x.same + b2n (e.disp == 3), zero := x.zero + b2n (e.disp == 4),
    lost := x.lost + b2n (e.disp == 5), redacted := x.redacted + b2n (e.disp == 6), rawGr := x.rawGr + ceilDiv e.raw 64 }

/-- A page entry joins the open chunk with its granules of data; `u` is the unit whose last state page it is, if any. The chunk
closes at its 256th entry, or once it holds 16 after its time (R261). -/
def State.addEntry (s : State) (e : PageEnt) (u : Option Nat) : State :=
  match s.cou.cur with
  | none => s
  | some _ =>
    let c := s.chunkNow
    let c := { c with pages := c.pages ++ [e], first := if c.pages.isEmpty then s.clk else c.first }
    let c := match u with | some id => { c with units := c.units ++ [id] } | none => c
    let s := { s with cou := { s.cou with
      openCh := some c, head := s.cou.head + e.data, written := s.cou.written ++ [e.ord],
      unitDone := match u with | some id => s.cou.unitDone ++ [id] | none => s.cou.unitDone } }
    let s := s.couShow
    if c.pages.length = 256 ∨ (16 ≤ c.pages.length ∧ c.first + 25000 ≤ s.clk) then s.chunkClose else s

/-- Every unit of the selected kinds whose entry has joined no chunk. -/
def State.unitsLeft (s : State) : List Nat := (List.range 0xBC0).filter fun id => !s.cou.unitDone.contains id

/-- The state pages of a unit of a selected kind that was reported missing at the cut and never loaded are LOST (R259). -/
def State.missedPages (s : State) : State :=
  match s.cou.cur with
  | none => s
  | some n =>
    let ids := s.cou.missed.filter fun id => selects (s.slot n).profW id && !s.cou.loaded.contains id
    (ids.flatMap fun id => (List.range (statePages (kindOf id))).map fun i => (id, i)).foldl (fun s p =>
      s.addEntry (bareEntry (firstOrd p.1 + p.2) p.1 0 5 p.2) none) s

/-- The final chunk closes: the pages of missing units, units without stored pages and the link records join it (R259, R261). -/
def State.finalClose (s : State) : State :=
  let s := s.missedPages
  let us := s.unitsLeft
  let c := s.chunkNow
  let s := { s with cou := { s.cou with
    openCh := some { c with units := c.units ++ us, links := true }, unitDone := s.cou.unitDone ++ us, lastClosed := true } }
  s.chunkClose.capState 5

/-- The capture has ended and every staged state page is written: links are reconciled, then the final chunk closes (R260). -/
def State.captureTail (s : State) : State :=
  if s.cou.capEnd ∧ !s.cou.lastClosed ∧ s.cou.stage0.isEmpty ∧ s.cou.stage1.isEmpty then
    if s.cou.linkWait.isEmpty then s.finalClose else s.capState 4
  else s

end Sys2Proof.Machine
end

