-- ==== Sys2Proof/Machine/Cut.lean ====
section
/-! DEFINITION. Machine/Cut.lean: scheduling cuts and resumes, their messages, edges and reports, the divert set and the end of a
capture (04). -/

namespace Sys2Proof.Machine

/-! ### Requests (R117, R118) -/

/-- What became of a cut request: 0 scheduled, 1 merged, 2 refused, 3 no effect; and the code of R145 for a refusal. -/
structure CutRes where
  out : Nat
  code : Nat
  deriving DecidableEq, Repr

/-- States of SUM_CUT_STAT.STATE (R145). -/
def cutIdle : Nat := 0
def cutPending : Nat := 1
def cutStopped : Nat := 2
def cutCapturing : Nat := 3
def cutEscalated : Nat := 4
def cutResumePending : Nat := 5

/-- Refusal codes of SUM_CUT_STAT.LAST_REFUSAL (R145). -/
def refSchedFull : Nat := 1
def refBusy : Nat := 2
def refNothing : Nat := 3
def refCacheShort : Nat := 4
def refNotAligned : Nat := 5
def refCapture : Nat := 6
def refLate : Nat := 7
def refNoDump : Nat := 8

def State.cutState (s : State) : Nat := s.f F.SUM_CUT_STAT_STATE
def State.setCutState (s : State) (v : Nat) : State := s.setF F.SUM_CUT_STAT_STATE v

/-- SUM_CUT_LEAD as it acts. -/
def State.cutLead (s : State) : Nat := max (s.f F.SUM_CUT_LEAD_LEAD) 100

/-- SUM_XCUT_LEAD as it acts (R138, R144). -/
def State.xcutLead (s : State) : Nat := max (s.f F.SUM_XCUT_LEAD_LEAD) 4124

/-- T of a request and whether it was raised (R117, R94): `x` is the T of a cross-device request. -/
def State.reqT (s : State) (abs : Bool) (x : Option Nat) : Nat × Bool :=
  match x with
  | some t => (max t s.minT, decide (t < s.minT))
  | none =>
    if abs then (max (s.rd64 R.SUM_CUT_REQ_T_LO) s.minT, decide (s.rd64 R.SUM_CUT_REQ_T_LO < s.minT))
    else (s.now + s.cutLead, false)

/-- A refused request (R118). DESIGN CHOICE: a refused request has no cut ID of its own, and CUT_REFUSED carries SUM_CUT_STAT.CUT_ID, that of
the current or last cut (log entry 60). -/
def State.cutRefuse (s : State) (code src : Nat) : State × CutRes :=
  ((s.setF F.SUM_CUT_STAT_LAST_REFUSAL code).raise .cutRefused 0x1001 [.w (s.f F.SUM_CUT_STAT_CUT_ID), .w code, .w src], ⟨2, code⟩)

/-- A merged request (R118). -/
def State.cutMerge (s : State) : State × CutRes := (s.satAdd F.SUM_CUT_SRC_MERGED 1, ⟨1, 0⟩)

/-- SUM_CUT_T shows `t` of a cut, unless it shows T_r (R144). -/
def State.cutT (s : State) (t : Nat) : State := if s.cutState = cutResumePending then s else s.wr64 R.SUM_CUT_T_LO t

/-- A cut of `kind` is scheduled at `t` (R119): the next cut ID, its place at every leaf and its CUT event. -/
def State.cutPlan (s : State) (kind : ActKind) (src t : Nat) (clamped xdev : Bool) (st : Nat) : State :=
  let id := (s.f F.SUM_CUT_STAT_CUT_ID + 1) % 2 ^ 16
  let k := if kind = .cutGlance then 1 else 0
  let s := (s.setF F.SUM_CUT_STAT_CUT_ID id).setF F.SUM_CUT_STAT_KIND k
  let s := ((s.setF F.SUM_CUT_STAT_PARTIAL 0).setF F.SUM_CUT_STAT_XDEV (b2n xdev)).setF F.SUM_CUT_STAT_CLAMPED (b2n clamped)
  let s := ((s.setCutState st).cutT t).wr R.SUM_CUT_SRC src
  let s := s.takePlace ⟨kind, t, id⟩
  let s := { s with cut := { s.cut with jobs := s.cut.jobs ++ [CutJob.mk kind id t src xdev false 0 [] [] [] false false] } }
  s.raise .cut 0x1001 [.w id, .w k, .d t, .w src, .w (b2n xdev)]

/-- A resume is scheduled (R123). -/
def State.resumePlan (s : State) (src t : Nat) (clamped xdev : Bool) : State :=
  let id := s.f F.SUM_CUT_STAT_CUT_ID
  let s := ((s.setCutState cutResumePending).setF F.SUM_CUT_STAT_CLAMPED (b2n clamped)).wr64 R.SUM_CUT_T_LO t
  let s := s.takePlace ⟨.resume, t, id⟩
  let s := { s with cut := { s.cut with jobs := s.cut.jobs ++ [CutJob.mk .resume id t src xdev false 0 [] [] [] false false] } }
  s.raise .resumeSched 0x1001 [.w id, .d t]

/-- Is a job of this kind scheduled? -/
def State.hasJob (s : State) (k : ActKind) : Bool := s.cut.jobs.any fun j => j.kind == k

/-- A STOP scheduled now (R117, R118): in RESUME_PENDING, at least 1 tk after the resume. -/
def State.stopPlan (s : State) (src : Nat) (abs : Bool) (x : Option Nat) (st : Nat) : State × CutRes :=
  if s.schedFull then s.cutRefuse refSchedFull src
  else
    let tc := s.reqT abs x
    let t := match s.cut.jobs.find? (fun j => j.kind == .resume) with
      | some j => max tc.1 (j.t + 1)
      | none => tc.1
    (s.cutPlan .cutStop src t tc.2 x.isSome st, ⟨0, 0⟩)

/-- The dump of a GLANCE not itself requested by a dump is opened, and the GLANCE scheduled (R128, R248, R250). -/
def State.glancePlan (s : State) (src : Nat) (abs : Bool) (x : Option Nat) : State × CutRes :=
  if s.schedFull then s.cutRefuse refSchedFull src
  else
    let prof := s.f F.COU_CTRL_GLANCE_PROF
    let w := s.rd (R.COU_PROF prof)
    let code := s.dumpCode w false
    match s.cou.freeSlot with
    | some n =>
      if code = couNone then
        let s := s.slotOpen n prof w 0 src
        let s := s.setSlot n { s.slot n with xdev := x.isSome }
        let tc := s.reqT abs x
        let s := s.cutPlan .cutGlance src tc.1 tc.2 x.isSome cutPending
        let id := s.f F.SUM_CUT_STAT_CUT_ID
        let s := { s with cut := { s.cut with cap := true, capId := id, capReady := false, capAband := false, capDivert := 0, capBack := 0, lost := 0, esc := false } }
        (s.dumpOpened n tc.1 id src, ⟨0, 0⟩)
      else
        let s := s.dumpRefuse code 0 src
        s.cutRefuse (if code = couBusy ∨ code = couNoSlot ∨ code = couCacheShort then refCacheShort else refNoDump) src
    | none =>
      let s := s.dumpRefuse code 0 src
      s.cutRefuse (if code = couDisabled ∨ code = couBadList ∨ code = couBadProfile then refNoDump else refCacheShort) src

/-- A request for a STOP (R118). -/
def State.stopReq (s : State) (src : Nat) (abs : Bool) (x : Option Nat) : State × CutRes :=
  let st := s.cutState
  if st = cutIdle then s.stopPlan src abs x cutPending
  else if st = cutPending then
    if s.hasJob .cutStop then s.cutMerge else s.stopPlan src abs x cutPending
  else if st = cutCapturing then s.stopPlan src abs x cutPending
  else if st = cutResumePending then
    if s.hasJob .cutStop then s.cutMerge else s.stopPlan src abs x cutResumePending
  else s.cutMerge

/-- A request for a GLANCE (R118). -/
def State.glanceReq (s : State) (src : Nat) (abs : Bool) (x : Option Nat) : State × CutRes :=
  let st := s.cutState
  if st = cutIdle then s.glancePlan src abs x
  else if st = cutPending then s.cutMerge
  else s.cutRefuse refBusy src

/-- A request for a resume (R118). -/
def State.resumeReq (s : State) (src : Nat) (abs : Bool) (x : Option Nat) : State × CutRes :=
  let st := s.cutState
  if st = cutResumePending then s.cutMerge
  else if st = cutPending then s.cutRefuse refBusy src
  else if st = cutIdle ∨ st = cutCapturing then s.cutRefuse refNothing src
  else if st = cutEscalated ∧ !s.blockFree then s.cutRefuse refCapture src
  else if s.schedFull then s.cutRefuse refSchedFull src
  else
    let tc := s.reqT abs x
    (s.resumePlan src tc.1 tc.2 x.isSome, ⟨0, 0⟩)

/-! ### The divert set and the end of a capture (R129 to R136) -/

/-- Is a Cairn's unit frozen now? -/
def Cairn.frozen (c : Cairn) : Bool := c.f CF.CUT_STAT_STATE == 2

/-- Uncaptured pages shown by SUM_CUT_UNCAPT and, for a slice or BMU, by its own Cairn (R144, R147). -/
def State.uncaptShow (s : State) (id : Nat) : State :=
  let n := (s.cut.pages.filter fun p => p.cairn == id).length
  let s := s.wr R.SUM_CUT_UNCAPT s.cut.pages.length
  if (kindOf id = 3 ∨ kindOf id = 5) ∧ (s.cairn id).powered then s.modC id fun c => c.wr (C.CUT_KIND 0) n else s

/-- The pages of a unit that a dump names: of a slice its own where the profile sets SRAM, of a BMU the listed stack pages whose first byte
lies in its channel (R129; 08 R255). -/
def State.namedPages (s : State) (x : Slot) (id : Nat) : List PageId :=
  if kindOf id = 5 ∧ pfSram x.profW then (List.range 96).map fun p => ⟨id, p⟩
  else if kindOf id = 3 then
    ((x.plist.filter fun e => 0x520 + s.chanOf (e.1 * 4096) == id).map fun e => (⟨id, e.1⟩ : PageId)).eraseDups
  else []

/-- Was a page secure at the cut (08 R256): by a slice's CRN_S_SEC bit, or by the ownership tag of the BMU whose channel holds the page's
first byte (log entry 3)? -/
def State.pageSec (s : State) (pg : PageId) : Bool :=
  let c := s.shot pg.cairn
  if kindOf pg.cairn = 5 then bit (c.sumWord (C.S_SEC (pg.page / 32))) (pg.page % 32)
  else c.seed != 0 && Config.ownTag c.seed pg.page

/-- Is a page redacted in a dump (08 R256)? -/
def State.redacted (s : State) (x : Slot) (pg : PageId) : Bool := !bit x.rights rtDumpSecure && s.pageSec pg

/-- The pages of a unit that enter the divert set at its cut edge or shadow load (R129): those that are to be redacted count as captured
(08 R252). -/
def State.divertPages (s : State) (id : Nat) : List PageId :=
  match s.cou.cur with
  | none => []
  | some n => (s.namedPages (s.slot n) id).filter fun pg => !s.redacted (s.slot n) pg

/-- Ordinals at which a dump with page list `pl` holds a page of the divert set (R246). -/
def pageOrds (pl : List (Nat × Nat)) (pg : PageId) : List Nat :=
  if kindOf pg.cairn = 5 then [20096 + 96 * (pg.cairn - 0x760) + pg.page]
  else (pl.zipIdx.filter fun e => e.1.1 == pg.page).map fun e => 118400 + e.2

/-- Pages recorded with no data, where they have no entry yet: with disposition 5 LOST (R135) or 6 REDACTED (08 R256). -/
def State.recordBare (s : State) (pgs : List PageId) (disp : Nat) : State :=
  match s.cou.cur with
  | none => s
  | some n =>
    let pl := (s.slot n).plist
    pgs.foldl (fun s pg =>
      ((pageOrds pl pg).filter fun o => !s.cou.written.contains o).foldl (fun s o =>
        s.addEntry (bareEntry o pg.cairn (if kindOf pg.cairn = 5 then 1 else 2) disp (pg.page % 2 ^ 32)) none) s) s

/-- The pages of a unit that a dump records as REDACTED from its cut edge or shadow load on (08 R252, R256). -/
def State.redactPages (s : State) (id : Nat) : List PageId :=
  match s.cou.cur with
  | none => []
  | some n => (s.namedPages (s.slot n) id).filter fun pg => s.redacted (s.slot n) pg

/-- A unit loads its shadow, if `all` or if the dump selects its kind: HELD is set (R125, R126; 08 R252). -/
def State.shadowHold (s : State) (id : Nat) (all : Bool) : State :=
  let sel := match s.cou.cur with | some n => selects (s.slot n).profW id | none => false
  if all || sel then
    { s.modC id (fun c => c.setF CF.SHADOW_HELD 1) with
      cut := { s.cut with heldIds := s.cut.heldIds ++ [id] },
      cou := { s.cou with loaded := if sel then s.cou.loaded ++ [id] else s.cou.loaded } }
  else s

/-- A unit's part in the capture at its cut edge or shadow load (R125, R126, R129): its shadow loads, and its pages become uncaptured as
they stand at that edge; of a capture that has been abandoned they are LOST (R135). -/
def State.shadowLoad (s : State) (id : Nat) (all : Bool) : State :=
  let ps := s.divertPages id
  let hid := s.redactPages id
  let s := if (s.cairn id).frozen then s else s.unitRuns id
  let s := (s.shadowHold id all).recordBare hid 6
  let s := if s.cut.capAband then s.recordBare ps 5 else { s with cut := { s.cut with pages := s.cut.pages ++ ps } }
  s.uncaptShow id

/-- The unit in which a held write waits: the slice, or the BMU of the channel it writes (08 R255). -/
def State.heldUnit (s : State) (h : HeldWr) : Nat := if kindOf h.pg.cairn = 3 then 0x520 + s.chanOf h.addr else h.pg.cairn

/-- A held write takes effect. -/
def State.heldApply (s : State) (h : HeldWr) : State :=
  if kindOf h.pg.cairn = 3 then s.stackWrite h.addr h.bytes
  else s.modC h.pg.cairn fun c => c.putBytes (viewKey 0 h.addr) h.bytes

/-- SUM_DIVERT_HELD shows the writes held under R134. -/
def State.heldShow (s : State) : State :=
  s.setF F.SUM_DIVERT_HELD_HELD (if s.cut.escHold then min s.cut.held.length 0xFFFF else 0)

/-- Every held write whose page is captured and whose unit is not frozen completes (R130, R134). -/
def State.heldSettle (s : State) : State :=
  let ready := fun (h : HeldWr) => !s.cut.pages.contains h.pg && !(s.cairn (s.heldUnit h)).frozen
  let go := s.cut.held.filter ready
  let s := { s with cut := { s.cut with held := s.cut.held.filter fun h => !ready h } }
  let s := go.foldl State.heldApply s
  s.heldShow

/-- The divert queues as COU_DIVERT_Q shows them (R281). -/
def State.queueShow (s : State) : State :=
  (s.setF F.COU_DIVERT_Q_Q0 s.cut.queue0.length).setF F.COU_DIVERT_Q_Q1 s.cut.queue1.length

/-- A page enters the divert queue of its half, if it is not in it; one that finds the queue full waits for a place (R130, R131; 05 R172). -/
def State.queuePut (s : State) (pg : PageId) : State :=
  let h := halfOf pg.cairn
  let q := if h = 0 then s.cut.queue0 else s.cut.queue1
  let others := s.cut.asked.filter (· ≠ pg)
  if q.contains pg then s
  else if 64 ≤ q.length then
    if s.cut.asked.contains pg then s else { s with cut := { s.cut with asked := s.cut.asked ++ [pg] } }
  else
  let s : State := { s with cut := { s.cut with asked := others } }
  if h = 0 then ({ s with cut := { s.cut with queue0 := q ++ [pg] } }).queueShow
  else ({ s with cut := { s.cut with queue1 := q ++ [pg] } }).queueShow

/-- A page leaves its queue, and a page that waited for a place takes it. -/
def State.queueDrop (s : State) (pg : PageId) : State :=
  let s := { s with cut := { s.cut with
    queue0 := s.cut.queue0.filter (· ≠ pg), queue1 := s.cut.queue1.filter (· ≠ pg), asked := s.cut.asked.filter (· ≠ pg) } }
  (s.cut.asked.foldl State.queuePut s).queueShow

/-- The I/O ring blocks of a cross-device cut that serve a link and have no link record yet (08 R264). -/
def State.linksOpen (s : State) (n : Nat) : List Nat :=
  if (s.slot n).xdev then
    s.cou.loaded.filter fun id =>
      kindOf id == 6 && Config.servesLink id && (smGet none s.cou.linkRecs id).isNone
  else []

/-- The records that this hub sends its peers of a cross-device cut's links, from what its I/O ring blocks captured (08 R264). -/
def State.linksOut (s : State) (n : Nat) : List LinkOut :=
  if (s.slot n).xdev then
    (s.cou.loaded.filter fun id => kindOf id == 6 && Config.servesLink id).map fun id =>
      let c := s.shot id
      ⟨(Config.linkPeer id).toNat, id, c.rd (C.CUT_KIND 0), c.rd (C.CUT_KIND 1), c.rd (C.CUT_KIND 2)⟩
  else []

/-- The capture ends when its cut is done, no page is uncaptured and every HELD has cleared (R132, R135, R136): CAPTURE_DONE. DESIGN
CHOICE: an ESCALATED capture whose last page is copied while its STOP is still only scheduled goes to PENDING, of which R132 says
nothing; one that is abandoned then goes to IDLE (R136; log entry 60). -/
def State.captureCheck (s : State) : State :=
  if s.cut.cap ∧ s.cut.capReady ∧ s.cut.pages.isEmpty ∧ s.cut.heldIds.isEmpty then
    let s := s.raise .captureDone 0x1001 [.w s.cut.capId, .w s.cut.capDivert, .w s.cut.capBack]
    let st := s.cutState
    let s := if st = cutCapturing then s.setCutState cutIdle
      else if st = cutEscalated then
        s.setCutState (if s.cut.stop then cutStopped else if s.hasJob .cutStop ∧ !s.cut.capAband then cutPending else cutIdle)
      else s
    let s := ({ s with cut := { s.cut with
      cap := false, esc := false, escHold := s.cut.escHold && (s.cut.stop || s.hasJob .cutStop) } }).heldShow
    match s.cou.cur with
    | none => s
    | some n =>
      let s := s.setSlot n { s.slot n with doneT := s.now }
      let s := { s with cou := { s.cou with capEnd := true, linkT := s.clk, linkWait := s.linksOpen n, linkOut := s.linksOut n } }
      s.captureTail
  else s

/-- The capture is abandoned (R135, R136). -/
def State.abandon (s : State) : State :=
  let lost := s.cut.pages.length
  let ids := (s.cut.pages.map (·.cairn)).eraseDups
  let s := s.recordBare s.cut.pages 5
  let s := { s with cut := { s.cut with pages := [], queue0 := [], queue1 := [], asked := [], lost := lost, capAband := true } }
  let s := (s.forEach ids State.uncaptShow).wr R.SUM_CUT_UNCAPT 0
  let s := (s.heldSettle.queueShow.setF F.SUM_CUT_STAT_PARTIAL 1).raise .cutPartial 0x1001 [.w s.cut.capId, .w lost]
  let s := match s.cou.cur with
    | some n => s.setSlot n { s.slot n with flags := setBit (s.slot n).flags 0 }
    | none => s
  s.captureCheck

/-- A request of KIND ABANDON (R118, R136). -/
def State.abandonReq (s : State) : State × CutRes :=
  let st := s.cutState
  if s.cut.cap ∧ !s.cut.capAband ∧ (st = cutCapturing ∨ st = cutEscalated ∨ (st = cutStopped ∧ !s.cut.pages.isEmpty)) then
    (s.abandon, ⟨0, 0⟩)
  else (s, ⟨3, 0⟩)

/-- A cut request of a KIND (0 STOP, 1 GLANCE, 2 RESUME, 3 ABANDON) dealt with by the cut state (R118). -/
def State.cutDeal (s : State) (kind src : Nat) (abs : Bool) (x : Option Nat) : State × CutRes :=
  match kind with
  | 0 => s.stopReq src abs x
  | 1 => s.glanceReq src abs x
  | 2 => s.resumeReq src abs x
  | _ => s.abandonReq

/-! ### Issue, messages and edges (R119, R121, R123) -/

/-- A job changed. -/
def State.modJob (s : State) (k : ActKind) (id : Nat) (g : CutJob → CutJob) : State :=
  { s with cut := { s.cut with jobs := s.cut.jobs.map fun j => if j.kind == k && j.id == id then g j else j } }

/-- The least T of a job (R118): a STOP behind a resume takes effect at least 1 tk after it. -/
def State.jobFloor (s : State) (k : ActKind) : Nat :=
  match s.cut.jobs.find? fun j => j.kind == .resume with
  | some j => if k = .cutStop then j.t + 1 else 0
  | none => 0

/-- The dump of a cut whose T is fixed at `t` now: its header's T, and for an escalation STOP ESC_T (R134; 08 R266). -/
def State.dumpT (s : State) (k : ActKind) (id old t : Nat) : State :=
  match s.cou.cur with
  | none => s
  | some n =>
    if k ≠ .resume ∧ (s.slot n).cutId = id ∧ s.cut.cap then
      ({ s with cou := { s.cou with capT := t } }).setSlot n { s.slot n with t := t }
    else if k = .cutStop ∧ s.cut.esc ∧ (s.slot n).escT = old then s.setSlot n { s.slot n with escT := t }
    else s

/-- The CUT or RESUME_SCHED event of a job is numbered: T is raised if it would fall short, and the message is issued (R119). The T used;
none where a reset has ended the cut since. -/
def State.jobIssue (s : State) (k : ActKind) (id : Nat) : State × Option Nat :=
  match s.cut.jobs.find? (fun j => j.kind == k && j.id == id && !j.issued) with
  | none => (s, none)
  | some j =>
    let t := max (max j.t s.minT) (s.jobFloor k)
    let s := if j.t < t then s.setF F.SUM_CUT_STAT_CLAMPED 1 else s
    let s := if k = .resume then s.wr64 R.SUM_CUT_T_LO t else s.cutT t
    let s := (s.dropPlace fun a => a.kind == k && a.arg == id).takePlace ⟨k, t, id⟩
    let ms := s.send ⟨k, t, id, 0⟩
    let s := ms.2.modJob k id fun j => { j with t := t, issued := true, msg := ms.1 }
    (s.dumpT k id j.t t, some t)

/-- A class 0 message reaches a leaf (R95, R119): the first copy takes a place; one that arrives after its T takes effect at once,
and LATE_ACTION is reported. -/
def State.deliver (s : State) (id n leaf : Nat) (m : Msg) : State :=
  let late := decide (m.t < leaf)
  let cutK := m.kind == .cutStop || m.kind == .cutGlance
  let s := s.modC id fun c =>
    let c := { c with rxMsgs := c.rxMsgs ++ [n] }
    let c := if late then { c with due := c.due ++ [⟨m.kind, m.t, m.arg⟩] } else { c with acts := c.acts ++ [⟨m.kind, m.t, m.arg⟩] }
    if cutK then (if c.frozen then c else c.setF CF.CUT_STAT_STATE 1).setF CF.CUT_STAT_LATE (b2n late) else c
  if late then s.raiseC id .lateAction leaf [.w n, .w (leaf - m.t)] else s

/-- The number of the message that brought a pending action (01 R12). -/
def State.actNo (s : State) (a : PendAct) : Nat :=
  match s.sum.msgs.find? (fun e => match e.2 with | some m => m.kind == a.kind && m.t == a.t && m.arg == a.arg | none => false) with
  | some e => e.1
  | none => 0

/-- Does message number `m` come before `n`, compared modulo 2^16 within a window of 32,768 (R96)? -/
def noBefore (m n : Nat) : Bool := m != n && decide ((n + 2 ^ 16 - m) % 2 ^ 16 < 32768)

/-- An action takes its place among those that fall on the same tick, in order of their message numbers (R96). -/
def State.actInsert (s : State) (a : PendAct) : List PendAct → List PendAct
  | [] => [a]
  | b :: bs => if noBefore (s.actNo a) (s.actNo b) then a :: b :: bs else b :: s.actInsert a bs

/-- The action of a list that takes effect first: least T, then by message number (R93, R96). -/
def State.firstOf (s : State) : List PendAct → Option PendAct
  | [] => none
  | a :: as =>
    match s.firstOf as with
    | none => some a
    | some b => if a.t < b.t ∨ (a.t = b.t ∧ !noBefore (s.actNo b) (s.actNo a)) then some a else some b

/-- The actions a leaf has reached are due, those of one tick in order of their message numbers (R93, R96). Traces are written at the
hub, and a place of theirs only goes. -/
def State.actsReach (s : State) (id leaf : Nat) : State :=
  let c := s.cairn id
  let hub := fun (a : PendAct) => a.kind == .traceStart || a.kind == .traceStop
  let now := c.acts.filter fun a => decide (a.t ≤ leaf) && !hub a
  s.setCairn id { c with
    acts := c.acts.filter fun a => !decide (a.t ≤ leaf)
    due := c.due ++ now.foldl (fun l a => s.actInsert a l) [] }

/-- The first action that a domain's reference leaf has reached: those due, then those pending (R95, R96, R108). Traces act at the hub. -/
def State.firstReached (s : State) (id leaf : Nat) : Option PendAct :=
  let c := s.cairn id
  let unit := fun (a : PendAct) => a.kind != .traceStart && a.kind != .traceStop
  match c.due.find? unit with
  | some a => some a
  | none => s.firstOf (c.acts.filter fun a => unit a && decide (a.t ≤ leaf))

/-- The first action that a domain's reference leaf has reached, if it is of one of the kinds: no other takes effect before it (R96). -/
def State.reachedAct (s : State) (id : Nat) (ks : List ActKind) (leaf : Nat) : Option PendAct :=
  (s.firstReached id leaf).filter fun a => ks.contains a.kind

/-- An action that has taken effect leaves the leaf. -/
def Cairn.dropAct (c : Cairn) (a : PendAct) : Cairn :=
  { c with acts := c.acts.filter (fun b => !(b.kind == a.kind && b.arg == a.arg)), due := c.due.filter (fun b => !(b.kind == a.kind && b.arg == a.arg)) }

/-- Is a list of Cairns at an edge one domain's: not empty, the lowest first, every Cairn a powered unit whose leaf is valid and reads
what it reports (03 R88), and every such unit of the domain among them (R107, R108)? -/
def State.domainOk (s : State) (reps : List EdgeRep) : Bool :=
  match reps with
  | [] => false
  | a :: _ => (reps.all fun r =>
      decide (a.cairn ≤ r.cairn) && kindOf r.cairn != 0 && (s.cairn r.cairn).powered && (s.cairn r.cairn).leafValid && s.leafOk r.cairn r.leaf
        && s.sameDom a.cairn r.cairn)
      && s.cairns.all fun e => !(e.2.powered && e.2.leafValid && s.sameDom a.cairn e.1) || reps.any fun r => r.cairn == e.1

/-- What a Cairn records at its cut edge (R116, R121, R140, R146, R147): a unit that a STOP already holds stays FROZEN at a later GLANCE
edge (R109, R118). -/
def Cairn.cutTake (c : Cairn) (id : Nat) (r : EdgeRep) (stop : Bool) (cutId : Nat) : Cairn :=
  let st := if stop || c.frozen then 2 else 3
  let c := ((c.setF CF.CUT_STAT_STATE st).setF CF.CUT_STAT_FENCED_AT_CUT (b2n c.fencedHere)).setF CF.CUT_STAT_CUT_ID cutId
  let c := (c.setF CF.CUT_STAT_HELD_AFTER_WAKE 0)
  let c := ((c.wr C.CUT_EDGE_LO (r.leaf % 2 ^ 32)).wr C.CUT_EDGE_HI (r.leaf / 2 ^ 32)).wr C.CUT_EVT (c.rd pgEvtCnt)
  let c := (c.setF CF.STEP_STAT_DEPOSITED 0).wr C.STEP_TOTAL 0
  match kindOf id with
  | 1 => c.wr (C.CUT_KIND 0) (c.rd C.A_POS % 2 ^ 8 + 2 ^ 8 * b2n c.echoBusy)
  | 3 => if stop then c else (c.wr (C.CUT_KIND 0) 0).wr (C.CUT_KIND 1) 0
  | 5 => if stop then c else (c.wr (C.CUT_KIND 0) 0).wr (C.CUT_KIND 1) 0
  | 6 => ((c.wr (C.CUT_KIND 0) r.txSeq).wr (C.CUT_KIND 1) r.ackSeq).wr (C.CUT_KIND 2) r.rxSeq
  | _ => c

/-- What the dump in progress records of a Cairn is what it held now, at its cut edge or shadow load (08 R256, R267). -/
def State.shoot (s : State) (id : Nat) : State :=
  { s with cou := { s.cou with shots := smSet none s.cou.shots id (some (s.cairn id)) } }

/-- One Cairn's part of a cut edge: it freezes or loads its shadow, and reports to its Spur (R108, R109, R121, R125). -/
def State.cutOne (s : State) (a : PendAct) (r : EdgeRep) : State :=
  let stop := a.kind == .cutStop
  let s := s.modC r.cairn fun c => (c.cutTake r.cairn r stop a.arg).dropAct a
  let s := s.modJob a.kind a.arg fun j => { j with reported := if j.reported.contains r.cairn then j.reported else j.reported ++ [r.cairn] }
  let s := if s.cut.cap ∧ s.cut.capId = a.arg then s.shoot r.cairn else s
  if s.cut.cap ∧ s.cut.capId = a.arg then s.shadowLoad r.cairn (!stop) else s

/-- The position-to-array map as the first cut edge of a STOP finds it (05 R151). -/
def State.mapMark (s : State) (a : PendAct) : State :=
  if a.kind = .cutStop ∧ s.cut.jobs.any (fun j => j.kind == a.kind && j.id == a.arg && j.reported.isEmpty) then
    { s with cut := { s.cut with map := s.wch.map } }
  else s

/-- The cut edge of a freeze domain (R108): the first edge at which the reference leaf reads T or more. -/
def State.cutEdge (s : State) (reps : List EdgeRep) : State :=
  match reps with
  | [] => s
  | a :: _ =>
    match s.reachedAct a.cairn [.cutStop, .cutGlance] a.leaf with
    | none => s
    | some act => reps.foldl (fun s r => s.cutOne act r) (s.couSync.mapMark act)

/-- The powered Cairns of a half. -/
def State.halfIds (s : State) (h : Nat) : List Nat := (s.cairns.filter fun e => e.2.powered && halfOf e.1 == h).map (·.1)

/-- The dormant Cairns of a half (01 R17). -/
def State.dormantIn (s : State) (h : Nat) : Nat := 1504 - (s.halfIds h).length

/-- Does Spur `p` bring Summit the reports of half `h` now: of its own, and after takeover of the other (01 R22; R121, R137)? -/
def State.answers (s : State) (p h : Nat) : Bool := s.spur p != 2 && (h == p || (s.spur h == 2 && s.spur p == 1))

/-- The halves whose aggregate of a job Spur `p` has still to send. -/
def State.openHalves (s : State) (j : CutJob) (p : Nat) : List Nat :=
  [0, 1].filter fun h => s.answers p h && !(if h = 0 then j.agg0 else j.agg1)

/-- Does the Spur hold a report, or a missing mark, for every Cairn it answers for and has not yet aggregated (R121)? -/
def State.jobReady (s : State) (j : CutJob) (p : Nat) : Bool :=
  j.issued && decide (j.t ≤ s.now) && !(s.openHalves j p).isEmpty && (s.openHalves j p).all fun h =>
    (s.halfIds h).all fun id => j.reported.contains id || j.missing.contains id || j.woken.contains id || (j.kind == .resume && s.cut.noAck.contains id)

/-- With Spur `p`'s aggregate, has Summit the reports of both halves? -/
def State.bothIn (s : State) (j : CutJob) (p : Nat) : Bool := (j.agg0 || s.answers p 0) && (j.agg1 || s.answers p 1)

/-- Spur `p`'s aggregate of a job has reached Summit. -/
def State.aggIn (s : State) (j : CutJob) (p : Nat) : State :=
  s.modJob j.kind j.id fun k => { k with agg0 := k.agg0 || s.answers p 0, agg1 := k.agg1 || s.answers p 1 }

/-- Cairns that stand in a job's aggregates without a report: those missing, and at a resume those that were missing at its cut. -/
def State.noReport (s : State) (j : CutJob) : List Nat :=
  j.missing ++ (if j.kind = .resume then s.cut.noAck.filter fun id => !j.reported.contains id else [])

/-- SUM_CUT_ACKS with a Spur's aggregate (R121): the reports it brings, and the Cairns that were dormant at T, for which it answers. -/
def State.addAcks (s : State) (j : CutJob) (p : Nat) : State :=
  let s := if j.agg0 || j.agg1 then s else s.wr R.SUM_CUT_ACKS 0
  (s.openHalves j p).foldl (fun s h =>
    let n := (j.reported.filter fun id => halfOf id == h).length
    let d := 1504 - (n + ((s.noReport j).filter fun id => halfOf id == h).length)
    (s.satAdd F.SUM_CUT_ACKS_REPORTED (n + d)).satAdd F.SUM_CUT_ACKS_DORMANT d) s

/-- CUT_DONE (R121): the state the cut leaves, Cairns recorded missing. -/
def State.cutDone (s : State) (j : CutJob) : State :=
  let s := s.raise .cutDone 0x1001 [.w j.id, .w j.missing.length]
  let s := { s with cut := { s.cut with
      jobs := s.cut.jobs.tail, noAck := j.missing, stop := s.cut.stop || decide (j.kind = ActKind.cutStop),
      capReady := s.cut.capReady || (s.cut.cap && s.cut.capId == j.id) } }
  let s := if s.cut.cap ∧ s.cut.capId = j.id then { s with cou := { s.cou with missed := j.missing } } else s
  let s := if s.cutState = cutEscalated ∨ s.cutState = cutResumePending then s
    else if j.kind = .cutStop then s.setCutState cutStopped
    else if s.hasJob .cutStop then s else s.setCutState cutCapturing
  s.captureCheck

/-- A Spur's aggregate cut report reaches Summit (R121). DESIGN CHOICE: the cuts under way are aggregated in the order in which they were
scheduled; of a GLANCE and a STOP with an earlier T, the GLANCE's CUT_DONE comes first (log entry 60). -/
def State.cutAggregate (s : State) (p : Nat) : State :=
  match s.cut.jobs with
  | [] => s
  | j :: _ =>
    if j.kind ≠ .resume ∧ s.jobReady j p then
      let s := (s.addAcks j p).aggIn j p
      if s.bothIn j p then s.cutDone j else s
    else s

/-- A Cairn has not reported within 2,000 tk of T (R121): its Spur reports it missing, and CUT_NOACK is raised. -/
def State.cutTimeout (s : State) (id : Nat) : State :=
  match s.cut.jobs with
  | [] => s
  | j :: _ =>
    if j.kind ≠ .resume ∧ j.issued ∧ j.t + 2000 ≤ s.now ∧ (s.cairn id).powered ∧ !j.reported.contains id ∧ !j.missing.contains id ∧
        !j.woken.contains id then
      (s.modJob j.kind j.id fun j => { j with missing := j.missing ++ [id] }).spurFault id 1
    else s

/-- A Cairn at its release edge (R123): RUNNING, or PENDING where the next cut's message is in already; what it held of a step is over
(05 R162). -/
def Cairn.release (c : Cairn) (a : PendAct) : Cairn :=
  let next := c.acts.any fun b => b.kind == .cutStop || b.kind == .cutGlance
  let c := if c.f CF.CUT_STAT_STATE = 2 then c.setF CF.CUT_STAT_STATE (b2n next) else c
  let c := (c.setF CF.CUT_STAT_HELD_AFTER_WAKE 0).dropAct a
  let keep := fun (b : PendAct) => b.kind != .stepRelease && b.kind != .stepClose
  { c with acts := c.acts.filter keep, due := c.due.filter keep }

/-- One Cairn's part of a release edge (R123): it runs again, whatever its part in a step (05 R162), and reports. -/
def State.resumeOne (s : State) (a : PendAct) (r : EdgeRep) : State :=
  let was := (s.cairn r.cairn).frozen
  let s := s.modC r.cairn fun c => c.release a
  let s := if was then s.unitRuns r.cairn else s
  let s : State := { s with stp := { s.stp with units := s.stp.units.map fun u => if u.cairn = r.cairn then { u with ended := true } else u } }
  s.modJob .resume a.arg fun j => { j with reported := if j.reported.contains r.cairn then j.reported else j.reported ++ [r.cairn] }

/-- The first edge of a freeze domain at which the reference leaf reads T_r or more (R123); held writes of its units complete. -/
def State.resumeEdge (s : State) (reps : List EdgeRep) : State :=
  match reps with
  | [] => s
  | a :: _ =>
    match s.reachedAct a.cairn [.resume] a.leaf with
    | none => s
    | some act => (reps.foldl (fun s r => s.resumeOne act r) s).heldSettle

/-- RESUMED (R123): the state the resume leaves. -/
def State.resumed (s : State) (j : CutJob) : State :=
  let s := s.raise .resumed 0x1001 [.w j.id]
  let s := ({ s with cut := { s.cut with jobs := s.cut.jobs.tail, stop := false, noAck := [], esc := false, escHold := false } }).heldShow
  match s.cut.jobs.find? fun j => j.kind == .cutStop with
  | some j => (s.setCutState cutPending).wr64 R.SUM_CUT_T_LO j.t
  | none => s.setCutState (if s.cut.cap ∧ !s.cut.pages.isEmpty then cutCapturing else cutIdle)

/-- The pending resume, when a Spur's release aggregate completes it. -/
def State.releaseAggregate (s : State) (p : Nat) : State × Bool :=
  match s.cut.jobs with
  | [] => (s, false)
  | j :: _ =>
    if j.kind = .resume ∧ s.jobReady j p then
      let s := (s.addAcks j p).aggIn j p
      if s.bothIn j p then (s.resumed j, true) else (s, false)
    else (s, false)

/-- A warm or soft reset ends the cut (R124): no message, edge or report of it remains. A hub that took part in a cross-device cut ignores its
resume from now on; the lead hub stays lead (16 R506). -/
def State.cutEnd (s : State) : State :=
  let part := s.cutState != cutIdle && s.f F.SUM_CUT_STAT_XDEV == 1 && s.f F.PASS_STAT_LEAD == 0
  let s := s.setCutState cutIdle
  let ids := (s.cut.pages.map (·.cairn)).eraseDups
  let s := { s with cut := { CutSt.init with
    xWait := s.cut.xWait, xId := s.cut.xId, xRefused := s.cut.xRefused || part, xAns := s.cut.xAns, xStat := s.cut.xStat, xFwd := s.cut.xFwd,
    xSent := s.cut.xSent } }
  let s := s.forEach ids State.uncaptShow
  let s := s.dropPlace fun a => a.kind == .cutStop || a.kind == .cutGlance || a.kind == .resume || a.kind == .shadowLoad
  (s.setF F.SUM_DIVERT_HELD_HELD 0).queueShow.wr R.SUM_CUT_UNCAPT 0

/-! ### Across devices (R138, R139, R142) -/

/-- A refusal's answer to the lead hub: its code, and where this hub is not aligned its RDG_STAT (03 R100; R139). -/
def State.xRefuse (s : State) (code : Nat) : State :=
  { s with cut := { s.cut with xAns := code, xStat := if code = refNotAligned then s.rd R.RDG_STAT else 0 } }

/-- This hub has refused a cross-device cut: it ignores its resume (R142). -/
def State.xOut (s : State) (out : Bool) : State := { s with cut := { s.cut with xRefused := out } }

/-- A receiving hub's answer to a cross-device cut (kind 0 STOP, 1 GLANCE) or resume (kind 2) at `t` (03 R100; R139, R142): 0 accepted,
else the code. DESIGN CHOICE: a request that R118 merges here counts as accepted (log entry 60). -/
def State.xcutReceive (s : State) (kind t : Nat) : State × Nat :=
  let aligned := s.f F.RDG_STAT_ALIGNED == 1
  if kind = 2 then
    if s.cut.xRefused then (s, 0)
    else if !aligned then ((s.cutRefuse refNotAligned 0x1009).1.xRefuse refNotAligned, refNotAligned)
    else ((s.resumeReq 0x1009 false (some t)).1, 0)
  else
    let no := fun (c : Nat) (s : State) => ((s.xRefuse c).xOut true, c)
    if !aligned then no refNotAligned (s.cutRefuse refNotAligned 0x1009).1
    else if t < s.now + 100 then no refLate (s.cutRefuse refLate 0x1009).1
    else
      let r := s.cutDeal kind 0x1009 false (some t)
      if r.2.out = 2 then no r.2.code r.1 else ((r.1.xRefuse 0).xOut false, 0)

/-- The lead hub counts a remote hub's answer (R139); XCUT_REFUSED carries the cut ID of the cross-device cut (R148). -/
def State.xcutAnswer (s : State) (hub code : Nat) : State :=
  let s := { s with cut := { s.cut with xWait := s.cut.xWait.filter (· ≠ hub) } }
  if code = 0 then s.satAdd F.SUM_XCUT_STAT_ACCEPTED 1
  else (s.satAdd F.SUM_XCUT_STAT_REFUSED 1).raise .xcutRefused 0x1001 [.w s.cut.xId, .w hub, .w code]

end Sys2Proof.Machine
end

