-- ==== Sys2Proof/Machine/Stepping.lean ====
section
/-! DEFINITION. Machine/Stepping.lean: steps from a STOP: request, message, release, completion, close and end (05 R149 to R162),
and cut requests as a step sees them. -/

namespace Sys2Proof.Machine

/-- Refusal codes of SUM_STEP_STAT.LAST_REFUSAL (R175). -/
def stepSchedFull : Nat := 1
def stepBusy : Nat := 2
def stepNotStopped : Nat := 3

/-- Causes of SUM_STEP_STAT.CAUSE (R175). -/
def causeReached : Nat := 1
def causeTrigger : Nat := 2
def causeTimeout : Nat := 3
def causeResume : Nat := 4
def causeDivert : Nat := 5

def State.stepNo (s : State) : Nat := s.f F.SUM_STEP_STAT_STEP_NO

/-- SUM_STEP_TMO as it acts. -/
def State.stepTmo (s : State) : Nat := max (s.f F.SUM_STEP_TMO_TMO) 400

/-- A refused step request (R153). -/
def State.stepRefuse (s : State) (code src : Nat) : State × Nat :=
  ((s.setF F.SUM_STEP_STAT_LAST_REFUSAL code).raise .stepRefused 0x1001 [.w code, .w src], code)

/-- A step request (R153, R154); the answer is 0 accepted, else the refusal code. -/
def State.stepReq (s : State) (src : Nat) (abs trig : Bool) : State × Nat :=
  if s.f F.SUM_STEP_STAT_STATE ≠ 0 then s.stepRefuse stepBusy src
  else if s.cutState ≠ cutStopped then s.stepRefuse stepNotStopped src
  else if s.schedFull then s.stepRefuse stepSchedFull src
  else
    let no := (s.stepNo + 1) % 2 ^ 16
    let tc := s.reqT abs none
    let tD := tc.1 + s.stepTmo
    let s := ((s.setF F.SUM_STEP_STAT_STEP_NO no).setF F.SUM_STEP_STAT_CLAMPED (b2n tc.2)).setF F.SUM_STEP_STAT_CAUSE 0
    let s := ((s.setF F.SUM_STEP_STAT_STATE 1).wr64 R.SUM_STEP_T_LO tc.1).takePlace ⟨.stepRelease, tD, no⟩
    let s := ((s.wr R.SUM_STEP_UNITS 0).wr R.SUM_STEP_FOLLOW 0).wr R.SUM_STEP_ENGST 0
    let s := { s with stp := { StepSt.init with active := true, tS := tc.1, tD := tD, trigClose := trig } }
    (s.raise .step 0x1001 [.w no, .d tc.1, .d tD, .w src], 0)

/-- The STEP event is numbered (R119, R154): T_s is raised if it would fall short, T_d keeps its distance from it, and the message is
issued. The T_s and T_d used; none where a reset has ended the step since. -/
def State.stepIssue (s : State) : State × Option (Nat × Nat) :=
  if s.stp.active ∧ !s.stp.issued then
    let t := max s.stp.tS s.minT
    let s := if s.stp.tS < t then s.setF F.SUM_STEP_STAT_CLAMPED 1 else s
    let tD := t + (s.stp.tD - s.stp.tS)
    let s := ((s.wr64 R.SUM_STEP_T_LO t).dropPlace fun a => a.kind == .stepRelease).takePlace ⟨.stepRelease, tD, s.stepNo⟩
    let s := s.setF F.SUM_STEP_FOLLOW_DORMANT (s.dormantIn 0 + s.dormantIn 1)
    let s := { s with stp := { s.stp with tS := t, tD := tD, issued := true } }
    ((s.send ⟨.stepRelease, t, s.stepNo, tD⟩).2, some (t, tD))
  else (s, none)

/-- May a kind take a mode (R149)? -/
def modeOk (kind mode : Nat) : Bool :=
  mode == 1 || (mode == 2 && (kind == 2 || kind == 4)) || (mode == 3 && kind != 1 && kind != 7)

/-- Does an array serve a position in a map (12 R388)? -/
def arrayServes (m : SMap (Option Nat)) (id : Nat) : Bool :=
  (decide (id % 132 < 128) && (smGet none m (128 * coreOf id + id % 132)).isNone) || m.any fun e => e.2 == some id

/-- Is an array a member of its core's engine, as the map stood at the cut (R151): as its Cairn recorded it at its cut edge, or by that
map where it was dormant then? -/
def State.engMember (s : State) (id : Nat) : Bool :=
  let c := s.cairn id
  if c.f CF.CUT_STAT_HELD_AFTER_WAKE = 1 then arrayServes s.cut.map id else !bit (c.rd (C.CUT_KIND 0)) 7

/-- Is a member of a core's engine fenced at its Cairn (R152)? -/
def State.engineFenced (s : State) (core : Nat) : Bool :=
  s.cairns.any fun e => kindOf e.1 == 1 && coreOf e.1 == core && s.engMember e.1 && e.2.fencedHere

/-- Is a core's engine refused in the step under way (R152)? DESIGN CHOICE: it is decided for all its members when the step message reaches
the first of them (log entry 60). -/
def State.engineRefused (s : State) (core : Nat) : Bool :=
  match s.stp.engRef.find? fun e => e.1 == core with
  | some e => e.2
  | none => s.engineFenced core

/-- The step message reaches a member of a core's engine: whether the engine is refused is decided (R152). -/
def State.engineJudge (s : State) (id : Nat) : State :=
  let core := coreOf id
  if kindOf id = 1 ∧ s.engMember id ∧ bit (s.f F.SUM_STEP_ENG_ENG_SEL) core ∧ !(s.stp.engRef.any fun e => e.1 == core) then
    { s with stp := { s.stp with engRef := s.stp.engRef ++ [(core, s.engineFenced core)] } }
  else s

/-- Mode (1 HOLD, 2 STEP, 3 FOLLOW), count and refusal of a unit when the step message arrives (R150 to R152, R155). -/
def State.stepMode (s : State) (id : Nat) : Nat × Nat × Nat :=
  let c := s.cairn id
  let k := kindOf id
  let noAck := s.cut.noAck.contains id
  if k = 1 then
    if s.engMember id ∧ bit (s.f F.SUM_STEP_ENG_ENG_SEL) (coreOf id) then
      if s.engineRefused (coreOf id) then (1, 0, 3)
      else if noAck then (1, 0, 2)
      else (2, max (s.f F.SUM_STEP_ENG_ENG_COUNT) 1, 0)
    else (1, 0, if noAck then 2 else 0)
  else
    let m := c.f CF.STEP_CTRL_MODE
    let d := bits (s.rd R.SUM_STEP_DFLT) (2 * (k - 1)) 2
    let mode := if m = 0 then (if d = 3 ∧ modeOk k 3 then 3 else 1) else if modeOk k m then m else 1
    if m ≠ 0 ∧ !modeOk k m then (1, 0, 4)
    else if c.fencedHere ∧ mode ≠ 1 then (1, 0, 1)
    else if noAck then (1, 0, 2)
    else (mode, if mode = 2 then max (c.f CF.STEP_CTRL_COUNT) 1 else 0, 0)

/-- The step message reaches a Cairn, which latches mode, count and NET and records any refusal (R152, R155). -/
def State.stepLatch (s : State) (id : Nat) : State :=
  let s := s.engineJudge id
  let m := s.stepMode id
  let c := s.cairn id
  let net := if c.f CF.STEP_CTRL_NET = 3 then 0 else c.f CF.STEP_CTRL_NET
  let u : StepUnit := ⟨id, m.1, m.2.1, net, 0, false, false, false, false, kindOf id == 1 && m.1 == 2, false⟩
  let dep := c.f CF.STEP_STAT_DEPOSITED
  let s := s.modC id fun c =>
    (((c.wr C.STEP_STAT 0).setF CF.STEP_STAT_DEPOSITED dep).setF CF.STEP_STAT_UREF m.2.2).setF CF.STEP_STAT_STEP_NO s.stepNo
  let s := if kindOf id = 1 ∧ m.2.2 = 3 then s.setF F.SUM_STEP_ENGST_REFUSED (setBit (s.f F.SUM_STEP_ENGST_REFUSED) (coreOf id)) else s
  { s with stp := { s.stp with units := s.stp.units ++ [u] } }

/-- A unit of the step. -/
def State.stepUnit (s : State) (id : Nat) : Option StepUnit := s.stp.units.find? fun u => u.cairn == id

/-- A unit of the step changed. -/
def State.modUnit (s : State) (id : Nat) (g : StepUnit → StepUnit) : State :=
  { s with stp := { s.stp with units := s.stp.units.map fun u => if u.cairn = id then g u else u } }

/-- One Cairn's part of a release edge (R156): in STEP or FOLLOW its unit runs; every Cairn reports. -/
def State.releaseOne (s : State) (id : Nat) : State :=
  match s.stepUnit id with
  | none => s
  | some u =>
    if u.released ∨ u.ended then s
    else
      let s := if u.mode = 1 then s else (s.modC id fun c => c.setF CF.CUT_STAT_STATE 0).unitRuns id
      s.modUnit id fun u => { u with released := true }

/-- Does nothing but a step's own action come first at a domain's reference leaf (03 R96)? -/
def State.stepNext (s : State) (id leaf : Nat) : Bool :=
  match s.firstReached id leaf with
  | some a => a.kind == .stepRelease || a.kind == .stepClose
  | none => true

/-- The release message has done its work at a leaf. -/
def Cairn.dropRelease (c : Cairn) : Cairn :=
  { c with acts := c.acts.filter fun a => a.kind != .stepRelease, due := c.due.filter fun a => a.kind != .stepRelease }

/-- A domain's first edge at or after T_s (R156). -/
def State.stepRelease (s : State) (reps : List EdgeRep) : State :=
  match reps with
  | [] => s
  | a :: _ =>
    if s.stp.active ∧ s.stp.tS ≤ a.leaf ∧ (s.stepUnit a.cairn).isSome ∧ s.stepNext a.cairn a.leaf then
      let s := if s.f F.SUM_STEP_STAT_STATE = 1 then s.setF F.SUM_STEP_STAT_STATE 2 else s
      (reps.foldl (fun s r => (s.releaseOne r.cairn).modC r.cairn Cairn.dropRelease) s).heldSettle
    else s

/-- The close message is issued with T_e (R158). -/
def State.closeIssue (s : State) : State :=
  let tE := max s.minT s.stp.tS
  let s := s.takePlace ⟨.stepClose, tE, s.stepNo⟩
  let s := { s with stp := { s.stp with tE := some tE, closeWait := false } }
  let s := (s.setF F.SUM_STEP_STAT_STATE 3).wr64 R.SUM_STEP_END_T_LO (min tE s.stp.tD)
  (s.send ⟨.stepClose, tE, s.stepNo, 0⟩).2

/-- A closing cause arises; one that comes after the first has no effect (R158). -/
def State.stepClose (s : State) (cause : Nat) : State :=
  if !s.stp.active ∨ s.f F.SUM_STEP_STAT_CAUSE ≠ 0 then s
  else
    let s := s.setF F.SUM_STEP_STAT_CAUSE cause
    if s.schedFull then { s with stp := { s.stp with closeWait := true } } else s.closeIssue

/-- The members of the engine of a core that step. -/
def State.engineUnits (s : State) (core : Nat) : List StepUnit := s.stp.units.filter fun u => u.eng && coreOf u.cairn == core

/-- A unit in STEP completes one step unit (R157); with its last it freezes, at leaf value `leaf`, and reports REACHED. -/
def State.unitComplete (s : State) (id leaf : Nat) : State :=
  match s.stepUnit id with
  | none => s
  | some u =>
    let d := u.done + 1
    let last := decide (u.count ≤ d)
    let s := s.modC id fun c =>
      let c := (c.setF CF.STEP_STAT_DONE d).bump C.STEP_TOTAL
      if last then { (c.setF CF.STEP_STAT_REACHED 1).setF CF.CUT_STAT_STATE 2 with endT := leaf } else c
    s.modUnit id fun u => { u with done := d, reached := last, frozen := last }

/-- Can a unit complete a step unit now, for a router by a grant on network `net` (0 bulk mesh, 1 control network)? -/
def State.canComplete (s : State) (id net : Nat) : Bool :=
  match s.stepUnit id with
  | none => false
  | some u => u.mode == 2 && u.released && !u.frozen && !u.ended && (kindOf id != 4 || u.net == net || u.net == 2)

/-- The resume that is scheduled, if its T_r is at or before `t` (R162). -/
def State.resumeBefore (s : State) (t : Nat) : Bool := s.cut.jobs.any fun j => j.kind == .resume && decide (j.t ≤ t)

/-- A running unit freezes at T_e or T_d (R158). -/
def State.freezeOne (s : State) (leaf id : Nat) : State :=
  match s.stepUnit id with
  | none => s
  | some u =>
    if u.mode = 1 ∨ u.frozen ∨ !u.released ∨ u.ended then s
    else
      let inc := u.mode == 2 && !u.reached
      let s := s.modC id fun c =>
        let c := { c.setF CF.CUT_STAT_STATE 2 with endT := leaf }
        if inc then c.setF CF.STEP_STAT_INCOMPLETE 1 else c
      s.modUnit id fun u => { u with frozen := true, incomplete := inc }

/-- Has a Cairn released in the step, or is it held throughout (R156)? -/
def State.stepOut (s : State) (id : Nat) : Bool :=
  s.stp.missing.contains id || (match s.stepUnit id with | some u => u.released || u.mode == 1 | none => false)

/-- A domain's first edge at which the reference leaf reads T_e or T_d, whichever is earlier (R158); a unit whose release edge it is too
releases on it and freezes on the next. -/
def State.stepFreeze (s : State) (reps : List EdgeRep) : State :=
  match reps with
  | [] => s
  | a :: _ =>
    let act := s.reachedAct a.cairn [.stepClose] a.leaf
    let t := match act with | some x => min x.t s.stp.tD | none => s.stp.tD
    if s.stp.active ∧ s.stp.issued ∧ (act.isSome ∨ s.stp.tD ≤ a.leaf) ∧ !s.resumeBefore t ∧ reps.all (fun r => s.stepOut r.cairn) then
      reps.foldl (fun s r => (s.freezeOne r.leaf r.cairn).modC r.cairn fun c =>
        match act with | some x => c.dropAct x | none => c) s
    else s

/-- T_d is reached (R158): the step closes with cause TIMEOUT, if no cause came first, and every running unit freezes whose domain's
reference leaf reads T_d; the others freeze on the edge at which theirs does. -/
def State.stepDeadline (s : State) : State :=
  if s.stp.active ∧ s.stp.issued ∧ s.stp.tD ≤ s.now ∧ !s.resumeBefore s.stp.tD then
    let s := if s.f F.SUM_STEP_STAT_CAUSE = 0 then s.setF F.SUM_STEP_STAT_CAUSE causeTimeout else s
    let early := match s.stp.tE with | some t => decide (t ≤ s.stp.tD) | none => false
    let s := if early then s else s.wr64 R.SUM_STEP_END_T_LO s.stp.tD
    let s := { s with stp := { s.stp with closeWait := false } }
    let ref := fun (u : StepUnit) => s.leafVal (s.domOf u.cairn).1
    let due := s.stp.units.filter fun u => decide (s.stp.tD ≤ ref u)
    (due.foldl (fun s u => s.freezeOne (s.leafVal u.cairn) u.cairn) s).setF F.SUM_STEP_STAT_STATE 3
  else s

/-- The units of the step in a half. -/
def State.halfUnits (s : State) (h : Nat) : List StepUnit := s.stp.units.filter fun u => halfOf u.cairn == h

/-- Bit `core` for each core whose engine's members satisfy `p`, all or any. -/
def State.engineBits (s : State) (p : List StepUnit → Bool) : Nat :=
  (List.range 8).foldl (fun n c => if !(s.engineUnits c).isEmpty && p (s.engineUnits c) then setBit n c else n) 0

/-- The step ends (R160, R162): STEP_DONE, and the state returns to IDLE. -/
def State.stepFinish (s : State) (cause : Nat) : State :=
  let us := s.stp.units
  let reached := (us.filter (·.reached)).length
  let inc := (us.filter (·.incomplete)).length
  let s := (s.setF F.SUM_STEP_STAT_CAUSE cause).setF F.SUM_STEP_STAT_STATE 0
  let s := (s.setF F.SUM_STEP_UNITS_INCOMPLETE inc).setF F.SUM_STEP_ENGST_REACHED (s.engineBits fun l => l.all (·.reached))
  let s := s.setF F.SUM_STEP_ENGST_INCOMPLETE (s.engineBits fun l => l.any (·.incomplete))
  let s := s.raise .stepDone 0x1001 [.w s.stepNo, .w cause, .w reached, .w inc, .w s.stp.missing.length]
  let s := s.dropPlace fun a => a.kind == .stepRelease || a.kind == .stepClose
  let s := us.foldl (fun s u => s.modC u.cairn fun c =>
    { c with acts := c.acts.filter (fun a => a.kind != .stepRelease && a.kind != .stepClose),
             due := c.due.filter (fun a => a.kind != .stepRelease && a.kind != .stepClose) }) s
  { s with stp := { s.stp with active := false, closeWait := false } }

/-- Has every Cairn of a half a release report, or a missing mark (R156)? -/
def State.releasesIn (s : State) (h : Nat) : Bool :=
  s.stp.issued && (s.halfIds h).all fun id =>
    s.stp.missing.contains id || (match s.stepUnit id with | some u => u.released | none => false)

/-- Has every unit in STEP of a half reached its count (R158)? -/
def State.halfReached (s : State) (h : Nat) : Bool := (s.halfUnits h).all fun u => u.mode != 2 || u.reached

/-- Have a half's release reports reached Summit? -/
def State.relOf (s : State) (h : Nat) : Bool := if h = 0 then s.stp.rel0 else s.stp.rel1

/-- Does Summit know that every unit in STEP of a half has reached its count? -/
def State.doneOf (s : State) (h : Nat) : Bool := if h = 0 then s.stp.done0 else s.stp.done1

/-- The halves for which Spur `p` has something to report of the step. -/
def State.stepHalves (s : State) (p : Nat) : List Nat :=
  [0, 1].filter fun h => s.answers p h && !(s.relOf h && (s.doneOf h || !s.halfReached h))

/-- A half's step aggregate reaches Summit (R156, R158): its release reports are counted once, and whether its units have reached
their counts. -/
def State.stepHalf (s : State) (h : Nat) : State :=
  let us := s.halfUnits h
  let all := s.halfReached h
  let s := if s.relOf h then s else
    (s.satAdd F.SUM_STEP_UNITS_STEPPING (us.filter fun u => u.mode == 2).length).satAdd F.SUM_STEP_FOLLOW_FOLLOWING
      (us.filter fun u => u.mode == 3).length
  if h = 0 then { s with stp := { s.stp with rel0 := true, done0 := all } } else { s with stp := { s.stp with rel1 := true, done1 := all } }

/-- A Spur's step aggregate reaches Summit (R156, R158): when both halves have reached their counts, Summit closes the step. -/
def State.stepAggregate (s : State) (p : Nat) : State :=
  let hs := s.stepHalves p
  if !s.stp.active ∨ hs.isEmpty ∨ !hs.all s.releasesIn then s
  else
    let s := hs.foldl State.stepHalf s
    if s.stp.done0 && s.stp.done1 then s.stepClose causeReached else s

/-- Is every unit of a half frozen, or held throughout? -/
def State.halfFrozen (s : State) (h : Nat) : Bool := (s.halfUnits h).all fun u => u.mode == 1 || u.frozen

/-- A Spur's freeze aggregate reaches Summit (R160). -/
def State.freezeAggregate (s : State) (p : Nat) : State :=
  let hs := [0, 1].filter fun h => s.answers p h && !(if h = 0 then s.stp.frz0 else s.stp.frz1)
  if s.stp.active ∧ s.f F.SUM_STEP_STAT_STATE = 3 ∧ hs ≠ [] ∧ hs.all s.halfFrozen then
    let s := { s with stp := { s.stp with frz0 := s.stp.frz0 || hs.contains 0, frz1 := s.stp.frz1 || hs.contains 1 } }
    if s.stp.frz0 && s.stp.frz1 then s.stepFinish (s.f F.SUM_STEP_STAT_CAUSE) else s
  else s

/-- A Cairn with no release report within 2,000 tk of T_s is missing and counts as HOLD (R156). -/
def State.stepTimeout (s : State) (id : Nat) : State :=
  let rep := match s.stepUnit id with | some u => u.released | none => false
  if s.stp.active ∧ s.stp.issued ∧ s.stp.tS + 2000 ≤ s.now ∧ (s.cairn id).powered ∧ !rep ∧ !s.stp.missing.contains id then
    let s := { s with stp := { s.stp with missing := s.stp.missing ++ [id] } }
    (s.modUnit id fun u => { u with mode := 1 }).satAdd F.SUM_STEP_FOLLOW_MISSING 1
  else s

/-- A reset ends the step with its cut; STEP_DONE is not raised (R162). -/
def State.stepEnd (s : State) : State :=
  let s := s.dropPlace fun a => a.kind == .stepRelease || a.kind == .stepClose
  { s.setF F.SUM_STEP_STAT_STATE 0 with stp := StepSt.init }

/-! ### Cut requests as the whole hub sees them -/

/-- A cut request (R118): one accepted in the course of a step with TRIG_CLOSE closes it (R158). -/
def State.cutReq (s : State) (kind src : Nat) (abs : Bool := false) (x : Option Nat := none) : State × CutRes :=
  let r := s.cutDeal kind src abs x
  if s.stp.active ∧ s.stp.trigClose ∧ kind < 2 ∧ r.2.out < 2 then (r.1.stepClose causeTrigger, r.2) else r

/-- A Spur's release aggregate (R123): a step that a resume ends is done with it (R162). -/
def State.releaseIn (s : State) (p : Nat) : State :=
  let tR := match s.cut.jobs with | j :: _ => j.t | [] => 0
  let r := s.releaseAggregate p
  let c := r.1.f F.SUM_STEP_STAT_CAUSE
  let early := decide (r.1.stp.tD < tR) || (match r.1.stp.tE with | some t => decide (t < tR) | none => false)
  if r.2 ∧ r.1.stp.active then
    if early ∧ c ≠ 0 then r.1.stepFinish c else (r.1.wr64 R.SUM_STEP_END_T_LO tR).stepFinish causeResume
  else r.1

end Sys2Proof.Machine
end

