-- ==== Sys2Proof/Machine/Dump.lean ====
section
/-! DEFINITION. Machine/Dump.lean: dump requests, write-divert, page writes and chunk commits, drains and releases (08 R247 to R279;
04 R130 to R134). -/

namespace Sys2Proof.Machine

/-! ### Requests (08 R249, R250) -/

/-- The cut a dump asks for: 0 GLANCE, 1 STOP; the dump of a GLANCE is the one already open. -/
def State.cutForDump (s : State) (kind src : Nat) : State × CutRes :=
  if kind = 1 then s.cutReq 0 src
  else if s.cutState = cutIdle then
    if s.schedFull then s.cutRefuse refSchedFull src
    else (s.cutPlan .cutGlance src (s.now + s.cutLead) false false cutPending, ⟨0, 0⟩)
  else if s.cutState = cutPending then s.cutMerge
  else s.cutRefuse refBusy src

/-- The capture of the dump in a slot is about to begin with cut `id`. -/
def State.capBegin (s : State) (id : Nat) : State :=
  { s with cut := { s.cut with
      cap := true, capId := id, capReady := false, capAband := false, esc := false, capDivert := 0, capBack := 0, lost := 0 } }

/-- The shadow load of a CURRENT dump is scheduled (R250, R252). -/
def State.loadPlan (s : State) (n src : Nat) : State × Nat × Nat :=
  if s.schedFull then ((s.slotUndo n).dumpRefuse couCutRefused refSchedFull src, couCutRefused, refSchedFull)
  else
    let t := s.now + s.cutLead
    let id := s.f F.SUM_CUT_STAT_CUT_ID
    let cutT := s.rd64 R.SUM_CUT_T_LO
    let after := s.stepNo != 0 && decide (cutT ≤ s.rd64 R.SUM_STEP_T_LO)
    let s := s.takePlace ⟨.shadowLoad, t, id⟩
    let s := (s.send ⟨.shadowLoad, t, id, 0⟩).2.capBegin id
    let s := { s with cou := { s.cou with capT := t, missed := s.cut.noAck } }
    let s := s.setSlot n { s.slot n with
      seq := s.rd R.SUM_CUT_SEQ, epoch := s.cut.epoch, xdev := s.f F.SUM_CUT_STAT_XDEV == 1, after := after,
      stepNo := if after then s.stepNo else 0, stepEnd := if after then s.rd64 R.SUM_STEP_END_T_LO else 0 }
    (s.dumpOpened n cutT id src, couNone, 0)

/-- A dump request (R249, R250): the code, and for CUT_REFUSED the code of R118. -/
def State.dumpReq (s : State) (src prof : Nat) : State × Nat × Nat :=
  let w := s.rd (R.COU_PROF prof)
  let code := s.dumpCode w true
  match s.cou.freeSlot with
  | none => (s.dumpRefuse code 0 src, code, 0)
  | some n =>
    if code ≠ couNone then (s.dumpRefuse code 0 src, code, 0)
    else
      let s := s.slotOpen n prof w (pfCut w) src
      if pfCut w = 2 then s.loadPlan n src
      else
        let r := s.cutForDump (pfCut w) src
        if r.2.out = 0 then
          let s := r.1.capBegin (r.1.f F.SUM_CUT_STAT_CUT_ID)
          (s.dumpOpened n (s.rd64 R.SUM_CUT_T_LO) (s.f F.SUM_CUT_STAT_CUT_ID) src, couNone, 0)
        else ((r.1.slotUndo n).dumpRefuse couCutRefused r.2.code src, couCutRefused, r.2.code)

/-- The CUT event of the dump's cut is numbered: its sequence number and epoch go into the header (R266). -/
def State.dumpNumbered (s : State) (id seq epoch : Nat) : State :=
  let s := { s with cut := { s.cut with epoch := epoch } }
  match s.cou.cur with
  | some n => if s.cut.cap ∧ s.cut.capId = id then s.setSlot n { s.slot n with seq := seq, epoch := epoch } else s
  | none => s

/-! ### Shadows (08 R252, R253; 04 R126) -/

/-- A domain's shadow load for a CURRENT dump (R252). -/
def State.loadEdge (s : State) (reps : List EdgeRep) : State :=
  match reps with
  | [] => s
  | a :: _ =>
    match s.reachedAct a.cairn [.shadowLoad] a.leaf with
    | none => s
    | some act =>
      let one := fun (s : State) (r : EdgeRep) =>
        let s := (s.modC r.cairn fun c => c.dropAct act).shoot r.cairn
        let s := { s with cou := { s.cou with loadSeen := s.cou.loadSeen ++ [r.cairn] } }
        s.shadowLoad r.cairn false
      let s := reps.foldl one s.couSync
      let all := s.cairns.all fun e => !e.2.powered || s.cou.loadSeen.contains e.1
      let s := if all then { s with cut := { s.cut with capReady := true } } else s
      s.captureCheck

/-- State pages in a Spur's staging buffer. -/
def State.staged (s : State) (p : Nat) : List Nat := if p = 0 then s.cou.stage0 else s.cou.stage1

/-- A Spur's staging buffer holds `l`; SPR_STAGE_USED shows it (01 R38). -/
def State.setStaged (s : State) (p : Nat) (l : List Nat) : State :=
  let s := if p = 0 then { s with cou := { s.cou with stage0 := l } } else { s with cou := { s.cou with stage1 := l } }
  (s.setF (F.SPR_STAGE_USED_USED p) l.length).setF (F.SPR_STAGE_USED_HWM p) (max (s.f (F.SPR_STAGE_USED_HWM p)) l.length)

/-- State pages a unit's shadow brings to the staging buffer: those of a selected kind. -/
def State.shadowOrds (s : State) (id : Nat) : List Nat :=
  if s.cou.loaded.contains id then (List.range (statePages (kindOf id))).map fun i => firstOrd id + i else []

/-- May Spur `p` take `n` more pages of half `h` into its staging buffer: 1,024 blocks in all, and 512 of each half while it serves both
(01 R24)? -/
def State.stageRoom (s : State) (p h n : Nat) : Bool :=
  decide ((s.staged p).length + n ≤ 1024)
    && (s.server (1 - h) != p || decide (((s.staged p).filter fun o => halfOf (ordPage o).1 == h).length + n ≤ 512))

/-- A Spur accepts a Cairn's shadow data (04 R126). DESIGN CHOICE: CRN_CUT_STAT.STATE stays CAPTURED once HELD has cleared, through CAPTURE_DONE
and until the Cairn's next cut message; R147 does not say when it leaves CAPTURED (log entry 60). -/
def State.shadowDrain (s : State) (id : Nat) : State :=
  let p := s.server (halfOf id)
  let ords := s.shadowOrds id
  if s.cut.heldIds.contains id ∧ s.reachable id ∧ s.stageRoom p (halfOf id) ords.length then
    let s := s.modC id fun c => c.setF CF.SHADOW_HELD 0
    let s := { s with cut := { s.cut with heldIds := s.cut.heldIds.filter (· ≠ id) } }
    (s.setStaged p (s.staged p ++ ords)).captureCheck
  else s

/-- Shadow data a lost Spur had accepted and Couloir had not written is lost (R23; 04 R126; 08 R259);
SPR_STAGE_USED keeps what it last showed (01 R39). -/
def State.stageLost (s : State) (p : Nat) : State :=
  let ords := s.staged p
  let s : State := if p = 0 then { s with cou := { s.cou with stage0 := [] } } else { s with cou := { s.cou with stage1 := [] } }
  let s := { s with cou := { s.cou with stateLost := s.cou.stateLost ++ ords } }
  let s := ords.foldl (fun s o =>
    let q := ordPage o
    s.addEntry (bareEntry o q.1 0 7 q.2.2) none) s
  let s := match s.cou.cur with
    | some n => if ords.isEmpty then s else s.setSlot n { s.slot n with flags := setBit (s.slot n).flags 3 }
    | none => s
  s.captureTail

/-! ### Write-divert and a full crash cache (04 R130 to R135) -/

/-- Is every unit of the device frozen: a STOP in effect and no step running (08 R258)? -/
def State.allFrozen (s : State) : Bool := s.cut.stop && decide (s.f F.SUM_STEP_STAT_STATE < 2)

/-- The crash cache is full for the capture (04 R133, R134, R135; 05 R159). DESIGN CHOICE: an escalation STOP that meets SCHED_FULL is refused
like any other, and the state is ESCALATED all the same, with the present time as escalation time; where a STOP is scheduled already,
it stands for the escalation's, and no request is made or merged (log entry 60). -/
def State.divertFull (s : State) : State :=
  if !s.cut.cap ∨ s.cut.esc ∨ s.cut.capAband ∨ s.allFrozen then s
  else
    let pol := s.f F.SUM_CUT_CTRL_FULL_POLICY
    let s := s.raise .divertFull 0x1001 [.w s.cut.capId, .w (s.rd R.SUM_CUT_UNCAPT), .w pol]
    if pol = 1 then s.abandon
    else
      let s := ({ s with cut := { s.cut with esc := true, escHold := true } }).heldShow
      if s.stp.active then (s.setCutState cutEscalated).stepClose causeDivert
      else
        let s := if s.hasJob .cutStop ∨ s.cut.stop then s else (s.stopPlan 0x100E false none cutPending).1
        let t := match s.cut.jobs.find? (fun j => j.kind == .cutStop) with | some j => j.t | none => s.now
        let s := match s.cou.cur with | some n => s.setSlot n { s.slot n with escT := t } | none => s
        s.setCutState cutEscalated

/-- A write of `bytes` at `addr` to an uncaptured page (R130): held, counted, its page queued. -/
def State.divertWrite (s : State) (pg : PageId) (addr : Nat) (bytes : List Byte) : State :=
  let s := { s with cut := { s.cut with held := s.cut.held ++ [HeldWr.mk pg addr bytes] } }
  let s := (s.satAddR R.SUM_DIVERT_CNT 1).modC (s.heldUnit ⟨pg, addr, bytes⟩) fun c => c.bump (C.CUT_KIND 1)
  let s := (s.queuePut pg).heldShow
  if s.blockFree then s else s.divertFull

/-- Couloir completes the copy of a page of the divert set (R130, R132). -/
def State.copyDone (s : State) (pg : PageId) : State :=
  let div := s.cut.queue0.contains pg || s.cut.queue1.contains pg
  let s := { s with cut := { s.cut with
      pages := s.cut.pages.filter (· ≠ pg),
      capDivert := s.cut.capDivert + b2n div, capBack := s.cut.capBack + b2n (!div) } }
  let s := (s.uncaptShow pg.cairn).queueDrop pg |>.heldSettle
  let s := if !s.cut.pages.isEmpty ∧ !s.blockFree then s.divertFull else s
  s.captureCheck

/-! ### Pages (08 R254 to R258) -/

/-- Metadata byte offset of a reference bank's digest (R241). -/
def refOff (bank ord : Nat) : Nat := (16 + 1536 * bank) * 4096 + 16 * ord

/-- The digest a reference bank holds at an ordinal. -/
def State.refDigest (s : State) (bank ord : Nat) : Nat :=
  ofLe ((List.range 16).map fun i => smGet 0 s.mem (s.metaAddr ((refOff bank ord + i) / 4096) ((refOff bank ord + i) % 4096)))

/-- Disposition and stored bytes of a page's raw bytes (R254): 4 ZERO, 3 SAME, 2 LZ4, 1 RAW. -/
def State.pageForm (s : State) (x : Slot) (ord : Nat) (raw : List Byte) : Nat × List Byte :=
  let d := (Config.blake3 raw).toNat
  if raw.all (· == 0) then (4, [])
  else if pfDedup x.profW ∧ x.ref.any (fun b => s.refDigest b ord != 0 && s.refDigest b ord == d) then (3, [])
  else
    let z := Config.lz4 raw
    if pfLz4 x.profW ∧ 64 * ceilDiv z.length 64 < raw.length then (2, z) else (1, raw)

/-- Bytes padded with zeros to whole granules. -/
def padGranule (bs : List Byte) : List Byte := bs ++ List.replicate (64 * ceilDiv bs.length 64 - bs.length) 0

/-- Was a page secure at the cut (R256)? -/
def State.secure (s : State) (id cls idx : Nat) : Bool :=
  if cls = 0 then (s.shot id).f CF.U_OWNER_SEC == 1 else s.pageSec ⟨id, idx⟩

/-- The unit, class and index under which ordinal `ord` of a slot is recorded (R246, R255). -/
def State.pageOf (s : State) (x : Slot) (ord : Nat) : Nat × Nat × Nat :=
  let q := ordPage ord
  if q.2.1 = 2 then
    let dev := (x.plist.getD q.2.2 (0, 0)).1
    (0x520 + s.chanOf (dev * 4096), 2, dev)
  else q

/-- The bytes of a stack page in device-address order (R255). -/
def State.stackPage (s : State) (dev : Nat) : List Byte := smRange 0 s.mem (dev * 4096) 4096

/-- No block is free for page data (R258): with every unit frozen the capture waits, else the cache is full. -/
def State.noBlock (s : State) : State :=
  if s.allFrozen then
    if s.cou.waiting then s
    else
      let n := s.cou.cur.getD 0
      let left := (s.slot n).expected - s.rd R.COU_CAP_PAGES
      (({ s with cou := { s.cou with waiting := true } }).capState 3).raise .captureWait 0x100E [.w n, .w left]
  else s.divertFull

/-- The last state page of a unit is written with ordinal `ord`: the unit. -/
def State.unitLast (s : State) (id ord : Nat) : Option Nat :=
  if (List.range (statePages (kindOf id))).all fun i =>
      firstOrd id + i == ord || s.cou.written.contains (firstOrd id + i) then some id else none

/-- What the log takes of a page (R254): its disposition, the length of its own data, and the granules of that data with the page's Census
record `cen` behind them. -/
def State.pageData (s : State) (x : Slot) (ord : Nat) (raw cen : List Byte) : Nat × Nat × List Byte :=
  let form := s.pageForm x ord raw
  (form.1, form.2.length, padGranule form.2 ++ cen)

/-- Is there room for `g` granules of page data outside the reservation (R258)? -/
def State.pageRoom (s : State) (g : Nat) : Bool :=
  s.ccOn && decide (s.cou.reserved * 64 + g ≤ s.ccGranules - s.cou.usedGr)

/-- A page's data goes to the log and its entry into the open chunk (R254, R256, R257); a state page of a secure unit leaves no data where the
dump's rights lack DUMP_SECURE. `cen` is its Census record, if any. -/
def State.pageStore (s : State) (n ord : Nat) (raw cen : List Byte) (memUc : Bool) : State :=
  let x := s.slot n
  let q := s.pageOf x ord
  let pg : PageId := ⟨q.1, q.2.2⟩
  let sec := s.secure q.1 q.2.1 q.2.2
  let hide := sec && !bit x.rights rtDumpSecure
  let div := s.cut.queue0.contains pg || s.cut.queue1.contains pg
  let d := s.pageData x ord raw cen
  let e : PageEnt :=
    if hide then bareEntry ord q.1 q.2.1 6 (q.2.2 % 2 ^ 32)
    else ⟨ord, q.1, q.2.1, d.1, !cen.isEmpty, div && q.2.1 != 0, sec, memUc, q.2.2 % 2 ^ 32, s.cou.head, d.2.1,
      (Config.blake3 raw).toNat, d.2.2.length / 64⟩
  let s := if hide then s else s.putBytes (fun i => s.granAddr (s.cou.head + i / 64) (i % 64)) d.2.2
  let p := s.server (halfOf q.1)
  let s := if q.2.1 = 0 then
      ({ (s.setStaged p ((s.staged p).filter (· ≠ ord))) with
        cou := { (s.setStaged p ((s.staged p).filter (· ≠ ord))).cou with resBytes := s.cou.resBytes - raw.length } })
    else s
  let s := s.addEntry e (if q.2.1 = 0 then s.unitLast q.1 ord else none)
  let s := if s.cou.waiting ∧ q.2.1 ≠ 0 then ({ s with cou := { s.cou with waiting := false } }).capState 2 else s
  (s.captureTail).captureCheck

/-- May Couloir write the page of ordinal `ord`: its content is held, and it is not yet written? -/
def State.pageReady (s : State) (n ord : Nat) : Bool :=
  let x := s.slot n
  let q := s.pageOf x ord
  !s.cou.written.contains ord && decide (ord < 118400 + x.plist.length) &&
    (if q.2.1 = 0 then s.cou.stage0.contains ord || s.cou.stage1.contains ord else s.cut.pages.contains ⟨q.1, q.2.2⟩)

/-- Ordinals of a page of the divert set that no BMU has written yet. -/
def State.ordsLeft (s : State) (x : Slot) (pg : PageId) : List Nat := (pageOrds x.plist pg).filter fun o => !s.cou.written.contains o

/-- Is it the turn of a ready page (R253)? In each half, while a block is free for them, the first eight pages of the divert queue (04 R131);
then state pages that the half's shadows have brought to the staging buffer; then the half's other pages in ascending ordinal. -/
def State.pageTurn (s : State) (n ord : Nat) : Bool :=
  let x := s.slot n
  let q := s.pageOf x ord
  let pg : PageId := ⟨q.1, q.2.2⟩
  let h := halfOf q.1
  let queue := if h = 0 then s.cut.queue0 else s.cut.queue1
  let first := s.blockFree && queue.any fun p => !(s.ordsLeft x p).isEmpty
  if q.2.1 = 0 then !first
  else if queue.contains pg then (queue.take 8).contains pg
  else
    let staged := (s.cou.stage0 ++ s.cou.stage1).any fun o => halfOf (ordPage o).1 == h
    !first && !staged
      && (s.cut.pages.filter fun p => halfOf p.cairn == h).all fun p => (s.ordsLeft x p).all fun o => decide (ord ≤ o)

/-! ### Commit and close (08 R260 to R262, R271) -/

/-- The link record of an I/O ring block (R264). -/
def State.linkOf (s : State) (id : Nat) : LinkRec :=
  let c := s.shot id
  match smGet none s.cou.linkRecs id with
  | some r => r
  | none => ⟨0, 0, if Config.servesLink id then 2 else 0, c.rd (C.CUT_KIND 0), c.rd (C.CUT_KIND 1), 0, 0, 0⟩

/-- The entries of a chunk as bytes: units in Cairn order, links in table order, pages in ordinal order (R269). -/
def State.chunkEntries (s : State) (x : Slot) (c : Chunk) : List Byte :=
  let us := (List.range 0xBC0).filter fun id => c.units.contains id
  let ls := if c.links then (List.range 64).map (· + 0xB60) else []
  let ps := c.pages.mergeSort fun a b => decide (a.ord ≤ b.ord)
  us.flatMap (fun id => s.unitBytes x id c.n (s.cairn id).dormT) ++ ls.flatMap (fun id => linkBytes id c.n (s.linkOf id))
    ++ ps.flatMap (s.pageBytes c.n)

/-- Step 2 of a commit: the entries of a chunk are written, and under SET_REF their digests go to the other bank (R262, R271). -/
def State.commitEntries (s : State) (n : Nat) (c : Chunk) : State :=
  let x := s.slot n
  let o := manifestOff n
  let s := c.units.foldl (fun s id => s.putMeta (o + 64 * id) (s.unitBytes x id c.n (s.cairn id).dormT)) s
  let s := if c.links then
      (List.range 64).foldl (fun s i => s.putMeta (o + 0x2F000 + 32 * i) (linkBytes (0xB60 + i) c.n (s.linkOf (0xB60 + i)))) s
    else s
  let bank := 1 - s.f F.COU_REF_BANK
  c.pages.foldl (fun s e =>
    let s := s.putMeta (o + 0x30000 + 32 * e.ord) (s.pageBytes c.n e)
    if pfSetRef x.profW then s.putMeta (refOff bank e.ord) (le 16 e.digest) else s) s

/-- The reference record of a dump that closes with SET_REF (R271). -/
def State.setRef (s : State) (n : Nat) : State :=
  let x := s.slot n
  let old := s.f F.COU_REF_BANK
  let bank := 1 - old
  let s := ((s.setF F.COU_REF_BANK bank).setF F.COU_REF_VALID 1).wr64 R.COU_REF_T_LO x.t
  let s := { s with cou := { s.cou with refGen := s.cou.refGen + 1, refCopy := 1 - s.cou.refCopy } }
  let body := refBody s.cou.refGen x.t bank true
  let s := s.putCopy (0x40 * s.cou.refCopy) (body ++ le 4 (crc32c body))
  let s := s.setSlot n { x with flags := setBit x.flags 4 }
  let s := s.raise .refSet 0x100E [.w x.id, .d x.t, .w bank]
  let lo := s.f F.COU_CC_BASE_BASE
  { s with mem := smKeep (fun a =>
      let b := (s.localOf a / 4096 - lo) * 256 + s.chanOf a
      !(decide (lo ≤ s.localOf a / 4096) && decide (16 + 1536 * old ≤ b) && decide (b < 16 + 1536 * (old + 1)))) s.mem }

/-- Is a Pass session established (02 R71)? -/
def State.passUp (s : State) : Bool := s.f F.SUM_ARB_STAT_PASS_UP == 1

/-- A drain of a slot starts (R273). -/
def State.drainStart (s : State) (n : Nat) : State :=
  let x := s.slot n
  if s.cou.drain.isSome ∨ x.st = 0 then s
  else
    let s := { s with cou := { s.cou with drain := some ⟨n, x.ack, false, false, false⟩ } }
    let s := (s.wr R.COU_DRAIN_STAT x.ack).setF F.COU_DRAIN_STAT_ACTIVE 1
    (s.setF F.COU_STAT_DRAINING 1).raise .drainStart 0x100E [.w n, .w (x.ack + 1)]

/-- Causes of DRAIN_END (R281). -/
def drainStop : Nat := 1
def drainDone : Nat := 2
def drainSession : Nat := 3
def drainReset : Nat := 4

/-- The drain ends (R274). -/
def State.drainEnd (s : State) (cause : Nat) : State :=
  match s.cou.drain with
  | none => s
  | some d =>
    let s := { s with cou := { s.cou with drain := none } }
    let s := ((s.setF F.COU_DRAIN_STAT_ACTIVE 0).setF F.COU_DRAIN_STAT_END cause).setF F.COU_STAT_DRAINING 0
    s.raise .drainEnd 0x100E [.w d.slot, .w (s.slot d.slot).ack, .w cause]

/-- DUMP_CLOSED of a slot. -/
def State.closedEvent (s : State) (n : Nat) : State :=
  let x := s.slot n
  s.raise .dumpClosed 0x100E [.w n, .w x.id, .w x.flags, .w x.committed, .w x.stored, .w x.lost]

/-- The dump closes after its final chunk (R260, R271). -/
def State.dumpClose (s : State) (n : Nat) : State :=
  let s := if pfSetRef (s.slot n).profW then s.setRef n else s
  let s := { s with cou := { s.cou with cur := none, resBytes := 0 } }
  let s := (s.setSlot n { s.slot n with st := 3, closeT := s.now }).capState 0
  let s := (s.hdrWrite n).closedEvent n
  let x := s.slot n
  let s := if pfResume x.profW ∧ x.kind = 1 then (s.cutReq 2 0x100E).1 else s
  if pfAutoDrain x.profW ∧ s.passUp then s.drainStart n else s

/-- Units of a chunk counted in the header (R266). -/
def State.countUnits (s : State) (x : Slot) (c : Chunk) : Slot :=
  let k := fun (b : Nat) => (c.units.filter fun id => bit (s.uflags x id) b).length
  { x with capt := x.capt + k 0, dorm := x.dorm + k 1, noAck := x.noAck + k 2,
           links := if c.links then ((List.range 64).filter fun i => (s.linkOf (0xB60 + i)).status != 0).length else x.links }

/-- The BMUs acknowledge a step of the commit of the first closed chunk (R262). -/
def State.commitStep (s : State) : State :=
  match s.cou.cur, s.cou.closing with
  | some n, c :: rest =>
    let c := { c with step := c.step + 1 }
    let s := { s with cou := { s.cou with closing := c :: rest } }
    if c.step = 1 then s
    else if c.step = 2 then s.commitEntries n c
    else if c.step = 3 then
      let links := if c.links then 64 else 0
      s.putMeta (manifestOff n + 0xBCD000 + 32 * (c.n - 1)) (s.chunkBytes c (s.chunkEntries (s.slot n) c) links)
    else
      let s := { s with cou := { s.cou with closing := rest } }
      let x := s.countUnits (s.slot n) c
      let x := c.pages.foldl Slot.count x
      let s := s.setSlot n { x with committed := c.n, fin := c.fin, chunks := x.chunks ++ [c], storedGr := c.fin - x.start }
      let s := ((s.capShow n).hdrWrite n).wr R.COU_CAP_PAGES (s.rd R.COU_CAP_PAGES + c.pages.length)
      if s.cou.lastClosed ∧ rest.isEmpty then s.dumpClose n else s
  | _, _ => s

/-- The open chunk's time is up (R261). -/
def State.chunkTimer (s : State) : State :=
  match s.cou.openCh with
  | some c => if 16 ≤ c.pages.length ∧ c.first + 25000 ≤ s.clk then s.chunkClose else s
  | none => s

/-- A peer's record of a link arrives (04 R141; 08 R264): block `blk`, the peer's device and Cairn, and its RX_SEQ. -/
def State.linkRecord (s : State) (blk dev peer rx : Nat) : State :=
  let c := s.shot blk
  let tx := c.rd (C.CUT_KIND 0)
  let ack := c.rd (C.CUT_KIND 1)
  let span := (tx + 2 ^ 32 - ack) % 2 ^ 32
  let at_ := (rx + 2 ^ 32 - ack) % 2 ^ 32
  let ok := decide (span < 2 ^ 31) && decide (at_ ≤ span)
  let r : LinkRec := if ok then ⟨dev, peer, 1, tx, ack, rx, (rx + 1) % 2 ^ 32, span - at_⟩ else ⟨dev, peer, 3, tx, ack, rx, 0, 0⟩
  let s := { s with cou := { s.cou with
    linkRecs := smSet none s.cou.linkRecs blk (some r), linkWait := s.cou.linkWait.filter (· ≠ blk) } }
  s.captureTail

/-- A peer sends nothing within COU_LINK_TMO: its link is UNCUT (R264). -/
def State.linkTimeout (s : State) (blk : Nat) : State :=
  ({ s with cou := { s.cou with linkWait := s.cou.linkWait.filter (· ≠ blk) } }).captureTail

/-! ### Release and drain acknowledgement (08 R274, R277) -/

/-- Chunks 1 to `k` of a slot are released; a capture that waits for space goes on once a block is free (R258, R277). -/
def State.releaseTo (s : State) (n k : Nat) : State :=
  let x := s.slot n
  let x := { x with released := max x.released k }
  let s := (s.setSlot n x).hdrWrite n
  if s.cou.waiting ∧ s.blockFree then ({ s with cou := { s.cou with waiting := false } }).capState 2 else s

/-- A write to COU_RELEASE (R277). -/
def State.couRelease (s : State) (m v : Nat) : State :=
  let n := bits v 0 2
  let all := bit v 31
  let x := s.slot n
  let k := if all then x.committed else bits v 8 19
  let act := s.cou.drain.any fun d => d.slot == n && decide (x.ack < k)
  if x.committed < k ∨ (all ∧ (x.st = 1 ∨ x.st = 2)) ∨ act then s.raise .releaseRefused 0x100E [.w n, .w k, .w m]
  else
    let before := s.freeBlocks
    let s := if x.st = 0 then s else s.releaseTo n k
    s.raise .release 0x100E [.w n, .w k, .w (s.freeBlocks - before)]

/-- The manifest region of a CLOSED slot whose chunks are all released is zeroed, and the slot is FREE (R277). -/
def State.slotFree (s : State) (n : Nat) : State :=
  let x := s.slot n
  if x.st = 3 ∧ x.committed ≤ x.released then (s.zeroManifest n).slotFreed n else s

/-- A write to COU_DRAIN_ACK (R274). -/
def State.drainAck (s : State) (k : Nat) : State :=
  match s.cou.drain with
  | none => s
  | some d =>
    let x := s.slot d.slot
    if k < x.ack ∨ d.sent < k then s
    else
      let fin := d.tail && x.st == 3 && k == x.committed
      let s := s.setSlot d.slot { x with ack := k, flags := if fin then setBit x.flags 5 else x.flags }
      let s := if s.f F.COU_CTRL_DRAIN_FREE = 1 then
          let b := s.freeBlocks
          let s := s.releaseTo d.slot k
          s.raise .release 0x100E [.w d.slot, .w k, .w (s.freeBlocks - b)]
        else s.hdrWrite d.slot
      if fin then s.drainEnd drainDone else s

/-! ### Control and resets (08 R242, R278, R279, R282) -/

/-- ENABLE goes from 0 to 1: the metadata area is zeroed, and no dump is recorded (R242). -/
def State.couEnable (s : State) : State :=
  let s := (s.setF F.COU_CTRL_ENABLE 1).setF F.COU_STAT_INIT_BUSY 1
  let s := { s with cou := CouSt.init }
  ((s.zeroMeta.setF F.COU_REF_VALID 0).setF F.COU_REF_BANK 0).couShow

/-- The zeroing of the metadata area is done (R242): INIT_BUSY falls. -/
def State.initDone (s : State) : State := s.setF F.COU_STAT_INIT_BUSY 0

/-- Is every slot FREE? -/
def CouSt.allFree (c : CouSt) : Bool := c.slot0.st == 0 && c.slot1.st == 0 && c.slot2.st == 0 && c.slot3.st == 0

/-- The capture in progress is aborted (R282): it ends as ABANDON ends it, and the dump closes with ABORTED. No capture is in progress before T
or after CAPTURE_DONE; one that is abandoned already is not abandoned again. -/
def State.couAbort (s : State) : State :=
  let s := s.couSync
  match s.cou.cur with
  | none => s
  | some n =>
    if (s.slot n).st = 2 ∧ s.cut.cap then
      let s := s.setSlot n { s.slot n with flags := setBit (s.slot n).flags 2 }
      if s.cut.capAband then s else s.abandon
    else s

/-- A write to COU_CTRL by a master that holds `rights` (R242, R282): one that would clear ENABLE while a slot is not FREE is ignored. -/
def State.couCtrl (s : State) (v rights : Nat) : State :=
  if !bit v 0 ∧ s.ccOn ∧ !s.cou.allFree then s else
  let s := ((s.setF F.COU_CTRL_GLANCE_PROF (bits v 1 4)).setF F.COU_CTRL_AUTO_PROF (bits v 5 4)).setF F.COU_CTRL_DRAIN_FREE (bits v 10 1)
  let s := if bit v 0 ∧ !s.ccOn then s.couEnable
    else if !bit v 0 ∧ s.ccOn then (s.setF F.COU_CTRL_ENABLE 0).couShow else s
  let s := if bit v 9 then s.wr R.COU_AUTO_RIGHTS rights else s
  if bit v 11 then s.couAbort else s

/-- A write to COU_DRAIN_CTRL (R282). -/
def State.drainCtrl (s : State) (v : Nat) : State :=
  let s := (s.setF F.COU_DRAIN_CTRL_SLOT (bits v 2 2)).setF F.COU_DRAIN_CTRL_WINDOW (bits v 4 4)
  let s := if bit v 0 then s.drainStart (bits v 2 2) else s
  if bit v 1 then s.drainEnd drainStop else s

/-- Couloir drops its work on the dump in progress; the log goes back to the last committed chunk's end (R278). -/
def State.dumpDrop (s : State) : State :=
  match s.cou.cur with
  | none => s
  | some n =>
    let s := { s with cou := { s.cou with
      cur := none, openCh := none, closing := [], resBytes := 0, head := (s.slot n).fin, stage0 := [], stage1 := [], linkWait := [] } }
    ((s.setStaged 0 []).setStaged 1 []).capState 0

/-- A slot that a reset finds OPEN returns to FREE, and one that it finds CAPTURING closes at its last commit (R278). -/
def State.slotCut (s : State) (n : Nat) : State :=
  let x := s.slot n
  if x.st = 1 ∨ x.st = 2 then
    let s := s.setSlot n { x with flags := setBit x.flags 1, st := 3, closeT := s.now }
    if x.st = 1 then (s.closedEvent n).slotFreed n else (s.hdrWrite n).closedEvent n
  else s

/-- A chip warm reset truncates the dump in progress (R278). -/
def State.dumpTruncate (s : State) : State :=
  let s := s.couSync
  match s.cou.cur with
  | none => s
  | some n => s.dumpDrop.slotCut n

/-- Both header copies of a slot fail (R270): HDR_BAD; its data counts as released, its manifest is zeroed and it is FREE. DESIGN CHOICE: a drain of
it ends with cause STOP, and a dump in progress in it is dropped (log entry 60). -/
def State.slotBad (s : State) (n : Nat) : State :=
  let s := if s.cou.drain.any fun d => d.slot == n then s.drainEnd drainStop else s
  let s := if s.cou.cur = some n then s.dumpDrop else s
  (s.zeroManifest n).slotFreed n

/-- A slot as its header copies give it (R270, R279). DESIGN CHOICE: one of which no header was ever written is FREE without HDR_BAD
(log entry 60). -/
def State.slotRead (s : State) (n : Nat) : State :=
  match s.hdrBest n with
  | some k => s.setSlot n ((s.slot n).ofHeader k (s.getMeta (hdrOff n k) 256))
  | none => if s.hdrNever n then s.setSlot n Slot.free else (s.hubFault 0x08 2).slotBad n

/-- COU_REF as the copies of the reference record give it (R271, R279). DESIGN CHOICE: where both fail there is no reference, and nothing is
raised: HDR_BAD speaks of a slot (log entry 60). -/
def State.refRead (s : State) : State :=
  match s.refBest with
  | none => s.setF F.COU_REF_VALID 0
  | some k =>
    let bs := s.getMeta (0x40 * k) 64
    ((s.setF F.COU_REF_VALID (field bs 0x11 1)).setF F.COU_REF_BANK (field bs 0x10 1)).wr64 R.COU_REF_T_LO (field bs 8 8)

/-- Couloir after a hub soft reset (R279): the dump in progress is dropped, its state is rebuilt from the region, and a slot found OPEN or
CAPTURING is treated as at a warm reset. -/
def State.couRebuild (s : State) : State :=
  let s := s.dumpDrop
  let s := if s.ccOn then ([0, 1, 2, 3].foldl State.slotRead s).refRead else s
  ([0, 1, 2, 3].foldl State.slotCut s).couShow

/-- An uncorrectable word is met in the copy of a header or of the reference record at metadata byte `o` (R284): the copy fails, and where both
do, the slot or the reference is lost (R270, R271). -/
def State.copyUc (s : State) (o : Nat) : State :=
  let s := { s with cou := { s.cou with ucMeta := if s.cou.ucMeta.contains o then s.cou.ucMeta else s.cou.ucMeta ++ [o] } }
  match [0, 1, 2, 3].find? fun n => o == hdrOff n 0 || o == hdrOff n 1 with
  | some n => if (s.slot n).st ≠ 0 ∧ (s.hdrBest n).isNone then (s.hubFault 0x08 2).slotBad n else s
  | none => if s.refBest.isNone then s.setF F.COU_REF_VALID 0 else s

end Sys2Proof.Machine
end

