-- ==== Sys2Proof/Machine/Views.lean ====
section
/-! DEFINITION. Machine/Views.lean: a unit's state view: spaces, summary registers, reads and deposits (05 R163 to R173). -/

namespace Sys2Proof.Machine

/-- Is a unit at a mesh 0 site? -/
def mesh0 (id : Nat) : Bool := kindOf id == 4 && meshOf id == 0

/-- Size in bytes of a space of a unit (R165); 0 where the kind has none. -/
def spaceSize (id sp : Nat) : Nat :=
  match kindOf id, sp with
  | 1, 0 => 4096 | 1, 1 => 16384 | 1, 2 => 256 | 1, 3 => 64
  | 2, 0 => 512 | 2, 1 => 4096 | 2, 2 => 131072
  | 3, 0 => 65536 | 3, 1 => 6000000000
  | 4, 0 => 8192 | 4, 1 => 1024 | 4, 2 => if mesh0 id then 2048 else 0
  | 5, 0 => 393216 | 5, 1 => 2048
  | 6, 0 => 1024 | 6, 1 => 65536
  | 7, 0 => 256 | 7, 1 => 256
  | _, _ => 0

/-- Reset value of CRN_VIEW_STAT: the spaces a kind has (R176). -/
def viewStatReset (id : Nat) : Nat :=
  match kindOf id with
  | 1 => 0x000F0000 | 2 => 0x00070000 | 4 => if mesh0 id then 0x00070000 else 0x00030000 | _ => 0x00030000

/-- RESULT codes (R169). -/
def vwOk : Nat := 0
def vwNotFrozen : Nat := 1
def vwNoSpace : Nat := 2
def vwRange : Nat := 3
def vwReadOnly : Nat := 4
def vwRedacted : Nat := 5
def vwUncaptured : Nat := 6
def vwMidOp : Nat := 7
def vwMemUc : Nat := 8

/-- May a deposit reach byte `a` of a space, by the last column of R165? -/
def State.writable (s : State) (id sp a : Nat) : Bool :=
  match kindOf id, sp with
  | 1, _ => true
  | 2, 1 => decide (0x100 ≤ a)
  | 2, _ => true
  | 3, 1 => !s.ccLocal a
  | 3, _ => true
  | 4, _ => true
  | 5, 0 => true
  | _, _ => false

/-- Does a unit's content stand under a secure context (R170)? `sp` 16 is the summary. -/
def State.secView (s : State) (id sp a : Nat) : Bool :=
  let c := s.cairn id
  c.f CF.U_OWNER_SEC == 1 || (kindOf id == 5 && sp == 0 && bit (c.sumWord (C.S_SEC (a / 4096 / 32))) (a / 4096 % 32))

/-- Byte `a` of a space of a unit: stack memory for a BMU's STACK (R165; 08 R514). -/
def State.viewByte (s : State) (id sp a : Nat) : Byte :=
  if kindOf id = 3 ∧ sp = 1 then smGet 0 s.mem (s.deviceOf (id - 0x520) a) else (s.cairn id).unitByte (viewKey sp a)

/-- A byte of a space replaced. -/
def State.setViewByte (s : State) (id sp a : Nat) (b : Byte) : State :=
  if kindOf id = 3 ∧ sp = 1 then { s with mem := smSet 0 s.mem (s.deviceOf (id - 0x520) a) b }
  else s.modC id fun c => c.putBytes (viewKey sp a) [b]

/-- A 32-bit word of a space. -/
def State.viewWord (s : State) (id sp a : Nat) : Nat := ofLe ((List.range 4).map fun i => s.viewByte id sp (a + i))

/-- A 32-bit word of a space written. -/
def State.setViewWord (s : State) (id sp a v : Nat) : State :=
  (List.range 4).foldl (fun s i => s.setViewByte id sp (a + i) (BitVec.ofNat 8 (v / 2 ^ (8 * i)))) s

/-- The LATENT source of a space's memory (11 R354, R355); none where the space carries no check code. -/
def latentBit (kind sp : Nat) : Option Nat :=
  match kind, sp with
  | 1, 0 => some 12 | 1, 1 => some 13
  | 2, 2 => some 10 | 2, _ => some 12
  | 3, 0 => some 12 | 3, 1 => some 10
  | 4, 1 => some 12 | 4, _ => some 11
  | 5, 0 => some 10 | 5, 1 => some 12
  | 6, 1 => some 11
  | _, _ => none

/-- The source that counts a corrected word of the memory whose LATENT source is `b` (11 R354); none where it has no such source. -/
def ceBit (kind b : Nat) : Option Nat :=
  match kind, b with
  | 1, 12 => some 8 | 2, 10 => some 8 | 3, 10 => some 8 | 4, 11 => some 8 | 5, 10 => some 8
  | _, _ => none

/-- Does the word at byte `a` of a space hold an uncorrectable word (R173)? -/
def State.isUc (s : State) (id sp a : Nat) : Bool :=
  (latentBit (kindOf id) sp).isSome && (s.cairn id).ucWords.contains (viewKey sp (a / 4 * 4))

/-- The page of the divert set that byte `a` of a space lies in, if the space has such pages. -/
def State.viewPage (s : State) (id sp a : Nat) : Option PageId :=
  if kindOf id = 5 ∧ sp = 0 then some ⟨id, a / 4096⟩
  else if kindOf id = 3 ∧ sp = 1 then
    let dev := s.deviceOf (id - 0x520) a / 4096
    some ⟨0x520 + s.chanOf (dev * 4096), dev⟩
  else none

/-- LIVE: the unit's Cairn cut state is neither FROZEN nor CAPTURED-and-held (R167). -/
def Cairn.live (c : Cairn) : Bool :=
  !(c.f CF.CUT_STAT_STATE == 2 || (c.f CF.CUT_STAT_STATE == 3 && c.f CF.SHADOW_HELD == 1))

/-- A read of word `a` of a space (R167 to R173): RESULT and the data, of a unit that runs as some edge of it left the word; `sec` says whether the reader holds DUMP_SECURE. -/
def State.spaceRead (s : State) (id sp a : Nat) (sec : Bool) : State × Nat × Nat :=
  if spaceSize id sp = 0 then (s, vwNoSpace, 0)
  else if spaceSize id sp ≤ a then (s, vwRange, 0)
  else if s.secView id sp a ∧ !sec then (s, vwRedacted, 0)
  else if s.isUc id sp a then
    match latentBit (kindOf id) sp with
    | some b => (s.latentFault id b a, vwMemUc, 0)
    | none => (s, vwMemUc, 0)
  else if (s.cairn id).live ∧ !(kindOf id == 3 && sp == 1) then
    let x := s.takeFree
    (x.2, vwOk, x.1 % 2 ^ 32)
  else (s, vwOk, s.viewWord id sp a)

/-- How many unit activities a kind's CRN_U_STATE names (R166). -/
def actKinds (kind : Nat) : Nat := if kind = 1 ∨ kind = 2 ∨ kind = 7 then 3 else 2

/-- Unit activity. -/
def State.activity (s : State) (id : Nat) : Nat := (s.cairn id).sumWord C.U_STATE % 16 % actKinds (kindOf id)

/-- The first applied deposit since the Cairn's last cut edge raises DEPOSIT and sets DEPOSITED (R171). -/
def State.deposited (s : State) (id who sp a leaf : Nat) : State :=
  if (s.cairn id).f CF.STEP_STAT_DEPOSITED = 1 then s
  else (s.modC id fun c => c.setF CF.STEP_STAT_DEPOSITED 1).raiseC id .deposit leaf [.w who, .w sp, .d a]

/-- A deposit of a 32-bit word (R168 to R172) by `who`, stamped with leaf value `leaf`: RESULT. DESIGN CHOICE: a deposit onto a word with an
uncorrectable error is OK like any other and leaves the word uncorrectable; R173 speaks of reads only (log entry 60). -/
def State.spaceWrite (s : State) (id sp a v who leaf : Nat) (sec : Bool) : State × Nat :=
  let c := s.cairn id
  let unc := match s.viewPage id sp a with | some pg => s.cut.pages.contains pg | none => false
  if spaceSize id sp = 0 then (s, vwNoSpace)
  else if spaceSize id sp ≤ a then (s, vwRange)
  else if !s.writable id sp a then (s, vwReadOnly)
  else if s.secView id sp a ∧ !sec then (s, vwRedacted)
  else if !c.frozen then (s, vwNotFrozen)
  else if kindOf id = 1 ∧ s.activity id = 1 then (s, vwMidOp)
  else if unc then
    match s.viewPage id sp a with | some pg => (s.queuePut pg, vwUncaptured) | none => (s, vwUncaptured)
  else ((s.setViewWord id sp a v).deposited id who sp a leaf, vwOk)

/-- The bits of a summary register that a unit's own execution moves, by kind and offset (R166); 0 for one that it does not. -/
def movingBits (kind o : Nat) : Nat :=
  if o = C.U_STATE then 16
  else match kind with
  | 1 => if o = C.A_OPCNT then 2 ^ 32 else 0
  | 2 => if o = C.G_CAUSE then 256 else if C.G_PC_LO ≤ o ∧ o ≤ C.G_RETIRED then 2 ^ 32 else 0
  | 4 => if o = C.R_OCC then 2 ^ 16 else if o = C.R_GRANTS then 2 ^ 32 else 0
  | 5 => if C.S_SEC 0 ≤ o ∧ o ≤ C.S_SEC 2 then 2 ^ 32 else 0
  | _ => 0

/-- A moving summary register from a word of the unit's state. -/
def movingVal (kind o w : Nat) : Nat :=
  let v := w % movingBits kind o
  if o = C.U_STATE then v % actKinds kind else v

/-- A summary register by offset, as a read returns it (R166; 08 R239). -/
def State.summary (s : State) (id o : Nat) : Nat :=
  let c := s.cairn id
  let k := kindOf id
  if movingBits k o ≠ 0 then movingVal k o (c.sumWord o)
  else if k = 3 ∧ o = C.B_CHAN then (id - 0x520) / 32 + 8 * ((id - 0x520) % 32) + 256 * s.gran
  else if k = 3 ∧ o = C.B_CC_BASE then s.f F.COU_CC_BASE_BASE
  else if k = 3 ∧ o = C.B_CC_LEN then 64 + s.ccData / 256
  else if k = 4 ∧ o = C.R_SITE then
    let n := id - 0x620
    n / 160 + 2 ^ 8 * (n % 160 / 16) + 2 ^ 16 * (n % 16)
  else if k = 6 ∧ o = C.I_LINK then b2n (Config.servesLink id) + 2 * b2n (Config.servesLink id && bit (c.sumWord o) 0)
  else c.rd o

/-- A read of a summary register: RESULT and the data; of a unit that runs, a moving one is as some edge of the unit left it (R167). -/
def State.summaryRead (s : State) (id o : Nat) (sec : Bool) : State × Nat × Nat :=
  if o ≠ C.U_STATE ∧ o ≠ C.U_OWNER ∧ o ≠ C.U_CTX ∧ s.secView id 16 0 ∧ !sec then (s, vwRedacted, 0)
  else if (s.cairn id).live ∧ movingBits (kindOf id) o ≠ 0 then
    let x := s.takeFree
    (x.2, vwOk, movingVal (kindOf id) o x.1)
  else (s, vwOk, s.summary id o)

/-- A deposit to a summary register (R166, R171). -/
def State.summaryWrite (s : State) (id o v who leaf : Nat) (sec : Bool) : State × Nat :=
  if !(kindOf id == 2 && (o == C.G_PC_LO || o == C.G_PC_HI)) then (s, vwReadOnly)
  else if s.secView id 16 0 ∧ !sec then (s, vwRedacted)
  else if !(s.cairn id).frozen then (s, vwNotFrozen)
  else ((s.modC id fun c => c.putBytes (viewKey 15 o) (le 4 v)).deposited id who 0xF o leaf, vwOk)

/-- CRN_VIEW_STAT of a master records an access (R167, R169). -/
def State.viewStat (s : State) (m : Master) (id res : Nat) (live : Bool) : State :=
  s.modC id fun c => (c.setF (bkF m CF.VIEW_STAT_RESULT) res).setF (bkF m CF.VIEW_STAT_LIVE) (b2n live)

/-- Byte address that aperture offset `o` (0x200 to 0x3FF) reaches in the selected space (R164). -/
def Cairn.viewAddr (c : Cairn) (m : Master) (o : Nat) : Nat :=
  (c.rd (bk m C.VIEW_ADDR_LO) + 2 ^ 32 * c.rd (bk m C.VIEW_ADDR_HI)) / 512 * 512 + (o - 0x200)

/-- A master's read of the state view at page offset `o` (0x140 to 0x3FF). -/
def State.viewRead (s : State) (m : Master) (id o : Nat) : State × Nat :=
  let c := s.cairn id
  let sec := s.has m rtDumpSecure
  if o < 0x200 then
    let r := s.summaryRead id o sec
    (r.1.viewStat m id r.2.1 c.live, r.2.2)
  else
    let r := s.spaceRead id (c.f (bkF m CF.VIEW_SEL_SPACE)) (c.viewAddr m o) sec
    (r.1.viewStat m id r.2.1 c.live, r.2.2)

/-- A master's write to the state view at page offset `o`: a deposit. DESIGN CHOICE: a deposit records LIVE 0, whatever became of it; R167 sets
LIVE at reads and says nothing of deposits (log entry 60). -/
def State.viewWrite (s : State) (m : Master) (id o v : Nat) : State :=
  let c := s.cairn id
  let sec := s.has m rtDumpSecure
  let r := if o < 0x200 then s.summaryWrite id o v (mNum m) (s.leafVal id) sec
    else s.spaceWrite id (c.f (bkF m CF.VIEW_SEL_SPACE)) (c.viewAddr m o) v (mNum m) (s.leafVal id) sec
  r.1.viewStat m id r.2 false

end Sys2Proof.Machine
end

