-- ==== Sys2Proof/Machine/Spares.lean ====
section
/-! DEFINITION. Machine/Spares.lean: which array serves a position, free spares and fenced units as Summit counts them (09 R308;
11 R515; 12 R388, R391), and the program memory as the dispatcher reads and writes it (07 R207 to R210). -/

namespace Sys2Proof.Machine

/-! ### The map -/

/-- Key of a position of a core in the map and in the lag tables. -/
def posKey (core pos : Nat) : Nat := 128 * core + pos

/-- The array that serves a position now (12 R388). -/
def State.serving (s : State) (core pos : Nat) : Nat := (smGet none s.wch.map (posKey core pos)).getD (arrayId core pos)

/-- The position an array serves, if any. -/
def State.posOf (s : State) (id : Nat) : Option Nat :=
  if kindOf id = 1 then (List.range 128).find? fun p => s.serving (coreOf id) p == id else none

/-- Fenced in Summit's records (11 R515). -/
def State.fenced (s : State) (id : Nat) : Bool := (smGet FenceRec.none s.flt.fences id).fenced

/-- A fence of the unit is decided, whether or not its FENCE event is numbered yet. -/
def State.fenceDecided (s : State) (id : Nat) : Bool :=
  let r := smGet FenceRec.none s.flt.fences id
  r.fenced || r.pending

/-- Is an array kept for a pending remap, or a departing spare whose gate is closed (12 R389, R392)? -/
def State.reserved (s : State) (id : Nat) : Bool := s.wch.pend.any fun r => if r.cause = 3 then r.from_ == id else r.to_ == id

/-- Does an array serve no position, unretired, unreserved and unfenced (11 R377, SPARES_OUT)? -/
def State.spareThere (s : State) (id : Nat) : Bool :=
  kindOf id == 1 && decide (128 ≤ id % 132) && (s.posOf id).isNone && !s.wch.retired.contains id && !s.reserved id
  && !s.fenceDecided id

/-- A free spare (09 R308). -/
def State.freeSpare (s : State) (id : Nat) : Bool := s.spareThere id && !s.dormant id && !(s.cairn id).echoBusy

/-- The four spares of a core. -/
def sparesOf (core : Nat) : List Nat := [arrayId core 128, arrayId core 129, arrayId core 130, arrayId core 131]

/-- The lowest-numbered free spare of a core other than `but`. -/
def State.firstFree (s : State) (core but : Nat) : Option Nat := (sparesOf core).find? fun i => i != but && s.freeSpare i

/-- CRN_A_POS as an array's Cairn shows it (05 R166; 12 R391). -/
def State.posShow (s : State) (id : Nat) : State :=
  if s.dormant id then s
  else
    let v := match s.posOf id with
      | some p => p
      | none => 127 + 128
    s.modC id fun c => c.wr C.A_POS (v + 256 * b2n (s.wch.retired.contains id))

/-! ### Program memory -/

/-- A word of program memory; an uncorrectable one reads 0. -/
def State.pmWord (s : State) (a : Nat) : Nat := if s.prb.pmUc.contains a then 0 else (smGet 0 s.prb.pm a).toNat

/-- A word of program memory written: its check bits are valid again. -/
def State.setPm (s : State) (a v : Nat) : State :=
  { s with prb := { s.prb with pm := smSet 0 s.prb.pm a (BitVec.ofNat 32 v), pmUc := s.prb.pmUc.filter (· ≠ a) } }

/-- Bytes written from a word address on, low byte first (07 R207; R6). -/
def State.putPm (s : State) (a : Nat) (bs : List Byte) : State :=
  (List.range (bs.length / 4)).foldl (fun s i => s.setPm (a + i) (ofLe ((bs.drop (4 * i)).take 4))) s

/-- State of an engine: 0 IDLE, 1 RUNNING, 2 WAITING (07 R204). -/
def State.engState (s : State) (e : Nat) : Nat := s.f (F.PRB_STAT_STATE e)

/-- Does a word address fall in the code window of an engine that is not IDLE (07 R208)? -/
def State.inCode (s : State) (a : Nat) : Bool :=
  (List.range 4).any fun e =>
    s.engState e != 0 && decide (s.f (F.PRB_CODE_WIN_BASE e) ≤ a) && decide (a ≤ s.f (F.PRB_CODE_WIN_LIM e))

end Sys2Proof.Machine
end

