-- ==== Sys2Proof/Machine/Census.lean ====
section
/-! DEFINITION. Machine/Census.lean: the dispatcher, Census jobs and Echo jobs (09 R297 to R320). -/

namespace Sys2Proof.Machine

/-! ### Descriptors and refusals (R297, R299, R307, R308) -/

/-- Refusal codes of R299 and R308. -/
def cenBadDesc : Nat := 1
def cenBadRegion : Nat := 2
def cenNoSlot : Nat := 3
def cenDisabled : Nat := 4
def cenBadTarget : Nat := 5
def cenNoSpare : Nat := 6
def cenCoreBusy : Nat := 7
def cenLifecycle : Nat := 8

/-- Words of a descriptor: 8 for Echo; 4 + 8 · NREG for Census, by its word 0. -/
def descLen (echo : Bool) (w0 : Nat) : Nat := if echo then 8 else 4 + 8 * bits w0 8 5

/-- Words of the result area a descriptor names (R298, R307). -/
def resultLen (echo : Bool) (w0 : Nat) : Nat :=
  if echo then (if bits w0 0 2 = 2 then 128 else 64)
  else if bits w0 0 2 = 2 then 8 + 32 else 8 + 80 * bits w0 8 5

/-- The descriptor at a word address. -/
def State.descAt (s : State) (echo : Bool) (a : Nat) : List Nat :=
  (List.range (descLen echo (s.pmWord a))).map fun i => s.pmWord (a + i)

/-- Word `i` of a descriptor. -/
def dw (d : List Nat) (i : Nat) : Nat := d.getD i 0

/-- Fields of region `r` of a Census descriptor. -/
def regAddr (d : List Nat) (r : Nat) : Nat := dw d (4 + 8 * r) + 2 ^ 32 * dw d (5 + 8 * r)
def regLen (d : List Nat) (r : Nat) : Nat := dw d (6 + 8 * r)
def regFmt (d : List Nat) (r : Nat) : Nat := bits (dw d (7 + 8 * r)) 0 8
def regScale (d : List Nat) (r : Nat) : Nat := dw d (8 + 8 * r) + 2 ^ 32 * dw d (9 + 8 * r)

/-- HBASE of region `r` as applied (R292). -/
def regHbase (d : List Nat) (r : Nat) (f : Fmt) : Int :=
  let h := bits (dw d (7 + 8 * r)) 8 16
  if h = 0x8000 then f.hbase else if h < 0x8000 then h else (h : Int) - 65536

/-- Does the result area end in program memory, and outside every code window of an engine that is not IDLE (R299)? -/
def State.resultOk (s : State) (a n : Nat) : Bool :=
  decide (a + n ≤ 65536) && a % 2 == 0 && !(List.range n).any fun i => s.inCode (a + i)

/-- Is region `r` one whose fields R297 allows? -/
def regionDesc (d : List Nat) (r : Nat) : Bool :=
  decide (1 ≤ regLen d r) && decide (regLen d r ≤ 2 ^ 31) && (fmtOf (regFmt d r)).isSome && regFmt d r != 0x0B
  && bits (dw d (7 + 8 * r)) 24 8 == 0 && dw d (10 + 8 * r) == 0 && dw d (11 + 8 * r) == 0

/-- Are the fields of a Census descriptor ones that R297 allows? -/
def State.censusDesc (s : State) (a : Nat) (d : List Nat) : Bool :=
  let w0 := dw d 0
  let op := bits w0 0 2
  let n := bits w0 8 5
  decide (a + d.length ≤ 65536) && bits w0 2 6 == 0 && bits w0 13 19 == 0 && dw d 1 / 65536 == 0 && dw d 3 == 0
  && ((op == 1 && decide (1 ≤ n) && decide (n ≤ 16)) ||
      (op == 2 && n == 2 && regFmt d 0 == regFmt d 1 && regLen d 0 == regLen d 1))
  && ((List.range n).all fun r => regionDesc d r)
  && s.resultOk (dw d 1) (resultLen false w0)

/-- Does a byte range of the device lie in stack memory and outside the crash cache? -/
def State.rangeOk (s : State) (a n : Nat) : Bool :=
  decide (a + n ≤ memTop) &&
  !(s.ccOn && (List.range (n / 2 ^ s.gran + 2)).any fun i =>
      let b := max a ((a / 2 ^ s.gran + i) * 2 ^ s.gran)
      decide (b < a + n) && s.inCc b)

/-- Bytes of a region's elements. -/
def regBytes (f : Fmt) (len : Nat) : Nat := ceilDiv (len * f.bits) 8

/-- May Census read region `r` (R299, BAD_REGION)? -/
def State.regionOk (s : State) (d : List Nat) (r : Nat) : Bool :=
  match fmtOf (regFmt d r) with
  | none => false
  | some f =>
    regAddr d r % 64 == 0 && s.rangeOk (regAddr d r) (regBytes f (regLen d r))
    && (!f.mx || (regLen d r % 32 == 0 && s.rangeOk (regScale d r) (regLen d r / 32)))

/-- Are the fields of an Echo descriptor ones that R307 allows? -/
def State.echoDesc (s : State) (a : Nat) (d : List Nat) : Bool :=
  let w0 := dw d 0
  decide (a + 8 ≤ 65536) && w0 / 8 == 0 && (bits w0 0 2 == 1 || bits w0 0 2 == 2) && dw d 1 / 65536 == 0
  && bits (dw d 3) 12 4 == 0 && bits (dw d 3) 28 4 == 0 && bits (dw d 4) 12 4 == 0 && bits (dw d 5) 24 8 == 0
  && dw d 6 == 0 && dw d 7 == 0 && s.resultOk (dw d 1) (resultLen true w0)

/-- TARGET, SPARE_A and SPARE_B of an Echo descriptor. -/
def echoTarget (d : List Nat) : Nat := bits (dw d 3) 0 12
def echoVote (d : List Nat) : Bool := bits (dw d 0) 0 2 == 2

/-- May an array be an Echo target (R308)? -/
def State.targetOk (s : State) (id : Nat) : Bool :=
  (s.posOf id).isSome && !s.fenceDecided id && !s.dormant id && s.lcs != 6 && s.lcs != 7

/-- A spare field of an Echo request: the free spare it chooses on the target's core, other than `but`. -/
def State.pickSpare (s : State) (core field but : Nat) : Option Nat :=
  if field = 0xFFF then s.firstFree core but
  else if kindOf field = 1 ∧ coreOf field = core ∧ field ≠ but ∧ s.freeSpare field then some field else none

/-- The spares of an Echo request: A, and B for VOTE. -/
def State.pickSpares (s : State) (d : List Nat) : Option (Nat × Nat) :=
  let core := coreOf (echoTarget d)
  match s.pickSpare core (bits (dw d 3) 16 12) 0xFFFF with
  | none => none
  | some a =>
    if echoVote d then (s.pickSpare core (bits (dw d 4) 0 12) a).map fun b => (a, b) else some (a, 0xFFFF)

/-- The unfinished Echo job of a core, if any. -/
def State.echoOf (s : State) (core : Nat) : Option Job :=
  s.cen.jobs.find? fun j => j.echo.isSome && !j.done && coreOf (echoTarget j.desc) == core

/-- Is a source number a master's? -/
def isMaster (src : Nat) : Bool := src == 0x1010 || src == 0x1011

/-- Unfinished jobs of the master slots. -/
def State.masterJobs (s : State) : Nat := (s.cen.jobs.filter fun j => isMaster j.src && !j.done).length

/-- The first refusal that applies to a request, in the order of the codes (R299, R308); 0 where none does. -/
def State.jobCode (s : State) (echo : Bool) (src a : Nat) (d : List Nat) : Nat :=
  let n := bits (dw d 0) 8 5
  if !(if echo then s.echoDesc a d else s.censusDesc a d) then cenBadDesc
  else if !echo ∧ !(List.range n).all (s.regionOk d) then cenBadRegion
  else if isMaster src ∧ 8 ≤ s.masterJobs then cenNoSlot
  else if echo ∧ s.f F.ECH_CTRL_EN = 0 then cenDisabled
  else if echo ∧ !s.targetOk (echoTarget d) then cenBadTarget
  else if echo ∧ (s.pickSpares d).isNone then cenNoSpare
  else if echo ∧ (s.echoOf (coreOf (echoTarget d))).isSome then cenCoreBusy
  else if s.f F.LCY_STAT_IN_TRANSITION = 1 then cenLifecycle
  else 0

/-! ### The table (R300, R319) -/

/-- CEN_STAT, ECH_CORE_BUSY and each engine's OUT_JOB show the table. -/
def State.cenShow (s : State) : State :=
  let live := s.cen.jobs.filter fun j => !j.done
  let s := s.setF F.CEN_STAT_CENSUS (live.filter fun j => j.echo.isNone).length
  let s := s.setF F.CEN_STAT_ECHO (live.filter fun j => j.echo.isSome).length
  let s := s.setF F.CEN_STAT_SLOTS (live.filter fun j => isMaster j.src).length
  let s := s.setF F.ECH_CORE_BUSY_BUSY ((List.range 8).foldl (fun n c => if (s.echoOf c).isSome then setBit n c else n) 0)
  (List.range 4).foldl (fun s e => s.setF (F.PRB_STAT_OUT_JOB e) (live.filter fun j => j.src == 0x1002 + e).length) s

/-- The table with the dispatcher's registers showing it. -/
def State.setJobs (s : State) (l : List Job) : State := ({ s with cen := { s.cen with jobs := l } }).cenShow

/-- A job by ID. -/
def State.job (s : State) (id : Nat) : Option Job := s.cen.jobs.find? fun j => j.id == id

/-- A job changed. -/
def State.modJobs (s : State) (id : Nat) (g : Job → Job) : State :=
  s.setJobs (s.cen.jobs.map fun j => if j.id = id then g j else j)

/-- The slots a launcher shares: an engine's own, or the masters' (07 R227; R319). -/
def sameSlots (a b : Nat) : Bool := if isMaster a then isMaster b else a == b

/-- A full set of slots gives up its oldest finished job. -/
def State.makeRoom (s : State) (src : Nat) : State :=
  let n := if isMaster src then 8 else 4
  if (s.cen.jobs.filter fun j => sameSlots src j.src).length < n then s
  else
    match s.cen.jobs.find? fun j => sameSlots src j.src && j.done with
    | some old => s.setJobs (s.cen.jobs.filter fun j => j.id != old.id)
    | none => s

/-- The completion word of a job (07 R223). -/
def Job.word (j : Job) : Nat :=
  j.status + 16 * b2n j.echo.isSome + 256 * j.id + (if j.status = 0 then 2 ^ 32 * j.summary else 0)

/-- The completion word of a job ID that a set of slots may hold; UNKNOWN where none does. -/
def State.jobWord (s : State) (id src : Nat) : Nat :=
  match s.cen.jobs.find? fun j => j.id == id && sameSlots src j.src with
  | some j => if j.done then j.word else { j with status := 1 }.word
  | none => 2 + 256 * id

/-- The job header (R305). -/
def jobHeader (j : Job) (status reason tEnd summary count : Nat) : List Byte :=
  le 2 j.id ++ le 1 (b2n j.echo.isSome) ++ le 1 status ++ le 1 reason ++ le 3 0 ++ le 8 j.t0 ++ le 8 tEnd ++ le 4 summary
  ++ le 4 count

/-- Where a job's results go. -/
def Job.result (j : Job) : Nat := dw j.desc 1 % 65536

/-- The Cairn that raises a job's events (R301, R313). -/
def State.jobCairn (s : State) (j : Job) : Nat :=
  if j.echo.isSome then echoTarget j.desc else 0x520 + s.chanOf (regAddr j.desc 0)

/-- An event of a job from its Cairn, or from the Spur for a dormant one. -/
def State.raiseJob (s : State) (id : Nat) (n : EvName) (data : List EvVal) : State :=
  if s.dormant id then s.raiseSpur id n data else s.raiseC id n (s.leafVal id) data

/-- A job ends: its header is written, its slot keeps the completion word, and its event is raised, or kept until the units are back
from a warm reset (R301, R313, R318). -/
def State.jobEnd (s : State) (j : Job) (status reason summary count : Nat) (keep : Bool) (verdict : Nat) : State :=
  let s := s.putPm j.result (jobHeader j status reason s.now summary count)
  let s := s.modJobs j.id fun j => { j with done := true, status := status, summary := if status = 0 then summary else 0 }
  let who := s.jobCairn j
  let ev : EvName × List EvVal := match j.echo with
    | none => (.cenDone, [.w j.id, .w (bits (dw j.desc 0) 0 2), .w status, .w reason, .w summary])
    | some e => (.echoDone, [.w j.id, .w status, .w reason, .w verdict, .w (e.spareA + 65536 * e.spareB), .w summary])
  let s := if j.echo.isSome then
      (((s.bump R.ECH_RUNS).setF F.ECH_LAST_TARGET (echoTarget j.desc)).setF F.ECH_LAST_VERDICT verdict).setF F.ECH_LAST_JOB_ID j.id
    else s.bump R.CEN_DONE_CNT
  if keep then { s with cen := { s.cen with defer := s.cen.defer ++ [(who, ev.1, ev.2)] } } else s.raiseJob who ev.1 ev.2

/-! ### Launch (R299, R300) -/

/-- A spare begins or ends to run Echo. -/
def State.setBusy (s : State) (id : Nat) (b : Bool) : State :=
  if kindOf id = 1 then s.modC id fun c => if c.powered then { c with echoBusy := b } else c else s

/-- Deadline of an Echo job from its acceptance (R307, R322). -/
def State.echoLimit (s : State) (d : List Nat) : Nat :=
  let t := bits (dw d 5) 0 24
  256 * (if t = 0 then max (s.f F.ECH_TMO_TMO) 1 else t)

/-- What an Echo job holds at acceptance. -/
def State.echoNew (s : State) (d : List Nat) : EchoSt :=
  let sp := (s.pickSpares d).getD (0xFFFF, 0xFFFF)
  ⟨sp.1, sp.2, s.clk + s.echoLimit d, bits (dw d 4) 16 16, .armed, 0, 0, [], false, false, false, [], [], none, none⟩

/-- The next job ID after one (R300). -/
def nextJobId (n : Nat) : Nat := if n = 0xFFFF then 1 else n + 1

/-- A job request (R299, R300): the job ID, 0 if refused, and the refusal code. -/
def State.jobReq (s : State) (echo : Bool) (src rights a : Nat) : State × Nat × Nat :=
  let d := s.descAt echo a
  let code := s.jobCode echo src a d
  if code ≠ 0 then (s, 0, code)
  else
    let s := s.makeRoom src
    let id := s.cen.nextId
    let e := if echo then some (s.echoNew d) else none
    let j : Job := ⟨id, src, rights, s.now, d, false, 1, 0, e⟩
    let s := { s with cen := { s.cen with nextId := nextJobId id } }
    let s := (s.setJobs (s.cen.jobs ++ [j])).putPm j.result (jobHeader j 1 0 0 0 0)
    let s := match e with
      | some x => (s.setBusy x.spareA true).setBusy x.spareB true
      | none => s
    (s, id, 0)

/-! ### Census (R291 to R303) -/

/-- Does the 64-byte word that holds a device byte hold an uncorrectable word? -/
def State.stackUc (s : State) (a : Nat) : Bool :=
  (s.cairn (0x520 + s.chanOf a)).ucWords.contains (viewKey 1 (s.localOf a / 4 * 4))

/-- Why element `i` of region `r` is left out (R303): 1 uncorrectable word, 2 secure page. -/
def State.leftOut (s : State) (a : Nat) (f : Fmt) (sec : List Nat) (dumpSec : Bool) (i : Nat) : Nat :=
  let b0 := a + i * f.bits / 8
  let b1 := a + (i * f.bits + f.bits - 1) / 8
  if s.stackUc b0 || s.stackUc b1 then 1
  else if !dumpSec && (sec.contains (b0 / 4096) || sec.contains (b1 / 4096)) then 2 else 0

/-- Region `r` of a job as Census reads it; `sec` lists the device pages whose ownership tag marks them secure. -/
def State.regionOf (s : State) (j : Job) (sec : List Nat) (r : Nat) (f : Fmt) : Region :=
  let a := regAddr j.desc r
  let sc := regScale j.desc r
  ⟨f, fun i => smGet 0 s.mem (a + i), fun k => (smGet 0 s.mem (sc + k)).toNat, s.leftOut a f sec (bit j.rights rtDumpSecure)⟩

/-- The 64-byte words with an uncorrectable error in `n` bytes from `a`. -/
def State.ucWordsIn (s : State) (a n : Nat) : List Nat :=
  ((List.range (ceilDiv n 64 + 1)).map fun i => (a / 64 + i) * 64).filter fun w => decide (w < a + n) && s.stackUc w

/-- Census meets them: each raises MEM_LATENT at its BMU (11 R355). -/
def State.latent (s : State) (a n : Nat) : State :=
  (s.ucWordsIn a n).foldl (fun s w => s.latentFault (0x520 + s.chanOf w) 10 (s.localOf w)) s

/-- CEN_BYTES grows. -/
def State.addBytes (s : State) (n : Nat) : State := s.wr64 R.CEN_BYTES_LO ((s.rd64 R.CEN_BYTES_LO + n) % 2 ^ 64)

/-- Bytes that Census reads for region `r`. -/
def State.readRegion (s : State) (d : List Nat) (r : Nat) : State :=
  match fmtOf (regFmt d r) with
  | none => s
  | some f =>
    let n := regBytes f (regLen d r)
    (s.latent (regAddr d r) n).addBytes (n + if f.mx then regLen d r / 32 else 0)

/-- The records of a job and its SUMMARY (R301). -/
def State.censusResult (s : State) (j : Job) (sec : List Nat) : List Byte × Nat :=
  let d := j.desc
  let n := bits (dw d 0) 8 5
  if bits (dw d 0) 0 2 = 1 then
    (List.range n).foldl (fun acc r =>
      match fmtOf (regFmt d r) with
      | none => acc
      | some f =>
        let t := (s.regionOf j sec r f).count (regHbase d r f) (regLen d r)
        (acc.1 ++ t.record (regFmt d r) (regHbase d r f) false, min (acc.2 + t.nan) (2 ^ 32 - 1))) ([], 0)
  else
    match fmtOf (regFmt d 0) with
    | none => ([], 0)
    | some f =>
      let t := driftOf (s.regionOf j sec 0 f) (s.regionOf j sec 1 f) (dw d 2) (regLen d 0)
      (t.record (regFmt d 0) (dw d 2) 0 false, min t.beyond (2 ^ 32 - 1))

/-- The Census job that the dispatcher runs now: they run in acceptance order (R300). -/
def State.censusTurn (s : State) : Option Nat := (s.cen.jobs.find? fun j => !j.done && j.echo.isNone).map (·.id)

/-- Every block of a Census job has been counted (R301). -/
def State.censusDone (s : State) (id : Nat) (sec : List Nat) : State :=
  match s.job id with
  | none => s
  | some j =>
    if j.done ∨ j.echo.isSome ∨ s.censusTurn ≠ some id then s
    else
      let r := s.censusResult j sec
      let n := bits (dw j.desc 0) 8 5
      let s := (List.range n).foldl (fun s k => s.readRegion j.desc k) s
      (s.putPm (j.result + 8) r.1).jobEnd j 0 0 r.2 (if bits (dw j.desc 0) 0 2 = 1 then n else 1) false 0

/-! ### Echo (R309 to R317) -/

/-- REASON codes of R320. -/
def reasonMaster : Nat := 1
def reasonWarm : Nat := 2
def reasonTimeout : Nat := 3
def reasonPreempted : Nat := 4
def reasonTooLong : Nat := 5
def reasonTargetLost : Nat := 6
def reasonSpareLost : Nat := 7
def reasonLifecycle : Nat := 8
def reasonStoreUc : Nat := 9
def reasonJobParity : Nat := 10

/-- First 16 bytes of a BLAKE3 digest as a number. -/
def digestOf (bs : List Byte) : Nat := (Config.blake3 bs).toNat

/-- Is an Echo job's result hidden from its rights (R316)? -/
def Job.hidden (j : Job) (e : EchoSt) : Bool := e.sec && !bit j.rights rtDumpSecure

/-- Bytes of the recorded operand stream (R309, R317). -/
def EchoSt.streamLen (e : EchoSt) : Nat := e.stream.foldl (fun n w => n + w.2.length) 0

/-- The Echo body from offset 0x20 to 0x7F (R317). -/
def echoBody (j : Job) (e : EchoSt) (verdict : Nat) : List Byte :=
  let cap := e.phase == .captured
  let dig := fun (o : Option (List Byte)) => match o with | some b => if j.hidden e then 0 else digestOf b | none => 0
  le 2 (echoTarget j.desc) ++ le 2 e.spareA ++ le 2 e.spareB ++ le 1 verdict
  ++ le 1 (b2n e.relaxed + 2 * b2n (j.hidden e) + 4 * b2n cap)
  ++ le 8 e.capT ++ le 4 e.streamLen ++ le 4 e.opcnt ++ le 8 0
  ++ le 16 (dig (if cap then some e.outT else none)) ++ le 16 (dig e.outA) ++ le 16 (dig e.outB) ++ le 16 0

/-- VERDICT NONE. -/
def verdictNone : Nat := 7

/-- A job is aborted (R315, R318, R320). -/
def State.jobAbort (s : State) (j : Job) (reason : Nat) (keep : Bool := false) : State :=
  match j.echo with
  | none => s.jobEnd j 3 reason 0 0 keep 0
  | some e =>
    let s := (s.setBusy e.spareA false).setBusy e.spareB false
    let s := (s.putPm (j.result + 8) (echoBody j e verdictNone)).satAdd F.ECH_ABORTS_CNT 1
    s.jobEnd j 3 reason 0 0 keep verdictNone

/-- Every unfinished job that satisfies `p` is aborted. -/
def State.abortJobs (s : State) (p : Job → Bool) (reason : Nat) (keep : Bool := false) : State :=
  (s.cen.jobs.filter fun j => !j.done && p j).foldl (fun s j => s.jobAbort j reason keep) s

/-- CEN_ABORT or ECH_ABORT of a job ID. -/
def State.masterAbort (s : State) (echo : Bool) (id : Nat) : State :=
  s.abortJobs (fun j => j.id == id && j.echo.isSome == echo) reasonMaster

/-- The target of an Echo job is fenced, dormant or remapped away (R315). -/
def State.echoTargetLost (s : State) (id : Nat) : State :=
  s.abortJobs (fun j => match j.echo with
    | some e => echoTarget j.desc == id && e.phase != .captured
    | none => false) reasonTargetLost

/-- A chosen spare is fenced or dormant (R315). -/
def State.echoSpareLost (s : State) (id : Nat) : State :=
  s.abortJobs (fun j => match j.echo with | some e => e.spareA == id || e.spareB == id | none => false) reasonSpareLost

/-- A remap takes a spare that runs Echo (R315). -/
def State.echoPreempt (s : State) (id : Nat) : State :=
  s.abortJobs (fun j => match j.echo with | some e => e.spareA == id || e.spareB == id | none => false) reasonPreempted

/-- An Echo job changed. -/
def State.modEcho (s : State) (id : Nat) (g : EchoSt → EchoSt) : State :=
  s.modJobs id fun j => { j with echo := j.echo.map g }

/-- Bytes of a space of a unit. -/
def State.spaceBytes (s : State) (id sp n : Nat) : List Byte := (List.range n).map fun a => s.viewByte id sp a

/-- The target's engine issues an operation at leaf value `leaf` while the tap is armed (R309): SKIP of them pass, and of the next CFG, SEED and
ACC are recorded; `relaxed` and `int32` are what that CFG says of accumulation. -/
def State.echoIssue (s : State) (id leaf : Nat) (relaxed int32 : Bool) : State :=
  match s.job id with
  | none => s
  | some j =>
    match j.echo with
    | none => s
    | some e =>
      let t := echoTarget j.desc
      if j.done ∨ e.phase ≠ .armed ∨ (s.cairn t).frozen then s
      else if e.skip ≠ 0 then (s.unitRuns t).modEcho id fun e => { e with skip := e.skip - 1 }
      else
        let s := s.unitRuns t
        let inp := s.spaceBytes t 2 256 ++ s.spaceBytes t 3 64 ++ s.spaceBytes t 0 4096
        s.modEcho id fun e => { e with
          phase := .capturing, capT := leaf, opcnt := (s.cairn t).sumWord C.A_OPCNT, inputs := inp, relaxed := relaxed, int32 := int32,
          sec := (s.cairn t).f CF.U_OWNER_SEC == 1 }

/-- The captured operation completes on the target with output ACC `out` (R309). -/
def State.echoCaptured (s : State) (id leaf : Nat) (out : List Byte) : State :=
  match s.job id with
  | none => s
  | some j =>
    match j.echo with
    | none => s
    | some e =>
      let t := echoTarget j.desc
      if j.done ∨ e.phase ≠ .capturing ∨ (s.cairn t).frozen ∨ out.length ≠ 4096 then s
      else
        let s := s.modC t fun c => c.putBytes (viewKey 0 0) out
        let s := s.modEcho id fun e => { e with phase := .captured, outT := out }
        s.raiseC t .echoCaptured leaf [.w id, .d e.capT, .w e.streamLen]

/-- Bytes that a core's capture store holds of an operand stream (R306). -/
def echoStore : Nat := 2 ^ 20

/-- A write of `bytes` at byte `off` of the target's operand staging in the course of the captured operation (R309): it is done, never delayed
by the tap, and appended to the stream; a stream that would exceed the store aborts the job. DESIGN CHOICE: the store's 1 MiB bounds
the stream by itself, beside the operation's inputs (log entry 60). -/
def State.echoWrite (s : State) (id off : Nat) (bytes : List Byte) : State :=
  match s.job id with
  | none => s
  | some j =>
    match j.echo with
    | none => s
    | some e =>
      let t := echoTarget j.desc
      if j.done ∨ e.phase ≠ .capturing ∨ (s.cairn t).frozen ∨ 16384 < off + bytes.length then s
      else
        let s := s.modC t fun c => c.putBytes (viewKey 1 off) bytes
        if echoStore < e.streamLen + bytes.length then s.jobAbort j reasonTooLong
        else s.modEcho id fun e => { e with stream := e.stream ++ [(off, bytes)] }

/-- A spare takes the capture (R310): CFG, SEED and the input ACC are loaded, then the recorded stream in its order. -/
def Cairn.replayLoad (c : Cairn) (e : EchoSt) : Cairn :=
  let c := (c.putBytes (viewKey 2 0) (e.inputs.take 256)).putBytes (viewKey 3 0) ((e.inputs.drop 256).take 64)
  let c := c.putBytes (viewKey 0 0) (e.inputs.drop 320)
  e.stream.foldl (fun c w => c.putBytes (viewKey 1 w.1) w.2) c

/-- A spare finishes its replay with ACC `out` (R310): it has loaded the capture, and ACC holds what the operation leaves. -/
def State.echoReplayed (s : State) (id spare : Nat) (out : List Byte) : State :=
  match s.job id with
  | none => s
  | some j =>
    match j.echo with
    | none => s
    | some e =>
      let who := if spare = 0 then e.spareA else e.spareB
      if j.done ∨ e.phase ≠ .captured ∨ (s.cairn who).frozen ∨ out.length ≠ 4096 ∨ kindOf who ≠ 1 then s
      else
        let s := (s.unitRuns who).modC who fun c => (c.replayLoad e).putBytes (viewKey 0 0) out
        s.modEcho id fun e => if spare = 0 then { e with outA := some out } else { e with outB := some out }

/-- Accumulators as a region of 1,024 elements (R311). -/
def accRegion (int32 : Bool) (bs : List Byte) : Region :=
  ⟨if int32 then ⟨32, 0, 31, 0, .int, false, 0⟩ else ⟨32, 8, 23, 127, .ieee, false, -40⟩, fun i => bs.getD i 0, fun _ => 127, fun _ => 0⟩

/-- The comparison of a pair (R311). -/
def echoPair (e : EchoSt) (tol : Nat) (a b : List Byte) : Drift :=
  if digestOf a = digestOf b then { Drift.init with n := 1024, hist := [(0, 1024)] }
  else driftOf (accRegion e.int32 a) (accRegion e.int32 b) tol 1024

/-- The verdict of R312. -/
def verdict (vote : Bool) (e : EchoSt) (tol : Nat) (a b : List Byte) : Nat :=
  let dt := digestOf e.outT
  let within := fun (x y : List Byte) => (echoPair e tol x y).beyond == 0
  if !vote then (if dt = digestOf a then 0 else if within e.outT a then 1 else 2)
  else
    let ta := within e.outT a
    let tb := within e.outT b
    let ab := within a b
    if dt = digestOf a ∧ digestOf a = digestOf b then 0
    else if ta ∧ tb ∧ ab then 1
    else if ab ∧ !ta ∧ !tb then 3
    else if ta ∧ !tb ∧ !ab then 5
    else if tb ∧ !ta ∧ !ab then 4
    else 6

/-- The counter of a verdict (R322). -/
def State.countVerdict (s : State) (v : Nat) : State :=
  match v with
  | 0 => s.satAdd F.ECH_VERD0_EQUAL 1
  | 1 => s.satAdd F.ECH_VERD0_WITHIN 1
  | 2 => s.satAdd F.ECH_VERD1_DIVERGED 1
  | 3 => s.satAdd F.ECH_VERD2_TARGET_SUSPECT 1
  | 6 => s.satAdd F.ECH_VERD1_UNRESOLVED 1
  | _ => s.satAdd F.ECH_VERD2_SPARE_SUSPECT 1

/-- A drift record of an Echo pair. -/
def echoRecord (j : Job) (e : EchoSt) (a b : List Byte) : List Byte :=
  (echoPair e (dw j.desc 2) a b).record (if e.int32 then 0x0B else 0x01) (dw j.desc 2)
    (4 * b2n e.relaxed + 16 * b2n (digestOf a == digestOf b)) (j.hidden e)

/-- The comparisons are done and the verdict is written (R311 to R313, R316). -/
def State.echoCompared (s : State) (id : Nat) : State :=
  match s.job id with
  | none => s
  | some j =>
    match j.echo with
    | none => s
    | some e =>
      let vote := echoVote j.desc
      match e.outA with
      | none => s
      | some a =>
        if j.done ∨ (vote ∧ e.outB.isNone) then s
        else
          let b := e.outB.getD []
          let tol := dw j.desc 2
          let v := verdict vote e tol a b
          let recs := if vote then echoRecord j e e.outT a ++ echoRecord j e e.outT b ++ echoRecord j e a b else echoRecord j e e.outT a
          let s := (s.setBusy e.spareA false).setBusy e.spareB false
          let s := (s.putPm (j.result + 8) (echoBody j e v ++ recs)).countVerdict v
          let s := s.jobEnd j 0 0 (min (echoPair e tol e.outT a).beyond (2 ^ 32 - 1)) (if vote then 3 else 1) false v
          if bit (dw j.desc 0) 2 then
            if v = 3 then s.cairnFault (echoTarget j.desc) (fltBit 11)
            else if v = 4 then s.cairnFault e.spareA (fltBit 11)
            else if v = 5 then s.cairnFault e.spareB (fltBit 11)
            else s
          else s

/-- An Echo job reaches its deadline (R315). -/
def State.echoTimeout (s : State) (id : Nat) : State :=
  s.abortJobs (fun j => match j.echo with | some e => j.id == id && decide (e.deadline ≤ s.clk) | none => false) reasonTimeout

/-- While a target's core is frozen an Echo deadline does not advance (R314): `n` ticks of it have passed. -/
def State.echoHold (s : State) (n : Nat) : State :=
  { s with cen := { s.cen with jobs := s.cen.jobs.map fun j =>
      match j.echo with
      | some e => if !j.done && (s.cairn (echoTarget j.desc)).frozen then { j with echo := some { e with deadline := e.deadline + n } } else j
      | none => j } }

/-- Events of job ends kept through a warm reset are raised once their Cairn is back (R318). -/
def State.deferRaise (s : State) : State :=
  let ok := fun (p : Nat × EvName × List EvVal) =>
    ((s.cairn p.1).leafValid || (s.dormant p.1 && !s.rst.warmWait.contains p.1)) && !(kindOf p.1 == 3 && s.rst.bmuWait)
  let go := s.cen.defer.filter ok
  let s := { s with cen := { s.cen with defer := s.cen.defer.filter fun p => !ok p } }
  go.foldl (fun s p => s.raiseJob p.1 p.2.1 p.2.2) s

/-- A hub soft reset drops every job (R318). -/
def State.cenDrop (s : State) : State :=
  let s := s.cen.jobs.foldl (fun s j => match j.echo with
    | some e => (s.setBusy e.spareA false).setBusy e.spareB false
    | none => s) s
  ({ s with cen := CenSt.init }).cenShow

end Sys2Proof.Machine
end

