-- ==== Sys2Proof/Machine/Watch.lean ====
section
/-! DEFINITION. Machine/Watch.lean: lag blocks, remaps and unmaps, droop and voltage or frequency changes, power-model intervals and
expert dispatch (12). -/

namespace Sys2Proof.Machine

/-! ### Lag (R385 to R388) -/

/-- LAG and VALID of a position's entry. -/
def State.lagOf (s : State) (core pos : Nat) : Nat := smGet 0 s.wch.lag (posKey core pos)

/-- WCH_LAGp of a core as it reads: CAIRN always shows the serving array; a fenced engine's entries read 0 (R388). -/
def State.lagWord (s : State) (core pos : Nat) : Nat :=
  if s.flt.engFenced.contains core then 0
  else
    let v := s.lagOf core pos
    v % 65536 + 65536 * s.serving core pos + 2 ^ 31 * (v / 65536)

/-- Is a position beyond threshold (R387)? -/
def State.beyond (s : State) (core pos : Nat) : Bool :=
  let v := s.lagOf core pos
  decide (65536 ≤ v) && decide (smGet 0 s.wch.opTk core * max (s.f F.WCH_LAG_THR_THR) 1 < v % 65536 * 100)

/-- A bit of a one-bit-per-core field. -/
def State.coreBit (s : State) (f : Fld) (core : Nat) (b : Bool) : State :=
  s.setF f (if b then setBit (s.f f) core else clrBit (s.f f) core)

/-- Did more than one array serve a position in the block that is delivered, or has the array that now serves it served no whole
block yet (R386, R388)? -/
def State.lagMixed (s : State) (core : Nat) (mixed : List Nat) (p : Nat) : Bool :=
  mixed.contains p || s.wch.moved.contains (posKey core p)

/-- A number put into its place in an ascending list. -/
def insertUp (n : Nat) : List Nat → List Nat
  | [] => [n]
  | m :: l => if n ≤ m then n :: m :: l else m :: insertUp n l

/-- A list in ascending order. -/
def ascending : List Nat → List Nat
  | [] => []
  | n :: l => insertUp n (ascending l)

/-- The k-th smallest of a list, counted from 1. -/
def kthSmallest (k : Nat) (l : List Nat) : Nat := (ascending l).getD (k - 1) 0

/-- The base of an operation: the 64th smallest of its 128 array times (R385). -/
def opBase (times : List Nat) : Nat := kthSmallest 64 times

/-- A position's lag in an operation: its array time less the base, 0 when that is negative, at most 65,535 tk (R385). -/
def opLag (times : List Nat) (p : Nat) : Nat := min (times.getD p 0 - opBase times) 65535

/-- The array times of a block's operations (R385): the ticks from an operation's issue edge to the edge on which each position's array
writes its last result, both of one leaf. -/
def arrayTimes (issues : List Nat) (writes : List (List Nat)) : List (List Nat) :=
  List.zipWith (fun i w => w.map (· - i)) issues writes

/-- The median base of a block: the 128th smallest of its 256 bases (R386). -/
def blockBase (ops : List (List Nat)) : Nat := kthSmallest 128 (ops.map opBase)

/-- A position's lag in a block: the 254th smallest of its 256 lags (R386). -/
def blockLag (ops : List (List Nat)) (p : Nat) : Nat := kthSmallest 254 (ops.map fun t => opLag t p)

/-- A core's lag block reaches the page (R386 to R388): the 128 lags, the median base and the positions that more than one array
served in the block. -/
def State.lagBlock (s : State) (core opTk : Nat) (lags mixed : List Nat) : State :=
  let lag := (List.range 128).foldl (fun m p =>
    smSet 0 m (posKey core p) (min (lags.getD p 0) 65535 + (if s.lagMixed core mixed p then 0 else 65536))) s.wch.lag
  let s := { s with wch := { s.wch with
    lag := lag, moved := s.wch.moved.filter fun k => k / 128 != core, opTk := smSet 0 s.wch.opTk core (opTk % 2 ^ 24),
    blocks := smSet 0 s.wch.blocks core ((smGet 0 s.wch.blocks core + 1) % 2 ^ 32) } }
  s.coreBit F.WCH_STAT_FLAGGED core ((List.range 128).any (s.beyond core))

/-- A reset leaves every entry VALID 0 and every median base 0 (R405). -/
def State.lagReset (s : State) : State := { s with wch := { s.wch with lag := [], opTk := [] } }

/-- WCH_CORE_STAT of a core (R406). -/
def State.coreStat (s : State) (core : Nat) : Nat :=
  let b4 := fun (p : Nat → Bool) => (List.range 4).foldl (fun n i => if p (arrayId core (128 + i)) then setBit n i else n) 0
  let pend := s.wch.pend.find? fun r => r.core == core
  let ret := min 255 ((s.wch.retired.filter fun id => coreOf id == core).length)
  b4 s.freeSpare + 16 * b4 (fun i => (s.posOf i).isSome) + 256 * b4 (fun i => (s.cairn i).echoBusy) + 4096 * b4 s.fenced
  + 65536 * b2n pend.isSome + 2 ^ 17 * (match pend with | some r => r.pos | none => 0) + 2 ^ 24 * ret

/-! ### Remaps (R389 to R393; 07 R230) -/

/-- Outcomes of R230. -/
def rmAccepted : Nat := 0
def rmNoSpare : Nat := 1
def rmNotServing : Nat := 2
def rmBadSpare : Nat := 3
def rmPending : Nat := 4
def rmOwnFenced : Nat := 5

/-- Causes of a REMAP event (R404). -/
def rcWatch : Nat := 0
def rcMaster : Nat := 1
def rcFault : Nat := 2
def rcUnmap : Nat := 3

/-- Is a remap of the core pending? -/
def State.remapping (s : State) (core : Nat) : Bool := s.wch.pend.any fun r => r.core == core

/-- The spare that a request without a name takes (R389): the lowest free one, else the lowest that runs Echo. -/
def State.anySpare (s : State) (core : Nat) : Option Nat :=
  match s.firstFree core 0xFFFF with
  | some i => some i
  | none => (sparesOf core).find? fun i => s.spareThere i && !s.dormant i && (s.cairn i).echoBusy

/-- The remap of a position becomes pending (R390): the spare is taken, from Echo if need be. -/
def State.remapBegin (s : State) (core pos src dst cause seq : Nat) : State :=
  let s := s.echoPreempt dst
  let s := { s with wch := { s.wch with pend := s.wch.pend ++ [Remap.mk core pos src dst cause seq false false] } }
  s.coreBit F.WCH_STAT_REMAP_PENDING core true

/-- A remap request (R230, R389): the outcome, and the spare chosen. -/
def State.remapReq (s : State) (array field cause seq : Nat) : State × Nat × Nat :=
  let core := coreOf array
  match s.posOf array with
  | none => (s, rmNotServing, 0)
  | some pos =>
    if s.remapping core then (s, rmPending, 0)
    else if s.flt.engFenced.contains core then (s, rmNoSpare, 0)
    else if field = 0xFFF then
      match s.anySpare core with
      | some i => (s.remapBegin core pos array i cause seq, rmAccepted, i)
      | none => (s, rmNoSpare, 0)
    else if kindOf field = 1 ∧ coreOf field = core ∧ s.freeSpare field then
      (s.remapBegin core pos array field cause seq, rmAccepted, field)
    else (s, rmBadSpare, 0)

/-- An unmap of the position that spare `id` serves (R392): the outcome. -/
def State.unmapReq (s : State) (id : Nat) : State × Nat :=
  let core := coreOf id
  match s.posOf id with
  | none => (s, rmBadSpare)
  | some pos =>
    if id % 132 < 128 then (s, rmBadSpare)
    else if s.fenceDecided (arrayId core pos) then (s, rmOwnFenced)
    else if s.remapping core then (s, rmPending)
    else (s.remapBegin core pos id (arrayId core pos) rcUnmap 0, rmAccepted)

/-- A pending remap changed. -/
def State.modRemap (s : State) (core : Nat) (g : Remap → Remap) : State :=
  { s with wch := { s.wch with pend := s.wch.pend.map fun r => if r.core = core then g r else r } }

/-- The map entry changes on B (R390): the array that served is retired, unless this is an unmap, whose own array returns. -/
def State.mapChange (s : State) (r : Remap) : State :=
  let own := arrayId r.core r.pos
  let w := s.wch
  let ret := if r.cause = rcUnmap then w.retired.filter (· ≠ own) else w.retired ++ [r.from_]
  let s := { s with wch := { w with
    map := smSet none w.map (posKey r.core r.pos) (if r.to_ = own then none else some r.to_),
    retired := ret,
    moved := w.moved ++ [posKey r.core r.pos],
    lag := smSet 0 w.lag (posKey r.core r.pos) (smGet 0 w.lag (posKey r.core r.pos) % 65536) } }
  ((s.posShow r.from_).posShow r.to_).echoTargetLost r.from_

/-- ACC, CFG and SEED of one array copied to another (R390). -/
def State.copyArray (s : State) (src dst : Nat) : State :=
  let put := fun (s : State) (sp n : Nat) =>
    let bs := s.spaceBytes src sp n
    s.modC dst fun c => c.putBytes (viewKey sp 0) bs
  put (put (put s 0 4096) 2 256) 3 64

/-- Does a STOP hold a unit, or does it stand in a step that no resume has ended (04 R122; 05 R151)? -/
def State.inStop (s : State) (id : Nat) : Bool :=
  (s.cairn id).frozen || (s.stp.active && (s.stepUnit id).any fun u => !u.ended)

/-- The engine's first operation boundary after the orders (R390, R393): none counts while a STOP holds the core, a boundary reached in a
step included (04 R122; 05 R151). -/
def State.remapBoundary (s : State) (core : Nat) : State :=
  match s.wch.pend.find? fun r => r.core == core with
  | none => s
  | some r =>
    if r.gated ∨ s.dormant r.from_ ∨ s.dormant r.to_ ∨ s.inStop r.from_ then s
    else ((s.copyArray r.from_ r.to_).mapChange r).modRemap core fun r => { r with gated := true }

/-- Values of a REMAP event (R404). -/
def remapData (r : Remap) : List EvVal :=
  [.w r.from_, .w r.to_, .w r.pos, .w r.cause, .w 64, .w (b2n r.synth)]

/-- The remap is no longer pending. -/
def State.remapDrop (s : State) (core : Nat) : State :=
  let s := { s with wch := { s.wch with pend := s.wch.pend.filter fun r => r.core != core } }
  s.coreBit F.WCH_STAT_REMAP_PENDING core false

/-- The remap is complete: it is counted, its REMAP event is raised and a fence for its cause waits for that event's number (R375,
R390, R391). -/
def State.remapRaise (s : State) (r : Remap) : State :=
  let s := s.remapDrop r.core
  let s := if r.cause = rcUnmap then s.satAdd F.WCH_REMAP_CNT_UNMAPS 1 else s.satAdd F.WCH_REMAP_CNT_REMAPS 1
  let s := if r.cause = rcFault then
      { s with wch := { s.wch with fenceAfter := s.wch.fenceAfter ++ [(r.to_, r.from_, r.seq)] } }
    else s
  if r.synth then s.raiseSpur r.to_ .remap (remapData r) else s.raiseC r.to_ .remap (s.leafVal r.to_) (remapData r)

/-- The gate opens (R390). -/
def State.gateOpen (s : State) (core : Nat) : State :=
  match s.wch.pend.find? fun r => r.core == core with
  | none => s
  | some r => if !r.gated ∨ (s.cairn r.to_).frozen then s else s.remapRaise r

/-- The core's domain comes up with a remap pending (R391): the Spur applies it and raises REMAP on the array's behalf. -/
def State.remapAtWake (s : State) (core : Nat) : State :=
  match s.wch.pend.find? fun r => r.core == core with
  | none => s
  | some r =>
    let s := if r.gated then s else s.mapChange r
    s.remapRaise { r with synth := true }

/-! ### Droop, voltage and frequency (R397, R398) -/

/-- A region controller's sequence. -/
def State.vfOf (s : State) (id : Nat) : VfSt := smGet VfSt.init s.wch.vf id

/-- It is replaced. -/
def State.setVf (s : State) (id : Nat) (v : VfSt) : State := { s with wch := { s.wch with vf := smSet VfSt.init s.wch.vf id v } }

/-- May a change begin: no response is active and 5,000 tk have passed since the last DROOP_EXIT? -/
def State.vfFree (s : State) (v : VfSt) : Bool :=
  !v.droop && (match v.lastExit with | some t => decide (t + 5000 ≤ s.clk) | none => true)

/-- Is a change in progress a downward voltage ramp (R398)? -/
def State.vfDown (s : State) (id : Nat) (v : VfSt) : Bool :=
  match v.change with
  | some c => c.1 == 0 && decide (c.2.1 < (s.cairn id).f CF.P_VF_MV)
  | none => false

/-- A droop response begins: `kind` 1 stretch, 2 bubble, 3 both; a downward ramp holds (R397, R398). -/
def State.droopEnter (s : State) (id kind mv mhz : Nat) : State :=
  let v := s.vfOf id
  if v.droop then s
  else
    let down := s.vfDown id v
    let s := s.raiseC id .droopEnter (s.leafVal id) [.w kind, .w mv, .w mhz]
    let s := match v.change with
      | some c => if down then s.raiseC id .vfDefer (s.leafVal id) [.w c.1, .w c.2.1] else s
      | none => s
    s.setVf id { v with
      droop := true, droopT := s.clk, droopIn := true, change := if down then none else v.change,
      defer := if down then v.change else v.defer }

/-- The response ends (R397). -/
def State.droopExit (s : State) (id stretched bubbles : Nat) : State :=
  let v := s.vfOf id
  if !v.droop then s
  else
    let s := s.raiseC id .droopExit (s.leafVal id) [.w (s.clk - v.droopT), .w stretched, .w bubbles]
    s.setVf id { v with droop := false, lastExit := some s.clk }

/-- A change is requested: `kind` 0 voltage, 1 frequency (R397, R398). -/
def State.vfReq (s : State) (id kind target : Nat) : State :=
  let v := s.vfOf id
  let s := s.raiseC id .vfReq (s.leafVal id) [.w kind, .w target]
  match v.defer with
  | some c => (s.raiseC id .vfSuperseded (s.leafVal id) [.w kind, .w c.2.1, .w target]).setVf id { v with defer := some (kind, target, s.clk) }
  | none =>
    if s.vfFree v then s.setVf id { v with change := some (kind, target, s.clk) }
    else (s.raiseC id .vfDefer (s.leafVal id) [.w kind, .w target]).setVf id { v with defer := some (kind, target, s.clk) }

/-- A deferred change begins (R397). -/
def State.vfStart (s : State) (id : Nat) : State :=
  let v := s.vfOf id
  match v.defer with
  | none => s
  | some c => if s.vfFree v ∧ !(s.cairn id).frozen then s.setVf id { v with defer := none, change := some c } else s

/-- A change completes (R404). -/
def State.vfDone (s : State) (id : Nat) : State :=
  let v := s.vfOf id
  match v.change with
  | none => s
  | some c =>
    let f := if c.1 = 0 then CF.P_VF_MV else CF.P_VF_MHZ
    let old := (s.cairn id).f f
    let s := (s.setVf id { v with change := none }).modC id fun k => k.setF f c.2.1
    s.raiseC id .vfDone (s.leafVal id) [.w c.1, .w old, .w c.2.1, .w (s.clk - c.2.2)]

/-- The end of a 10 µs interval (R399): estimate and measurement in mW, limit in parts per thousand. -/
def State.pmInterval (s : State) (id est meas limit : Nat) : State :=
  let v := s.vfOf id
  if v.droopIn ∨ v.droop then s.setVf id { v with droopIn := v.droop }
  else if v.measure then s
  else
    let far := decide (limit * meas < 1000 * (if est ≤ meas then meas - est else est - meas))
    let run := if far then v.run + 1 else 0
    if run < 4 then s.setVf id { v with run := run }
    else
      let s := s.setVf id { v with run := run, measure := true }
      let s := s.wr R.WCH_PMD_MAP (setBit (s.rd R.WCH_PMD_MAP) (id - 0xBA0))
      (s.cairnFault id (fltBit 9)).raiseC id .pmMeasureOnly (s.leafVal id) [.w est, .w meas, .w limit]

/-- A chip warm reset resets every region controller (R398, R399). -/
def State.vfWarm (s : State) : State := ({ s with wch := { s.wch with vf := [] } }).wr R.WCH_PMD_MAP 0

/-! ### Expert dispatch (R401 to R403) -/

/-- A BMU's dispatch counts. -/
def State.dispOf (s : State) (id : Nat) : DispSt := smGet DispSt.init s.wch.disp id

/-- They are replaced. -/
def State.setDisp (s : State) (id : Nat) (d : DispSt) : State := { s with wch := { s.wch with disp := smSet DispSt.init s.wch.disp id d } }

/-- A case of R401 counted: 0 tie, 1 overflow, 2 skip, 3 duplicate, 4 stale return with its tag and expert. -/
def State.dispCase (s : State) (id case_ tag expert : Nat) : State :=
  let d := s.dispOf id
  match case_ with
  | 0 => s.setDisp id { d with tie := d.tie + 1 }
  | 1 => s.setDisp id { d with ovf := d.ovf + 1 }
  | 2 => s.setDisp id { d with skip := d.skip + 1 }
  | 3 => s.setDisp id { d with dup := d.dup + 1 }
  | _ =>
    let d := { d with stale := d.stale + 1 }
    match d.tags.find? fun t => t.1 == tag with
    | some t =>
      (s.setDisp id { d with tags := d.tags.filter (· ≠ t) }).raiseC id .staleFirst (s.leafVal id)
        [.w tag, .w t.2.1, .w t.2.2, .w expert]
    | none => s.setDisp id d

/-- WCH_DISP_INT as it acts, in tk. -/
def State.dispTk (s : State) : Nat := 256 * max (s.f F.WCH_DISP_INT_INT) 1

/-- The end of an interval (R402). -/
def State.dispSummary (s : State) (id : Nat) : State :=
  let d := s.dispOf id
  if s.f F.WCH_CTRL_DISP_EN = 0 ∨ s.clk < d.start + s.dispTk ∨ (s.cairn id).frozen then s
  else
    let any := d.tie + d.ovf + d.skip + d.dup + d.stale != 0
    let s' := s.setDisp id { DispSt.init with start := s.clk, tags := d.tags }
    if any then
      s'.raiseC id .dispatchSummary (s.leafVal id) [.w d.tie, .w d.ovf, .w d.skip, .w d.dup, .w d.stale, .w s.dispTk]
    else s'

/-- A cancelled batch moves to a new generation tag (R403). -/
def State.batchCancel (s : State) (id old new tenant ctx : Nat) : State :=
  let d := s.dispOf id
  (s.setDisp id { d with tags := d.tags.filter (fun t => t.1 != old) ++ [(old, tenant, ctx)] }).raiseC id .batchCancel (s.leafVal id)
    [.w old, .w new, .w tenant, .w ctx]

/-- Summit's counts of a numbered event of the watch function (R402, R405). -/
def State.wchCount (s : State) (e : Ev) : State :=
  let v := fun (i : Nat) => match e.data[i]? with | some (.w n) => n | some (.d n) => n | none => 0
  let add := fun (s : State) (r i : Nat) => s.wr r ((s.rd r + v i) % 2 ^ 32)
  match e.name with
  | .dispatchSummary =>
    add (add (add (add (add s R.WCH_TIE_CNT 0) R.WCH_OVF_CNT 1) R.WCH_SKIP_CNT 2) R.WCH_DUP_CNT 3) R.WCH_STALE_CNT 4
  | .droopEnter => s.bump R.WCH_DROOP_CNT
  | .droopExit => s.satAddR R.WCH_BUBBLE_CNT (v 2)
  | .vfDefer => s.bump R.WCH_VF_DEFER_CNT
  | _ => s

/-- While a unit is frozen, its controller's wait and its dispatch interval do not advance (R397, R402): `n` ticks have passed. -/
def State.watchHold (s : State) (n : Nat) : State :=
  { s with wch := { s.wch with
    vf := s.wch.vf.map fun e => if (s.cairn e.1).frozen then (e.1, { e.2 with lastExit := e.2.lastExit.map (· + n) }) else e,
    disp := s.wch.disp.map fun e => if (s.cairn e.1).frozen then (e.1, { e.2 with start := e.2.start + n }) else e } }

end Sys2Proof.Machine
end

