-- ==== Sys2Proof/Machine/Faults.lean ====
section
/-! DEFINITION. Machine/Faults.lean: the fault collector: records, latches, escalation, reactions, fences, SERVICE_N, and the hub's own
checking (11). -/

namespace Sys2Proof.Machine

/-! ### SERVICE_N (R377) -/

/-- Units fenced in Summit's records. -/
def State.fencedUnits (s : State) : List Nat := (s.flt.fences.filter fun e => e.2.fenced).map (·.1)

/-- Cores with no spare that R377 counts, or with a fenced engine. -/
def State.coresOut (s : State) : Nat :=
  (List.range 8).foldl (fun n c =>
    if s.flt.engFenced.contains c ∨ !(sparesOf c).any s.spareThere then setBit n c else n) 0

/-- FLT_FENCED, FLT_SVC_STAT and SERVICE_N follow what they show; a change of FLT_SVC_STAT raises SERVICE_CHANGE. `persist` is
Talus's persistent class. -/
def State.svcUpdate (s : State) : State :=
  let s := (s.setF F.FLT_FENCED_UNITS s.fencedUnits.length).setF F.FLT_FENCED_ENGINES s.flt.engFenced.length
  let cores := s.coresOut
  let cond := b2n (cores != 0) + 2 * b2n (decide (s.f F.FLT_FENCE_THR_THR < s.fencedUnits.length))
    + 4 * b2n (s.spur 0 == 2 || s.spur 1 == 2) + 8 * b2n (bit (s.f F.FLT_SVC_STAT_COND) 3)
  let v := cond + 256 * cores
  if v = s.rd R.FLT_SVC_STAT then s
  else ((s.wr R.FLT_SVC_STAT v).setF F.FLT_STAT_SERVICE (b2n (cond != 0))).raise .serviceChange 0x1006 [.w v]

/-- Talus reports or withdraws a persistent class (R377). -/
def State.svcPersist (s : State) (b : Bool) : State :=
  if bit (s.f F.FLT_SVC_STAT_COND) 3 = b then s
  else
    let c := s.f F.FLT_SVC_STAT_COND
    let c := if b then setBit c 3 else clrBit c 3
    let s := s.setF F.FLT_SVC_STAT_COND c
    (s.setF F.FLT_STAT_SERVICE (b2n (c != 0))).raise .serviceChange 0x1006 [.w (s.rd R.FLT_SVC_STAT)]

/-! ### Fences (R370 to R376) -/

/-- A fence record. -/
def State.fence (s : State) (id : Nat) : FenceRec := smGet FenceRec.none s.flt.fences id

/-- It is replaced. -/
def State.setFence (s : State) (id : Nat) (r : FenceRec) : State :=
  { s with flt := { s.flt with fences := smSet FenceRec.none s.flt.fences id r } }

/-- Causes of FLT_FENCE_STAT.CAUSE (R383). -/
def fcFault : Nat := 0
def fcMaster : Nat := 1
def fcPitch : Nat := 2
def fcEngine : Nat := 3

/-- Is a router's mesh already at its limit of two fenced routers (R370)? -/
def State.meshFull (s : State) (id : Nat) : Bool :=
  kindOf id == 4 && decide (2 ≤ (s.flt.fences.filter fun e =>
    (e.2.fenced || e.2.pending) && kindOf e.1 == 4 && meshOf e.1 == meshOf id).length)

/-- The outcome of a fence request (R229, R371): 0 REQUESTED, 1 ALREADY_FENCED, 2 NO_UNIT, 3 REFUSED. -/
def State.fenceOutcome (s : State) (id : Nat) (fromFault : Bool) : Nat :=
  if kindOf id = 0 then 2
  else if s.fenceDecided id then 1
  else if kindOf id = 7 ∨ s.meshFull id ∨ (!fromFault ∧ (s.posOf id).isSome) then 3
  else 0

/-- A fence is decided: it is pending until FENCE_DONE. -/
def State.fenceMark (s : State) (id lead cause causeSeq : Nat) (engine : Bool) : State :=
  s.setFence id { FenceRec.none with pending := true, engine := engine, lead := lead, cause := cause, causeSeq := causeSeq }

/-- The FENCE event of a decided fence (R384). -/
def State.fenceEvent (s : State) (id : Nat) : State :=
  let r := s.fence id
  s.raise .fence 0x1006 [.w id, .w (b2n r.engine), .w r.cause, .w r.causeSeq]

/-- A refused fence request (R370, R371): a router refused to a fault's reaction raises MESH_LIMIT. -/
def State.fenceRefuse (s : State) (id src : Nat) (fromFault : Bool) : State :=
  let s := s.raise .fenceRefused 0x1006 [.w id, .w src]
  if fromFault ∧ s.meshFull id then s.hubFault 0x0C 2 else s

/-- A fence request by a fault's reaction or a master (R371): the outcome. -/
def State.fenceReq (s : State) (id cause causeSeq src : Nat) : State × Nat :=
  let out := s.fenceOutcome id (cause == fcFault)
  if out = 0 then ((s.fenceMark id id cause causeSeq false).fenceEvent id, 0)
  else if out = 3 then (s.fenceRefuse id src (cause == fcFault), 3)
  else (s, out)

/-- REMAP_CANCEL of a pending remap (R393): 1 SPARE_LOST, 2 ENGINE_FENCED. -/
def State.remapCancel (s : State) (r : Remap) (why : Nat) : State :=
  let s := s.remapDrop r.core
  let data : List EvVal := [.w r.from_, .w r.to_, .w why]
  if s.dormant r.from_ then s.raiseSpur r.from_ .remapCancel data else s.raiseC r.from_ .remapCancel (s.leafVal r.from_) data

/-- A core's engine is fenced (R376): its 132 arrays with ENGINE, under one FENCE event that names `lead`. -/
def State.engineFence (s : State) (core lead causeSeq : Nat) : State :=
  if s.flt.engFenced.contains core then s
  else
    let s := { s with flt := { s.flt with engFenced := s.flt.engFenced ++ [core] } }
    let s := s.coreBit F.WCH_STAT_ENG_FENCED core true
    let s := match s.wch.pend.find? fun r => r.core == core && !r.gated with
      | some r => s.remapCancel r 2
      | none => s
    let s := { s with wch := { s.wch with waiting := s.wch.waiting.filter fun w => coreOf w.1 != core } }
    let ids := ((List.range 132).map (arrayId core)).filter fun i => !s.fenceDecided i
    let up := ids.filter fun i => !s.dormant i
    let lead := if up.contains lead then lead else up.headD (ids.headD lead)
    let s := ids.foldl (fun s i => s.fenceMark i lead fcEngine causeSeq true) s
    (if ids.isEmpty then s else s.fenceEvent lead).svcUpdate

/-- REMAP_FENCE of a serving array (R352, R374, R375; 12 R393): its position moves to a spare; with none, the engine is fenced. With a
remap of the core pending, it waits for it, unless that is its own. -/
def State.remapFence (s : State) (id seq : Nat) : State :=
  let core := coreOf id
  match s.wch.pend.find? fun r => r.core == core with
  | some r =>
    if (r.from_ = id ∧ r.cause = rcFault) ∨ s.wch.waiting.any fun w => w.1 == id then s
    else { s with wch := { s.wch with waiting := s.wch.waiting ++ [(id, seq)] } }
  | none =>
    let r := s.remapReq id 0xFFF rcFault seq
    if r.2.1 = rmAccepted then r.1 else s.engineFence core id seq

/-- A remap of a core is over: the arrays that waited take their turn, up to the first whose own remap begins (R374). -/
def State.remapNext (s : State) (core : Nat) : State :=
  (s.wch.waiting.filter fun w => coreOf w.1 == core).foldl (fun s w =>
    if s.remapping core || !s.wch.waiting.contains w then s
    else
      let s := { s with wch := { s.wch with waiting := s.wch.waiting.filter (· ≠ w) } }
      if (s.posOf w.1).isSome then s.remapFence w.1 w.2 else (s.fenceReq w.1 fcFault w.2 0x1006).1) s

/-- The chosen spare of a pending remap is lost before B (12 R393): a fault's remap is tried again, and arrays that waited take their turn. -/
def State.spareLost (s : State) (id : Nat) : State :=
  match s.wch.pend.find? fun r => r.to_ == id && !r.gated && r.cause != rcUnmap with
  | none => s
  | some r =>
    let s := s.remapCancel r 1
    if r.cause = rcFault then s.remapFence r.from_ r.seq else s.remapNext r.core

/-- Units whose fence a FENCE event names: the unit, or every array of the engine. -/
def State.fenceMembers (s : State) (id : Nat) : List Nat :=
  if (s.fence id).engine then (s.flt.fences.filter fun e => e.2.engine && e.2.lead == id).map (·.1) else [id]

/-- A fence record of each member changed. -/
def State.modFences (s : State) (ids : List Nat) (g : FenceRec → FenceRec) : State :=
  ids.foldl (fun s i => s.setFence i (g (s.fence i))) s

/-- The FENCE event is numbered (R372, R373, R515): the unit counts as fenced; a dormant one awaits its wake. -/
def State.fenceNumbered (s : State) (id seq : Nat) : State :=
  if !(s.fence id).pending then s
  else
    let ids := s.fenceMembers id
    let now := s.clk
    let s := ids.foldl (fun s i =>
      let dorm := s.dormant i
      s.setFence i { s.fence i with fenced := true, seq := seq, since := now, awaitWake := dorm }) s
    let s := ids.foldl (fun s i => (((s.echoTargetLost i).echoSpareLost i).spareLost i).touch i) s
    s.svcUpdate

/-- A fence order reaches a Cairn, or the side that faces a unit whose Cairn cannot answer (R372). -/
def State.fenceOrder (s : State) (id : Nat) : State :=
  let r := s.fence id
  if !r.fenced ∨ r.ordered ∨ r.awaitWake ∨ !r.pending ∨ r.lead ≠ id ∨ !s.reachable id then s
  else
    let one := fun (s : State) (i : Nat) =>
      if s.dormant i then s.setFence i { s.fence i with awaitWake := true, ordered := true }
      else
        let inStep := s.stp.active && s.stp.units.any fun u => u.cairn == i && u.mode != 1
        let s := s.modC i fun c =>
          let c := { c with fencedHere := true }
          if inStep then c.setF CF.STEP_STAT_FENCED_IN_STEP 1 else c
        s.setFence i { s.fence i with ordered := true }
    (s.fenceMembers id).foldl one s

/-- The drain of a fenced port completes (R372): FENCE_DONE comes from the Cairn, or from its Spur on its behalf. -/
def State.fenceDrained (s : State) (id drain : Nat) : State :=
  let r := s.fence id
  if !r.fenced ∨ !r.ordered ∨ r.drained ∨ !r.pending ∨ r.awaitWake ∨ r.lead ≠ id then s
  else
    let s := s.setFence id { r with drained := true }
    let data : List EvVal := [.w id, .w drain]
    if s.dormant id ∨ (s.cairn id).noAnswer then s.raiseSpur id .fenceDone data else s.raiseC id .fenceDone (s.leafVal id) data

/-- FENCE_DONE is numbered: the fence is complete (R372). -/
def State.fenceComplete (s : State) (id : Nat) : State :=
  (s.modFences (s.fenceMembers id) fun r => { r with pending := false }).svcUpdate

/-- No FENCE_DONE within 25,000 tk of FENCE (R372). -/
def State.fenceStuck (s : State) (id : Nat) : State :=
  let r := s.fence id
  if r.fenced ∧ r.pending ∧ !r.awaitWake ∧ !r.stuck ∧ r.lead = id ∧ r.since + 25000 ≤ s.clk then
    (s.setFence id { r with stuck := true }).hubFault 0x0C 5
  else s

/-- The Spur applies a unit's fence as it comes up (R373): one that awaited the wake is timed from here. -/
def State.fenceWake (s : State) (id : Nat) : State :=
  let r := s.fence id
  if !r.fenced then s
  else
    let s := s.modC id fun c => { c with fencedHere := true }
    if r.awaitWake then s.setFence id { r with awaitWake := false, ordered := true, since := s.clk, wake := r.lead == id }
    else s

/-- The leaf of a unit fenced at its wake is valid: FENCE_DONE with a drain time of 0 (R373). -/
def State.fenceWakeDone (s : State) (id : Nat) : State :=
  let r := s.fence id
  if r.wake then (s.setFence id { r with wake := false }).fenceDrained id 0 else s

/-- A write to FLT_UNFENCE (R373, R382), in TEST_OPEN and RMA; elsewhere it is ignored. -/
def State.unfence (s : State) (id who : Nat) : State :=
  if s.lcs ≠ 2 ∧ s.lcs ≠ 5 then s
  else
    let core := coreOf id
    let eng := kindOf id == 1 && s.flt.engFenced.contains core
    let ids :=
      if eng then (s.flt.fences.filter fun e => e.2.engine && kindOf e.1 == 1 && coreOf e.1 == core).map (·.1)
      else if s.fenceDecided id then [id] else []
    if ids.isEmpty then s
    else
      let s := if eng then
          ({ s with flt := { s.flt with engFenced := s.flt.engFenced.filter (· ≠ core) } }).coreBit F.WCH_STAT_ENG_FENCED core false
        else s
      let s := ids.foldl (fun s i =>
        let s := s.setFence i FenceRec.none
        let s := if s.dormant i then s else s.modC i fun c => { c with fencedHere := false }
        s.touch i) s
      (s.raise .unfence 0x1006 [.w id, .w who]).svcUpdate

/-! ### Records (R361 to R363, R378) -/

/-- A fault record as sixteen words. -/
def FltRec.words (r : FltRec) : List Nat :=
  let i := r.info
  [r.seq, r.epoch, r.stamp % 2 ^ 32, r.stamp / 2 ^ 32, r.src + 2 ^ 16 * i.page + 2 ^ 24 * i.bit,
   i.cls + 2 ^ 8 * i.react + 2 ^ 16 * i.rflags, i.count, i.tenant, i.ctx % 2 ^ 20, i.causeSeq,
   i.detail % 2 ^ 32, i.detail / 2 ^ 32 % 2 ^ 32, i.detail2 % 2 ^ 32, i.detail2 / 2 ^ 32 % 2 ^ 32, 0, 0]

/-- Word `k` of a record that may be absent. -/
def recWord (r : Option FltRec) (k : Nat) : Nat := match r with | some r => r.words.getD k 0 | none => 0

/-- Occupancy of the CE ring (R362). -/
def State.ringOcc (s : State) : Nat := (s.f F.FLT_CE_WR_WR + 65536 - s.f F.FLT_CE_RD_RD) % 65536

/-- RING_FULL follows the occupancy. -/
def State.ringShow (s : State) : State := s.setF F.FLT_STAT_RING_FULL (b2n (s.ringOcc == 4096))

/-- ESC_STATE follows the latches (R366). -/
def State.escShow (s : State) : State :=
  s.setF F.FLT_STAT_ESC_STATE
    (if s.f F.FLT_CLASS_FLAGS_FATAL_VALID = 1 then 2 else if s.f F.FLT_CLASS_FLAGS_UC_VALID = 1 then 1 else 0)

/-- A record enters FLT_HIST. -/
def State.histAdd (s : State) (r : FltRec) : State :=
  let n := s.f F.FLT_HIST_HEAD_CNT
  let s := { s with flt := { s.flt with hist := smSet none s.flt.hist (n % 16) (some r) } }
  (s.setF F.FLT_HIST_HEAD_SLOT (n % 16)).setF F.FLT_HIST_HEAD_CNT ((n + 1) % 65536)

/-- A numbered CE (R361 to R363). -/
def State.ceRecord (s : State) (r : FltRec) : State :=
  let s := s.wr R.FLT_CE_CNT ((s.rd R.FLT_CE_CNT + r.info.count) % 2 ^ 32)
  let s :=
    if s.f F.FLT_CLASS_FLAGS_CE_VALID = 1 then s.setF F.FLT_CLASS_FLAGS_CE_OVF 1
    else ({ s with flt := { s.flt with ce := some r } }).setF F.FLT_CLASS_FLAGS_CE_VALID 1
  if s.ringOcc = 4096 then
    let s := s.satAddR R.FLT_CE_LOST 1
    if s.f F.FLT_STAT_STORM_ARMED = 1 then (s.setF F.FLT_STAT_STORM_ARMED 0).hubFault 0x0C 0 0 r.seq else s
  else
    let w := s.f F.FLT_CE_WR_WR
    let s := { s with flt := { s.flt with ring := smSet none s.flt.ring (w % 4096) (some r) } }
    (s.setF F.FLT_CE_WR_WR ((w + 1) % 65536)).ringShow

/-- A numbered UC (R361, R364, R365, R366, R381): `r` as recorded once its reaction is decided. -/
def State.ucRecord (s : State) (r : FltRec) : State :=
  let fatal := s.f F.FLT_CLASS_FLAGS_FATAL_VALID == 1
  let held := s.f F.FLT_CLASS_FLAGS_UC_VALID == 1
  let s := (s.wr R.FLT_UC_CNT ((s.rd R.FLT_UC_CNT + r.info.count) % 2 ^ 32)).histAdd r
  let s :=
    if held then s.setF F.FLT_CLASS_FLAGS_UC_OVF 1
    else (({ s with flt := { s.flt with uc := some r } }).setF F.FLT_CLASS_FLAGS_UC_VALID 1).setF F.FLT_CLASS_FLAGS_UC_ACK_BY_RESET 0
  let s := if !held ∧ 2 ≤ r.info.count then s.setF F.FLT_CLASS_FLAGS_UC_OVF 1 else s
  let s := s.escShow
  if (held ∨ 2 ≤ r.info.count) ∧ !fatal then
    s.hubFault 0x0C 1 0 r.seq (match s.flt.uc with | some u => u.seq | none => 0)
  else s

/-- The number a FATAL latched without one receives (R367): the record, or `none` where another FATAL is in the latch. -/
def State.fatalFill (s : State) (r : FltRec) : Option State :=
  match s.flt.fatal with
  | some f =>
    if s.flt.direct ∧ f.src = r.src ∧ f.info.page = r.info.page ∧ f.info.bit = r.info.bit then
      some { s with flt := { s.flt with fatal := some r, direct := false } }
    else none
  | none => none

/-! ### The FATAL actions (R367) -/

/-- The dump or the cut of a FATAL; the ledger write is the caller's. -/
def State.fatalStop (s : State) : State :=
  let cut := fun (s : State) =>
    if s.f F.FLT_CTRL_FATAL_STOP = 1 then (s.cutReq (s.f F.FLT_CTRL_FATAL_KIND) 0x1006).1 else s
  if s.f F.FLT_CTRL_FATAL_DUMP = 1 then
    let d := s.dumpReq 0x1006 (s.f F.COU_CTRL_AUTO_PROF)
    if d.2.1 = couNone then d.1 else cut d.1
  else cut s

/-- A numbered FATAL (R361, R366, R367), and whether it is one that takes the FATAL actions: the first, not forced dry. -/
def State.fatalRecord (s : State) (r : FltRec) : State × Bool :=
  let s := (s.wr R.FLT_FATAL_CNT ((s.rd R.FLT_FATAL_CNT + r.info.count) % 2 ^ 32)).histAdd r
  let dry := bit r.info.rflags 0 && s.f F.FLT_CTRL_FORCE_DRY == 1
  match s.fatalFill r with
  | some t => (if dry then t else t.fatalStop, !dry)
  | none =>
    if s.f F.FLT_CLASS_FLAGS_FATAL_VALID = 1 then (s.setF F.FLT_CLASS_FLAGS_FATAL_OVF 1, false)
    else
      let s := ({ s with flt := { s.flt with fatal := some r } }).setF F.FLT_CLASS_FLAGS_FATAL_VALID 1
      let s := s.fatalPins
      (if dry then s else s.fatalStop, !dry)

/-! ### Reactions (R352) -/

/-- A context is failed: CTX_FAILED names the unit, the tenant and the context. -/
def State.ctxFail (s : State) (id tenant ctx seq : Nat) : State :=
  s.raise .ctxFailed 0x1006 [.w id, .w tenant, .w ctx, .w seq]

/-- The reaction of a numbered UC, and whether its fence was refused. -/
def State.react (s : State) (id seq : Nat) (i : FltInfo) : State × Bool :=
  let held := i.tenant != 0 || i.ctx != 0
  if bit i.rflags 0 ∧ s.f F.FLT_CTRL_FORCE_DRY = 1 then (s, false)
  else
    match i.react with
    | 1 => (s.ctxFail id i.tenant i.ctx seq, false)
    | 2 =>
      let s := if held then s.ctxFail id i.tenant i.ctx seq else s
      let r := s.fenceReq id fcFault seq 0x1006
      (r.1, r.2 == 3)
    | 3 =>
      let s := if held ∧ i.bit ≠ 11 then s.ctxFail id i.tenant i.ctx seq else s
      if (s.posOf id).isSome ∧ !s.fenceDecided id then (s.remapFence id seq, false)
      else
        let r := s.fenceReq id fcFault seq 0x1006
        (r.1, r.2 == 3)
    | _ => (s, false)

/-- A fault report is numbered (R361): the record, and whether the FATAL actions are taken, which ends with the ledger write. -/
def State.faultNumbered (s : State) (seq epoch : Nat) (e : Ev) (i : FltInfo) : State × FltRec × Bool :=
  let i := { i with react := if i.cls = 2 then i.react else 0 }
  match i.cls with
  | 1 =>
    let r : FltRec := ⟨seq, epoch, e.stamp, e.src, i⟩
    (s.ceRecord r, r, false)
  | 2 =>
    let x := s.react e.src seq i
    let r : FltRec := ⟨seq, epoch, e.stamp, e.src, { i with rflags := if x.2 then setBit i.rflags 6 else i.rflags }⟩
    (x.1.ucRecord r, r, false)
  | _ =>
    let r : FltRec := ⟨seq, epoch, e.stamp, e.src, i⟩
    let x := s.fatalRecord r
    (x.1, r, x.2)

/-! ### Acknowledgement (R55, R362 to R364, R381) -/

/-- A write to FLT_ACK (R364) by `who`. -/
def State.fltAck (s : State) (v who : Nat) : State :=
  let s := if bit v 0 then (s.setF F.FLT_CLASS_FLAGS_CE_VALID 0).setF F.FLT_CLASS_FLAGS_CE_OVF 0 else s
  match s.flt.uc with
  | none => s
  | some u =>
    if bit v 1 ∧ s.f F.FLT_CLASS_FLAGS_UC_VALID = 1 ∧ bits v 16 16 = u.seq % 65536 then
      (((s.setF F.FLT_CLASS_FLAGS_UC_VALID 0).setF F.FLT_CLASS_FLAGS_UC_OVF 0).escShow).raise .ucAcked 0x1006 [.w u.seq, .w who]
    else s

/-- A write to FLT_CE_RD (R362, R363). -/
def State.ceRd (s : State) (v : Nat) : State :=
  let occ := (s.f F.FLT_CE_WR_WR + 65536 - v % 65536) % 65536
  if 4096 < occ then s
  else
    let s := (s.setF F.FLT_CE_RD_RD (v % 65536)).ringShow
    if s.f F.FLT_STAT_STORM_ARMED = 0 ∧ occ ≤ 2048 then
      (s.setF F.FLT_STAT_STORM_ARMED 1).raise .stormRearm 0x1006 [.w occ]
    else s

/-- A chip warm reset acknowledges the UC latch (R381). -/
def State.ucWarmAck (s : State) : State :=
  match s.flt.uc with
  | none => s
  | some u =>
    if s.f F.FLT_CLASS_FLAGS_UC_VALID = 0 then s
    else
      let u' := { u with info := { u.info with rflags := setBit u.info.rflags 3 } }
      let s := { s with flt := { s.flt with uc := some u' } }
      let s := ((s.setF F.FLT_CLASS_FLAGS_UC_VALID 0).setF F.FLT_CLASS_FLAGS_UC_OVF 0).setF F.FLT_CLASS_FLAGS_UC_ACK_BY_RESET 1
      s.escShow.raise .ucAcked 0x1006 [.w u.seq, .w 0x1006]

/-! ### HEARTBEAT and the signature monitor (R369) -/

/-- Ticks of a check interval. -/
def sigLimit : Nat := 1250000

/-- A sequencer reaches a check point. -/
def State.sigCheck (s : State) (q : Nat) (ok : Bool) : State :=
  if ok then
    { s with flt := { s.flt with
      checked := if s.flt.checked.contains q then s.flt.checked else s.flt.checked ++ [q],
      checkT := smSet 0 s.flt.checkT q s.clk } }
  else s.hubFault 0x00 1

/-- A sequencer has reached no check point within 500 µs. -/
def State.sigTimeout (s : State) (q : Nat) : State :=
  if smGet 0 s.flt.checkT q + sigLimit ≤ s.clk then s.hubFault 0x00 1 else s

/-- HEARTBEAT's 500 µs instant. -/
def State.heartbeat (s : State) : State :=
  if s.clk < s.flt.hbNext then s
  else
    let s := { s with flt := { s.flt with hbNext := s.clk + sigLimit } }
    if s.f F.FLT_STAT_HB_RUN = 1 ∧ (List.range 6).all s.flt.checked.contains then
      { s with flt := { s.flt with heartbeat := !s.flt.heartbeat, checked := [] } }
    else s

end Sys2Proof.Machine
end

