-- ==== Sys2Proof/Machine/Engine.lean ====
section
/-! DEFINITION. Machine/Engine.lean: start and stop of a Pitch engine, its windows and its program memory (07 R203 to R210, R231 to
R234). -/

namespace Sys2Proof.Machine

/-- Source number of engine `e` (07 R203). -/
def engSrc (e : Nat) : Nat := 0x1002 + e

/-- What an engine holds beside its registers. -/
def State.eng (s : State) (e : Nat) : EngSt := smGet EngSt.init s.prb.eng e

/-- The state with an engine's part replaced. -/
def State.setEng (s : State) (e : Nat) (x : EngSt) : State := { s with prb := { s.prb with eng := smSet EngSt.init s.prb.eng e x } }

/-! ### Window accesses that complete without their Cairn's answer (07 R218, R220) -/

/-- Register pn of engine `e`. -/
def State.p (s : State) (e n : Nat) : Nat := s.rd (R.PRB_P e (2 * n)) + 2 ^ 32 * s.rd (R.PRB_P e (2 * n + 1))

/-- Register pn written, modulo 2^64. -/
def State.setP (s : State) (e n v : Nat) : State :=
  (s.wr (R.PRB_P e (2 * n)) (v % 2 ^ 32)).wr (R.PRB_P e (2 * n + 1)) (v / 2 ^ 32 % 2 ^ 32)

/-- PRB_ACC_ERR records a failure: completion code, view result and Cairn (07 R220). -/
def State.accErr (s : State) (e code result id : Nat) : State :=
  let s := if s.f (F.PRB_ACC_ERR_VALID e) = 1 then s
    else (((s.setF (F.PRB_ACC_ERR_CODE e) code).setF (F.PRB_ACC_ERR_RESULT e) result).setF (F.PRB_ACC_ERR_CAIRN e) id).setF (F.PRB_ACC_ERR_VALID e) 1
  s.satAdd (F.PRB_ACC_ERR_COUNT e) 1

/-- A window access completes with an error: it is recorded, and a read gives 0. -/
def State.winFail (s : State) (e : Nat) (w : WinAcc) (code : Nat) : State :=
  let s := (s.accErr e code 0 w.cairn).touchWin w.cairn
  match w.rd with | some n => s.setP e n 0 | none => s

/-- The accesses whose completion is decided, with none before them to the same Cairn open (07 R216), and those that remain; `open_`
lists the Cairns of open accesses before. -/
def fatedWins : List WinAcc → List Nat → List WinAcc × List WinAcc
  | [], _ => ([], [])
  | w :: ws, open_ =>
    if w.fate.isSome && !open_.contains w.cairn then
      let r := fatedWins ws open_
      (w :: r.1, r.2)
    else
      let r := fatedWins ws (w.cairn :: open_)
      (r.1, w :: r.2)

/-- Engine `e`'s window accesses whose completion is decided complete, in issue order for each Cairn. -/
def State.winFlush (s : State) (e : Nat) : State :=
  let r := fatedWins (s.eng e).wins []
  if r.1.isEmpty then s
  else r.1.foldl (fun s w => s.winFail e w (w.fate.getD codeOk)) (s.setEng e { s.eng e with wins := r.2 })

/-- The engines' accesses in flight that satisfy `p` complete with `code` (02 R66, R68; 07 R218). -/
def State.winFate (s : State) (p : WinAcc → Bool) (code : Nat) : State :=
  [0, 1, 2, 3].foldl (fun s e =>
    if (s.eng e).wins.any p then
      (s.setEng e { s.eng e with
        wins := (s.eng e).wins.map fun w => if p w && w.fate.isNone then { w with fate := some code } else w }).winFlush e
    else s) s

/-- Is engine `e` IDLE (07 R204)? -/
def State.engIdle (s : State) (e : Nat) : Bool := s.f (F.PRB_STAT_STATE e) == 0

/-- Stop codes (07 R231). -/
def stopHalt : Nat := 1
def stopIllegal : Nat := 2
def stopFetchRange : Nat := 3
def stopDataRange : Nat := 4
def stopRights : Nat := 5
def stopWdog : Nat := 6
def stopPmUc : Nat := 7
def stopRfParity : Nat := 8
def stopMaster : Nat := 9
def stopWarm : Nat := 10
def stopLifecycle : Nat := 11
def stopAlign : Nat := 12

/-- Engine `e` starts at `entry` under `rights` (07 R204, R205): the p registers stand; the completed entries of its job table go;
ENG_START. -/
def State.engStart (s : State) (e entry src rights : Nat) : State :=
  let s := s.wr (R.PRB_PC e) (entry % 65536)
  let s := s.wr (R.PRB_ACC_ERR e) 0
  let s := s.setJobs (s.cen.jobs.filter fun j => !(j.done && j.src == engSrc e))
  let s := s.wr (R.PRB_RIGHTS_REC e) rights
  let s := (s.setF (F.PRB_START_SRC_SRC e) src).setF (F.PRB_START_SRC_CREST e) (b2n (src == 0x1001))
  let s := (s.wr (R.PRB_RETIRED e) 0).wr (R.PRB_STALL e) 0
  let s := s.setEng e { s.eng e with wait := none, kickT := s.clk, waitT := 0, chSeen := [] }
  let s := s.setF (F.PRB_STAT_STATE e) 1
  s.raise .engStart (engSrc e) [.w src, .w (entry % 65536), .w rights]

/-- A start is taken only by an IDLE engine, and by none while a life-cycle transition is in progress (07 R204, R234). -/
def State.engFree (s : State) (e : Nat) : Bool := s.engIdle e && s.auth.run.isNone

/-- Hub cycles in a span of ticks (R9). -/
def hubCycles (tk : Nat) : Nat := tk * 2 / 5

/-- PRB_STALL now (07 R236): the hub cycles stalled and waited since the start, those of the wait in progress included. -/
def State.stallOf (s : State) (e : Nat) : Nat :=
  match (s.eng e).wait with
  | some _ => (s.rd (R.PRB_STALL e) + hubCycles (s.clk - (s.eng e).waitT)) % 2 ^ 32
  | none => s.rd (R.PRB_STALL e)

/-- Engine `e` stops with `code` (07 R206): code, pc and master time are recorded, the wait it ends counts in PRB_STALL, and ENG_STOP
is raised. Accesses and jobs in flight go on. -/
def State.engStop (s : State) (e code : Nat) : State :=
  let s := s.wr (R.PRB_STALL e) (s.stallOf e)
  let s := s.setF (F.PRB_STAT_STOP_CODE e) code
  let s := s.wr64 (R.PRB_STOP_T_LO e) s.now
  let s := s.setEng e { s.eng e with wait := none }
  let s := s.setF (F.PRB_STAT_STATE e) 0
  s.raise .engStop (engSrc e) [.w code, .w (s.f (F.PRB_PC_PC e)), .w (s.f (F.PRB_STAT_HALT_ARG e))]

/-- Engine `e` stops with `code` if it is not IDLE. -/
def State.engStopRun (s : State) (e code : Nat) : State := if s.engIdle e then s else s.engStop e code

/-- The watchdog's limit in tk; 0 is off (07 R232). -/
def State.wdogTk (s : State) (e : Nat) : Nat := s.f (F.PRB_WDOG_LIM e) * 256

/-- The watchdog of a running or waiting engine expires (07 R232). -/
def State.wdogExpire (s : State) (e : Nat) : State :=
  if s.engIdle e || s.wdogTk e == 0 || decide (s.clk < (s.eng e).kickT + s.wdogTk e) then s
  else (s.hubFault (3 + e) 2).engStop e stopWdog

/-- A parity error in an engine's registers or pc (07 R233). -/
def State.rfParity (s : State) (e : Nat) : State := (s.hubFault (3 + e) 3).engStopRun e stopRfParity

/-- Is a word address in a window, BASE and LIM included (07 R208)? -/
def inWin (base lim a : Nat) : Bool := decide (base ≤ a) && decide (a ≤ lim)

/-- Is a word in engine `e`'s code window? -/
def State.inCodeOf (s : State) (e a : Nat) : Bool := inWin (s.f (F.PRB_CODE_WIN_BASE e)) (s.f (F.PRB_CODE_WIN_LIM e)) a

/-- Is a word in engine `e`'s data window? -/
def State.inData (s : State) (e a : Nat) : Bool := inWin (s.f (F.PRB_DATA_WIN_BASE e)) (s.f (F.PRB_DATA_WIN_LIM e)) a

/-- Is a program-memory word uncorrectable? -/
def State.pmBad (s : State) (a : Nat) : Bool := s.prb.pmUc.contains a

/-- The doubleword at an even address, low half first (07 R207). -/
def State.pmDouble (s : State) (a : Nat) : Nat := s.pmWord a + 2 ^ 32 * s.pmWord (a + 1)

/-- A doubleword stored. -/
def State.pmPutDouble (s : State) (a n : Nat) : State := (s.setPm a (n % 2 ^ 32)).setPm (a + 1) (n / 2 ^ 32)

/-- A write of PRB_CTRL (07 R204, R206, R237): WRST, then START by a master whose held set is `rights`, then STOP. -/
def State.prbCtrl (s : State) (e v src rights : Nat) : State :=
  let s := s.setF (F.PRB_CTRL_WRST e) (v / 4)
  let s := if bit v 0 && s.engFree e then s.engStart e (s.f (F.PRB_ENTRY_ENTRY e)) src rights else s
  if bit v 1 then s.engStopRun e stopMaster else s

/-- PRB_PM_ADDR of a master's page copy after an access, under AUTOINC (07 R236). -/
def State.pmStep (s : State) (m : Master) (e : Nat) : State :=
  if s.f (bkF m (F.PRB_PM_ADDR_AUTOINC e)) = 1 then s.wrapAdd (bkF m (F.PRB_PM_ADDR_ADDR e)) 1 else s

/-- A master's write to PRB_PM_DATA (07 R210). -/
def State.pmDataWrite (s : State) (m : Master) (e v : Nat) : State :=
  let a := s.f (bkF m (F.PRB_PM_ADDR_ADDR e))
  (if s.inCode a then s.setF (F.PRB_PM_STAT_WR_IGN e) 1 else s.setPm a v).pmStep m e

/-- A master's read of PRB_PM_DATA (07 R210): an uncorrectable word reads 0 and raises PM_UC on the page used. -/
def State.pmDataRead (s : State) (m : Master) (e : Nat) : State × Nat :=
  let a := s.f (bkF m (F.PRB_PM_ADDR_ADDR e))
  if s.pmBad a then
    (((s.setF (F.PRB_PM_STAT_UC_READ e) 1).hubMemFault (3 + e) 1 (some (4 * a))).pmStep m e, 0)
  else (s.pmStep m e, s.pmWord a)

/-- The engine meets an uncorrectable program-memory word (07 R231, R233). -/
def State.pmUcStop (s : State) (e a : Nat) : State := (s.hubMemFault (3 + e) 1 (some (4 * a))).engStop e stopPmUc

/-- The engines at a chip warm reset (07 R205, R234): those with WRST 0 stop; the others lose TRACE_SECURE, DUMP_SECURE and
DEPOSIT_FIELD from their recorded sets. -/
def State.prbWarm (s : State) : State :=
  [0, 1, 2, 3].foldl (fun s e =>
    if s.engIdle e then s
    else if s.f (F.PRB_CTRL_WRST e) = 0 then s.engStop e stopWarm
    else s.wr (R.PRB_RIGHTS_REC e) (clrBit (clrBit (clrBit (s.rd (R.PRB_RIGHTS_REC e)) rtTraceSecure) rtDumpSecure) rtDepositField)) s

/-- Every engine that is not IDLE stops with LIFECYCLE at the start of a transition (07 R206). -/
def State.prbLifecycle (s : State) : State := [0, 1, 2, 3].foldl (fun s e => s.engStopRun e stopLifecycle) s

/-- A hub soft reset resets every engine with its page; the program memory stands and no stop is recorded (07 R206, R207). -/
def State.prbSoft (s : State) : State := { s with prb := { s.prb with eng := [] } }

end Sys2Proof.Machine
end

