-- ==== Sys2Proof/Machine/Scree.lean ====
section
/-! DEFINITION. Machine/Scree.lean: the trace (10): packets, the reorder stage and the writer, the hub buffer and the spill ring,
throttle, starts and stops, drains and windows. -/

namespace Sys2Proof.Machine

/-! ### Packets (R333 to R336) -/

/-- TYPE of a packet as its first byte's upper half names it; 16 stands for a SYNC in the stage. -/
def pkFlow : Nat := 1
def pkOwn : Nat := 2
def pkCtx : Nat := 3
def pkDormant : Nat := 4
def pkResume : Nat := 5
def pkFence : Nat := 6
def pkRemap : Nat := 7
def pkRedacted : Nat := 8
def pkEvent : Nat := 9
def pkMark : Nat := 0xA
def pkLoss : Nat := 0xC
def pkState : Nat := 0xD
def pkSync : Nat := 16

/-- Source bits of R325; `sbRedact` stands for a REDACTED packet's three (OWN, CTX, FLOW). -/
def sbOwn : Nat := 0
def sbCtx : Nat := 1
def sbPwr : Nat := 2
def sbFence : Nat := 3
def sbRemap : Nat := 4
def sbFlow : Nat := 5
def sbDvfs : Nat := 6
def sbFault : Nat := 7
def sbDispatch : Nat := 8
def sbCut : Nat := 9
def sbHub : Nat := 10
def sbMark : Nat := 11
def sbRedact : Nat := 16

/-- TABLE and ROW of an event (R336). -/
def evCode : EvName → Nat × Nat
  | .seqWrap => (0x00, 0) | .evtDrop => (0x00, 1) | .accessDenied => (0x00, 2) | .exclRequest => (0x00, 3)
  | .exclEnd => (0x00, 4) | .timeLoad => (0x00, 5) | .alignChange => (0x00, 6) | .slewEnd => (0x00, 7)
  | .lateAction => (0x00, 8)
  | .cut => (0x01, 0) | .cutDone => (0x01, 1) | .cutRefused => (0x01, 2) | .resumeSched => (0x01, 3)
  | .resumed => (0x01, 4) | .captureDone => (0x01, 5) | .divertFull => (0x01, 6) | .cutPartial => (0x01, 7)
  | .xcutRefused => (0x01, 8)
  | .step => (0x02, 0) | .stepRefused => (0x02, 1) | .stepDone => (0x02, 2) | .deposit => (0x02, 3)
  | .transition => (0x03, 0) | .actionRefused => (0x03, 1) | .stopAfterSet => (0x03, 2) | .stopAfterCancel => (0x03, 3)
  | .traceAct => (0x03, 4) | .dumpReq => (0x03, 5) | .pitchStart => (0x03, 6) | .pinPulse => (0x03, 7)
  | .crsRun => (0x03, 8) | .crsRestoreMiss => (0x03, 9)
  | .engStart => (0x04, 0) | .engStop => (0x04, 1) | .pitchLog => (0x04, 2) | .fenceReq => (0x04, 3)
  | .remapReq => (0x04, 4)
  | .dumpOpen => (0x05, 0) | .dumpRefused => (0x05, 1) | .captureWait => (0x05, 2) | .dumpClosed => (0x05, 3)
  | .refSet => (0x05, 4) | .drainStart => (0x05, 5) | .drainEnd => (0x05, 6) | .release => (0x05, 7)
  | .releaseRefused => (0x05, 8)
  | .cenDone => (0x06, 0) | .echoCaptured => (0x06, 1) | .echoDone => (0x06, 2)
  | .traceState => (0x07, 0) | .traceLevel => (0x07, 1) | .traceGap => (0x07, 2) | .spillFull => (0x07, 3)
  | .traceDrainEnd => (0x07, 4)
  | .fence => (0x10, 0) | .fenceDone => (0x10, 1) | .fenceRefused => (0x10, 2) | .unfence => (0x10, 3)
  | .ctxFailed => (0x10, 4) | .ucAcked => (0x10, 5) | .stormRearm => (0x10, 6) | .serviceChange => (0x10, 7)
  | .remap => (0x11, 0) | .remapCancel => (0x11, 1) | .droopEnter => (0x11, 2) | .droopExit => (0x11, 3)
  | .vfReq => (0x11, 4) | .vfDefer => (0x11, 5) | .vfSuperseded => (0x11, 6) | .vfDone => (0x11, 7)
  | .pmMeasureOnly => (0x11, 8) | .dispatchSummary => (0x11, 9) | .batchCancel => (0x11, 10) | .staleFirst => (0x11, 11)
  | .talusCommit => (0x12, 0) | .persistSet => (0x12, 1) | .persistClear => (0x12, 2) | .trackFull => (0x12, 3)
  | .ledgerClear => (0x12, 4)
  | .lcyStart => (0x13, 0) | .lcyCommit => (0x13, 1) | .lcyDone => (0x13, 2) | .lcyResume => (0x13, 3)
  | .tokenConsumed => (0x13, 4) | .provisioned => (0x13, 5) | .certAccepted => (0x13, 6) | .challengeIssued => (0x13, 7)
  | .jexGranted => (0x13, 8) | .authRefused => (0x13, 9) | .grantsEnded => (0x13, 10) | .epochBurned => (0x13, 11)
  | .sessionUp => (0x14, 0) | .sessionEnd => (0x14, 1) | .rateChange => (0x14, 2) | .trigIn => (0x14, 3)
  | .leadChange => (0x14, 4) | .discoveryDone => (0x14, 5) | .hubJoined => (0x14, 6) | .hubLeft => (0x14, 7)
  | .hubReady => (0x15, 0) | .warmReset => (0x15, 1) | .warmDone => (0x15, 2) | .softReset => (0x15, 3)  | .own => (0, 0) | .ctx => (0, 0) | .dormant => (0, 0) | .resume => (0, 0)
  | .fault => (0xFF, 0)

/-- The source bit of an event that makes an EVENT packet (R325). -/
def evBit (e : Ev) : Nat :=
  if e.name = .fault then sbFault
  else if e.src < 0xBC0 ∧ kindOf e.src = 7 then sbDvfs
  else if e.src < 0xBC0 ∧ kindOf e.src = 3 then sbDispatch
  else if (evCode e.name).1 = 1 ∨ (evCode e.name).1 = 2 then sbCut
  else sbHub

/-- A varint (R333), of at most `fuel` bytes. -/
def varint : Nat → Nat → List Byte
  | 0, _ => []
  | fuel + 1, n => if n < 128 then [BitVec.ofNat 8 n] else BitVec.ofNat 8 (n % 128 + 128) :: varint fuel (n / 128)

/-- The zig-zag value of `new - old`, taken as a signed 64-bit value (R333). -/
def zigzag (new old : Nat) : Nat :=
  let d := (new + 2 ^ 64 - old % 2 ^ 64) % 2 ^ 64
  if d < 2 ^ 63 then 2 * d else 2 * (2 ^ 64 - d) - 1

/-- The payload words of a fault record after word 0 (11 R379). -/
def fltPayload (i : FltInfo) : List Nat :=
  [i.count, i.tenant, i.ctx, i.causeSeq, i.detail % 2 ^ 32, i.detail / 2 ^ 32, i.detail2 % 2 ^ 32, i.detail2 / 2 ^ 32]

/-- The payload words of an event (R336; 11 R379); those of a fault record in a secure period that is not recorded are 0 after
word 0 (R340). -/
def evPayload (e : Ev) (hide : Bool) : List Nat :=
  match e.flt with
  | some i =>
    (i.page % 256 + 256 * i.cls + 1024 * i.react + 65536 * i.rflags) :: (if hide then List.replicate 8 0 else fltPayload i)
  | none => (e.data.flatMap EvVal.words).take 15

/-- The n-th Carries value of an event. -/
def Ev.val (e : Ev) (n : Nat) : Nat := match e.data[n]? with | some (.w x) => x | some (.d x) => x | none => 0

/-- UNIT codes that stand for a Cairn: its own, or those of the engine and the core whose position 0 its array serves (R335). -/
def State.unitCodes (s : State) (id : Nat) : List Nat :=
  if kindOf id = 1 ∧ s.serving (coreOf id) 0 = id then [0x1000 + coreOf id, 0x2000 + coreOf id] else [id]

/-- The body of an event's own packet after the header: its TYPE, source bit and bytes (R335, R336). -/
def packetOf (n : NumEv) (hide : Bool) : Nat × Nat × List Byte :=
  let e := n.ev
  let seq := le 4 n.seq
  match e.name with
  | .own => (pkOwn, sbOwn, seq ++ le 2 (e.val 0) ++ le 2 (e.val 1) ++ le 2 (e.val 2))
  | .ctx => (pkCtx, sbCtx, seq ++ le 2 (e.val 0) ++ le 4 (e.val 1))
  | .dormant => (pkDormant, sbPwr, seq ++ le 2 (e.val 0) ++ le 8 e.stamp)
  | .resume =>
    (pkResume, sbPwr, seq ++ le 2 (e.val 0) ++ le 8 e.stamp ++ le 2 (if hide then 0 else e.val 1) ++ le 2 0
      ++ le 4 (if hide then 2 ^ 24 else e.val 2))
  | .fence => (pkFence, sbFence, seq ++ le 2 (e.val 0) ++ le 4 (e.val 3))
  | .remap => (pkRemap, sbRemap, seq ++ le 2 (e.val 0) ++ le 2 (e.val 1) ++ le 1 (e.val 2) ++ le 1 0)
  | _ =>
    let ws := evPayload e hide
    let code := match e.flt with | some i => (0xFF, i.bit) | none => evCode e.name
    (pkEvent, evBit e, seq ++ le 2 e.src ++ le 1 code.2 ++ le 1 code.1 ++ le 1 ws.length ++ le 1 0 ++ ws.flatMap (le 4))

/-! ### What is shown (R347, R348) -/

/-- Does SCR_RIGHTS hold TRACE_SECURE? -/
def State.secOk (s : State) : Bool := bit (s.rd R.SCR_RIGHTS) rtTraceSecure

/-- Blocks that await their consumer, and how many may (R343). -/
def State.awaiting (s : State) : Nat × Nat :=
  match s.trMode with
  | 1 => (s.scr.buf.length, 2048)
  | 2 => (s.scr.buf.length + s.scr.ring.length, 2048 + s.ringLen)
  | _ => (0, 1)

/-- F in percent, rounded down. -/
def State.fillPct (s : State) : Nat := s.awaiting.1 * 100 / s.awaiting.2

/-- The SCR page's read-only registers follow the trace. -/
def State.scrShow (s : State) : State :=
  let s := match s.scr.cur with
    | some b => (s.wr R.SCR_WR_BLK b.no).setF F.SCR_WR_OFF_OFF (8 + b.body.length)
    | none => s.setF F.SCR_WR_OFF_OFF 0
  let s := s.wr R.SCR_OLD_BLK (match s.scr.buf.head? with
    | some b => b.no
    | none => match s.scr.cur with | some b => b.no | none => s.rd R.SCR_WR_BLK)
  let s := (s.setF F.SCR_FILL_BLOCKS (if s.trMode = 0 then 0 else s.scr.buf.length)).setF F.SCR_FILL_F s.fillPct
  let s := s.setF F.SCR_STAT_RUNNING (b2n s.tracing)
  let s := s.setF F.SCR_STAT_SEC_DATA (b2n ((s.scr.buf ++ s.scr.cur.toList).any fun b => b.sec))
  let s := s.setF F.SCR_STAT_SEC_OK (b2n s.secOk)
  let s := (s.setF F.SCR_STAT_DRAINING (b2n s.scr.drain.isSome)).setF F.SCR_DRAIN_STAT_ACTIVE (b2n s.scr.drain.isSome)
  match s.scr.ring.head? with
  | some r => s.wr R.SCR_SPILL_OLD r.1
  | none => s

/-! ### The block being written (R332) -/

/-- Bytes a block holds after its header. -/
def blkRoom : Nat := 4088

/-- The 4,096 bytes of a block. -/
def Blk.bytes (b : Blk) : List Byte :=
  le 2 (b.first + 4096 * b2n b.dam + 8192 * b2n b.sec) ++ le 2 b.sync ++ le 4 b.no ++ b.body
    ++ List.replicate (blkRoom - b.body.length) 0

/-- Bytes the hub buffer can still take (R341, R343): in RING mode it never fills. -/
def State.bufSpace (s : State) : Nat :=
  (2048 - s.scr.buf.length) * blkRoom - (match s.scr.cur with | some b => b.body.length | none => 0)

/-- The block being written is complete; in RING mode the oldest makes room (R341). -/
def State.blkDone (s : State) : State :=
  match s.scr.cur with
  | none => s
  | some b =>
    let buf := s.scr.buf ++ [b]
    { s with scr := { s.scr with cur := none, buf := if s.trMode = 0 then buf.drop (buf.length - 2047) else buf } }

/-- The block being written, opened with the next BLOCK_NO where none is. -/
def State.blkOpen (s : State) : State :=
  match s.scr.cur with
  | some _ => s
  | none =>
    { s with scr := { s.scr with cur := some ⟨s.scr.nextNo, [], 0, 0, false, false, s.clk⟩, nextNo := (s.scr.nextNo + 1) % 2 ^ 32 } }

/-- The block being written changed. -/
def State.modBlk (s : State) (g : Blk → Blk) : State := { s with scr := { s.scr with cur := s.scr.cur.map g } }

/-- Bytes of one packet run into the block being written and on into the next (R332); `sec` marks each block they lie in. `fuel`
bounds the blocks entered. -/
def State.blkPut : Nat → State → List Byte → Bool → State
  | 0, s, _, _ => s
  | fuel + 1, s, bs, sec =>
    match bs with
    | [] => s
    | _ =>
      let s := s.blkOpen
      let room := blkRoom - (match s.scr.cur with | some b => b.body.length | none => 0)
      let s := s.modBlk fun b => { b with body := b.body ++ bs.take room, sec := b.sec || sec }
      if room ≤ bs.length then State.blkPut fuel s.blkDone (bs.drop room) sec else s

/-- A packet begins in the block being written. -/
def State.pktPut (s : State) (bs : List Byte) (isSync sec : Bool) : State :=
  let s := s.blkOpen
  let s := s.modBlk fun b =>
    let off := 8 + b.body.length
    { b with first := if b.first = 0 then off else b.first, sync := if isSync && b.sync == 0 then off else b.sync }
  State.blkPut 4 s bs sec

/-- Is the next packet the first to begin in a block whose BLOCK_NO is a multiple of 64 (R331)? -/
def State.atBoundary (s : State) : Bool :=
  match s.scr.cur with
  | some b => b.no % 64 == 0 && b.first == 0
  | none => s.scr.nextNo % 64 == 0

/-- A SYNC with its FLAGS and TIME (R331, R335), BOUNDARY among them where it begins a block that calls for one: the running time is
set, and every GC's address base is 0. -/
def State.syncPut (s : State) (flags time : Nat) : State :=
  let flags := if s.atBoundary then Nat.lor flags 4 else flags
  let bs := le 1 1 ++ le 1 (flags + 8 * s.f F.SCR_STAT_LEVEL) ++ le 2 s.trMask ++ le 8 time ++ le 4 (s.rd R.SUM_SEQ_EPOCH)
  let s := s.pktPut bs true false
  { s with scr := { s.scr with runT := time, bases := [] } }

/-- Where no packet has begun in a block whose BLOCK_NO is a multiple of 64, a SYNC with BOUNDARY comes first (R331). -/
def State.boundary (s : State) : State :=
  if s.atBoundary then s.syncPut 4 s.scr.runT else s

/-! ### Throttle (R343) -/

/-- The level that F and the level `cur` select below level 3. -/
def levelOf (pct1000 cur : Nat) : Nat :=
  if pct1000 ≥ (if cur ≥ 2 then 625 else 750) then 2 else if pct1000 ≥ (if cur ≥ 1 then 375 else 500) then 1 else 0

/-- The level in force now, as the mode, SCR_CTRL and F give it; level 3 is left once F is below 87.5 %. -/
def State.levelNow (s : State) : Nat :=
  let lo := min (s.f F.SCR_CTRL_MIN_LEVEL) 2
  let cur := s.f F.SCR_STAT_LEVEL
  let f := s.awaiting.1 * 1000 / s.awaiting.2
  if s.trMode = 0 then lo
  else if cur = 3 ∧ 875 ≤ f then 3
  else if s.f F.SCR_CTRL_AUTO_THR = 1 then max lo (levelOf f cur) else lo

/-- A GAP and the SYNC that follows it directly (R331, R335, R350): every path begins afresh, and the trace is whole from now on.
At level 3 nothing is written. -/
def State.gapPut (s : State) (cause lost : Nat) : State :=
  if !s.tracing || s.f F.SCR_STAT_LEVEL == 3 || (s.trMode != 0 && decide (s.bufSpace < 64)) then s else
  let s := s.boundary
  let s := s.pktPut (le 1 2 ++ le 1 cause ++ le 2 0 ++ le 4 (min lost (2 ^ 32 - 1))) false false
  let s := s.syncPut 2 s.now
  let s := { s with scr := { s.scr with contT := s.now } }
  (s.satAdd F.SCR_GAPS_CNT 1).raise .traceGap 0x100F [.w cause, .w (min lost (2 ^ 32 - 1))]

/-- A packet is lost at level 3. -/
def State.pktLost (s : State) : State :=
  let s := s.satAddR R.SCR_LOST 1
  { s with scr := { s.scr with lostNow := s.scr.lostNow + 1 } }

/-- Level 3 is entered (R343): from here nothing is written, its own STATE included, and packets count as lost. -/
def State.levelFull (s : State) : State :=
  if s.f F.SCR_STAT_LEVEL = 3 then s
  else
    let s := (s.setF F.SCR_STAT_LEVEL 3).satAddR R.SCR_LOST (b2n (s.trMask != 0))
    let s := { s with scr := { s.scr with lostNow := s.scr.lostNow + b2n (s.trMask != 0) } }
    s.raise .traceLevel 0x100F [.w 3, .w s.fillPct]

/-! ### The writer (R326, R329 to R331, R343) -/

/-- Was a source bit set at a stamp (R326)? -/
def State.spanAt (s : State) (b t : Nat) : Bool :=
  s.scr.spans.any fun x => x.1 == b && decide (x.2.1 ≤ t) && (match x.2.2 with | none => true | some e => decide (t < e))

/-- Does the trace hold a packet of a source bit with this stamp? -/
def State.bitAt (s : State) (b : Option Nat) (t : Nat) : Bool :=
  match b with
  | none => true
  | some b => if b = sbRedact then s.spanAt sbOwn t || s.spanAt sbCtx t || s.spanAt sbFlow t else s.spanAt b t

/-- A packet that levels 2 and 3 do not write though it is selected (R343, level 2). -/
def Pkt.throttled (p : Pkt) : Bool :=
  p.bit == some sbFlow || (p.typ == pkEvent && (p.bit == some sbDvfs || p.bit == some sbDispatch || p.bit == some sbHub))

/-- The bytes of a packet after its two header bytes, and the address base its GC has after it (R335, R337, R338). -/
def State.pktBody (s : State) (p : Pkt) : List Byte × SMap Nat :=
  if p.typ = pkFlow then
    (p.body ++ varint 10 (zigzag p.target (smGet 0 s.scr.bases p.gc)), smSet 0 s.scr.bases p.gc p.target)
  else if p.typ = pkLoss then (p.body, smSet 0 s.scr.bases p.gc 0)
  else (p.body, s.scr.bases)

/-- The two header bytes of a timed packet. -/
def pktHead (typ dt : Nat) : List Byte := le 1 (typ * 16 + dt / 256 % 16) ++ le 1 (dt % 256)

/-- A timed packet is written: behind LATE when its stamp has passed (R330), else behind as many TIMEX as its delta takes (R331). -/
def State.timedPut (s : State) (p : Pkt) : State :=
  let late := decide (p.stamp < s.scr.runT)
  let s := if late then ((s.boundary).pktPut (le 1 3 ++ le 8 p.stamp) false false).satAdd F.SCR_LATE_CNT 1
    else (List.range ((p.stamp - s.scr.runT) / 4096 + 1)).foldl (fun s _ =>
      if s.scr.runT + 4095 < p.stamp then
        let s := (s.boundary).pktPut (pktHead 0xB 4095) false false
        { s with scr := { s.scr with runT := s.scr.runT + 4095 } }
      else s) s
  let s := s.boundary
  let dt := if late then 0 else p.stamp - s.scr.runT
  let b := s.pktBody p
  let s := s.pktPut (pktHead p.typ dt ++ b.1) false p.sec
  { s with scr := { s.scr with bases := b.2, runT := if late then s.scr.runT else p.stamp } }

/-- Does the buffer hold room for a packet with what precedes it? -/
def State.pktFits (s : State) (p : Pkt) : Bool :=
  s.trMode == 0 || decide (p.body.length + 64 + 2 * ((p.stamp - s.scr.runT) / 4095) < s.bufSpace)

/-- A packet leaves the stage: discarded outside its bit's span, lost at level 3 or when no block is free, dropped at level 2,
else written. -/
def State.pktWrite (s : State) (p : Pkt) : State :=
  if !s.bitAt p.bit p.stamp then s
  else if s.f F.SCR_STAT_LEVEL = 3 then s.pktLost
  else if s.f F.SCR_STAT_LEVEL = 2 ∧ p.throttled then s.satAddR R.SCR_DROP 1
  else if !s.pktFits p then s.levelFull.pktLost
  else if p.typ = pkSync then s.syncPut p.key p.stamp
  else s.timedPut p

/-- The order of two packets in the stage: stamp, then kind, then key (R329). -/
def Pkt.before (a b : Pkt) : Bool :=
  decide (a.stamp < b.stamp) || (a.stamp == b.stamp && (decide (a.ord < b.ord) || (a.ord == b.ord && decide (a.key < b.key))))

/-- The packet of a list that is to be written first, the earliest to arrive among equals. -/
def firstPkt : List Pkt → Option Pkt
  | [] => none
  | p :: ps => match firstPkt ps with | none => some p | some q => if q.before p then some q else some p

/-- A packet enters the stage. -/
def State.stageIn (s : State) (p : Pkt) : State := { s with scr := { s.scr with stage := s.scr.stage ++ [p] } }

/-- A full stage writes its oldest packet at once (R329). -/
def State.stageRoomFor (s : State) : State :=
  if s.scr.stage.length < 4096 then s
  else match firstPkt s.scr.stage with
    | none => s
    | some p => ({ s with scr := { s.scr with stage := s.scr.stage.erase p } }).pktWrite p

/-- A STATE packet (R335), stamped `t`. -/
def State.stateIn (s : State) (t cause : Nat) : State :=
  s.stageRoomFor.stageIn ⟨t, 1, 0, pkState, none, false, 0, 0,
    le 2 s.trMask ++ le 1 cause ++ le 1 (s.f F.SCR_STAT_LEVEL) ++ le 1 (s.f F.SCR_CTRL_SAMPLE) ++ le 1 0⟩

/-- The level is brought to `v` (R343): STATE and TRACE_LEVEL; leaving level 3, GAP and SYNC come first. -/
def State.levelSet (s : State) (v : Nat) : State :=
  let cur := s.f F.SCR_STAT_LEVEL
  if v = cur then s
  else if v = 3 then s.levelFull
  else
    let s := s.setF F.SCR_STAT_LEVEL v
    let s := if cur = 3 then
        let g := s.gapPut 1 s.scr.lostNow
        { g with scr := { g.scr with lostNow := 0 } }
      else s
    (if s.trMask = 0 then s else s.stateIn s.now 2).raise .traceLevel 0x100F [.w v, .w s.fillPct]

/-- The level follows F, SCR_CTRL and the mode. -/
def State.levelFit (s : State) : State := (s.levelSet s.levelNow).scrShow

/-- The flush after a stop ends once the stage is empty of what the stop leaves and no packet before its T can come (R341): the block is
completed with PAD, whether or not a start has taken effect meanwhile. -/
def State.flushEnd (s : State) : State :=
  match s.scr.flush with
  | some t =>
    if (s.scr.stage.all fun p => decide (t < p.stamp)) && decide (t + 256 ≤ s.now) then
      let s := { s with scr := { s.scr with flush := none, spans := if s.trMask = 0 then [] else s.scr.spans } }
      (match s.scr.cur with | some b => if b.body.isEmpty then s else s.blkDone | none => s).levelFit
    else s
  | none => s

/-- The earliest packet of the stage is written, if 256 tk have passed since its stamp or `full` (R329). -/
def State.writeOne (s : State) (full : Bool) : State :=
  let s := s.flushEnd
  match firstPkt s.scr.stage with
  | none => s
  | some p =>
    if full || decide (p.stamp + 256 ≤ s.now) then
      let s := { s with scr := { s.scr with stage := s.scr.stage.erase p } }
      ((s.pktWrite p).levelFit).flushEnd
    else s

/-- A packet enters the reorder stage while the trace runs; a full stage first writes its oldest (R329). -/
def State.stagePkt (s : State) (p : Pkt) : State :=
  if !s.tracing then s
  else (if s.scr.stage.length < 4096 then s else s.writeOne true).stageIn p

/-! ### Events and secure contexts (R325, R340) -/

/-- DURATION and PRE of a secure period that began at `since` and ends at `t` (R340). -/
def State.duration (s : State) (since t : Nat) : Nat × Bool :=
  (t - max since s.scr.contT, decide (since < s.scr.contT))

/-- A REDACTED packet for UNIT `u` (R335, R340). -/
def State.redactIn (s : State) (u since t epoch seq : Nat) (isOpen : Bool) : State :=
  let d := s.duration since t
  s.stagePkt ⟨t, 2, if isOpen then u else (epoch * 2 ^ 32 + seq) * 2, pkRedacted, if isOpen then none else some sbRedact, false, 0, 0,
    le 4 (if isOpen then 0 else seq) ++ le 2 (u + 0x4000 * b2n isOpen + 0x8000 * b2n d.2) ++ le 8 d.1⟩

/-- The secure period of UNIT `u` ends with a numbered event. -/
def State.secEnd (s : State) (n : NumEv) (u : Nat) : State :=
  match smGet none s.scr.secure u with
  | none => s
  | some since =>
    let s := if s.secOk then s else s.redactIn u since n.ev.stamp n.epoch n.seq false
    { s with scr := { s.scr with secure := smSet none s.scr.secure u none } }

/-- The secure period of UNIT `u` begins, unless it is in one. -/
def State.secBegin (s : State) (t u : Nat) : State :=
  if (smGet none s.scr.secure u).isSome then s else { s with scr := { s.scr with secure := smSet none s.scr.secure u (some t) } }

/-- Is any of the UNIT codes in a secure period? -/
def State.anySec (s : State) (us : List Nat) : Bool := us.any fun u => (smGet none s.scr.secure u).isSome

/-- The packet of a numbered event enters the stage. -/
def State.eventPkt (s : State) (n : NumEv) (hide sec : Bool) : State :=
  let p := packetOf n hide
  s.stagePkt ⟨n.ev.stamp, 2, (n.epoch * 2 ^ 32 + n.seq) * 2 + 1, p.1, some p.2.1, sec, 0, 0, p.2.2⟩

/-- The writer takes a numbered event, whether or not the trace is running (R325, R340). -/
def State.scrEvent (s : State) (n : NumEv) : State :=
  let e := n.ev
  let unit := e.val 0
  match e.name with
  | .own | .ctx =>
    if e.sec then
      let s := s.secBegin e.stamp unit
      if s.secOk then s.eventPkt n false true else s
    else (s.secEnd n unit).eventPkt n false false
  | .dormant =>
    let us := s.unitCodes (unit % 4096)
    let sec := s.anySec us
    (us.foldl (fun s u => s.secEnd n u) s).eventPkt n false (sec && s.secOk)
  | .resume =>
    let s := if e.sec then (s.unitCodes (unit % 4096)).foldl (fun s u => s.secBegin e.stamp u) s else s
    s.eventPkt n (e.sec && !s.secOk) (e.sec && s.secOk)
  | _ =>
    let sec := decide (e.src < 0xBC0) && e.sec && (packetOf n false).1 == pkEvent
    if sec && !s.secOk then (if e.flt.isSome then s.eventPkt n true false else s) else s.eventPkt n false sec

/-- UNIT of a unit event (R335): its SCOPE and the GC's Cairn ID, or the core of the array that reports. -/
def unitCode (scope id : Nat) : Nat := scope * 0x1000 + (if scope = 0 then id else coreOf id)

/-- May a Cairn report with this SCOPE: a GC with 0, the array that serves position 0 of a core with 1 and 2 (R335)? -/
def State.scopeOk (s : State) (scope id : Nat) : Bool :=
  if scope = 0 then kindOf id == 2
  else decide (scope < 3) && kindOf id == 1 && s.serving (coreOf id) 0 == id

/-- The powered units whose ownership or context a report of this SCOPE names (R335; 05 R166): the GC itself, the arrays that serve the
engine's positions, or these and the GCs of the core. -/
def State.scopeUnits (s : State) (scope id : Nat) : List Nat :=
  if scope = 0 then [id]
  else (s.cairns.filter fun e => e.2.powered &&
    ((kindOf e.1 == 1 && coreOf e.1 == coreOf id && (s.posOf e.1).isSome) ||
      (scope == 2 && kindOf e.1 == 2 && coreOf e.1 == coreOf id))).map (·.1)

/-- A unit's own change reaches its Cairn (R325, R335, R339): the summary registers of every unit it concerns follow, and its event is raised
with the leaf's value. -/
def State.unitEvent (s : State) (id leaf : Nat) (u : UnitEvent) : State :=
  let c := s.cairn id
  match u with
  | .own scope tenant sec =>
    if !s.scopeOk scope id then s
    else
      (s.forEach (s.scopeUnits scope id) fun s i =>
        s.modC i fun c => (c.setF CF.U_OWNER_TENANT tenant).setF CF.U_OWNER_SEC (b2n sec)).raiseC id .own leaf
        [.w (unitCode scope id), .w (tenant % 65536), .w (c.f CF.U_OWNER_TENANT)] sec
  | .ctx scope context sec =>
    if !s.scopeOk scope id then s
    else
      (s.forEach (s.scopeUnits scope id) fun s i =>
        s.modC i fun c => (c.setF CF.U_CTX_CTX context).setF CF.U_OWNER_SEC (b2n sec)).raiseC id .ctx leaf
        [.w (unitCode scope id), .w (context % 2 ^ 20 + 2 ^ 24 * b2n sec)] sec
  | .lowPower => (s.modC id fun c => { c with asleep := true, dormT := leaf }).raiseC id .dormant leaf [.w id]
  | .wake =>
    let s := s.modC id fun c => { c with asleep := false }
    let sec := c.f CF.U_OWNER_SEC == 1
    s.raiseC id .resume leaf [.w id, .w (c.f CF.U_OWNER_TENANT), .w (c.f CF.U_CTX_CTX + 2 ^ 24 * b2n sec)] sec

/-! ### Starts and stops (R327, R328) -/

/-- FLOW selection words SCR_FLOW_EN0 to 7. -/
def State.flowSel (s : State) : List Nat := (List.range 8).map fun k => s.rd (R.SCR_FLOW_EN k)

/-- The union of two selections. -/
def flowOr (a b : List Nat) : List Nat := (List.range 8).map fun k => Nat.lor (a.getD k 0) (b.getD k 0)

/-- GC leaves whose flow is enabled, or will be by a pending start. -/
def State.flowLive (s : State) : List Nat :=
  s.scr.acts.foldl (fun ws a => if a.start then flowOr ws a.flow else ws) (if bit s.trMask sbFlow then flowOr s.scr.flowOn [] else flowOr [] [])

/-- Would a selection make a fifth pending action at a leaf (R327; 03 R97)? -/
def State.flowFull (s : State) (ws : List Nat) : Bool :=
  (List.range 256).any fun g => flowBit ws g && decide (4 ≤ s.everyLeaf + s.flowAt g)

/-- Outcomes of a trace request (R347, SCR_CMD_STAT). -/
def trScheduled : Nat := 0
def trSchedFull : Nat := 1
def trNoEffect : Nat := 2

/-- A trace start or stop is requested (R327): the outcome, and whether T was raised. `abs` is the T of a request with ABS. -/
def State.traceReq (s : State) (start : Bool) (mask : Nat) (abs : Option Nat) (rights src : Nat) : State × Nat × Bool :=
  let m := mask % 4096
  if m = 0 ∨ (start ∧ s.f F.SCR_STAT_RING_FULL = 1) then (s, trNoEffect, false) else
  let t := match abs with | some x => max x s.minT | none => s.now + s.cutLead
  let clamped := match abs with | some x => decide (x < s.minT) | none => false
  let flow := if bit m sbFlow then (if start then s.flowSel else s.flowLive) else []
  if s.flowFull flow then (s, trSchedFull, false) else
  let s := { s with scr := { s.scr with acts := s.scr.acts ++ [⟨start, t, m, rights, flow, src⟩] } }
  let s := if flow.any (· ≠ 0) then (s.send ⟨if start then .traceStart else .traceStop, t, m, 0⟩).2 else s
  (s, trScheduled, clamped)

/-- The spans after the mask becomes `m` at `t`. -/
def spansTo (spans : List (Nat × Nat × Option Nat)) (old m t : Nat) : List (Nat × Nat × Option Nat) :=
  (spans.map fun x => if x.2.2.isNone && !bit m x.1 then (x.1, x.2.1, some t) else x)
    ++ ((List.range 12).filter fun b => bit m b && !bit old b).map fun b => (b, t, none)

/-- The enabled mask becomes `m` at `t` (R327, R340, R341, R342): STATE and TRACE_STATE where it changes, a REDACTED with OPEN for each
secure unit when OWN, CTX and FLOW all become clear, and the flush when the mask becomes 0. -/
def State.maskTo (s : State) (m t cause src : Nat) : State :=
  let old := s.trMask
  if m = old then s else
  let s := { s with scr := { s.scr with spans := spansTo s.scr.spans old m t } }
  let hush := Nat.land old 0x23 != 0 && Nat.land m 0x23 == 0 && !s.secOk
  let s := if hush then s.scr.secure.foldl (fun s x => match x.2 with | some since => s.redactIn x.1 since t 0 0 true | none => s) s else s
  let s := s.setF F.SCR_STAT_MASK m
  let s := s.stateIn t cause
  let s := { s with scr := { s.scr with flush := if m = 0 then some t else s.scr.flush } }
  (s.raise .traceState 0x100F [.d t, .w m, .w cause, .w src]).scrShow

/-- The scheduled action that is to take effect first. -/
def firstAct : List TrAct → Option TrAct
  | [] => none
  | a :: as => match firstAct as with | none => some a | some b => if b.t < a.t then some b else some a

/-- A GC that a start newly selects begins its flow afresh (R337): its first retirement in range is an entry, and nothing is counted before it. -/
def Cairn.flowNew (c : Cairn) : Cairn := { c with flowRun := false, icount := 0, flowLast := 0 }

/-- A trace start takes effect (R327, R328, R331). -/
def State.traceOn (s : State) (a : TrAct) : State :=
  if s.f F.SCR_STAT_RING_FULL = 1 then s else
  let old := s.trMask
  let s := s.wr R.SCR_RIGHTS (if old = 0 then a.rights else Nat.land (s.rd R.SCR_RIGHTS) a.rights)
  let s := if old = 0 then
      { s with scr := { s.scr with contT := a.t, lastSync := ceilDiv a.t 65536 - 1, ring := s.scr.ring.map fun r => (r.1, false) } }
    else s
  let s := if bit a.mask sbFlow then
      let was := if bit old sbFlow then s.scr.flowOn else []
      ({ s with scr := { s.scr with flowOn := flowOr was a.flow } }).forEach
        (((List.range 256).filter fun g => flowBit a.flow g && !flowBit was g).map (0x420 + ·)) fun s id => s.modC id Cairn.flowNew
    else s
  let s := s.maskTo (Nat.lor old a.mask) a.t 0 a.src
  (if old = 0 then s.stagePkt ⟨a.t, 0, 1, pkSync, none, false, 0, 0, []⟩ else s).scrShow

/-- A trace stop takes effect. The FLOW selection stands for the leaves that have yet to read its T (R327). -/
def State.traceOff (s : State) (a : TrAct) : State :=
  s.maskTo (s.trMask - Nat.land s.trMask a.mask) a.t 1 a.src

/-- The first scheduled start or stop whose T has come takes effect. -/
def State.traceEffect (s : State) : State :=
  match firstAct (s.scr.acts.filter fun a => decide (a.t ≤ s.now)) with
  | none => s
  | some a =>
    let s := { s with scr := { s.scr with acts := s.scr.acts.erase a } }
    if a.start then s.traceOn a else s.traceOff a

/-- A master's write to SCR_CMD (R327, R348). -/
def State.scrCmd (s : State) (m : Master) (v rights : Nat) : State :=
  let op := bits v 0 2
  if op = 0 ∨ op = 3 then s else
  let r := s.traceReq (op == 1) (v / 65536) (if bit v 2 then some (s.rd64 R.SCR_REQ_T_LO) else none) rights (mSrc m)
  (r.1.setF (bkF m F.SCR_CMD_STAT_OUTCOME) r.2.1).setF (bkF m F.SCR_CMD_STAT_CLAMPED) (b2n r.2.2)

/-- The scheduled SYNCs that are due: one for each multiple of 65,536 that the master value has come to while the trace runs (R331). -/
def State.syncTimer (s : State) : State :=
  let k := s.now / 65536
  let k0 := s.scr.lastSync
  if s.trMask = 0 ∨ k ≤ k0 then s
  else
    let s := { s with scr := { s.scr with lastSync := k } }
    (List.range (k - k0)).foldl (fun s i => s.stagePkt ⟨(k0 + 1 + i) * 65536, 0, 0, pkSync, none, false, 0, 0, []⟩) s

/-- A write to SCR_MARK (R335, R347): a MARK while its bit is enabled. -/
def State.scrMark (s : State) (m : Master) (v : Nat) : State :=
  if bit s.trMask sbMark then s.stagePkt ⟨s.now, 5, 0, pkMark, some sbMark, false, 0, 0, le 2 (mNum m) ++ le 4 v⟩ else s

/-! ### Control flow (R337, R338) -/

/-- Does a program counter lie in a GC's range: RG's BASE, LIM and OUTSIDE, whatever its other fields hold? -/
def Cairn.flowRange (c : Cairn) (pc : Nat) : Bool :=
  let base := c.rd C.RNG_BASE_LO + 2 ^ 32 * c.rd C.RNG_BASE_HI
  let lim := c.rd C.RNG_LIM_LO + 2 ^ 32 * c.rd C.RNG_LIM_HI
  (decide (base ≤ pc) && decide (pc ≤ lim)) != (c.f CF.RNG_CTRL_OUTSIDE == 1)

/-- A GC's Cairn takes one FLOW for transport, or drops and counts it when its queue is full (R338): stamp, W1, ICOUNT, target, and whether the
unit was secure when it retired (R340). -/
def Cairn.flowPush (c : Cairn) (x : List Nat) : Cairn :=
  if c.flow.length < 16 then { c with flow := c.flow ++ [x] } else { c with flowLost := min (c.flowLost + 1) (2 ^ 32 - 1) }

/-- A running GC retires an instruction that the trace may show (R337): `n` retirements since the last one shown to Scree, this one
included; `transfer` and `exc` for a taken transfer to `target`. -/
def State.flowRetire (s : State) (id pc n : Nat) (transfer : Bool) (target : Nat) (exc : Bool) (leaf : Nat) : State :=
  let c := s.cairn id
  if !(s.spanAt sbFlow leaf && flowBit s.scr.flowOn (id - 0x420)) then s.setCairn id { c with flowRun := false }
  else if !c.flowRange pc then s.setCairn id { c with flowRun := false, icount := c.icount + n }
  else
    let entry := !c.flowRun
    let c := if entry then { c.flowPush [leaf, id + 4096, 0, pc, c.f CF.U_OWNER_SEC] with flowRun := true, icount := 1 } else { c with icount := c.icount + n }
    if !transfer then s.setCairn id c
    else
      let sampled := s.f F.SCR_STAT_LEVEL == 1
      let k := c.flowLast + 1
      if sampled && decide (k < 2 ^ s.f F.SCR_CTRL_SAMPLE) then (s.setCairn id { c with flowLast := k }).satAddR R.SCR_DROP 1
      else
        let w := id + 8192 * b2n exc + 16384 * b2n sampled
        s.setCairn id { (c.flowPush [leaf, w, c.icount % 2 ^ 32, target, c.f CF.U_OWNER_SEC]) with icount := 0, flowLast := 0 }

/-- The oldest FLOW of a GC's Cairn reaches the writer (R338): of a retirement in a secure period it is recorded only under TRACE_SECURE (R340). -/
def State.flowMove (s : State) (id : Nat) : State :=
  let c := s.cairn id
  match c.flow with
  | [] => s
  | x :: xs =>
    let s := s.setCairn id { c with flow := xs }
    let sec := x.getD 4 0 == 1
    if sec && !s.secOk then s
    else s.stagePkt ⟨x.getD 0 0, 4, id, pkFlow, some sbFlow, sec, id, x.getD 3 0, le 2 (x.getD 1 0) ++ varint 5 (x.getD 2 0)⟩

/-- The one LOSS packet a GC's Cairn sends once its queue has space (R338). -/
def State.flowLoss (s : State) (id leaf : Nat) : State :=
  let c := s.cairn id
  if c.flowLost = 0 ∨ 16 ≤ c.flow.length then s
  else
    let s := (s.setCairn id { c with flowLost := 0 }).satAddR R.SCR_LOST c.flowLost
    s.stagePkt ⟨leaf, 4, id, pkLoss, some sbFlow, false, id, 0, le 2 id ++ le 4 c.flowLost⟩

/-- Every GC's Cairn with a FLOW waiting sends one. -/
def State.flowTick (s : State) : State :=
  ((s.cairns.filter fun e => !e.2.flow.isEmpty).map (·.1)).foldl State.flowMove s

/-! ### Blocks leave the buffer (R341, R342) -/

/-- Device byte address of a block in the spill ring. -/
def State.slotAddr (s : State) (no : Nat) : Nat :=
  s.rd64 R.SCR_SPILL_BASE_LO / 2 ^ 20 * 2 ^ 20 + no % s.ringLen * 4096

/-- The oldest block of the buffer moves to its slot of the ring; what held the slot is overwritten. -/
def State.ringPut (s : State) : State :=
  match s.scr.buf with
  | [] => s
  | b :: rest =>
    let s := s.putBytes (fun i => s.slotAddr b.no + i) b.bytes
    let n := s.ringLen
    let s := { s with scr := { s.scr with buf := rest, ring := (s.scr.ring.filter fun (r : Nat × Bool) => decide (r.1 % n ≠ b.no % n)) ++ [(b.no, true)] } }
    (s.wr R.SCR_SPILL_WR b.no).levelFit

/-- The ring is full with RING_STOP (R342): the mask is cleared, STATE has cause RING_FULL, and SPILL_FULL is raised. -/
def State.ringStop (s : State) (no : Nat) : State :=
  if s.f F.SCR_STAT_RING_FULL = 1 then s
  else ((s.setF F.SCR_STAT_RING_FULL 1).maskTo 0 s.now 4 0x100F).raise .spillFull 0x100F [.w no]

/-- The spill engine writes a completed block to the ring where the mode calls for it (R341, R342), unless a warm reset has it wait
for the BMUs (R346). -/
def State.spill (s : State) : State :=
  if s.scr.paused || s.ringLen == 0 then s
  else match s.scr.buf with
    | [] => s
    | b :: _ =>
      if s.trMode = 1 then
        let laps := s.scr.ring.any fun r => r.1 % s.ringLen == b.no % s.ringLen && r.2
        if s.f F.SCR_CTRL_RING_STOP = 1 ∧ laps then s.ringStop b.no else s.ringPut
      else if s.trMode = 2 ∧ 1024 < s.scr.buf.length ∧ s.scr.ring.length < s.ringLen then s.ringPut
      else s

/-- In PORT mode a block that has held data for 250,000 tk is completed with PAD (R341). -/
def State.padTimeout (s : State) : State :=
  match s.scr.cur with
  | some b => if s.trMode = 2 ∧ !b.body.isEmpty ∧ b.t + 250000 ≤ s.clk then (s.blkDone).levelFit else s
  | none => s

/-- An uncorrectable word is read in a block of the hub buffer (R345, R349). -/
def State.bufUc (s : State) (no : Nat) : State :=
  if (s.scr.buf ++ s.scr.cur.toList).any fun b => b.no == no then
    let mark := fun (b : Blk) => if b.no = no then { b with dam := true } else b
    ({ s with scr := { s.scr with buf := s.scr.buf.map mark, cur := s.scr.cur.map mark } }).hubMemFault 0x0B 1 none
  else s

/-! ### Drains and windows (R344) -/

/-- A block as it is given out: its packets withheld when it holds secure content and the reader lacks TRACE_SECURE. -/
def Blk.given (b : Blk) (ok : Bool) : List Byte :=
  if b.sec && !ok then b.bytes.take 8 ++ List.replicate blkRoom 0 else b.bytes

/-- A block of the spill ring, read from stack memory. -/
def State.ringBlk (s : State) (no : Nat) : List Byte := (List.range 4096).map fun i => smGet 0 s.mem (s.slotAddr no + i)

/-- The bytes of a block the trace still holds, as they may be sent: none where it has been overwritten. -/
def State.blkSend (s : State) (no : Nat) (ok : Bool) : Option (Bool × List Byte) :=
  match s.scr.buf.find? fun b => b.no == no with
  | some b => some (b.sec && !ok, b.given ok)
  | none =>
    if s.scr.ring.any fun r => r.1 == no then
      let bs := s.ringBlk no
      let sec := bit (ofLe (bs.take 2)) 13
      some (sec && !ok, if sec && !ok then bs.take 8 ++ List.replicate blkRoom 0 else bs)
    else none

/-- A drain ends (R344, R350): 1 STOP, 2 SESSION, 3 SOFT_RESET, 4 DONE. -/
def State.trDrainEnd (s : State) (cause : Nat) : State :=
  match s.scr.drain with
  | none => s
  | some d =>
    let s := { s with scr := { s.scr with drain := none } }
    let s := (s.setF F.SCR_DRAIN_STAT_END cause).scrShow
    s.raise .traceDrainEnd 0x100F [.w cause, .w (d.acked.getD 0)]

/-- A write of SCR_DRAIN_CTRL (R344, R348): WINDOW, then START, then STOP. -/
def State.trDrainCtrl (s : State) (v : Nat) : State :=
  let s := s.setF F.SCR_DRAIN_CTRL_WINDOW (bits v 8 6)
  let s := if bit v 0 && s.scr.drain.isNone then
      let copy := s.trMode != 2
      let held := s.scr.ring.map (·.1) ++ s.scr.buf.map (·.no)
      let s := ({ s with scr := { s.scr with drain := some ⟨copy, if copy then held else [], [], none⟩ } }).scrShow
      if copy && held.isEmpty then s.trDrainEnd 4 else s
    else s
  if bit v 1 then s.trDrainEnd 1 else s

/-- The next block a drain sends within its window. -/
def State.trNext (s : State) : Option Nat :=
  match s.scr.drain with
  | none => none
  | some d =>
    if max (s.f F.SCR_DRAIN_CTRL_WINDOW) 1 ≤ d.sent.length then none
    else if d.copy then d.todo.head?
    else (s.scr.ring.map (·.1) ++ s.scr.buf.map (·.no)).find? fun n => !d.sent.contains n

/-- A drain has sent a block; a copy ends with its last. -/
def State.trSent (s : State) (no : Nat) : State :=
  match s.scr.drain with
  | none => s
  | some d =>
    let d := { d with todo := d.todo.drop 1, sent := d.sent ++ [no] }
    let s := ({ s with scr := { s.scr with drain := some d } }).wr R.SCR_DRAIN_SENT no
    if d.copy && d.todo.isEmpty then s.trDrainEnd 4 else s

/-- The blocks of a list up to and with block `no`. -/
def upTo (no : Nat) : List Nat → List Nat
  | [] => []
  | n :: ns => if n = no then [n] else n :: upTo no ns

/-- A write to SCR_DRAIN_ACK (R344): one that names no sent block is ignored; in PORT mode blocks up to it are freed. -/
def State.trAck (s : State) (no : Nat) : State :=
  match s.scr.drain with
  | none => s
  | some d =>
    if !d.sent.contains no then s
    else
      let gone := upTo no d.sent
      let s := { s with scr := { s.scr with drain := some { d with sent := d.sent.filter fun n => !gone.contains n, acked := some no } } }
      if d.copy then s.scrShow
      else
        ({ s with scr := { s.scr with buf := s.scr.buf.filter fun b => !gone.contains b.no,
                                      ring := s.scr.ring.filter fun (r : Nat × Bool) => !gone.contains r.1 } }).levelFit

/-- The block a master's SCR_RD_BLK shows, if the hub buffer holds it. -/
def State.rdBlk (s : State) (m : Master) : Option Blk :=
  (s.scr.buf ++ s.scr.cur.toList).find? fun b => b.no == s.rd (bk m R.SCR_RD_BLK)

/-- SCR_RD_STAT of a master (R347). -/
def State.rdStat (s : State) (m : Master) : Nat :=
  match s.rdBlk m with
  | none => 0
  | some b => 1 + 2 * b2n b.dam + 4 * b2n (b.sec && !s.has m rtTraceSecure)

/-- Word `k` of SCR_RD_WIN for a master (R344, R347). -/
def State.rdWin (s : State) (m : Master) (k : Nat) : Nat :=
  match s.rdBlk m with
  | none => 0
  | some b =>
    if b.sec && !s.has m rtTraceSecure then 0
    else ofLe ((b.bytes.drop (2048 * s.f (bkF m F.SCR_RD_HALF_HALF) + 4 * k)).take 4)

/-! ### The control register and resets (R341, R346, R348) -/

/-- No block awaits a consumer and the mask is 0: the mode and the ring may be changed (R341). -/
def State.scrFree (s : State) : Bool := s.trMask == 0 && s.awaiting.1 == 0

/-- CLEAR (R345, R348): the buffer and the ring's content go, while the mask is 0. -/
def State.scrClear (s : State) : State :=
  if s.trMask = 0 then
    (({ s with scr := { s.scr with cur := none, buf := [], ring := [] } }).setF F.SCR_STAT_RING_FULL 0).levelFit
  else s

/-- A write of SCR_CTRL (R341, R348). -/
def State.scrCtrl (s : State) (v : Nat) : State :=
  let s := if bit v 3 then s.scrClear else s
  let s := if s.scrFree then (s.setF F.SCR_CTRL_MODE v).setF F.SCR_CTRL_RING_STOP (v / 4) else s
  (((s.setF F.SCR_CTRL_AUTO_THR (v / 16)).setF F.SCR_CTRL_MIN_LEVEL (v / 32)).setF F.SCR_CTRL_SAMPLE (v / 256)).levelFit

/-- TRACE_SECURE is removed from SCR_RIGHTS and from the sets of pending starts (R328), with a STATE of cause RIGHTS while the trace
runs (R346; 14 R438). -/
def State.scrUnsec (s : State) : State :=
  let s := s.wr R.SCR_RIGHTS (clrBit (s.rd R.SCR_RIGHTS) rtTraceSecure)
  let s := { s with scr := { s.scr with acts := s.scr.acts.map fun (a : TrAct) => { a with rights := clrBit a.rights rtTraceSecure } } }
  (if s.trMask = 0 then s else s.stateIn s.now 3).scrShow

/-- The trace at a chip warm reset (R346). -/
def State.scrWarm (s : State) : State :=
  let s := s.gapPut 3 0
  ({ s with scr := { s.scr with secure := [], paused := true } }).scrUnsec

/-- The trace when a Spur is declared lost (R345). -/
def State.scrSpur (s : State) : State := (s.gapPut 2 0).scrShow

/-- The trace at a hub soft reset (R346): abandoned, but for the next BLOCK_NO. -/
def State.scrSoft (s : State) : State := { s with scr := ScrSt.init s.scr.nextNo }

end Sys2Proof.Machine
end

