-- ==== Sys2Proof/Machine/Crest.lean ====
section
/-! DEFINITION. Machine/Crest.lean: the Crest blocks of the Cairns, the channels and the sequencer (06). -/

namespace Sys2Proof.Machine

/-- The source number of Crest (06). -/
def crsSrc : Nat := 0x1001

/-! ### Comparators, counters and outputs of a Cairn (R180 to R184) -/

/-- Does a unit have an observation point (R180)? OBS 1 of a router is there at mesh 0 sites only. -/
def obsThere (id obs : Nat) : Bool := obs == 0 || (obs == 1 && (kindOf id == 1 || kindOf id == 2 || mesh0 id))

/-- The pair of Cairn registers at `lo` as one 64-bit value. -/
def Cairn.rd64 (c : Cairn) (lo : Nat) : Nat := c.rd lo + 2 ^ 32 * c.rd (lo + 4)

/-- Does an access kind pass AKIND (R182)? -/
def akindOk (akind kind : Nat) : Bool := akind == 0 || akind == kind

/-- Does comparator `k` match an access (R182)? -/
def Cairn.cmpHit (c : Cairn) (k : Nat) (a : ObsAcc) : Bool :=
  let am := c.rd64 (C.CMP_AMASK_LO k)
  let vm := c.rd64 (C.CMP_VMASK_LO k)
  let addr := Nat.land a.addr am == Nat.land (c.rd64 (C.CMP_ADDR_LO k)) am
  let v := Nat.land a.val vm
  let w := Nat.land (c.rd64 (C.CMP_VAL_LO k)) vm
  c.f (CF.CMP_CTRL_EN k) == 1 && a.obs == c.f (CF.CMP_CTRL_OBS k) && akindOk (c.f (CF.CMP_CTRL_AKIND k)) a.kind
    && (addr != (c.f (CF.CMP_CTRL_AINV k) == 1))
    && (match c.f (CF.CMP_CTRL_VMODE k) with | 0 => true | 1 => v == w | 2 => v != w | _ => decide (w ≤ v))

/-- Does the range comparator match an access (R182)? -/
def Cairn.rngHit (c : Cairn) (a : ObsAcc) : Bool :=
  let inside := decide (c.rd64 C.RNG_BASE_LO ≤ a.addr) && decide (a.addr ≤ c.rd64 C.RNG_LIM_LO)
  c.f CF.RNG_CTRL_EN == 1 && a.obs == c.f CF.RNG_CTRL_OBS && akindOk (c.f CF.RNG_CTRL_AKIND) a.kind
    && (inside != (c.f CF.RNG_CTRL_OUTSIDE == 1))

/-- Does a unit kind have an event code (R183)? -/
def evtThere (kind code : Nat) : Bool := code == 5 || (decide (8 ≤ code) && decide (code ≤ 11)) || (kind == 3 && (code == 12 || code == 13))

/-- Is a counter's own event, other than another counter's terminal, present on the edge (R183)? -/
def evtNow (kind : Nat) (c0 c1 rg upd : Bool) (evs : List Nat) (evt : Nat) : Bool :=
  match evt with
  | 0 => c0
  | 1 => c1
  | 2 => rg
  | 4 => upd
  | n => evtThere kind n && evs.contains n

/-- One count of an event counter: the value after it, and its terminal (R183). -/
def ecntStep (val lim : Nat) (auto : Bool) : Nat × Bool :=
  if lim = 0 then ((val + 1) % 2 ^ 32, false)
  else if !auto && val == lim then (val, false)
  else if val + 1 = lim then (if auto then 0 else lim, true)
  else ((val + 1) % 2 ^ 32, false)

/-- Counter `k` of a Cairn counts once; its terminal joins the list. -/
def Cairn.ecnt (c : Cairn) (k : Nat) : Cairn × Bool :=
  let r := ecntStep (c.rd (C.ECNT_VAL k)) (c.rd (C.ECNT_LIM k)) (c.f (CF.ECNT_CFG_AUTO_RESET k) == 1)
  (c.wr (C.ECNT_VAL k) r.1, r.2)

/-- The counters that count `k`'s terminal (EVT 3): each counts at most once on an edge, `fuel` of them at most in a chain. -/
def Cairn.chain : Nat → Cairn → List Nat → List Nat → Cairn × List Nat
  | 0, c, _, terms => (c, terms)
  | fuel + 1, c, done, terms =>
    match [0, 1, 2, 3].find? fun k =>
      c.f (CF.ECNT_CFG_EN k) == 1 && c.f (CF.ECNT_CFG_EVT k) == 3 && !done.contains k && terms.contains ((k + 3) % 4) with
    | none => (c, terms)
    | some k =>
      let r := c.ecnt k
      Cairn.chain fuel r.1 (k :: done) (if r.2 then k :: terms else terms)

/-- The terminals true on an edge, and the counters after it (R183). -/
def Cairn.counters (c : Cairn) (kind : Nat) (c0 c1 rg upd : Bool) (evs : List Nat) : Cairn × List Nat :=
  let r := [0, 1, 2, 3].foldl (fun (x : Cairn × List Nat × List Nat) k =>
    let evt := x.1.f (CF.ECNT_CFG_EVT k)
    if x.1.f (CF.ECNT_CFG_EN k) = 1 ∧ evt ≠ 3 ∧ evtNow kind c0 c1 rg upd evs evt then
      let y := x.1.ecnt k
      (y.1, k :: x.2.1, if y.2 then k :: x.2.2 else x.2.2)
    else x) (c, [], [])
  r.1.chain 4 r.2.1 r.2.2

/-- An output's fields: EN, CH, ALL, SEL, HOLD and MERGED, and its moving part. -/
def Cairn.outEn (c : Cairn) (n : Nat) : Bool := c.f (if n = 0 then CF.OUT0_EN else CF.OUT1_EN) == 1
def Cairn.outCh (c : Cairn) (n : Nat) : Nat := c.f (if n = 0 then CF.OUT0_CH else CF.OUT1_CH)
def Cairn.outAll (c : Cairn) (n : Nat) : Bool := c.f (if n = 0 then CF.OUT0_ALL else CF.OUT1_ALL) == 1
def Cairn.outSel (c : Cairn) (n : Nat) : Nat := c.f (if n = 0 then CF.OUT0_SEL else CF.OUT1_SEL)

/-- The hold window in tk: HOLD 0 acts as 4 (R187). -/
def Cairn.outHold (c : Cairn) (n : Nat) : Nat :=
  let h := c.f (if n = 0 then CF.OUT0_HOLD else CF.OUT1_HOLD)
  (if h = 0 then 4 else h) * 64

def Cairn.out (c : Cairn) (n : Nat) : OutSt := if n = 0 then c.out0 else c.out1
def Cairn.setOut (c : Cairn) (n : Nat) (o : OutSt) : Cairn := if n = 0 then { c with out0 := o } else { c with out1 := o }

/-- A Cairn's saturating 16-bit count of merged conditions. -/
def Cairn.merge (c : Cairn) (n : Nat) : Cairn :=
  let f := if n = 0 then CF.CRS_MERGED_M0 else CF.CRS_MERGED_M1
  c.setF f (min (c.f f + 1) 65535)

/-- Has an output sent a raise within its hold window before tick `clk` (R184)? -/
def Cairn.held (c : Cairn) (n clk : Nat) : Bool :=
  match (c.out n).last with
  | some t => decide (clk < t + c.outHold n)
  | none => false

/-- An output's condition under the signals `sig` (bit 0 C0 to bit 6 K3) of an edge at tick `clk` (R184): outside the hold window a raise
is due. -/
def Cairn.output (c : Cairn) (n sig clk : Nat) : Cairn :=
  let sel := c.outSel n
  let true_ := sel != 0 && (if c.outAll n then Nat.land sig sel == sel else Nat.land sig sel != 0)
  if !(c.outEn n && true_) then c
  else if c.held n clk then c.merge n
  else c.setOut n ⟨some clk, true⟩

/-- The signals of an edge as bits: C0, C1, RG, K0 to K3. -/
def signals (c0 c1 rg : Bool) (terms : List Nat) : Nat :=
  b2n c0 + 2 * b2n c1 + 4 * b2n rg + 8 * b2n (terms.contains 0) + 16 * b2n (terms.contains 1) + 32 * b2n (terms.contains 2)
    + 64 * b2n (terms.contains 3)

/-- An edge of unit `id` at its Cairn at tick `clk` (R180 to R184): what its observation points present, whether it updates, and the event codes that
occur. A frozen unit presents nothing; its leaf goes on ticking. -/
def Cairn.edge (c : Cairn) (id clk : Nat) (upd : Bool) (accs : List ObsAcc) (evs : List Nat) : Cairn :=
  let accs := if c.frozen then [] else accs.filter fun a => obsThere id a.obs
  let evs := if c.frozen then evs.filter (· == 5) else evs
  let c0 := accs.any fun a => c.cmpHit 0 a
  let c1 := accs.any fun a => c.cmpHit 1 a
  let rg := accs.any fun a => c.rngHit a
  let r := c.counters (kindOf id) c0 c1 rg (upd && !c.frozen) evs
  let sig := signals c0 c1 rg r.2
  let c := r.1.setF CF.CRS_STAT_SEEN (Nat.lor (r.1.f CF.CRS_STAT_SEEN) sig)
  (c.output 0 sig clk).output 1 sig clk

/-- The Cairn sends an output's raise on both paths, under the next 16-bit message number (R184; 01 R12). -/
def State.outRaise (s : State) (id n : Nat) : State :=
  let c := s.cairn id
  if !(c.out n).level then s
  else
    let c' := (c.setF CF.CRS_STAT_RAISES ((c.f CF.CRS_STAT_RAISES + 1) % 65536)).setOut n { c.out n with level := false }
    let s := s.setCairn id c'
    let k := s.crs.nextNum
    { s with crs := { s.crs with
        flight := (s.crs.flight.filter fun r => r.num != k) ++ [⟨k, c.outCh n, id, false⟩], nextNum := (k + 1) % 2 ^ 16 } }

/-! ### Channels (R188) -/

/-- A 64-bit set of channels kept in a pair of registers. -/
def State.chSet (s : State) (lo ch : Nat) : Bool := bit (s.rd64 lo) ch

/-- A channel's pending bit set by a raiser, unless it is pending already (R188). -/
def State.pendSet (s : State) (ch src : Nat) : State :=
  if s.chSet R.CRS_CH_PEND_LO ch then s
  else
    let s := s.wr64 R.CRS_CH_PEND_LO (setBit (s.rd64 R.CRS_CH_PEND_LO) ch)
    { s with crs := { s.crs with raiser := smSet 0 s.crs.raiser ch src } }

/-- A channel appears in a snapshot: engines in WAITCH see it (07 R222). -/
def State.engSee (s : State) (ch : Nat) : State :=
  [0, 1, 2, 3].foldl (fun s e =>
    match (s.eng e).wait with
    | some (.chan c _ _) => if c = ch then s.setEng e { s.eng e with chSeen := [ch] } else s
    | _ => s) s

/-- A raise is accepted (R188): seen, counted, and placed in a snapshot; with the sequencer stopped it is seen at once. -/
def State.raiseCh (s : State) (ch src : Nat) : State :=
  let s := s.wr64 R.CRS_CH_SEEN_LO (setBit (s.rd64 R.CRS_CH_SEEN_LO) ch)
  let s := s.satAddR R.CRS_RAISE_CNT 1
  if s.f F.CRS_CTRL_RUN = 1 then { s with crs := { s.crs with wait := s.crs.wait ++ [(ch, src)] } }
  else
    let s := if s.chSet R.CRS_CH_STICKY_LO ch then s.pendSet ch src else s
    s.engSee ch

/-- A copy of a Cairn's raise reaches Summit: the first is accepted, the second discarded (R188; 01 R12). -/
def State.chArrive (s : State) (num : Nat) : State :=
  match s.crs.flight.find? fun r => r.num == num with
  | none => s
  | some r =>
    if r.first then { s with crs := { s.crs with flight := s.crs.flight.erase r } }
    else
      ({ s with crs := { s.crs with flight := s.crs.flight.map fun (x : RaiseFl) => if x.num = num then { x with first := true } else x } }).raiseCh
        r.ch r.src

/-! ### Requests with a T of their own -/

/-- A cut request whose T is `t`, as under ABS; SUM_CUT_REQ_T stands (06 R195; 07 R225). -/
def State.cutReqAt (s : State) (kind src t : Nat) : State × CutRes :=
  let old := s.rd64 R.SUM_CUT_REQ_T_LO
  let r := (s.wr64 R.SUM_CUT_REQ_T_LO t).cutReq kind src true
  (r.1.wr64 R.SUM_CUT_REQ_T_LO old, r.2)

/-- A step request whose T_s is `t`. -/
def State.stepReqAt (s : State) (src t : Nat) (trig : Bool) : State × Nat :=
  let old := s.rd64 R.SUM_CUT_REQ_T_LO
  let r := (s.wr64 R.SUM_CUT_REQ_T_LO t).stepReq src true trig
  (r.1.wr64 R.SUM_CUT_REQ_T_LO old, r.2)

/-! ### Actions (R194 to R196) -/

/-- Refusal codes of ACTION_REFUSED, which R194 names and does not number (log entry 9). -/
def arProbeBusy : Nat := 1
def arSchedFull : Nat := 2
def arSaPending : Nat := 3
def arDumpRefused : Nat := 4

/-- An action that cannot be carried out. -/
def State.actRefused (s : State) (code why : Nat) : State := s.raise .actionRefused crsSrc [.w code, .w why]

/-- STOP_AFTER makes its requests once T_a − SUM_CUT_LEAD has come (R195). -/
def State.saFire (s : State) : State :=
  let t := s.rd64 R.CRS_SA_T_LO
  if s.f F.CRS_STAT_SA_PENDING = 0 ∨ s.now + s.cutLead < t then s
  else
    let what := s.crs.saWhat
    let s := if what = 0 ∨ what = 2 then (s.cutReqAt 0 crsSrc t).1 else s
    let s := if what = 1 ∨ what = 2 then
        let r := s.traceReq false 0xFFF (some t) (s.rd R.CRS_RUN_RIGHTS) crsSrc
        if r.2.1 = trSchedFull then r.1.actRefused 3 arSchedFull else r.1
      else s
    s.setF F.CRS_STAT_SA_PENDING 0

/-- STOP_AFTER of a transition taken at `a` (R195); one with D below SUM_CUT_LEAD makes its requests at once. -/
def State.actStopAfter (s : State) (p a : Nat) : State :=
  if s.f F.CRS_STAT_SA_PENDING = 1 then s.actRefused 3 arSaPending
  else
    let t := a + max (bits p 0 28) 100
    let s := (s.wr64 R.CRS_SA_T_LO t).setF F.CRS_STAT_SA_PENDING 1
    (({ s with crs := { s.crs with saWhat := bits p 28 2 } }).raise .stopAfterSet crsSrc [.d t, .w (bits p 28 2)]).saFire

/-- TRACE_START and TRACE_STOP at a + SUM_CUT_LEAD (R194; 10 R327), or at the least T that still can be issued (03 R94). -/
def State.actTrace (s : State) (start : Bool) (p a : Nat) : State :=
  let code := if start then 4 else 5
  let t := max (a + s.cutLead) s.minT
  let r := s.traceReq start (bits p 0 16) (some (a + s.cutLead)) (s.rd R.CRS_RUN_RIGHTS) crsSrc
  if r.2.1 = trSchedFull then r.1.actRefused code arSchedFull
  else r.1.raise .traceAct crsSrc [.w code, .d t, .w (bits p 0 16)]

/-- DUMP (R194): the request goes to Couloir, whose refusal ACTION_REFUSED carries with its code. -/
def State.actDump (s : State) (p : Nat) : State :=
  let s := s.raise .dumpReq crsSrc [.w (bits p 0 4)]
  let r := s.dumpReq crsSrc (bits p 0 4)
  if r.2.1 = 0 then r.1 else r.1.raise .actionRefused crsSrc [.w 6, .w arDumpRefused, .w r.2.1]

/-- PITCH_START (R194; 07 R204). -/
def State.actPitch (s : State) (p : Nat) : State :=
  let e := bits p 0 2
  let entry := bits p 2 16
  if s.engFree e then
    (s.engStart e entry crsSrc (s.rd R.CRS_RUN_RIGHTS)).raise .pitchStart crsSrc [.w e, .w entry]
  else s.actRefused 7 arProbeBusy

/-- PIN_PULSE of a transition taken at `a` (R196). -/
def State.actPulse (s : State) (p a : Nat) : State :=
  let t := a + 100
  let s := { s with crs := { s.crs with pulses := s.crs.pulses ++ [(⟨t, bits p 0 16, bit p 16, bit p 17, false⟩ : Pulse)] } }
  s.raise .pinPulse crsSrc [.d t, .w (bits p 0 16), .w (bits p 16 1), .w (bits p 17 1)]

/-- An action is issued (R194): `p` is its parameter and `a` the master value in the cycle of its transition. -/
def State.act (s : State) (code p a : Nat) : State :=
  match code with
  | 1 => (s.cutReq 0 crsSrc).1
  | 2 => (s.cutReq 1 crsSrc).1
  | 3 => s.actStopAfter p a
  | 4 => s.actTrace true p a
  | 5 => s.actTrace false p a
  | 6 => s.actDump p
  | 7 => s.actPitch p
  | 8 => s.actPulse p a
  | _ => s

/-- The ACT_B of the last cycle's transition is issued (R194). -/
def State.actNext (s : State) : State :=
  match s.crs.actB with
  | none => s
  | some b => ({ s with crs := { s.crs with actB := none } }).act b.1 b.2.1 b.2.2

/-! ### The sequencer (R189 to R193) -/

/-- A snapshot of raises: each channel with the lowest source number that raised it. -/
def snapMerge (l : List (Nat × Nat)) : List (Nat × Nat) :=
  l.foldl (fun m x => smSet (2 ^ 32) m x.1 (min (smGet (2 ^ 32) m x.1) x.2)) []

/-- The value and terminal of a sequencer counter after `n` counts (R191): counts beyond LIM carry into the next round. -/
def seqCount (val lim n : Nat) (auto : Bool) : Nat × Bool :=
  let all := val + n
  if lim = 0 then (all % 2 ^ 32, false)
  else if !auto && val == lim then (val, true)
  else if val < lim then (if lim ≤ all then (if auto then (all - lim) % 2 ^ 32 else lim, true) else (all, false))
  else if 2 ^ 32 + lim ≤ all then (if auto then (all - 2 ^ 32 - lim) % 2 ^ 32 else lim, true)
  else (all % 2 ^ 32, false)

/-- Counts of counter `k` in a cycle in which `snap` gives the channels seen (R191). DESIGN CHOICE: MODE 1 counts the ticks that have passed, whole
groups of 2^PRESCALE of them since the counter started, so that neither a load nor a slew of the time counts (log entries 12, 60). -/
def State.seqEvents (s : State) (k : Nat) (snap : Nat → Bool) : Nat :=
  let states := s.f (F.CRS_CNT_CFG_STATES k)
  let here := bit states (s.f F.CRS_STAT_STATE)
  if s.f (F.CRS_CNT_CFG_EN k) = 0 then 0
  else match s.f (F.CRS_CNT_CFG_MODE k) with
    | 0 => b2n (here && snap (s.f (F.CRS_CNT_CFG_CH k)))
    | 1 =>
      let p := 2 ^ s.f (F.CRS_CNT_CFG_PRESCALE k)
      if here then s.clk / p - s.crs.lastT / p else 0
    | 2 => match s.crs.entered with | some st => b2n (bit states st) | none => 0
    | _ => 0

/-- The counters after a cycle, and the terminals as bits. -/
def State.seqCounters (s : State) (snap : Nat → Bool) : State × Nat :=
  (List.range 8).foldl (fun (x : State × Nat) k =>
    let val := if bit s.crs.rst k then 0 else s.rd (R.CRS_CNT_VAL k)
    let r := seqCount val (s.rd (R.CRS_CNT_LIM k)) (s.seqEvents k snap) (s.f (F.CRS_CNT_CFG_AUTO_RESET k) == 1)
    (x.1.wr (R.CRS_CNT_VAL k) r.1, x.2 + 2 ^ k * b2n r.2)) (s, 0)

/-- Is a condition true (R190)? -/
def State.condTrue (s : State) (cond : Nat) (snap : Nat → Bool) (terms : Nat) : Bool :=
  if cond < 0x40 then snap cond
  else if cond < 0x48 then bit terms (cond - 0x40)
  else if cond = 0x48 then decide (s.rd64 R.CRS_ALARM_T_LO ≤ s.now)
  else cond == 0x49

/-- Entry to a state (R192): counters to be reset in the next cycle, and pending channels cleared. -/
def State.seqEnter (s : State) (st : Nat) : State :=
  let s := s.setF F.CRS_STAT_STATE st
  let s := { s with crs := { s.crs with entered := some st, rst := s.f (F.CRS_ST_ENTRY_RST st) } }
  if s.f (F.CRS_ST_ENTRY_CLR_PEND st) = 1 then s.wr64 R.CRS_CH_PEND_LO 0 else s

/-- Events in the Crest FIFO (R189; 01 R30). -/
def State.crsLevel (s : State) : Nat := (s.sum.intq.filter fun e => e.src == crsSrc).length

/-- Transition TR(state, t) is taken (R189): its event, ACT_A, ACT_B for the next cycle, its channel consumed, its next state entered. -/
def State.seqTake (s : State) (t src : Nat) : State :=
  let st := s.f F.CRS_STAT_STATE
  let k := 4 * st + t
  let cond := s.f (F.CRS_TR_COND k)
  let next := s.f (F.CRS_TR_NEXT k)
  let s := s.raise .transition crsSrc [.w st, .w next, .w t, .w cond, .w src]
  let s := (s.setF F.CRS_LAST_TRANS_FROM st).setF F.CRS_LAST_TRANS_TO next
  let s := (s.setF F.CRS_LAST_TRANS_INDEX t).setF F.CRS_LAST_TRANS_COND cond
  let b := (s.f (F.CRS_TR_ACT_B k), s.rd (R.CRS_PARAM (s.f (F.CRS_TR_PARAM_B k))), s.now)
  let s := { s with crs := { s.crs with actB := if b.1 = 0 then none else some b } }
  let s := s.act (s.f (F.CRS_TR_ACT_A k)) (s.rd (R.CRS_PARAM (s.f (F.CRS_TR_PARAM_A k)))) s.now
  let s := if cond < 0x40 then s.wr64 R.CRS_CH_PEND_LO (clrBit (s.rd64 R.CRS_CH_PEND_LO) cond) else s
  s.seqEnter next

/-- One hub cycle of the sequencer (R189, R194): the last cycle's ACT_B is issued, and while RUN is 1 the graph is evaluated. -/
def State.seqEval (s : State) : State :=
  let s := s.actNext
  if s.f F.CRS_CTRL_RUN = 0 then s else
  let fresh := snapMerge s.crs.wait
  let raised := snapMerge (s.crs.wait ++ s.crs.held)
  let s := { s with crs := { s.crs with wait := [], held := [] } }
  let s := fresh.foldl (fun s x => s.engSee x.1) s
  let s := raised.foldl (fun s x => if s.chSet R.CRS_CH_STICKY_LO x.1 then s.pendSet x.1 x.2 else s) s
  let live := Nat.land (s.rd64 R.CRS_CH_PEND_LO) (s.rd64 R.CRS_CH_STICKY_LO)
  let snap := fun ch => raised.any (fun x => x.1 == ch) || bit live ch
  let raiser := fun ch => if bit live ch then smGet 0 s.crs.raiser ch else smGet 0 raised ch
  let r := s.seqCounters snap
  let s := { r.1 with crs := { r.1.crs with entered := none, rst := 0, lastT := s.clk } }
  if 60 ≤ s.crsLevel then
    ({ s with crs := { s.crs with held := raised } }).setF F.CRS_STAT_STALLED 1
  else
    let st := s.f F.CRS_STAT_STATE
    match [0, 1, 2, 3].find? fun t =>
      s.f (F.CRS_TR_EN (4 * st + t)) == 1 && s.condTrue (s.f (F.CRS_TR_COND (4 * st + t))) snap r.2 with
    | none => s
    | some t =>
      let cond := s.f (F.CRS_TR_COND (4 * st + t))
      s.seqTake t (if cond < 0x40 then raiser cond else crsSrc)

/-- Does an action accept its parameter (R194)? -/
def paramOk (code p : Nat) : Bool :=
  match code with
  | 3 => bits p 28 2 != 3
  | 4 | 5 => bits p 12 4 == 0
  | 8 => decide (1 ≤ bits p 0 16) && decide (bits p 0 16 ≤ 1000)
  | _ => true

/-- Does a set of rights hold what an action needs (R194)? -/
def actRights (code p rights : Nat) : Bool :=
  match code with
  | 1 | 2 => bit rights rtHalt
  | 3 => bit rights rtHalt && (bits p 28 2 == 0 || bit rights rtTrace)
  | 4 | 5 => bit rights rtTrace
  | 6 => bit rights rtDump
  | 7 => bit rights rtProbe
  | 8 => bit rights rtPort
  | _ => true

/-- What transition `k` of the graph fails of the checks of R193, in their order; 0 for none. -/
def State.trError (s : State) (k rights : Nat) : Nat :=
  let a := s.f (F.CRS_TR_ACT_A k)
  let b := s.f (F.CRS_TR_ACT_B k)
  let pa := s.rd (R.CRS_PARAM (s.f (F.CRS_TR_PARAM_A k)))
  let pb := s.rd (R.CRS_PARAM (s.f (F.CRS_TR_PARAM_B k)))
  if s.f (F.CRS_TR_EN k) = 0 then 0
  else if 9 ≤ a ∨ 9 ≤ b then 1
  else if 0x4A ≤ s.f (F.CRS_TR_COND k) then 2
  else if !paramOk a pa || !paramOk b pb then 3
  else if !actRights a pa rights || !actRights b pb rights then 4
  else 0

/-- CRS_RUN: RUN has changed. -/
def State.runEvent (s : State) (v : Nat) : State :=
  s.raise .crsRun crsSrc [.w v, .w (s.f F.CRS_CTRL_START_STATE), .w (s.rd R.CRS_RUN_RIGHTS)]

/-- What the sequencer had yet to do when RUN clears (R188, R192): raises that wait for a snapshot pend where sticky and are seen by
engines, and the counters of the last entry are reset. -/
def State.seqSettle (s : State) : State :=
  let s := (snapMerge s.crs.wait).foldl (fun s x =>
    let s := if s.chSet R.CRS_CH_STICKY_LO x.1 then s.pendSet x.1 x.2 else s
    s.engSee x.1) s
  let s := (List.range 8).foldl (fun s k => if bit s.crs.rst k then s.wr (R.CRS_CNT_VAL k) 0 else s) s
  { s with crs := { s.crs with wait := [], held := [], rst := 0, entered := none } }

/-- RUN returns to 0. -/
def State.runClear (s : State) : State :=
  if s.f F.CRS_CTRL_RUN = 0 then s
  else ((s.seqSettle.setF F.CRS_CTRL_RUN 0).setF F.CRS_STAT_RUNNING 0).runEvent 0

/-- A write of 1 to RUN under a set of rights (R193); while RUN is 1 it changes nothing. -/
def State.runSet (s : State) (rights : Nat) : State :=
  if s.f F.CRS_CTRL_RUN = 1 then s
  else match (List.range 64).find? fun k => s.trError k rights != 0 with
    | some k =>
      ((s.setF F.CRS_STAT_CFG_ERR (s.trError k rights)).setF F.CRS_STAT_ERR_ST (k / 4)).setF F.CRS_STAT_ERR_TR (k % 4)
    | none =>
      let s := ((s.setF F.CRS_STAT_CFG_ERR 0).setF F.CRS_STAT_ERR_ST 0).setF F.CRS_STAT_ERR_TR 0
      let s := ((s.setF F.CRS_CTRL_RUN 1).setF F.CRS_STAT_RUNNING 1).wr R.CRS_RUN_RIGHTS rights
      let s := (s.setF F.CRS_STAT_WR_IGN 0).setF F.CRS_STAT_STALLED 0
      let s := { s with crs := { s.crs with wait := [], held := [], lastT := s.clk } }
      (s.seqEnter (s.f F.CRS_CTRL_START_STATE)).runEvent 1

/-- A pending STOP_AFTER is cancelled (R195): by a master 0, a chip warm reset 1, a hub soft reset 2 (log entry 9). -/
def State.saCancel (s : State) (cause : Nat) : State :=
  if s.f F.CRS_STAT_SA_PENDING = 0 then s
  else (s.setF F.CRS_STAT_SA_PENDING 0).raise .stopAfterCancel crsSrc [.d (s.rd64 R.CRS_SA_T_LO), .w cause]

/-- A write of CRS_CTRL (R193, R202): START_STATE, SA_CANCEL, then RUN. -/
def State.crsCtrl (s : State) (v rights : Nat) : State :=
  let s := s.setF F.CRS_CTRL_START_STATE (v / 2)
  let s := if bit v 5 then s.saCancel 0 else s
  if bit v 0 then s.runSet rights else s.runClear

/-- A parity error in the sequencer's configuration (R200). -/
def State.cfgParity (s : State) : State := (s.hubFault 0x02 0).runClear

/-! ### Pin pulses (R196) -/

/-- HEARTBEAT's level at the pin: the toggle, inverted while a pulse with HB is under way, but not after FATAL. -/
def State.hbPin (s : State) : Bool :=
  s.flt.heartbeat != (s.f F.FLT_STAT_FATAL_N == 0 && (s.crs.pulses.filter fun p => p.begun && p.hb).length % 2 == 1)

/-- The next edge of a pin pulse that is due: its beginning, at which a marker goes to the lanes when LANE is set (the T_p of the
marker), or its end. -/
def State.pulseEdge (s : State) : State × Option Nat :=
  match s.crs.pulses.find? fun p => if p.begun then decide (p.tp + 25 * p.width ≤ s.now) else decide (p.tp ≤ s.now) with
  | none => (s, none)
  | some p =>
    if p.begun then ({ s with crs := { s.crs with pulses := s.crs.pulses.erase p } }, none)
    else
      ({ s with crs := { s.crs with pulses := s.crs.pulses.replace p { p with begun := true } } }, if p.lane then some p.tp else none)

/-! ### Retention and resets (R185, R186, R201) -/

/-- Is an offset of the Crest block one that the retention copy holds (R185)? -/
def retained (o : Nat) : Bool := decide (0x40 ≤ o) && decide (o < 0xD4) && !(decide (0xBC ≤ o) && decide (o < 0xCC))

/-- A write through the Spur to a Cairn's Crest block reaches its retention copy. -/
def State.retainWrite (s : State) (id o v : Nat) : State :=
  if !retained o then s
  else
    let r := smGet Retain.none s.retain id
    { s with retain := smSet Retain.none s.retain id { r with crest := smSet 0 r.crest o (BitVec.ofNat 32 v) } }

/-- The copies of a lost Spur's half went with it, and the other Spur starts new ones (R185). -/
def State.retainLost (s : State) (half : Nat) : State :=
  { s with retain := (((List.range 0xBC0).filter fun id => kindOf id != 0 && halfOf id == half).map fun id => (id, (⟨[], true⟩ : Retain))
      ).foldl (fun m x => smSet Retain.none m x.1 x.2) s.retain }

/-- The Spur writes a Cairn's copy back before its leaf becomes valid (R185); while no Spur answers for the Cairn, none does. -/
def State.crestRestore (s : State) (id : Nat) : State :=
  if !s.reachable id then s else
  let r := smGet Retain.none s.retain id
  let s := s.modC id fun c =>
    let blank := smKeep (fun o => !(decide (0x40 ≤ o) && decide (o < 0x100))) c.regs
    let regs := r.crest.foldl (fun m x => smSet 0 m x.1 x.2) blank
    ({ c with regs := regs, out0 := ⟨none, false⟩, out1 := ⟨none, false⟩ }).setF CF.CRS_STAT_RESTORED 1
  if r.fresh then s.raise .crsRestoreMiss (0x100A + s.server (halfOf id)) [.w id] else s

/-- Cairns of a half whose domains came up while no Spur answered for them are written back once the takeover is complete (R185). -/
def State.restoreLate (s : State) (half : Nat) : State :=
  s.forEach ((s.cairns.filter fun e => e.2.powered && !e.2.leafValid && halfOf e.1 == half && e.2.f CF.CRS_STAT_RESTORED == 0).map (·.1))
    State.crestRestore

/-- Crest at a chip warm reset (R195, R201). -/
def State.crsWarm (s : State) : State :=
  let s := (s.wr64 R.CRS_CH_PEND_LO 0).saCancel 1
  s.wr R.CRS_RUN_RIGHTS (clrBit (clrBit (clrBit (s.rd R.CRS_RUN_RIGHTS) rtTraceSecure) rtDumpSecure) rtDepositField)

/-- Crest's parts beside its registers at a hub soft reset: a pending STOP_AFTER is cancelled with its event (R195), and a RUN of 1 changes, which
CRS_RUN reports with the values that stood (R199; log entry 55). -/
def State.crsSoft (s : State) : State :=
  let s := s.saCancel 2
  let s := if s.f F.CRS_CTRL_RUN = 1 then s.runEvent 0 else s
  { s with crs := { CrsSt.init with nextNum := s.crs.nextNum } }

end Sys2Proof.Machine
end

