-- ==== Sys2Proof/Machine/Talus.lean ====
section
/-! DEFINITION. Machine/Talus.lean: the lifetime ledger (13): its image, what it counts, persistence, commits, start-up and reading. -/

namespace Sys2Proof.Machine

/-- The source number of Talus (13). -/
def talSrc : Nat := 0x1008

/-! ### Counters (R409, R411, R412) -/

/-- The ledger with the counter of `size` bytes at an image offset raised by `n`, saturating. -/
def Ledger.add (l : Ledger) (off size n : Nat) : Ledger :=
  { l with cnt := smSet 0 l.cnt off (min (smGet 0 l.cnt off + n) (256 ^ size - 1)) }

/-- The ledger with a ring index one higher, wrapping. -/
def Ledger.wrap (l : Ledger) (off : Nat) : Ledger := { l with cnt := smSet 0 l.cnt off ((smGet 0 l.cnt off + 1) % 2 ^ 32) }

/-- Offsets of the counters of R411. -/
def kindRow (k : Nat) : Nat := 0x100 + 16 * k
def coreRow (c : Nat) : Nat := 0x180 + 32 * c
def devRow : Nat := 0x280
def regionRow (r : Nat) : Nat := 0x400 + 256 * r

/-- The state with the working copy changed. -/
def State.modTal (s : State) (g : Ledger → Ledger) : State := { s with tal := { s.tal with work := g s.tal.work } }

/-- A counter of the working copy raised. -/
def State.talAdd (s : State) (off size n : Nat) : State := s.modTal fun l => l.add off size n

/-! ### What is shown (R425, R426) -/

/-- Slots marked bad, as a list of Bools would have them. -/
def badCount (bad : Nat) : Nat := ((List.range 8).filter fun i => bit bad i).length

/-- Does any entry report a persistent class (R414)? -/
def Ledger.persist (l : Ledger) : Nat := (l.trk.filter fun t => t.pUc || t.pCe).length

/-- The slot of the newest valid image (R425): of the highest GEN. -/
def State.newest (s : State) : Option (Nat × TalImg) :=
  s.mram.foldl (fun b x => match x.2 with
    | none => b
    | some i => match b with | none => some (x.1, i) | some y => if y.2.gen < i.gen then some (x.1, i) else b) none

/-- The TAL page's read-only registers follow the controller. -/
def State.talShow (s : State) : State :=
  let l := s.tal.work
  let s := (s.setF F.TAL_STAT_COMMIT_BUSY (b2n s.tal.commit.isSome)).setF F.TAL_STAT_COMMIT_PEND (b2n (!s.tal.held.isEmpty))
  let s := s.setF F.TAL_STAT_SNAP_VALID (b2n s.tal.snap.isSome)
  let s := s.setF F.TAL_STAT_PERSIST (b2n (l.persist != 0 || s.f F.TAL_STAT_SPENT == 1))
  let s := (s.wr64 R.TAL_GEN_LO s.tal.gen).wr R.TAL_BOOT_CNT l.boot
  let s := (s.setF F.TAL_SLOT_MAP_BAD_SLOTS l.bad).setF F.TAL_SLOT_MAP_USABLE (8 - badCount l.bad)
  let s := s.setF F.TAL_SLOT_MAP_NEWEST (match s.newest with | some x => x.1 | none => 0)
  let s := (s.setF F.TAL_TRACK_CNT_ENTRIES l.trk.length).setF F.TAL_TRACK_CNT_TRACKED_OVF
    (min (smGet 0 l.cnt (devRow + 0x18)) 65535)
  s.setF F.TAL_PERSIST_CNT_CNT l.persist

/-- TALUS_PERSIST of the service state follows (11 R377). -/
def State.talPersist (s : State) : State :=
  let s := s.talShow
  s.svcPersist (s.f F.TAL_STAT_PERSIST == 1)

/-! ### Tracked units (R413, R414) -/

/-- A new entry for a unit, with the CE count of this boot and whether that is over the limit. -/
def Trk.new (id boot ce : Nat) (hot fenced retired : Bool) : Trk :=
  ⟨id, false, fenced, retired, false, false, boot, ce, 0, 0, ce, 0, b2n hot, 0, 0, 0, 0, 0, 0⟩

/-- Bits set in the low byte of a number. -/
def popcount8 (n : Nat) : Nat := ((List.range 8).filter fun i => bit n i).length

/-- TAL_PERSIST.BOOTS as it acts. -/
def State.persistBoots (s : State) : Nat := min (max (s.f F.TAL_PERSIST_BOOTS) 1) 8

/-- PERSIST_SET or PERSIST_CLEAR where a flag of an entry changes (R414). -/
def State.persistEvent (s : State) (id cls map : Nat) (old new : Bool) : State :=
  if old = new then s
  else s.raise (if new then .persistSet else .persistClear) talSrc [.w id, .w cls, .w map]

/-- An entry is re-evaluated (R414). -/
def State.trkEval (s : State) (id : Nat) : State :=
  match s.tal.work.trk.find? fun t => t.id == id with
  | none => s
  | some t =>
    let u := decide (s.persistBoots ≤ popcount8 t.ucBoots)
    let c := decide (s.persistBoots ≤ popcount8 t.ceBoots)
    let s := s.modTal fun l => { l with trk := l.trk.map fun (x : Trk) => if x.id = id then { x with pUc := u, pCe := c } else x }
    let s := s.persistEvent id 1 t.ceBoots t.pCe c
    (s.persistEvent id 2 t.ucBoots t.pUc u).talPersist

/-- A unit's entry changed and re-evaluated, where it has one. -/
def State.trkMod (s : State) (id : Nat) (g : Trk → Trk) : State :=
  if s.tal.work.trk.any fun t => t.id == id then
    (s.modTal fun l => { l with trk := l.trk.map fun (x : Trk) => if x.id = id then g x else x }).trkEval id
  else s

/-- CE_LIM: the CE count in one boot above which the boot counts (R413). -/
def State.ceLim (s : State) : Nat := s.f F.TAL_PERSIST_CE_LIM

/-- A unit is admitted to the table, unless it is in it or the table is full (R413). -/
def State.trkAdmit (s : State) (id : Nat) : State :=
  let l := s.tal.work
  if l.trk.any fun t => t.id == id then s
  else if l.trk.length < 256 then
    let ce := smGet 0 s.tal.ceBoot id
    let t := Trk.new id l.boot ce (decide (s.ceLim < ce)) (s.fenced id) (s.wch.retired.contains id)
    (s.modTal fun l => { l with trk := l.trk ++ [t] }).talShow
  else
    let s := (s.talAdd (devRow + 0x18) 4 1).talShow
    if smGet 0 l.cnt (devRow + 0x18) = 0 then s.raise .trackFull talSrc [.w id] else s

/-- A saturating 16-bit or 32-bit count of an entry. -/
def sat16 (n : Nat) : Nat := min n 65535
def sat32 (n : Nat) : Nat := min n (2 ^ 32 - 1)

/-- The fields every fault of a tracked unit sets. -/
def Trk.last (t : Trk) (boot stamp : Nat) (i : FltInfo) : Trk :=
  { t with lastBoot := boot, lastSrc := i.bit + 256 * i.page, lastStamp := stamp }

/-! ### Numbered happenings (R411 to R416) -/

/-- The CE count that admits a unit, as it acts. -/
def State.ceTrack (s : State) : Nat := max (s.f F.TAL_CE_TRACK_LIM) 1

/-- A Cairn's CE faults (R413, R414). A unit that reached TAL_CE_TRACK with the table full is refused that once, and is admitted at a
later CE once there is room (log entry 60). -/
def State.talCe (s : State) (id stamp : Nat) (i : FltInfo) : State :=
  let lim := s.ceLim
  let boot := s.tal.work.boot
  if s.tal.work.trk.any fun t => t.id == id then
    s.trkMod id fun t =>
      let n := sat32 (t.ceBoot + i.count)
      { (t.last boot stamp i) with ce := sat32 (t.ce + i.count), ceBoot := n, ceBoots := if lim < n then setBit t.ceBoots 0 else t.ceBoots }
  else
    let was := smGet 0 s.tal.ceBoot id
    let n := sat32 (was + i.count)
    let s := { s with tal := { s.tal with ceBoot := smSet 0 s.tal.ceBoot id n } }
    if s.ceTrack ≤ n ∧ (was < s.ceTrack ∨ s.tal.work.trk.length < 256) then
      (s.trkAdmit id).trkMod id fun t => { (t.last boot stamp i) with ceBoots := if lim < n then setBit t.ceBoots 0 else t.ceBoots }
    else s

/-- A Cairn's UC or FATAL faults (R413, R414). -/
def State.talUc (s : State) (id stamp : Nat) (i : FltInfo) : State :=
  let boot := s.tal.work.boot
  (s.trkAdmit id).trkMod id fun t =>
    let t := t.last boot stamp i
    if i.cls = 2 then { t with uc := sat32 (t.uc + i.count), ucBoots := setBit t.ucBoots 0 }
    else { t with fatal := sat32 (t.fatal + i.count) }

/-- A numbered fault that no mask held back and nobody forced (R411, R416). -/
def State.talFault (s : State) (e : Ev) (i : FltInfo) : State :=
  if bit i.rflags 0 then s else
  let row := if e.src < 0xBC0 then kindOf e.src else 0
  let s := s.talAdd (kindRow row + 4 * (i.cls - 1)) 4 i.count
  let s := if (i.page = 0x12 ∨ i.page = 0x13) ∧ i.bit = 0 then s.talAdd (devRow + 0x1C) 4 i.count else s
  let s := if i.page = 0x14 ∧ i.bit = 0 then s.talAdd (devRow + 0x20) 4 i.count else s
  if 0xBC0 ≤ e.src then s
  else
    let s := if kindOf e.src = 7 ∧ i.bit = 9 then s.talAdd (regionRow (e.src - 0xBA0) + 0xB0) 4 i.count else s
    if i.cls = 1 then s.talCe e.src e.stamp i else s.talUc e.src e.stamp i

/-- DROOP_EXIT's bin by duration (R412). -/
def droopBin (d : Nat) : Nat := if d < 256 then 0 else if 16384 ≤ d then 7 else Nat.log2 (d / 256) + 1

/-- The image offset and the CAUSE of a core's REMAP count (R411). -/
def remapOff (core cause : Nat) : Nat := coreRow core + 4 + 2 * cause

/-- A fence-history record (R415): `bitPage` is the source bit and page of the fault that led to it. -/
def State.fenceRecord (s : State) (n : NumEv) (id engine cause causeSeq bitPage : Nat) : State :=
  s.modTal fun l =>
    let bs := le 4 n.seq ++ le 4 l.boot ++ le 8 n.ev.stamp ++ le 2 (id + 4096 * engine) ++ le 1 cause ++ le 1 0 ++ le 4 causeSeq
      ++ le 2 bitPage ++ le 6 0
    { (l.wrap (devRow + 0x10)) with fences := smSet [] l.fences (smGet 0 l.cnt (devRow + 0x10) % 64) bs }

/-- A watch record (R415). -/
def State.watchRecord (s : State) (n : NumEv) : State :=
  s.modTal fun l =>
    let bs := le 4 n.seq ++ le 4 l.boot ++ le 8 n.ev.stamp ++ le 8 (n.ev.val 2) ++ le 4 (n.ev.val 3)
      ++ le 4 (n.ev.val 0 + 4096 * (n.ev.src - 0x1002))
    { (l.wrap (devRow + 0x14)) with watch := smSet [] l.watch (smGet 0 l.cnt (devRow + 0x14) % 256) bs }

/-- The source bit and page of a fault record by its sequence number, as FLT_HIST holds it; 0 where it does not. -/
def State.faultAt (s : State) (seq : Nat) : Nat :=
  match s.flt.hist.find? fun x => (match x.2 with | some r => r.seq == seq | none => false) with
  | some (_, some r) => r.info.bit + 256 * r.info.page
  | _ => 0

/-- The working copy records a numbered event (R411 to R416). -/
def State.talEvent (s : State) (n : NumEv) : State :=
  let e := n.ev
  let v := e.val
  match e.name with
  | .fault => match e.flt with | some i => s.talFault e i | none => s
  | .ctxFailed => s.talAdd (kindRow (kindOf (v 0)) + 0x0C) 4 1
  | .remap =>
    let s := s.talAdd (remapOff (coreOf (v 0)) (v 3)) 2 1
    let s := if v 3 = 3 then s else s.talAdd (coreRow (coreOf (v 0)) + 0x0E) 2 1
    let one := fun (s : State) (id : Nat) =>
      (s.trkAdmit id).trkMod id fun t => { t with remaps := sat16 (t.remaps + 1), retired := s.wch.retired.contains id }
    one (one s (v 0)) (v 1)
  | .fence =>
    let s := s.fenceRecord n (v 0) (v 1) (v 2) (v 3) (if v 2 = 0 ∨ v 2 = 3 then s.faultAt (v 3) else 0)
    let s := if v 1 = 1 then s.talAdd (coreRow (coreOf (v 0)) + 0x0C) 2 1 else s
    (s.trkAdmit (v 0)).trkMod (v 0) fun t => { t with fenced := true, fences := sat16 (t.fences + 1) }
  | .unfence => (s.fenceRecord n (v 0) 0 15 0 0).trkMod (v 0) fun t => { t with fenced := false }
  | .droopExit =>
    let r := regionRow (e.src - 0xBA0)
    (s.talAdd (r + 0x80 + 4 * droopBin (v 0)) 4 1).talAdd (r + 0xB8) 8 (v 2)
  | .vfDefer => s.talAdd (regionRow (e.src - 0xBA0) + 0xB4) 4 1
  | .echoDone =>
    let s := s.talAdd (devRow + 0x28) 4 1
    let c := coreRow (coreOf e.src)
    match v 3 with
    | 2 => s.talAdd (c + 0x18) 4 1
    | 3 => s.talAdd (c + 0x10) 4 1
    | 4 | 5 => s.talAdd (c + 0x14) 4 1
    | _ => s
  | .pitchLog => if v 4 = 1 then s.watchRecord n else s
  | .warmReset => s.talAdd devRow 4 1
  | .softReset => s.talAdd (devRow + 4) 4 1
  | _ => s

/-- The oldest numbered event that is not yet counted is counted, once the working copy is loaded. -/
def State.talCount (s : State) : State :=
  if s.f F.TAL_STAT_READY = 0 then s else
  match s.tal.queue with
  | [] => s
  | n :: rest => (({ s with tal := { s.tal with queue := rest } }).talEvent n).talShow

/-- A delivered lag block of a core: the positions beyond threshold count (R411, R413). -/
def State.talLag (s : State) (core : Nat) (beyond : List Nat) : State :=
  if beyond.isEmpty then s
  else
    beyond.foldl (fun s p =>
      let id := s.serving core p
      (s.trkAdmit id).trkMod id fun t => { t with flags := sat16 (t.flags + 1) }) (s.talAdd (coreRow core) 4 1)

/-! ### Samples (R412) -/

/-- One millisecond for the counter at an image offset; whole seconds enter the ledger. -/
def State.milli (s : State) (off size : Nat) : State :=
  let m := smGet 0 s.tal.ms off + 1
  let s := { s with tal := { s.tal with ms := smSet 0 s.tal.ms off (m % 1000) } }
  if m = 1000 then s.talAdd off size 1 else s

/-- Temperature and voltage bins. -/
def tempBin (t : Nat) : Nat := if t < 25 then 0 else min ((t - 25) / 5 + 1) 15
def voltBin (mv : Nat) : Nat := if mv < 600 then 0 else min ((mv - 600) / 25 + 1) 15

/-- The sample of one region. -/
def State.sampleRegion (s : State) (r : Nat) (x : RegionRd) : State :=
  let c := s.cairn (0xBA0 + r)
  let p := if c.powered then min x.pstate 3 else 3
  let s := s.milli (regionRow r + 0xA0 + 4 * p) 4
  if p = 3 then s
  else (s.milli (regionRow r + 4 * tempBin x.temp) 4).milli (regionRow r + 0x40 + 4 * voltBin (c.f CF.P_VF_MV)) 4

/-- The sample of 1 ms, once 2,500,000 tk have passed since the last (R412): `regs` has the readings of the 32 regions. -/
def State.talSample (s : State) (regs : List RegionRd) : State :=
  if s.rdg.raw < s.tal.sampleT + 2500000 then s
  else
    let s := { s with tal := { s.tal with sampleT := s.tal.sampleT + 2500000 } }
    (List.range 32).foldl (fun s r => s.sampleRegion r (regs.getD r ⟨3, 0⟩)) (s.milli (devRow + 8) 8)

/-! ### Images (R409, R410, R413) -/

/-- An entry's 64 bytes (R413). -/
def Trk.bytes (t : Trk) : List Byte :=
  le 2 (t.id + 4096 * kindOf t.id + 32768 * b2n t.pinned)
    ++ le 1 (b2n t.fenced + 2 * b2n t.retired + 4 * b2n t.pUc + 8 * b2n t.pCe) ++ le 1 0
    ++ le 4 t.firstBoot ++ le 4 t.ce ++ le 4 t.uc ++ le 4 t.fatal ++ le 4 t.ceBoot ++ le 1 t.ucBoots ++ le 1 t.ceBoots
    ++ le 2 t.remaps ++ le 2 t.fences ++ le 2 t.flags ++ le 4 t.lastBoot ++ le 2 t.lastSrc ++ le 2 0 ++ le 8 t.lastStamp ++ le 16 0

/-- Byte `o` of the counters: each stands at its own offset, little-endian. -/
def Ledger.cntByte (l : Ledger) (o : Nat) : Byte :=
  BitVec.ofNat 8 ((List.range (min 8 (o + 1))).foldl (fun n j => n + smGet 0 l.cnt (o - j) / 2 ^ (8 * j) % 256) 0)

/-- Padding with zeros to `n` bytes. -/
def padTo (n : Nat) (bs : List Byte) : List Byte := bs ++ List.replicate (n - bs.length) 0

/-- The header of an image (R410). -/
def TalImg.header (i : TalImg) (uid : Nat) : List Byte :=
  le 2 1 ++ le 1 i.slot ++ le 1 i.cause ++ le 4 i.led.boot ++ le 8 i.t ++ le 4 i.seq ++ le 4 i.epoch ++ le 1 i.lcy ++ le 1 i.led.bad
    ++ le 6 0 ++ le 32 uid ++ le 4 i.led.clearCnt ++ le 4 i.led.clearBoot ++ le 4 i.led.persistCfg ++ le 4 i.led.ceTrack

/-- Bytes 0x0000 to 0xFFEB of an image with its MAGIC (R409). -/
def TalImg.body (i : TalImg) (uid magic : Nat) : List Byte :=
  padTo 0x100 (i.header uid)
    ++ (List.range 0x2300).map (fun o => i.led.cntByte (0x100 + o))
    ++ padTo 0x4000 (i.led.trk.flatMap Trk.bytes)
    ++ (List.range 64).flatMap (fun k => padTo 32 (smGet [] i.led.fences k))
    ++ (List.range 256).flatMap (fun k => padTo 32 (smGet [] i.led.watch k))
    ++ List.replicate 29664 0 ++ le 8 i.gen ++ le 4 magic

/-- The 65,536 bytes of an image. -/
def TalImg.bytes (i : TalImg) (uid magic : Nat) : List Byte :=
  let b := i.body uid magic
  b ++ le 4 (crc32c b) ++ le 16 0

/-- MAGIC of a committed image and of a snapshot. -/
def magicImage : Nat := 0x544C5354
def magicSnap : Nat := 0x534E4150

/-- Word `k` of TAL_RD_WIN for a master (R424): the read buffer, or a committed slot. -/
def State.talWin (s : State) (m : Master) (k : Nat) : Nat :=
  let off := 2048 * s.f (bkF m F.TAL_RD_OFF_WIN) + 4 * k
  let word := fun (bs : List Byte) => ofLe ((bs.drop off).take 4)
  if s.f (bkF m F.TAL_RD_SEL_SRC) = 0 then
    match s.tal.snap with | some i => word (i.bytes s.uid magicSnap) | none => 0
  else
    match smGet none s.mram (s.f (bkF m F.TAL_RD_SEL_SLOT)) with | some i => word (i.bytes s.uid magicImage) | none => 0

/-- The working copy as an image. -/
def State.talImage (s : State) (gen slot cause : Nat) : TalImg :=
  { led := { s.tal.work with persistCfg := s.rd R.TAL_PERSIST, ceTrack := s.rd R.TAL_CE_TRACK },
    gen := gen, slot := slot, cause := cause, t := s.now, seq := 0, epoch := 0, lcy := s.lcs }

/-- A snapshot for the read buffer (R424). -/
def State.talSnap (s : State) : State :=
  ({ s with tal := { s.tal with snap := some (s.talImage s.tal.gen (s.tal.gen % 8) 0) } }).talShow

/-! ### Commits (R417 to R419) -/

/-- Causes of a commit (R410). -/
def tcScheduled : Nat := 0
def tcFatal : Nat := 1
def tcBoot : Nat := 2
def tcMaster : Nat := 3
def tcClear : Nat := 4

/-- A commit is requested (R417, R418): held until the controller serves it, nothing once every slot is spent. -/
def State.talReq (s : State) (cause : Nat) : State :=
  if s.f F.TAL_STAT_SPENT = 1 then s
  else ({ s with tal := { s.tal with held := if s.tal.held.contains cause then s.tal.held else s.tal.held ++ [cause] } }).talShow

/-- The CAUSE of requests that merge (R417). -/
def causeOf (held : List Nat) : Nat :=
  (([tcFatal, tcClear, tcBoot, tcMaster].find? fun c => held.contains c).getD tcScheduled)

/-- The slot of a commit of generation `gen` (R408): GEN mod 8, bad ones skipped. -/
def commitSlot (gen bad : Nat) : Option Nat :=
  ((List.range 8).map fun i => (gen + i) % 8).find? fun k => !bit bad k

/-- No slot is left (R418): SLOTS_SPENT, and the persistent class. -/
def State.talSpent (s : State) : State :=
  let s := { s with tal := { s.tal with commit := none, held := [] } }
  ((s.setF F.TAL_STAT_SPENT 1).hubFault 0x0E 4).talPersist

/-- A commit of `cause` begins (R418): the working copy is taken, TALUS_COMMIT raised, and the target slot holds no image until its
write is checked. -/
def State.commitBegin (s : State) (cause : Nat) : State :=
  let gen := s.tal.gen + 1
  match commitSlot gen s.tal.work.bad with
  | none => s.talSpent
  | some slot =>
    let img := s.talImage gen slot cause
    let s := { s with tal := { s.tal with commit := some ⟨img, false⟩ }, mram := smSet none s.mram slot none }
    (s.talShow).raise .talusCommit talSrc [.w cause, .d gen, .w slot, .w s.tal.work.boot]

/-- The requests held are served, if no commit is in progress. -/
def State.commitStart (s : State) : State :=
  if s.tal.held.isEmpty || s.tal.commit.isSome then s
  else
    let cause := causeOf s.tal.held
    ({ s with tal := { s.tal with held := [] } }).commitBegin cause

/-- TALUS_COMMIT is numbered: its number enters the image's header. -/
def State.commitNumbered (s : State) (seq epoch : Nat) : State :=
  match s.tal.commit with
  | some c => if c.numbered then s
    else { s with tal := { s.tal with commit := some ⟨{ c.img with seq := seq, epoch := epoch }, true⟩ } }
  | none => s

/-- Is an image that of the boot commit or of a later one (R417, R421): was it taken with this boot's BOOT_CNT? -/
def State.bootCommit (s : State) (i : TalImg) : Bool := s.tal.nextDue != 0 && i.led.boot == s.tal.work.boot

/-- The slot is read back (R418): a good image ends the commit; a bad one raises WRITE_FAIL, and the commit is repeated at once in
the next slot. -/
def State.commitVerify (s : State) (ok : Bool) : State :=
  match s.tal.commit with
  | none => s
  | some c =>
    if !c.numbered then s
    else if ok then
      let s := { s with mram := smSet none s.mram c.img.slot (some c.img), tal := { s.tal with commit := none, gen := c.img.gen } }
      let s := s.wr64 R.TAL_COMMIT_T_LO s.now
      let s := if s.bootCommit c.img ∧ s.f F.TAL_STAT_LOST = 0 then s.setF F.TAL_STAT_BOOT_OK 1 else s
      s.talShow
    else
      let s := s.modTal fun l => { l with bad := setBit l.bad c.img.slot }
      let s := s.hubFault 0x0E 2
      ({ s with tal := { s.tal with commit := none } }).commitBegin c.img.cause

/-- The scheduled commit falls due (R417): 900,000,000,000 hub clock cycles after the last due time, the first
after the boot commit. -/
def State.talSchedule (s : State) : State :=
  if s.rdg.raw < s.tal.nextDue ∨ s.tal.nextDue = 0 then s
  else ({ s with tal := { s.tal with nextDue := s.tal.nextDue + 2250000000000 } }).talReq tcScheduled

/-- Seconds to the next scheduled commit, as TAL_NEXT_S reads. -/
def State.nextS (s : State) : Nat := (s.tal.nextDue - s.rdg.raw) / 2500000000

/-! ### Masters (R413, R423 to R426) -/

/-- A write of TAL_CTRL. -/
def State.talCtrl (s : State) (v : Nat) : State :=
  let s := if bit v 0 then s.talSnap else s
  if bit v 1 then s.talReq tcMaster else s

/-- A write of TAL_TRACK: the unit is admitted if there is room, and pinned. -/
def State.talTrack (s : State) (v : Nat) : State :=
  let id := v % 4096
  if kindOf id = 0 then s else ((s.trkAdmit id).trkMod id fun t => { t with pinned := true }).talShow

/-- A write of the key to TAL_CLEAR in RAW or TEST_OPEN (R423). -/
def State.talClear (s : State) (who v : Nat) : State :=
  if v ≠ 0x0000C1EA ∨ (s.lcs ≠ 0 ∧ s.lcs ≠ 2) then s
  else
    let s := s.modTal fun l =>
      { l with cnt := [], trk := [], fences := [], watch := [], clearCnt := sat32 (l.clearCnt + 1), clearBoot := l.boot }
    let s := { s with tal := { s.tal with ms := [] } }
    let s := s.talPersist
    (s.raise .ledgerClear talSrc [.w who, .w s.tal.work.boot, .w s.tal.work.clearCnt]).talReq tcClear

/-! ### Start-up and resets (R414, R420 to R422) -/

/-- The ledger is loaded at VDD_HUB power-up (R420): the valid image with the highest GEN; `uc` names slots with a word that cannot
be corrected. -/
def State.talLoad (s : State) (uc : List Nat) : State :=
  let bad := (uc.filter (· < 8)).eraseDups
  let s := bad.foldl (fun s k => { s with mram := smSet none s.mram k none }) s
  let s := bad.foldl (fun s _ => s.hubMemFault 0x0E 1 none) s
  let s := match s.newest with
    | some (_, i) =>
      let s := { s with tal := { s.tal with work := { i.led with bad := if i.led.bad = 255 then 0 else i.led.bad }, gen := i.gen } }
      (s.wr R.TAL_PERSIST i.led.persistCfg).wr R.TAL_CE_TRACK i.led.ceTrack
    | none => ({ s with tal := { s.tal with work := Ledger.empty, gen := 0 } }).setF F.TAL_STAT_LOST 1 |>.hubFault 0x0E 3
  (s.setF F.TAL_STAT_READY 1).talPersist

/-- The boot commit is requested (R421): BOOT_CNT and the boot bitmaps move on (R414). -/
def State.talBoot (s : State) : State :=
  let s := s.modTal fun l => { l with
    boot := sat32 (l.boot + 1)
    trk := l.trk.map fun (t : Trk) => { t with ucBoots := t.ucBoots * 2 % 256, ceBoots := t.ceBoots * 2 % 256, ceBoot := 0 } }
  let s := { s with tal := { s.tal with ceBoot := [], nextDue := s.rdg.raw + 2250000000000, sampleT := s.rdg.raw } }
  ((s.tal.work.trk.map (·.id)).foldl State.trkEval s).talShow.talReq tcBoot

end Sys2Proof.Machine
end

