-- ==== Sys2Proof/Machine/Life.lean ====
section
/-! DEFINITION. Machine/Life.lean: the authorisation engine (14): the life-cycle log and its decision, transitions and resumption,
signed objects, provisioning, certificates, Jexairoth, and the masters' held sets. -/

namespace Sys2Proof.Machine

/-- The source number of the authorisation engine (14). -/
def authSrc : Nat := 0x1007

/-! ### OTP in three copies (R431, R432) -/

/-- Bitwise majority of three copies. -/
def Tri.vote (t : Tri) : Nat := Nat.lor (Nat.lor (Nat.land t.a t.b) (Nat.land t.a t.c)) (Nat.land t.b t.c)

/-- Bits set below `n`. -/
def popcount (n v : Nat) : Nat := ((List.range n).filter fun i => bit v i).length

/-- Bits whose copies disagree. -/
def Tri.split (t : Tri) : Nat := popcount 24 (Nat.lor (Nat.xor t.a t.b) (Nat.xor t.a t.c))

/-- A copy with bits set: OTP bits can only be set. -/
def Tri.set (t : Tri) (copy v : Nat) : Tri :=
  match copy with
  | 0 => { t with a := Nat.lor t.a v }
  | 1 => { t with b := Nat.lor t.b v }
  | _ => { t with c := Nat.lor t.c v }

/-- All three copies with bits set. -/
def Tri.setAll (t : Tri) (v : Nat) : Tri := ((t.set 0 v).set 1 v).set 2 v

/-- A slot of the log. -/
def OtpSt.slot (o : OtpSt) (n : Nat) : LogSlot := smGet LogSlot.empty o.log n

/-- A WRITTEN flag, and a CONSUMED bit, as voted. -/
def OtpSt.isWritten (o : OtpSt) (k : Nat) : Bool := bit (smGet Tri.zero o.written k).vote 0
def OtpSt.isConsumed (o : OtpSt) (k : Nat) : Bool := bit (smGet Tri.zero o.consumed k).vote 0

/-- E, the ledger epoch (R445). -/
def OtpSt.epochNo (o : OtpSt) : Nat := popcount 15 o.epoch.vote

/-- Keys of the fields (Stores; R442). -/
def fdUid : Nat := 1
def fdRoot : Nat := 2
def fdJex : Nat := 3
def fdToken : Nat := 4
def fdOwner : Nat := 5
def fdFieldHost : Nat := 6
def tokenKey (k : Nat) : Nat := 16 + k

/-- The codeword of a state (R429). -/
def codeword (st : Nat) : Nat :=
  match st with
  | 1 => 0x0FF00F | 2 => 0x33CC33 | 3 => 0x55AA55 | 4 => 0x3CC33C | 5 => 0x5AA55A | 6 => 0x669966 | _ => 0

/-- Hamming distance of two 24-bit words. -/
def hamming (a b : Nat) : Nat := popcount 24 (Nat.xor a b)

/-- The transitions of R430. -/
def lcyAllowed (a b : Nat) : Bool :=
  match a, b with
  | 0, 1 | 1, 2 | 2, 1 | 1, 3 | 3, 4 | 4, 5 => true
  | a, 6 => decide (a < 6)
  | _, _ => false

def LogSlot.used (x : LogSlot) : Bool := bit x.pm.vote 0
def LogSlot.committed (x : LogSlot) : Bool := x.used && bit x.pm.vote 3
def LogSlot.finished (x : LogSlot) : Bool := bit x.pm.vote 7

/-- The target a slot's TGT names, when exactly one bit is set. -/
def LogSlot.target (x : LogSlot) : Option Nat :=
  if popcount 8 x.tgt.vote = 1 then (List.range 8).find? fun i => bit x.tgt.vote i else none

/-- COUNTER: the number of used slots. -/
def OtpSt.counter (o : OtpSt) : Nat := ((List.range 24).filter fun n => (o.slot n).used).length

/-- Slots 0 to COUNTER − 1, from the lowest. -/
def OtpSt.usedSlots (o : OtpSt) : List LogSlot := (List.range o.counter).map o.slot

/-- The states that the committed slots of a list name, in order, after `from_`; none where a rule of R432 fails. -/
def walkLog : Nat → List LogSlot → Option Nat
  | st, [] => some st
  | st, x :: xs =>
    match x.target with
    | none => none
    | some t =>
      if !x.committed then walkLog st xs
      else if decide (hamming x.state.vote (codeword t) ≤ 3) && lcyAllowed st t then walkLog t xs
      else none

/-- The state in which the log stands: an index of R429, 7 where a rule of R432 fails. -/
def OtpSt.decide (o : OtpSt) : Nat :=
  let us := o.usedSlots
  let contiguous := us.all LogSlot.used
  let open_ := (us.dropLast).all LogSlot.finished
  if contiguous && open_ && !o.refBad && !(o.uidUc && o.isWritten fdUid) then (walkLog 0 us).getD 7 else 7

/-- The highest used slot, with its number. -/
def OtpSt.top (o : OtpSt) : Option (Nat × LogSlot) := if o.counter = 0 then none else some (o.counter - 1, o.slot (o.counter - 1))

/-- The highest committed slot. -/
def OtpSt.lastCommitted (o : OtpSt) : Option LogSlot := (o.usedSlots.reverse).find? LogSlot.committed

/-- Log slots, and other copied fields (32 + k CONSUMED k, 64 EPOCH), in which copies disagree. -/
def OtpSt.disagree (o : OtpSt) : List Nat :=
  ((List.range 24).filter fun n => let x := o.slot n; x.state.split + x.tgt.split + x.pm.split != 0)
    ++ ((List.range 8).filter fun k => (smGet Tri.zero o.consumed k).split != 0).map (32 + ·)
    ++ (if o.epoch.split = 0 then [] else [64])

/-- Log bits whose copies disagree. -/
def OtpSt.logSplit (o : OtpSt) : Nat :=
  (List.range 24).foldl (fun n k => let x := o.slot k; n + x.state.split + x.tgt.split + x.pm.split) 0

/-! ### Held sets (R429, R444) -/

/-- The baseline of a state for a master. -/
def State.baseOf (s : State) (st : Nat) (m : Master) : Nat :=
  match st with
  | 0 | 2 => 0x0700FFFF
  | 1 | 3 | 5 => 1
  | 4 => match m with | .pass => 0 | .host => s.rd R.LCY_FIELD_HOST
  | _ => 0

/-- May a master hold anything now? -/
def State.heldOpen (s : State) : Bool :=
  s.f F.LCY_STAT_DECIDED == 1 && s.f F.TAL_STAT_BOOT_OK == 1 && s.f F.LCY_STAT_IN_TRANSITION == 0 && decide (s.f F.LCY_STAT_STATE < 6)

/-- AUTH_HELD, AUTH_BASE and AUTH_BOOT follow the state, the grants and the ledger. -/
def State.authShow (s : State) : State :=
  let base := fun m => if s.heldOpen then s.baseOf (s.f F.LCY_STAT_STATE) m else 0
  let held := fun m =>
    if s.heldOpen then Nat.lor (Nat.lor (base m) (s.rd (bk m R.AUTH_CERT))) (s.rd (bk m R.AUTH_JEX)) else 0
  let s' := (s.wr (bk .pass R.AUTH_BASE) (base .pass)).wr (bk .host R.AUTH_BASE) (base .host)
  let s' := (s'.wr R.AUTH_HELD_PASS (held .pass)).wr R.AUTH_HELD_HOST (held .host)
  (s'.setF F.AUTH_BOOT_BOOT_CNT s.tal.work.boot).setF F.AUTH_BOOT_BOOT_OK (s.f F.TAL_STAT_BOOT_OK)

/-! ### The decision (R432) -/

/-- LCY_CODE, LCY_VOTE, LCY_TOKENS, LCY_PROV, LCY_FIELD_HOST, LCY_UID and the log's fields of LCY_STAT as OTP gives them (R451, R452). -/
def State.lcyShow (s : State) : State :=
  let o := s.otp
  let x := o.lastCommitted
  let code := match x with | some x => x.state.vote | none => 0
  let dist := match x with | some x => hamming x.state.vote (codeword (x.target.getD 0)) | none => 0
  let s := (s.wr R.LCY_CODE code).setF F.LCY_VOTE_DISAGREE (min 255 o.logSplit)
  let s := s.setF F.LCY_VOTE_DIST dist
  let flags := fun (p : Nat → Bool) => (List.range 8).foldl (fun n k => if p k then setBit n k else n) 0
  let s := (s.setF F.LCY_TOKENS_PROVISIONED (flags fun k => o.isWritten (tokenKey k))).setF F.LCY_TOKENS_CONSUMED (flags o.isConsumed)
  let s := (s.setF F.LCY_PROV_DEVICE_UID (b2n (o.isWritten fdUid))).setF F.LCY_PROV_ROOT (b2n (o.isWritten fdRoot))
  let s := (s.setF F.LCY_PROV_JEX (b2n (o.isWritten fdJex))).setF F.LCY_PROV_OWNER (b2n (o.isWritten fdOwner))
  let s := s.setF F.LCY_PROV_FIELD_HOST (b2n (o.isWritten fdFieldHost))
  let s := s.wr R.LCY_FIELD_HOST (if o.isWritten fdFieldHost then smGet 0 o.fields fdFieldHost % 65536 else 0x8401)
  let s := (List.range 8).foldl (fun s k => s.wr (R.LCY_UID k) (s.uid / 2 ^ (32 * k) % 2 ^ 32)) s
  let s := match o.top with | some x => s.setF F.LCY_STAT_TARGET (x.2.target.getD 7) | none => s
  let s := (s.setF F.LCY_STAT_PM (match o.top with | some x => x.2.pm.vote | none => 0)).setF F.LCY_STAT_COUNTER o.counter
  s.setF F.LCY_STAT_EPOCH o.epochNo

/-- The state is decided (R432, R433): OTP_CE for what newly disagrees, LCY_INVALID for INVALID; the matrix engines run or are
held. -/
def State.lcyDecide (s : State) : State :=
  let st := s.otp.decide
  let dis := s.otp.disagree
  let s := (dis.filter fun k => !s.auth.disagree.contains k).foldl (fun s _ => s.hubFault 0x0F 0) s
  let s := { s with auth := { s.auth with disagree := dis, engHold := decide (6 ≤ st) } }
  let s := (s.lcyShow).setF F.LCY_STAT_STATE st
  let s := if st = 7 then s.hubFault 0x0F 2 else s
  s.authShow

/-- The state is decided and, unless a transition waits to be resumed, in force (R432, R440). -/
def State.lcySettle (s : State) : State :=
  let s := s.lcyDecide
  let open_ := s.f F.LCY_STAT_STATE != 7 && (match s.otp.top with | some x => !x.2.finished | none => false)
  (s.setF F.LCY_STAT_DECIDED (b2n !open_)).authShow

/-! ### Grants (R450) -/

/-- Causes of GRANTS_ENDED (R457). -/
def geWarm : Nat := 0
def geSoft : Nat := 1
def gePower : Nat := 2
def geSession : Nat := 3
def geTransition : Nat := 4
def geDrop : Nat := 5

/-- A master's outstanding challenge is discarded. -/
def State.chalDrop (s : State) (m : Master) : State :=
  (List.range 8).foldl (fun s k => s.wr (bk m (R.AUTH_CHAL k)) 0) (s.wr (bk m R.AUTH_CHAL_REQ) 0)

/-- A master's grants end: the certificate's where `cert`, the Jexairoth grant and the challenge always. Parts ended: bit 0
certificate, 1 Jexairoth, 2 challenge (log entry 9). -/
def State.grantsEnd (s : State) (m : Master) (cause : Nat) (cert : Bool) : State :=
  let parts := b2n (cert && s.rd (bk m R.AUTH_CERT) != 0) + 2 * b2n (s.rd (bk m R.AUTH_JEX) != 0)
    + 4 * s.f (bkF m F.AUTH_CHAL_REQ_OUTSTANDING)
  let s := if cert then ((s.wr (bk m R.AUTH_CERT) 0).wr64 (bk m R.AUTH_CERT_SER_LO) 0).wr (bk m R.AUTH_CERT_MAX) 0 else s
  let s := ((s.wr (bk m R.AUTH_JEX) 0).chalDrop m).authShow
  s.raise .grantsEnded authSrc [.w (mNum m), .w parts, .w cause]

/-! ### Transitions (R436 to R441) -/

/-- An elementary write of OTP: what (0 TGT, 1 STATE, 2 PM, 3 CONSUMED), the copy, and the bits set. -/
structure OtpWr where
  what : Nat
  copy : Nat
  bits : Nat
  deriving DecidableEq, Repr

/-- A write is carried out on the slot and token of a transition. -/
def OtpSt.put (o : OtpSt) (r : LcyRun) (w : OtpWr) : OtpSt :=
  let x := o.slot r.slot
  let put := fun x => { o with log := smSet LogSlot.empty o.log r.slot x }
  match w.what with
  | 0 => put { x with tgt := x.tgt.set w.copy w.bits }
  | 1 => put { x with state := x.state.set w.copy w.bits }
  | 2 => put { x with pm := x.pm.set w.copy w.bits }
  | _ => { o with consumed := smSet Tri.zero o.consumed r.token ((smGet Tri.zero o.consumed r.token).set w.copy w.bits) }

/-- The same bits into copies A, B and C, in that order. -/
def threeWr (what v : Nat) : List OtpWr := [⟨what, 0, v⟩, ⟨what, 1, v⟩, ⟨what, 2, v⟩]

/-- Does a transition burn a token, or zeroise the key store (R430)? -/
def LcyRun.burns (r : LcyRun) : Bool := r.from_ == 1 && r.to_ == 2
def LcyRun.zeroes (r : LcyRun) : Bool := r.to_ == 5 || r.to_ == 6

/-- The OTP writes of the step being carried out, its action's and then its PM bit's (R439). -/
def LcyRun.writes (r : LcyRun) : List OtpWr :=
  (match r.step with
    | 1 => threeWr 0 (2 ^ r.to_)
    | 2 => if r.burns then threeWr 3 1 else []
    | 3 => [⟨1, 0, codeword r.to_⟩]
    | 4 => [⟨1, 1, codeword r.to_⟩]
    | 5 => [⟨1, 2, codeword r.to_⟩]
    | _ => []) ++ threeWr 2 (2 ^ (r.step - 1))

/-- Writes carried out in order. -/
def OtpSt.puts (o : OtpSt) (r : LcyRun) (ws : List OtpWr) : OtpSt := ws.foldl (fun o w => o.put r w) o

/-- OTP when power fails after `n` writes of the step, the next having set the bits of `mask` only (R439, R440). -/
def OtpSt.torn (o : OtpSt) (r : LcyRun) (n mask : Nat) : OtpSt :=
  let o := o.puts r (r.writes.take n)
  match r.writes[n]? with
  | some w => o.put r { w with bits := Nat.land w.bits mask }
  | none => o

/-- Does step 7 find a set bit that should be clear in a copy of STATE (R439)? A stray TGT bit of a torn write is outvoted (R440). -/
def OtpSt.beyondRepair (o : OtpSt) (r : LcyRun) : Bool :=
  let x := o.slot r.slot
  let w := codeword r.to_
  [x.state.a, x.state.b, x.state.c].any (fun v => Nat.land v w != v) || x.tgt.vote != 2 ^ r.to_

/-- Missing bits of STATE and TGT rewritten at step 7. -/
def OtpSt.repair (o : OtpSt) (r : LcyRun) : OtpSt := o.puts r (threeWr 1 (codeword r.to_) ++ threeWr 0 (2 ^ r.to_))

/-- What the start of a transition does besides (R438). -/
def State.lcyHalt (s : State) : State :=
  let s := (s.grantsEnd .pass geTransition true).grantsEnd .host geTransition true
  let s := (s.runClear).prbLifecycle
  let s := s.abortJobs (fun _ => true) reasonLifecycle
  (s.wr R.COU_AUTO_RIGHTS 0).scrUnsec

/-- A transition is accepted (R438): LCY_START and IN_TRANSITION. -/
def State.lcyBegin (s : State) (to_ token who : Nat) : State :=
  let from_ := s.f F.LCY_STAT_STATE
  let slot := s.otp.counter
  let s := s.raise .lcyStart authSrc [.w from_, .w to_, .w slot, .w who]
  let s := ((s.setF F.LCY_STAT_IN_TRANSITION 1).setF F.LCY_STAT_TARGET to_).setF F.LCY_STAT_RESUMED 0
  let s := { s with auth := { s.auth with run := some ⟨from_, to_, slot, token, 1, false⟩ } }
  s.lcyHalt

/-- The transition is done (R441). -/
def State.lcyDone (s : State) (r : LcyRun) : State :=
  let s := { s with auth := { s.auth with run := none } }
  let s := ((s.setF F.LCY_STAT_IN_TRANSITION 0).setF F.LCY_STAT_RESUMING 0).setF F.LCY_STAT_RESUMED (b2n r.resumed)
  let s := ((s.setF F.LCY_STAT_DECIDED 1).wr64 R.LCY_TIME_LO s.now).authShow
  s.raise .lcyDone authSrc [.w r.from_, .w r.to_, .w s.otp.counter, .w (b2n r.resumed)]

/-- An OTP write failed for good (R439): OTP_WRITE_FAIL and STALLED. -/
def State.lcyStall (s : State) : State := (s.hubFault 0x0F 1).setF F.LCY_STAT_STALLED 1

/-- The step being carried out is done (R439): its action and its PM bit are in OTP, and the state is decided again. -/
def State.lcyStep (s : State) (ok : Bool) : State :=
  match s.auth.run with
  | none => s
  | some r =>
    if s.f F.LCY_STAT_STALLED = 1 then s
    else if !ok || (r.step == 7 && s.otp.beyondRepair r) then s.lcyStall
    else
      let o := if r.step = 7 then s.otp.repair r else s.otp
      let s := { s with otp := o.puts r r.writes }
      let s := if r.step = 2 ∧ r.zeroes then { s with auth := { s.auth with keysGone := true } } else s
      let s := if r.step = 2 ∧ r.burns then s.raise .tokenConsumed authSrc [.w r.token] else s
      let s := s.lcyDecide
      let s := if r.step = 4 then s.raise .lcyCommit authSrc [.w r.slot, .w r.to_] else s
      if 8 ≤ r.step then s.lcyDone r
      else { s with auth := { s.auth with run := some { r with step := r.step + 1 } } }

/-- The token that an interrupted burn shows: one whose copies disagree; where none does, a value the spec leaves open. -/
def State.tornToken (s : State) : Nat × State :=
  match (List.range 8).find? fun k => (smGet Tri.zero s.otp.consumed k).split != 0 with
  | some k => (k, s)
  | none => let x := s.takeFree; (x.1 % 8, x.2)

/-- A transition cut short is resumed (R440): RESUMING and LCY_RESUME, from the first PM bit that reads clear. -/
def State.lcyResume (s : State) : State :=
  match s.otp.top with
  | none => s
  | some (n, x) =>
    if x.finished || s.f F.LCY_STAT_STATE == 7 then s
    else
      let to_ := x.target.getD 7
      let step := ((List.range 8).find? fun i => !bit x.pm.vote i).getD 7 + 1
      let from_ := if x.committed then (walkLog 0 (s.otp.usedSlots.dropLast)).getD 7 else s.f F.LCY_STAT_STATE
      let t := s.tornToken
      let s := (((t.2.setF F.LCY_STAT_STALLED 0).setF F.LCY_STAT_RESUMING 1).setF F.LCY_STAT_IN_TRANSITION 1).setF F.LCY_STAT_TARGET to_
      let s := { s with auth := { s.auth with run := some ⟨from_, to_, n, t.1, step, true⟩ } }
      (s.authShow).raise .lcyResume authSrc [.w n, .w to_, .w step]

/-! ### Signed objects (R434, R435) -/

/-- Refusal codes (R455). -/
def auFormat : Nat := 1
def auSigEcdsa : Nat := 2
def auSigMldsa : Nat := 3
def auKey : Nat := 4
def auDevice : Nat := 5
def auState : Nat := 6
def auCounter : Nat := 7
def auBoot : Nat := 8
def auToken : Nat := 9
def auChallenge : Nat := 10
def auBusy : Nat := 11
def auMaster : Nat := 12
def auNotProv : Nat := 13
def auScrapped : Nat := 14
def auNoSlots : Nat := 15

/-- Bytes `o` to `o + n - 1` of an object, and the number they spell. -/
def obBytes (ob : List Byte) (o n : Nat) : List Byte := (ob.drop o).take n
def obNat (ob : List Byte) (o n : Nat) : Nat := ofLe (obBytes ob o n)

def obKind (ob : List Byte) : Nat := obNat ob 6 1
def obSigner (ob : List Byte) : Nat := obNat ob 7 1
def obUid (ob : List Byte) : Nat := obNat ob 0x10 32

/-- Are the bytes of a range all 0? -/
def obZero (ob : List Byte) (o n : Nat) : Bool := obNat ob o n == 0

/-- The reserved and unused bytes of a KIND's body (R434, R436, R442, R446, R449). -/
def bodyClear (ob : List Byte) : Bool :=
  match obKind ob with
  | 1 => obZero ob 0x34 12 && obZero ob 0x60 96
  | 2 => obZero ob 0x3F 1 && obZero ob 0x48 8 && obZero ob 0x70 80 && decide (obNat ob 0x3C 1 < 4)
  | 3 => obZero ob 0x56 2 && obZero ob 0x5C 100
  | 4 =>
    obZero ob 0x32 14 && obZero ob 0xA0 32
      && (match obNat ob 0x30 1 with | 1 => obZero ob 0x40 96 | 4 => obZero ob 0x60 64 | _ => true)
  | _ => false

/-- FORMAT, the first check of R435, for an object whose KIND must be `kind`. -/
def obFormat (ob : List Byte) (kind : Nat) : Bool :=
  obNat ob 0 4 == 0x4E594E31 && obNat ob 4 2 == 1 && obKind ob == kind && obZero ob 8 8 && obZero ob 0x121 7 && bodyClear ob

/-- The state that gates requests: life cycle SCRAP, INVALID or not yet decided (R433). -/
def State.scrapped (s : State) : Bool := s.f F.LCY_STAT_STATE == 6 || s.f F.LCY_STAT_STATE == 7

/-- A transition is in progress or resuming. -/
def State.lcyBusy (s : State) : Bool := s.f F.LCY_STAT_IN_TRANSITION == 1

/-- Checks of a transition request (R437); 0 where none fails. -/
def State.transCode (s : State) (ob : List Byte) : Nat :=
  let a := obNat ob 0x30 1
  let b := obNat ob 0x31 1
  let k := obNat ob 0x33 1
  let o := s.otp
  if obUid ob ≠ s.uid then auDevice
  else if s.f F.LCY_STAT_DECIDED = 0 ∨ a ≠ s.f F.LCY_STAT_STATE ∨ !lcyAllowed a b then auState
  else if obNat ob 0x32 1 ≠ o.counter then auCounter
  else if 24 ≤ o.counter then auNoSlots
  else if a = 0 ∧ b = 1 ∧ !(o.isWritten fdUid && o.isWritten fdRoot && o.isWritten fdJex) then auNotProv
  else if a = 3 ∧ b = 4 ∧ !o.isWritten fdOwner then auNotProv
  else if a = 1 ∧ b = 2 ∧ !(decide (k < 8) && o.isWritten (tokenKey k) && !o.isConsumed k
      && (Config.sha384 (obBytes ob 0x40 32 ++ le 32 s.uid)).toNat % 2 ^ 256 == smGet 0 o.fields (tokenKey k)) then auToken
  else 0

/-- The key, and the value, of a provisioning object's field (R442). -/
def provKey (ob : List Byte) : Nat := if obNat ob 0x30 1 = fdToken then tokenKey (obNat ob 0x31 1) else obNat ob 0x30 1
def provValue (ob : List Byte) : Nat := if obNat ob 0x30 1 = fdUid then obUid ob else obNat ob 0x40 96

/-- What a field holds. -/
def State.fieldVal (s : State) (k : Nat) : Nat := if k = fdUid then s.uid else smGet 0 s.otp.fields k

/-- Checks of a provisioning object (R442). -/
def State.provCode (s : State) (ob : List Byte) : Nat :=
  let fd := obNat ob 0x30 1
  let st := s.f F.LCY_STAT_STATE
  let v := provValue ob
  let old := s.fieldVal (provKey ob)
  let here := match fd with
    | 1 | 2 | 3 => st == 0
    | 4 => st == 0 || st == 1
    | _ => st == 3
  if fd = 0 ∨ 6 < fd ∨ (fd = fdToken ∧ 7 < obNat ob 0x31 1) ∨ (fd = fdFieldHost ∧ 65535 < v) then auFormat
  else if fd ≠ fdUid ∧ obUid ob ≠ s.uid then auDevice
  else if !here || s.otp.isWritten (provKey ob) || Nat.land old v != old then auState
  else 0

/-- Does R429 accept a certificate of a signer in a state? -/
def certSigner (st signer : Nat) : Bool :=
  match st with
  | 1 | 3 | 5 => signer == 0
  | 4 => signer == 0 || signer == 1
  | _ => false

/-- Checks of a certificate (R447). -/
def State.certCode (s : State) (m : Master) (ob : List Byte) : Nat :=
  let st := s.f F.LCY_STAT_STATE
  let boot := s.tal.work.boot
  let e := s.otp.epochNo
  if 65535 < obNat ob 0x38 4 then auFormat
  else if !certSigner st (obSigner ob) || !bit (obNat ob 0x3D 1) st then auState
  else if s.uid < obUid ob ∨ obNat ob 0x50 32 < s.uid then auDevice
  else if !bit (obNat ob 0x3C 1) (mNum m) then auMaster
  else if s.f F.TAL_STAT_BOOT_OK = 0 ∨ obNat ob 0x3E 1 ≠ e ∨ e = 15 ∨ boot < obNat ob 0x40 4 ∨ obNat ob 0x44 4 < boot then auBoot
  else 0

/-- The challenge a master holds, as its 32 bytes spell it. -/
def State.chalOf (s : State) (m : Master) : Nat :=
  (List.range 8).foldl (fun n k => n + s.rd (bk m (R.AUTH_CHAL k)) * 2 ^ (32 * k)) 0

/-- Rights of a REQ or RIGHTS field that holds bits 24 to 26 only. -/
def jexOk (r : Nat) : Bool := r != 0 && r % 2 ^ 24 == 0 && decide (r < 2 ^ 27)

/-- Checks of a Jexairoth response (R449). -/
def State.jexCode (s : State) (m : Master) (ob : List Byte) : Nat :=
  let r := obNat ob 0x50 4
  let req := s.f (bkF m F.AUTH_CHAL_REQ_REQ) * 2 ^ 24
  if !jexOk r then auFormat
  else if s.f (bkF m F.AUTH_CHAL_REQ_OUTSTANDING) = 0 ∨ obNat ob 0x30 32 ≠ s.chalOf m ∨ Nat.land r req ≠ r then auChallenge
  else if obUid ob ≠ s.uid then auDevice
  else if obNat ob 0x54 1 ≠ mNum m then auMaster
  else if obNat ob 0x55 1 ≠ s.f F.LCY_STAT_STATE then auState
  else if obNat ob 0x58 4 ≠ s.tal.work.boot then auBoot
  else 0

/-- The OTP field that SIGNER names. -/
def signerField (signer : Nat) : Nat := match signer with | 0 => fdRoot | 1 => fdOwner | 2 => fdJex | _ => 0

/-- May SIGNER sign an object of this KIND in the current state (R434, R436, R442, R446, R449)? -/
def State.signerOk (s : State) (ob : List Byte) : Bool :=
  let st := s.f F.LCY_STAT_STATE
  let sg := obSigner ob
  match obKind ob with
  | 1 => sg == 0
  | 2 => sg == 0 || sg == 1
  | 3 => sg == 2
  | _ => if st = 0 then sg == 0xFF else sg == 0

/-- KEY, SIG_ECDSA and SIG_MLDSA (R434, R435): a provisioning object in RAW is unsigned. -/
def State.sigCode (s : State) (ob : List Byte) : Nat :=
  let msg := obBytes ob 0 0xC0
  let pk := obBytes ob 0xC0 97
  let mpk := obBytes ob 0x128 1952
  let h := smGet 0 s.otp.fields (signerField (obSigner ob))
  if !s.signerOk ob then auKey
  else if obSigner ob = 0xFF then 0
  else if !s.otp.isWritten (signerField (obSigner ob)) || (Config.sha384 pk).toNat != h % 2 ^ 384
      || (Config.sha384 mpk).toNat != h / 2 ^ 384 then auKey
  else if !Config.ecdsaOk pk msg (obBytes ob 0x8C8 96) then auSigEcdsa
  else if !Config.mldsaOk mpk msg (obBytes ob 0x928 3309) then auSigMldsa
  else 0

/-! ### Submission and results (R435, R454) -/

/-- Result registers of a master: LCY_RESULT or AUTH_RESULT. -/
def resF (lcy : Bool) (m : Master) (f : Fld) : Fld := bkF m ⟨if lcy then R.LCY_RESULT else R.AUTH_RESULT, f.lo, f.width⟩

/-- A result is recorded: 1 BUSY, 2 ACCEPTED, 3 REFUSED with a code. -/
def State.setResult (s : State) (lcy : Bool) (m : Master) (op status code : Nat) : State :=
  ((s.setF (resF lcy m F.AUTH_RESULT_STATUS) status).setF (resF lcy m F.AUTH_RESULT_OP) op).setF (resF lcy m F.AUTH_RESULT_CODE) code

/-- A refusal (R435): AUTH_REFUSED and AUTH_REFUSE_CNT; a challenge does not outlast its first RESPOND. The Command value is 0 for
LCY_CMD and 1 for AUTH_CMD (log entry 9). -/
def State.authRefuse (s : State) (lcy : Bool) (m : Master) (op code : Nat) : State :=
  let s := (s.setResult lcy m op 3 code).satAdd F.AUTH_REFUSE_CNT_CNT 1
  let s := if !lcy && op == 3 then s.chalDrop m else s
  s.raise .authRefused authSrc [.w (b2n (!lcy)), .w op, .w code, .w (mNum m)]

/-- A master's request buffer. -/
def State.authBuf (s : State) (m : Master) : SMap Word := match m with | .pass => s.auth.bufP | .host => s.auth.bufH

/-- The object in a master's buffer: 5,653 bytes (R434). -/
def State.bufObj (s : State) (m : Master) : List Byte :=
  ((List.range 1414).flatMap fun k => le 4 (smGet 0 (s.authBuf m) k).toNat).take 5653

/-- A master's access to AUTH_BUF_DATA moves the address under AUTOINC (R453). -/
def State.bufStep (s : State) (m : Master) : State :=
  if s.f (bkF m F.AUTH_BUF_ADDR_AUTOINC) = 1 then s.wrapAdd (bkF m F.AUTH_BUF_ADDR_ADDR) 1 else s

/-- AUTH_BUF_DATA read. -/
def State.bufRead (s : State) (m : Master) : State × Nat :=
  (s.bufStep m, (smGet 0 (s.authBuf m) (s.f (bkF m F.AUTH_BUF_ADDR_ADDR))).toNat)

/-- AUTH_BUF_DATA written. -/
def State.bufWrite (s : State) (m : Master) (v : Nat) : State :=
  let b := smSet 0 (s.authBuf m) (s.f (bkF m F.AUTH_BUF_ADDR_ADDR)) (BitVec.ofNat 32 v)
  (match m with
    | .pass => { s with auth := { s.auth with bufP := b } }
    | .host => { s with auth := { s.auth with bufH := b } }).bufStep m

/-- An object is submitted (R435): FORMAT, SCRAPPED and BUSY are answered at once; else it is verified. -/
def State.submit (s : State) (m : Master) (lcy : Bool) (op kind : Nat) : State :=
  let ob := s.bufObj m
  if !obFormat ob kind then s.authRefuse lcy m op auFormat
  else if s.scrapped then s.authRefuse lcy m op auScrapped
  else if s.auth.job.isSome || s.lcyBusy then s.authRefuse lcy m op auBusy
  else ({ s with auth := { s.auth with job := some ⟨m, lcy, op, ob⟩ } }).setResult lcy m op 1 0

/-- The first check from step 4 of R435 on that an object fails. -/
def State.objCode (s : State) (j : AuthJob) : Nat :=
  let c := match obKind j.obj with
    | 1 => s.transCode j.obj
    | 2 => s.certCode j.master j.obj
    | 3 => s.jexCode j.master j.obj
    | _ => s.provCode j.obj
  if c ≠ 0 then c else s.sigCode j.obj

/-- A provisioned field is written (R442). -/
def State.provision (s : State) (ob : List Byte) : State :=
  let k := provKey ob
  let v := provValue ob
  let s := if k = fdUid then { s with uid := Nat.lor s.uid v }
    else { s with otp := { s.otp with fields := smSet 0 s.otp.fields k (Nat.lor (smGet 0 s.otp.fields k) v) } }
  let s := { s with otp := { s.otp with written := smSet Tri.zero s.otp.written k ((smGet Tri.zero s.otp.written k).setAll 1) } }
  ((s.lcyShow).authShow).raise .provisioned authSrc [.w (obNat ob 0x30 1), .w (obNat ob 0x31 1)]

/-- OTP and DEVICE_UID when power fails while an accepted object's field is written (R431, R442): with `n` at 0 only the bits of `mask` of its
value are set; else the value, and WRITTEN in `n` − 1 of its copies. -/
def State.provTorn (s : State) (ob : List Byte) (n mask : Nat) : State :=
  let k := provKey ob
  let v := if n = 0 then Nat.land (provValue ob) mask else provValue ob
  let s := if k = fdUid then { s with uid := Nat.lor s.uid v }
    else { s with otp := { s.otp with fields := smSet 0 s.otp.fields k (Nat.lor (smGet 0 s.otp.fields k) v) } }
  let w := (List.range (min (n - 1) 3)).foldl (fun t c => t.set c 1) (smGet Tri.zero s.otp.written k)
  { s with otp := { s.otp with written := smSet Tri.zero s.otp.written k w } }

/-- A certificate is accepted (R447). -/
def State.certAccept (s : State) (m : Master) (ob : List Byte) : State :=
  let s := (s.wr (bk m R.AUTH_CERT) (obNat ob 0x38 4)).wr64 (bk m R.AUTH_CERT_SER_LO) (obNat ob 0x30 8)
  let s := (s.wr (bk m R.AUTH_CERT_MAX) (obNat ob 0x44 4)).authShow
  s.raise .certAccepted authSrc
    [.w (mNum m), .d (obNat ob 0x30 8), .w (obNat ob 0x38 4), .w (obSigner ob), .w (obNat ob 0x44 4)]

/-- A Jexairoth response is accepted (R449). -/
def State.jexAccept (s : State) (m : Master) (ob : List Byte) : State :=
  let r := obNat ob 0x50 4
  let s := (s.wr (bk m R.AUTH_JEX) (Nat.lor (s.rd (bk m R.AUTH_JEX)) r)).chalDrop m
  (s.authShow).raise .jexGranted authSrc [.w (mNum m), .w r]

/-- Verification of the submitted object is complete (R435). -/
def State.authVerify (s : State) : State :=
  match s.auth.job with
  | none => s
  | some j =>
    let code := s.objCode j
    let s := { s with auth := { s.auth with job := none } }
    if code ≠ 0 then s.authRefuse j.lcy j.master j.op code
    else
      let s := s.setResult j.lcy j.master j.op 2 0
      match obKind j.obj with
      | 1 => s.lcyBegin (obNat j.obj 0x31 1) (obNat j.obj 0x33 1) (mNum j.master)
      | 2 => s.certAccept j.master j.obj
      | 3 => s.jexAccept j.master j.obj
      | _ => s.provision j.obj

/-- A parity error in the verification engine (R456): the object is refused with FORMAT. -/
def State.verifyParity (s : State) : State :=
  match s.auth.job with
  | none => s
  | some j => ({ s with auth := { s.auth with job := none } }).authRefuse j.lcy j.master j.op auFormat

/-! ### Commands (R437, R442, R447 to R450) -/

/-- A write to LCY_CMD. -/
def State.lcyCmd (s : State) (m : Master) (v : Nat) : State :=
  match v % 16 with
  | 1 => s.submit m true 1 1
  | 2 => s.submit m true 2 4
  | _ => s

/-- 32 bytes of a challenge: values the spec leaves open (R448). -/
def State.drawChal (s : State) (m : Master) : State :=
  (List.range 8).foldl (fun s k => let x := s.takeFree; x.2.wr (bk m (R.AUTH_CHAL k)) (x.1 % 2 ^ 32)) s

/-- OP CHALLENGE (R448). -/
def State.challenge (s : State) (m : Master) (req : Nat) : State :=
  let st := s.f F.LCY_STAT_STATE
  if req = 0 then s.authRefuse false m 2 auFormat
  else if s.scrapped then s.authRefuse false m 2 auScrapped
  else if s.lcyBusy || !s.auth.trngOk then s.authRefuse false m 2 auBusy
  else if st ≠ 3 ∧ st ≠ 4 ∧ st ≠ 5 then s.authRefuse false m 2 auState
  else if s.f F.TAL_STAT_BOOT_OK = 0 then s.authRefuse false m 2 auBoot
  else if !s.has m rtObserve then s.authRefuse false m 2 auMaster
  else
    let s := (s.drawChal m).setResult false m 2 2 0
    let s := (s.setF (bkF m F.AUTH_CHAL_REQ_OUTSTANDING) 1).setF (bkF m F.AUTH_CHAL_REQ_REQ) req
    let s := match m with
      | .pass => { s with auth := { s.auth with chalP := s.clk } }
      | .host => { s with auth := { s.auth with chalH := s.clk } }
    s.raise .challengeIssued authSrc [.w (mNum m), .w (req * 2 ^ 24)]

/-- OP DROP (R450). -/
def State.authDrop (s : State) (m : Master) : State :=
  if s.scrapped then s.authRefuse false m 4 auScrapped
  else if s.lcyBusy then s.authRefuse false m 4 auBusy
  else (s.setResult false m 4 2 0).grantsEnd m geDrop true

/-- A write to AUTH_CMD. -/
def State.authCmd (s : State) (m : Master) (v : Nat) : State :=
  match v % 16 with
  | 1 => s.submit m false 1 2
  | 2 => s.challenge m (bits v 24 3)
  | 3 => s.submit m false 3 3
  | 4 => s.authDrop m
  | _ => s

/-- A challenge outstanding for 150,000,000,000 tk is discarded (R448). -/
def State.chalExpire (s : State) : State :=
  let one := fun (s : State) (m : Master) (t0 : Nat) =>
    if s.f (bkF m F.AUTH_CHAL_REQ_OUTSTANDING) = 1 ∧ t0 + 150000000000 ≤ s.clk then s.chalDrop m else s
  one (one s .pass s.auth.chalP) .host s.auth.chalH

/-- The random-number generator's health test (R456). -/
def State.trng (s : State) (ok : Bool) : State :=
  let s := { s with auth := { s.auth with trngOk := ok } }
  if ok then s else s.hubFault 0x10 0

/-! ### The ledger epoch and resets (R445, R450) -/

/-- The epoch check of start-up (R445). -/
def State.epochCheck (s : State) : State :=
  let st := s.f F.LCY_STAT_STATE
  if s.f F.TAL_STAT_LOST = 0 ∨ st = 0 ∨ 6 ≤ st then s
  else
    let e := s.otp.epochNo
    if e = 15 then s.setF F.SUM_START_STAT_EPOCH_SPENT 1
    else
      let next := ((List.range 15).find? fun i => !bit s.otp.epoch.vote i).getD 14
      let s := { s with otp := { s.otp with epoch := s.otp.epoch.setAll (2 ^ next) } }
      ((s.setF F.LCY_STAT_EPOCH (e + 1)).setF F.SUM_START_STAT_EPOCH_BURNED 1).raise .epochBurned authSrc [.w (e + 1)]

/-- Grants at a chip warm reset (R450). -/
def State.authWarm (s : State) : State := (s.grantsEnd .pass geWarm false).grantsEnd .host geWarm false

/-- Grants and the request buffers at a hub soft reset (R450); a transition waits to be resumed (R440). -/
def State.authSoft (s : State) : State :=
  let s := (s.grantsEnd .pass geSoft true).grantsEnd .host geSoft true
  let s := if s.auth.run.isSome then
      (((s.setF F.LCY_STAT_DECIDED 0).setF F.LCY_STAT_IN_TRANSITION 0).setF F.LCY_STAT_RESUMING 0).setF F.LCY_STAT_STALLED 0
    else s
  { s with auth := { s.auth with job := none, run := none, bufP := [], bufH := [] } }

end Sys2Proof.Machine
end

