-- ==== Sys2Proof/Machine/Pass.lean ====
section
/-! DEFINITION. Machine/Pass.lean: the port: frames and their delivery, sessions, the lanes, the TAP, drains through the port and the
reach across the fabric (15). -/

namespace Sys2Proof.Machine

/-- The source number of the port controller (15 R491). -/
def passSrc : Nat := 0x1009

/-- Kinds of session (R472). -/
def sessNone : Nat := 0
def sessLanes : Nat := 1
def sessTap : Nat := 2
def sessRelay : Nat := 3

/-- Causes of SESSION_END (R477). -/
def seBye : Nat := 0
def seKeepalive : Nat := 1
def seLink : Nat := 2
def seHello : Nat := 3
def seSoft : Nat := 4
def seBufUc : Nat := 5
def seTapReset : Nat := 6
def seRelayClosed : Nat := 7
def seLeadLost : Nat := 8

/-- The session that exists. -/
def State.sess (s : State) : Nat := s.f F.PASS_STAT_SESSION

/-- The port's own part changed. -/
def State.modPass (s : State) (g : PassSt → PassSt) : State := { s with pass := g s.pass }

/-- PASS_KA_TMO as it acts, in tk (R488). -/
def State.kaTk (s : State) : Nat := max (s.f F.PASS_KA_TMO_MS) 1 * 2500000

/-- Has start-up reached PHASE DONE (16 R502, R503)? -/
def State.started (s : State) : Bool := s.f F.SUM_START_STAT_PHASE == 6

/-- Is this hub lead (R483)? -/
def State.isLead (s : State) : Bool := s.f F.PASS_STAT_LEAD == 1

/-! ### Frames to send (R464 to R467) -/

/-- The 64-bit words of bytes, least significant byte first, the last word filled with 0. -/
def wordsOf (bs : List Byte) : List Nat := (List.range (ceilDiv bs.length 8)).map fun i => ofLe ((bs.drop (8 * i)).take 8)

/-- The class of a frame in the order of R467: 2 control, 3 REG_RSP, 4 TRACE_DATA, 5 DUMP_DATA. -/
def frameClass (ftype : Nat) : Nat :=
  if ftype = 0x11 then 3 else if ftype = 0x31 then 4 else if ftype = 0x30 then 5 else 2

/-- A frame joins those to send. -/
def State.frameOut (s : State) (ftype dev : Nat) (words : List Nat) : State :=
  s.modPass fun p => { p with sendq := p.sendq ++ [⟨ftype, frameClass ftype, dev, words, 0, 0⟩] }

/-- The device ID this hub gives as the source of its frames (R464). -/
def State.ownDev (s : State) : Nat := s.f F.SUM_DEV_ID_DEV_ID

/-- The least class among frames to send. -/
def leastClass (l : List Frame) : Nat := l.foldl (fun n f => min n f.cls) 6

/-- The next new frame (R467): of the first class, in rotation by device ID after device `last`, first come first within a device. -/
def nextFrame (l : List Frame) (last : Nat) : Option Frame :=
  let c := l.filter fun f => f.cls == leastClass l
  let after := c.filter fun f => decide (last < f.dev)
  let pool := if after.isEmpty then c else after
  let dev := pool.foldl (fun n f => min n f.dev) 0x10000
  pool.find? fun f => f.dev == dev

/-- What the hub sends when the lanes are free (R466, R467): a frame again, a new frame, or an ACK that is due. -/
inductive Sending
  | again (i : Nat) (f : Frame)
  | fresh (f : Frame)
  | ackOnly
  | nothing
  deriving DecidableEq, Repr

/-- The choice of R467; a sender holds at most 64 frames unacknowledged (R466). -/
def State.sending (s : State) : Sending :=
  let p := s.pass
  match p.unacked[p.resend]? with
  | some f => .again p.resend f
  | none =>
    match (if p.unacked.length < 64 then nextFrame p.sendq (match p.lastTx with | some f => f.dev | none => 0) else none) with
    | some f => .fresh f
    | none => if p.ackDue || p.nakDue then .ackOnly else .nothing

/-! ### Lanes and rates (R461, R473, R474) -/

/-- Payload rate in Mb/s of a rate code and a set of lanes (R461, R488). -/
def payRate (rate lanes : Nat) : Nat :=
  let n := b2n (bit lanes 0) + b2n (bit lanes 1)
  match rate with
  | 0 => 10000 * n
  | 1 => 25000 * n
  | _ => if n = 2 then 54545 else 27272 * n

/-- MAX_RATE as it acts. -/
def State.maxRate (s : State) : Nat := min (s.f F.PASS_CTRL_MAX_RATE) 2

/-- Lanes PASS_CTRL allows (R473). -/
def State.lanesOn (s : State) : Nat :=
  let e := s.f F.PASS_CTRL_LANE0_EN + 2 * s.f F.PASS_CTRL_LANE1_EN
  if e = 0 then 3 else e

/-- RATE, LANES and PASS_RATE of the session. -/
def State.setRate (s : State) (rate lanes : Nat) : State :=
  ((s.setF F.PASS_STAT_RATE rate).setF F.PASS_STAT_LANES lanes).setF F.PASS_RATE_MBPS (payRate rate lanes)

/-! ### Members (R484, R489) -/

/-- A member of the lead hub's table. -/
def State.member (s : State) (dev : Nat) : Option Member := smGet none s.pass.members dev

/-- A member set or changed. -/
def State.setMember (s : State) (dev : Nat) (m : Option Member) : State :=
  s.modPass fun p => { p with members := smSet none p.members dev m }

/-- PASS_FAB_STAT shows the table. -/
def State.fabShow (s : State) : State :=
  let ms := s.pass.members.filterMap (·.2)
  (s.setF F.PASS_FAB_STAT_MEMBERS (ms.filter (·.present)).length).setF F.PASS_FAB_STAT_RELAYS (ms.filter (·.relay)).length

/-- PASS_FAB_ENT of a master (R489): STATUS holds FATAL, SERVICE, HB_OK and LCY in bits [5:0]. -/
def State.fabEnt (s : State) (m : Master) : Nat :=
  match s.member (s.f (bkF m F.PASS_FAB_SEL_ID)) with
  | none => 0
  | some x => b2n x.present + 2 * b2n x.relay + 4 * (x.status % 64)

/-- PASS_FAB_UIDk of a master. -/
def State.fabUid (s : State) (m : Master) (k : Nat) : Nat :=
  match s.member (s.f (bkF m F.PASS_FAB_SEL_ID)) with
  | none => 0
  | some x => bits x.uid (32 * k) 32

/-! ### The lead (R483) -/

/-- Outcomes that LEAD_CHANGE carries. -/
def leClaimed : Nat := 0
def leDropped : Nat := 1
def leRefused : Nat := 2

/-- The lead ends (R483): the table is cleared, relays with it. -/
def State.leadEnd (s : State) : State :=
  if s.isLead then
    let s := (s.setF F.PASS_STAT_LEAD 0).modPass fun p => { p with members := [], found := [], fresh := 0, discT := none, heldX := [], carried := [] }
    ((s.setF F.PASS_FAB_STAT_DISC_BUSY 0).fabShow).raise .leadChange passSrc [.w leDropped, .w 0]
  else s

/-- Discovery begins (R484). -/
def State.discover (s : State) (first : Bool) : State :=
  (s.setF F.PASS_FAB_STAT_DISC_BUSY 1).modPass fun p => { p with first := first, found := [], fresh := 0, discT := some s.clk }

/-- The lead hub's own entry and device ID (R484). -/
def State.leadSelf (s : State) : State :=
  let s := (s.setF F.SUM_DEV_ID_DEV_ID 0).setF F.SUM_DEV_ID_VALID 1
  (s.setMember 0 (some ⟨s.uid, true, false, 0, s.clk⟩)).fabShow

/-- A claim (R483): `lead` says that another hub is lead already, `rival` is the DEVICE_UID of that hub or of a claim that meets this
one, 0 where there is none. -/
def State.leadClaim (s : State) (lead : Bool) (rival : Nat) : State :=
  let s := s.setF F.PASS_FAB_STAT_CLAIM_REFUSED 0
  if s.isLead then s
  else if s.sess ≠ sessLanes ∨ lead ∨ (rival ≠ 0 ∧ rival < s.uid) then
    (s.setF F.PASS_FAB_STAT_CLAIM_REFUSED 1).raise .leadChange passSrc [.w leRefused, .w (rival % 2 ^ 32)]
  else
    let s := ((s.setF F.PASS_STAT_LEAD 1).discover true).leadSelf
    s.raise .leadChange passSrc [.w leClaimed, .w (rival % 2 ^ 32)]

/-- A write to PASS_FAB_CTRL (R489), with what the fabric answers to a claim. -/
def State.fabCtrl (s : State) (v : Nat) (lead : Bool) (rival : Nat) : State :=
  let s := if bit v 0 then s.leadClaim lead rival else s
  let s := if bit v 1 then s.leadEnd else s
  if bit v 2 && s.isLead then s.discover false else s

/-! ### Sessions (R472, R477) -/

/-- A session begins (R472). -/
def State.sessOpen (s : State) (kind rate lanes : Nat) : State :=
  let id := s.pass.nextId
  let s := (s.setF F.PASS_STAT_SESSION kind).setF F.PASS_STAT_SESSION_ID id
  let s := ((s.setF F.SUM_ARB_STAT_PASS_UP 1).wr64 R.PASS_SESSION_T_LO s.now).modPass fun p =>
    { p with nextId := (id + 1) % 65536, lastRx := s.clk, kaT := s.clk, progT := s.clk }
  (s.authShow).raise .sessionUp passSrc [.w kind, .w id, .w rate, .w lanes, .w (s.rd R.PASS_PEER)]

/-- The session ends (R477). -/
def State.sessEnd (s : State) (cause : Nat) : State :=
  let kind := s.sess
  if kind = sessNone then s
  else
    let s := (s.exclEnd exclBySession).grantsEnd .pass geSession true
    let s := (s.drainEnd drainSession).trDrainEnd 2
    let s := if kind = sessLanes then s.leadEnd else s
    let s := (s.setF F.PASS_STAT_SESSION sessNone).setF F.SUM_ARB_STAT_PASS_UP 0
    let s := (s.setRate 0 0).setF F.PASS_STAT_TRAINING 0
    let s := s.modPass fun p => { p with
      idle0 := false, idle1 := false, sendq := [], unacked := [], resend := 0, train := none, single := false, reqs := [],
      ackDue := false, nakDue := false, accWait := false }
    s.authShow.raise .sessionEnd passSrc [.w kind, .w (s.f F.PASS_STAT_SESSION_ID), .w cause]

/-! ### Frames received (R465, R466) -/

/-- Frames up to the one numbered `n` leave the list of unacknowledged ones, if it is there. -/
def ackDrop (n : Nat) (l : List Frame) : List Frame :=
  if l.any fun f => f.fseq == n then (l.dropWhile fun f => f.fseq != n).drop 1 else l

/-- The acknowledgement in a trailer takes effect (R464, R466). -/
def State.takeAck (s : State) (t : Trailer) : State :=
  let old := s.pass.unacked.length
  let l := if t.ackOk then ackDrop t.ack s.pass.unacked else s.pass.unacked
  let gone := old - l.length
  s.modPass fun p => { p with
    unacked := l, progT := if gone = 0 then p.progT else s.clk,
    resend := if t.nak then 0 else p.resend - gone }

/-- A frame is accepted (R466): numbered, counted, and acknowledged within 5,000 tk. -/
def State.accept (s : State) (t : Trailer) : State :=
  let s := (s.bump R.PASS_FRM_RX).modPass fun p => { p with
    rxNext := (t.fseq + 1) % 65536, lastFseq := some t.fseq, ackDue := true, lastRx := s.clk }
  s.takeAck t

/-- A frame that is not accepted (R466): discarded and answered with NAK; a bad CRC raises FRAME_CE. -/
def State.frameBad (s : State) (crc : Bool) : State :=
  let s := s.modPass fun p => { p with nakDue := true }
  if crc then (s.satAdd F.PASS_CRC_ERR_CNT 1).hubFault 0x11 0 else s

/-- A frame with a good CRC that belongs to a session: in a LANES session it is accepted in FSEQ order; in a RELAY session it has
come in order through the lead hub; without a session it is discarded. -/
def State.frameIn (s : State) (t : Trailer) (k : State → State) : State :=
  if s.sess = sessLanes then
    if t.fseq = s.pass.rxNext then k (s.accept t) else s.frameBad false
  else if s.sess = sessRelay then k (s.bump R.PASS_FRM_RX)
  else s

/-! ### HELLO and training (R473 to R475) -/

/-- Payload of HELLO_ACK (R465). -/
def State.helloAck (s : State) (rate lanes status : Nat) : List Nat :=
  [1 + 2 ^ 16 * rate + 2 ^ 18 * lanes + 2 ^ 20 * status + 2 ^ 32 * s.f F.PASS_STAT_SESSION_ID + 2 ^ 48 * s.lcs,
   s.rd R.SUM_DEV_ID, bits s.uid 0 64, bits s.uid 64 64, bits s.uid 128 64, bits s.uid 192 64]

/-- A HELLO refused: 1 BUSY, 2 PROTO. -/
def State.helloRefuse (s : State) (status : Nat) : State :=
  s.frameOut 0x02 s.ownDev (s.helloAck (s.f F.PASS_STAT_RATE) (s.f F.PASS_STAT_LANES) status)

/-- A HELLO frame (R472, R473): accepted whatever its FSEQ, it starts the numbering of both directions anew. -/
def State.hello (s : State) (proto rate lanes tool : Nat) (t : Trailer) : State :=
  let s := (s.bump R.PASS_FRM_RX).modPass fun p => { p with ackDue := true, lastFseq := some t.fseq, rxNext := (t.fseq + 1) % 65536 }
  let s := s.wr R.PASS_PEER tool
  if !s.started ∨ s.sess = sessTap ∨ s.sess = sessRelay then s.helloRefuse 1
  else if proto ≠ 1 then s.helloRefuse 2
  else
    let s := s.sessEnd seHello
    let r := min rate s.maxRate
    let l := Nat.land lanes s.lanesOn
    let s := s.modPass fun p => { p with
      txNext := 0, ackDue := true, idle0 := !bit l 0, idle1 := !bit l 1, sendq := [], unacked := [], resend := 0 }
    let s := (s.setRate 0 3).sessOpen sessLanes r l
    let s := s.frameOut 0x02 s.ownDev (s.helloAck r l 0)
    if r = 0 ∧ l = 3 then s
    else (s.setF F.PASS_STAT_TRAINING 1).modPass fun p => { p with train := some (r, l, 0) }

/-- Training ends with a rate and lanes (R474, R482): what is not acknowledged is sent again; a lane not in use stands idle. -/
def State.trained (s : State) (rate lanes cause : Nat) : State :=
  let s := ((s.setRate rate lanes).setF F.PASS_STAT_TRAINING 0).modPass fun p => { p with
    train := none, resend := 0, lock0 := bit lanes 0, lock1 := bit lanes 1, idle0 := !bit lanes 0, idle1 := !bit lanes 1 }
  s.raise .rateChange passSrc [.w rate, .w lanes, .w cause]

/-- Has the HELLO_ACK that names a rate yet to leave? The rate changes after it (R474). -/
def State.helloDue (s : State) : Bool := s.pass.sendq.any fun f => f.ftype == 0x02

/-- Training completes, or its 1 ms timer runs out (R474). -/
def State.rateTrain (s : State) (ok : Bool) : State :=
  match s.pass.train with
  | none => s
  | some (r, l, st) =>
    if s.helloDue then s
    else if ok then s.trained r l (if st = 0 then 0 else 1)
    else if st = 0 then s.modPass fun p => { p with train := some (0, 3, 1), idle0 := false, idle1 := false }
    else s.trained 0 1 1

/-- Lane `n` has had no block lock for 100 µs while the other is in use (R475). -/
def State.laneLost (s : State) (n : Nat) : State :=
  let l := s.f F.PASS_STAT_LANES
  if s.sess = sessLanes ∧ l = 3 ∧ s.pass.train.isNone then
    let rest := clrBit l n
    let s := (s.hubFault 0x11 1).setRate (s.f F.PASS_STAT_RATE) rest
    let s := s.modPass fun p => { p with single := true, resend := 0, lock0 := p.lock0 && n != 0, lock1 := p.lock1 && n != 1 }
    s.raise .rateChange passSrc [.w (s.f F.PASS_STAT_RATE), .w rest, .w 2]
  else s

/-- No lane has held block lock for 1 ms (R475). -/
def State.linkLoss (s : State) : State :=
  if s.sess = sessLanes ∧ s.pass.train.isNone then
    (s.modPass fun p => { p with lock0 := false, lock1 := false }).sessEnd seLink
  else s

/-- A lane gains block lock (R461). -/
def State.lockGained (s : State) (n : Nat) : State :=
  s.modPass fun p => if n = 0 then { p with lock0 := true } else { p with lock1 := true }

/-- A lane goes to electrical idle outside a session, or transmits again (R482). -/
def State.txIdle (s : State) (n : Nat) (on : Bool) : State :=
  let lock := if n = 0 then s.pass.lock0 else s.pass.lock1
  let use := s.sess != sessLanes || bit (s.f F.PASS_STAT_LANES) n
  if on ∧ (s.sess ≠ sessNone ∨ s.f F.PASS_CTRL_TX_IDLE_OFF = 0 ∨ lock) then s
  else if !on ∧ !use then s
  else s.modPass fun p => if n = 0 then { p with idle0 := on } else { p with idle1 := on }

/-! ### Sending (R465 to R467, R476) -/

/-- The frame leaves: counted, and remembered as the last sent; its trailer acknowledges what is due. -/
def State.txDone (s : State) (f : Frame) : State :=
  (s.bump R.PASS_FRM_TX).modPass fun p => { p with lastTx := some f, ackDue := false, nakDue := false }

/-- The hub sends its next frame (R467); the 16th retransmission of a frame in a row ends the session (R466). In a RELAY session
frames go to the lead hub. While the lanes train none leaves but the HELLO_ACK before it (R474). -/
def State.frameSend (s : State) : State :=
  if (s.pass.train.isSome ∧ !s.helloDue) ∨ s.sess = sessTap ∨ (s.sess ≠ sessRelay ∧ s.pass.idle0 ∧ s.pass.idle1) then s
  else match s.sending with
  | .nothing => s
  | .ackOnly => s.txDone ⟨0x05, 2, s.ownDev, [], 0, 0⟩
  | .again i f =>
    let g := { f with retx := f.retx + 1 }
    let s := ((s.satAdd F.PASS_RETX_CNT 1).txDone g).modPass fun p => { p with unacked := p.unacked.set i g, resend := i + 1 }
    if g.retx = 16 then s.sessEnd seLink else s
  | .fresh f =>
    let g := { f with fseq := s.pass.txNext }
    let keep := s.sess == sessLanes
    (s.txDone g).modPass fun p => { p with
      sendq := p.sendq.erase f, txNext := (p.txNext + 1) % 65536,
      progT := if p.unacked.isEmpty then s.clk else p.progT,
      unacked := if keep then p.unacked ++ [g] else p.unacked, resend := if keep then p.unacked.length + 1 else p.resend }

/-- 250,000 tk without progress (R466). -/
def State.retxTimeout (s : State) : State :=
  if s.sess = sessLanes ∧ !s.pass.unacked.isEmpty ∧ s.pass.progT + 250000 ≤ s.clk ∧ s.pass.train.isNone then
    s.modPass fun p => { p with resend := 0, progT := s.clk }
  else s

/-- The hub's KEEPALIVE (R465, R476). -/
def State.kaSend (s : State) : State :=
  if s.sess = sessLanes ∧ s.pass.sendq.isEmpty ∧ s.pass.kaT + s.kaTk / 4 ≤ s.clk then
    let svc := s.rd R.FLT_SVC_STAT != 0
    let w := b2n s.flt.fatal.isSome + 2 * b2n svc + 4 * s.f F.FLT_STAT_HB_RUN + 8 * s.lcs
    (s.frameOut 0x03 s.ownDev [w]).modPass fun p => { p with kaT := s.clk }
  else s

/-- PASS_KA_TMO passes without an accepted frame or PASS_ACC scan (R476, R481). -/
def State.kaTimeout (s : State) : State :=
  if (s.sess = sessLanes ∨ s.sess = sessTap) ∧ s.pass.lastRx + s.kaTk ≤ s.clk then s.sessEnd seKeepalive else s

/-- A MARK block for a pin pulse at `t` (R470): only in a LANES session. -/
def State.markSend (s : State) (t : Nat) : State :=
  if s.sess = sessLanes then s.modPass fun p => { p with marks := [(t % 2 ^ 48, p.markNo)], markNo := (p.markNo + 1) % 256 } else s

/-- An uncorrectable word in the port's buffers (R490). -/
def State.portBufUc (s : State) : State := (s.hubMemFault 0x11 2 none).sessEnd seBufUc

/-! ### Drains through the port (R471; 08 R273, R275; 10 R344) -/

/-- One DUMP_DATA frame for the bytes of a part at offset `o`. -/
def State.dumpFrame (s : State) (slot part chunk o : Nat) (held dam last : Bool) (bs : List Byte) : State :=
  let sub := slot + 4 * part + 16 * chunk + 2 ^ 23 * b2n held + 2 ^ 24 * b2n dam + 2 ^ 25 * b2n last + 2 ^ 32 * o
  s.frameOut 0x30 s.ownDev (sub :: wordsOf bs)

/-- A part of a dump in frames of at most 4,096 bytes; `held` and `dam` tell of bytes `i` of the part. -/
def State.dumpPart (s : State) (slot part chunk : Nat) (bs : List Byte) (held dam : Nat → Bool) : State :=
  let n := max (ceilDiv bs.length 4096) 1
  (List.range n).foldl (fun s k =>
    let o := 4096 * k
    let cut := (bs.drop o).take 4096
    let any := fun (p : Nat → Bool) => (List.range (ceilDiv cut.length 64)).any fun g => p (o + 64 * g)
    s.dumpFrame slot part chunk o (any held) (any dam) (k + 1 == n) cut) s

/-- The header of a slot as the region holds it: the copy that counts (08 R270). -/
def State.hdrBytes (s : State) (n : Nat) : Option (List Byte) := (s.hdrBest n).map fun k => s.getMeta (hdrOff n k) 256

/-- The bytes of a chunk's data range. -/
def State.chunkData (s : State) (c : Chunk) : List Byte :=
  (List.range (64 * (c.fin - c.start))).map fun i => smGet 0 s.mem (s.granAddr (c.start + i / 64) (i % 64))

/-- Is granule `g` of the log the data of a page entry with SEC (R275)? -/
def Chunk.secGran (c : Chunk) (g : Nat) : Bool :=
  c.pages.any fun e => e.sec && decide (e.off ≤ g) && decide (g < e.off + ceilDiv e.len 64)

/-- The records of a chunk as the slot's manifest holds them: chunk record, unit entries, link records and page entries (08 R265, R273). -/
def State.chunkRecs (s : State) (n : Nat) (c : Chunk) : List Byte :=
  let o := manifestOff n
  let us := (List.range 0xBC0).filter fun id => c.units.contains id
  let ps := (c.pages.map (·.ord)).mergeSort fun a b => decide (a ≤ b)
  s.getMeta (o + 0xBCD000 + 32 * (c.n - 1)) 32 ++ us.flatMap (fun id => s.getMeta (o + 64 * id) 64)
    ++ (if c.links then s.getMeta (o + 0x2F000) 2048 else []) ++ ps.flatMap fun k => s.getMeta (o + 0x30000 + 32 * k) 32

/-- The drain sends its next part (08 R273, R274): the header; a committed chunk's records and then its data; the header once more.
`uc` lists granules of the chunk's data, by position, that met an uncorrectable word (08 R284). -/
def State.dumpSend (s : State) (uc : List Nat) : State :=
  match s.cou.drain with
  | none => s
  | some d =>
    let x := s.slot d.slot
    let setD := fun (s : State) (d : Drain) => ({ s with cou := { s.cou with drain := some d } } : State)
    let no := fun (_ : Nat) => false
    if d.paused ∨ !s.passUp then s
    else match s.hdrBytes d.slot with
    | none => (s.hubFault 0x08 2).slotBad d.slot
    | some hdr =>
    if !d.head then setD (s.dumpPart d.slot 0 0 hdr no no) { d with head := true }
    else if d.sent < x.committed then
      if x.ack + min (max (s.f F.COU_DRAIN_CTRL_WINDOW) 1) 8 ≤ d.sent then s
      else match x.chunks.find? fun c => c.n == d.sent + 1 with
      | none => s
      | some c =>
        let sec := s.has .pass rtDumpSecure
        let held := fun (i : Nat) => !sec && c.secGran (c.start + i / 64)
        let data := (s.chunkData c).zipIdx.map fun e => if held e.2 then (0 : Byte) else e.1
        let s := s.dumpPart d.slot 1 c.n (s.chunkRecs d.slot c) no no
        let s := s.dumpPart d.slot 2 c.n data held fun i => uc.contains (i / 64)
        let s := if uc.isEmpty then s else s.hubMemFault 0x08 1 none
        (setD s { d with sent := c.n }).setF F.COU_DRAIN_STAT_SENT c.n
    else if x.st = 3 ∧ !d.tail then setD (s.dumpPart d.slot 3 x.committed hdr no no) { d with tail := true }
    else s

/-- The trace drain sends its next block (10 R344); one of the ring waits while the BMUs are in reset (10 R346). -/
def State.traceSend (s : State) : State :=
  if !s.passUp then s
  else match s.trNext with
  | none => s
  | some no =>
    if s.scr.paused && !(s.scr.buf.any fun b => b.no == no) then s else
    let s := match s.blkSend no (s.has .pass rtTraceSecure) with
      | none => s.frameOut 0x31 s.ownDev [no + 2 ^ 33]
      | some (held, bs) =>
        let dam := s.scr.buf.any fun b => b.no == no && b.dam
        s.frameOut 0x31 s.ownDev ((no + 2 ^ 32 * b2n held + 2 ^ 34 * b2n dam) :: wordsOf bs)
    s.trSent no

/-! ### The TAP (R479) -/

/-- Instruction codes of the TAP. -/
def tapExtest : Nat := 0x00
def tapSample : Nat := 0x01
def tapIdcode : Nat := 0x02
def tapHighz : Nat := 0x08
def tapClamp : Nat := 0x09
def tapPassAcc : Nat := 0x10
def tapBypass : Nat := 0x1F

/-- What IDCODE captures. -/
def idcode : Nat := 0x10E3156D

/-- May EXTEST, HIGHZ and CLAMP take effect: RAW, TEST_OPEN and RMA? -/
def State.tapOpen (s : State) : Bool := s.lcs == 0 || s.lcs == 2 || s.lcs == 5

/-- The instruction that acts once `code` is loaded: BYPASS where the life cycle forbids it, and for all but IDCODE and
PASS_ACC while the PLL has not locked (16 R501). -/
def State.tapLoad (s : State) (code : Nat) : State :=
  let drive := code == tapExtest || code == tapHighz || code == tapClamp
  let ok := code == tapIdcode || code == tapPassAcc || (s.rdg.running && (!drive || s.tapOpen))
  s.modPass fun p => { p with ir := if ok then code else tapBypass }

/-- The data the selected register captures: IDCODE, the PASS_ACC result, or 0 (R479, R480). -/
def State.tapCapture (s : State) : Nat :=
  let p := s.pass
  if p.ir = tapIdcode then idcode
  else if p.ir = tapPassAcc then p.accData + 2 ^ 32 * p.accCode + 2 ^ 36 * b2n p.accDone + 2 ^ 37 * b2n p.accBusy
  else 0

/-- A TAP reset (R479, R481). -/
def State.tapReset (s : State) : State :=
  let s := s.modPass fun p => { p with ir := tapIdcode }
  if s.sess = sessTap then s.sessEnd seTapReset else s

/-! ### The fabric (R484 to R487) -/

/-- A cross-device cut or resume is sent by the lead hub (04 R138, R142): T = now + SUM_XCUT_LEAD, its own request, and the members
that have yet to answer. What its own request schedules goes to every member with its T and its cut ID; a resume goes to them even where the
lead hub's own part has ended (16 R506; log entry 60). -/
def State.xcutSend (s : State) (kind src : Nat) : State × CutRes :=
  let t := s.now + s.xcutLead
  let r := s.cutReq kind src false (some t)
  let own := match r.1.cut.jobs.getLast? with | some j => j.t | none => t
  let msg : XMsg := ⟨kind, if r.2.out = 0 then own else t, r.1.f F.SUM_CUT_STAT_CUT_ID⟩
  let away := (s.pass.members.filter fun e => e.1 != 0 && (match e.2 with | some m => m.present | none => false)).map (·.1)
  if r.2.out = 0 ∧ kind < 2 then
    let s := (r.1.setF F.SUM_XCUT_STAT_ACCEPTED 0).setF F.SUM_XCUT_STAT_REFUSED 0
    ({ s with cut := { s.cut with xWait := away, xId := s.f F.SUM_CUT_STAT_CUT_ID, xRefused := false, xSent := some msg } }, r.2)
  else if kind = 2 then ({ r.1 with cut := { r.1.cut with xSent := some msg } }, r.2)
  else r

/-- A cross-device request (03 R100; 04 R138; 15 R487): out 4 is forwarded to the lead hub, or held. ABANDON has no cross-device form. -/
def State.xcutReq (s : State) (kind src : Nat) : State × CutRes :=
  if s.f F.RDG_STAT_ALIGNED = 0 then s.cutRefuse refNotAligned src
  else if s.isLead then
    if s.f F.SUM_DEV_ID_VALID = 1 then s.xcutSend kind src
    else (s.modPass fun p => { p with heldX := p.heldX ++ [⟨kind, src⟩] }, ⟨4, 0⟩)
  else if s.f F.SUM_DEV_ID_VALID = 1 then ({ s with cut := { s.cut with xFwd := s.cut.xFwd ++ [⟨kind, src⟩] } }, ⟨4, 0⟩)
  else s.cutRefuse refNotAligned src

/-- The lowest free ID of the table (R484); none where all 4,096 are taken. -/
def State.freeDev (s : State) : Option Nat := (List.range 4096).find? fun d => d != 0 && (s.member d).isNone

/-- A member joins or answers (R484, R487). -/
def State.memberUp (s : State) (dev uid status : Nat) : State :=
  let was := match s.member dev with | some m => m.present | none => false
  let relay := match s.member dev with | some m => m.relay | none => false
  let s := (s.setMember dev (some ⟨uid, true, relay, status, s.clk⟩)).fabShow
  if was then s else s.raise .hubJoined passSrc [.w dev, .w (uid % 2 ^ 32)]

/-- The ID the table holds for a DEVICE_UID. -/
def State.devOf (s : State) (uid : Nat) : Option Nat :=
  (s.pass.members.find? fun e => match e.2 with | some m => m.uid == uid | none => false).map (·.1)

/-- A hub that answers is given its ID: that of the table, else the lowest free one (R484). -/
def State.assign (s : State) (uid status : Nat) : State :=
  match s.devOf uid with
  | some d => s.memberUp d uid status
  | none =>
    match s.freeDev with
    | none => s
    | some d => (s.modPass fun p => { p with fresh := p.fresh + 1 }).memberUp d uid status

/-- A hub announces itself or answers (R484). On the lead hub, an answer to the first discovery waits until its end, when IDs are
given in ascending DEVICE_UID; on the hub that is given `dev`, SUM_DEV_ID is written as a hardware update. -/
def State.announce (s : State) (uid dev status : Nat) : State :=
  if s.isLead then
    if uid = s.uid then s
    else if s.pass.first ∧ s.pass.discT.isSome ∧ (s.devOf uid).isNone then
      s.modPass fun p => { p with found := (p.found.filter fun e => e.1 != uid) ++ [(uid, status)] }
    else s.assign uid status
  else if uid = s.uid then (s.setF F.SUM_DEV_ID_DEV_ID dev).setF F.SUM_DEV_ID_VALID 1
  else s

/-- The discovery window ends (R484). -/
def State.discoverEnd (s : State) : State :=
  match s.pass.discT with
  | none => s
  | some t =>
    if !s.isLead ∨ s.clk < t + 25000000 then s
    else
      let s := (s.pass.found.mergeSort fun a b => decide (a.1 ≤ b.1)).foldl (fun s e => s.assign e.1 e.2) s
      let fresh := s.pass.fresh
      let s := (s.setF F.PASS_FAB_STAT_DISC_BUSY 0).modPass fun p => { p with first := false, found := [], fresh := 0, discT := none }
      let ms := s.pass.members.filterMap (·.2)
      let here := (ms.filter (·.present)).length
      s.raise .discoveryDone passSrc [.w here, .w fresh, .w (ms.length - here)]

/-- A member leaves (R484): 0 no answer, 1 links down. -/
def State.memberDown (s : State) (dev cause : Nat) : State :=
  match s.member dev with
  | some m =>
    if s.isLead ∧ dev ≠ 0 ∧ m.present then
      ((s.setMember dev (some { m with present := false, relay := false })).fabShow).raise .hubLeft passSrc [.w dev, .w cause]
    else s
  | none => s

/-- A member has given no answer for PASS_KA_TMO (R484). -/
def State.memberTimeout (s : State) (dev : Nat) : State :=
  match s.member dev with
  | some m => if m.lastT + s.kaTk ≤ s.clk then s.memberDown dev 0 else s
  | none => s

/-- The Hokuing links of a lead hub are up again (R484, R487): its own ID, discovery, and the requests it held. -/
def State.linksUp (s : State) : State :=
  if s.isLead ∧ s.f F.SUM_DEV_ID_VALID = 0 then
    let held := s.pass.heldX
    let s := (s.leadSelf.discover false).modPass fun p => { p with heldX := [] }
    held.foldl (fun s (x : XReq) => (s.xcutSend x.kind x.src).1) s
  else s

/-- The hubs a RELAY_OPEN or RELAY_CLOSE names: `dev`, or with ALL every other member. -/
def State.named (s : State) (dev : Nat) (all : Bool) : List Nat :=
  if all then ((s.pass.members.filter fun e => e.1 != 0 && e.2.isSome).map (·.1)) else [dev]

/-- A frame from the debugger is carried to the hub with device ID `dev` (R485). -/
def State.carry (s : State) (dev ftype : Nat) (words : List Nat) : State :=
  s.modPass fun p => { p with carried := ⟨dev, ftype, words⟩ :: p.carried }

/-- Does this hub, as lead, hold a relay session to the hub with device ID `dev` (R485)? -/
def State.relays (s : State) (dev : Nat) : Bool := match s.member dev with | some m => s.isLead && m.relay | none => false

/-- One hub of a RELAY_OPEN (R485), asked with SHARE: 0 OPEN, 1 BUSY, 2 NO_DEV, 3 TIMEOUT; `ok` and `busy` list the hubs that answer so. -/
def State.relayOne (share : Nat) (ok busy : List Nat) (s : State) (dev : Nat) : State :=
  let there := match s.member dev with | some m => s.isLead && m.present && dev != 0 | none => false
  let st := if !there then 2 else if busy.contains dev then 1 else if ok.contains dev then 0 else 3
  let s := if there then s.carry dev 0x40 [dev + 2 ^ 32 * share] else s
  let s := match s.member dev with
    | some m => if st = 0 then (s.setMember dev (some { m with relay := true })).fabShow else s
    | none => s
  s.frameOut 0x41 s.ownDev [dev + 2 ^ 12 * st]

/-- A RELAY_OPEN frame (R485). -/
def State.relayOpen (s : State) (dev : Nat) (all : Bool) (share : Nat) (ok busy : List Nat) : State :=
  (s.named dev all).foldl (State.relayOne share ok busy) s

/-- A RELAY_CLOSE (R485): on the lead hub its relays close; on the relayed hub the session ends. -/
def State.relayClose (s : State) (dev : Nat) (all : Bool) : State :=
  if s.sess = sessRelay then (if all ∨ dev = s.ownDev then s.sessEnd seRelayClosed else s)
  else
    ((s.named dev all).foldl (fun (s : State) d =>
      match s.member d with
      | some m => (if s.relays d then s.carry d 0x42 [d] else s).setMember d (some { m with relay := false })
      | none => s) s).fabShow

/-- A lead hub's relay open reaches this hub (R485): it accepts when it holds no session. -/
def State.relayed (s : State) (share : Nat) : State :=
  if s.sess = sessNone ∧ s.started then
    (((s.setF F.PASS_RATE_MBPS share)).modPass fun p => { p with lastRx := s.clk }).sessOpen sessRelay 0 0
  else s

/-- A relayed hub hears the lead hub (R486). -/
def State.relayKa (s : State) : State :=
  if s.sess = sessRelay then s.modPass fun p => { p with lastRx := s.clk } else s

/-- A relayed hub has heard nothing for PASS_KA_TMO (R486). -/
def State.leadLost (s : State) : State :=
  if s.sess = sessRelay ∧ s.pass.lastRx + s.kaTk ≤ s.clk then s.sessEnd seLeadLost else s

/-! ### Resets (R478, R488) -/

/-- SUM_DEV_ID resets (R484); members whose links a warm reset of the lead hub takes down stand in the table. -/
def State.devReset (s : State) : State := s.wr R.SUM_DEV_ID 0

end Sys2Proof.Machine
end

