-- ==== Sys2Proof/Machine/Tfit.lean ====
section
/-! DEFINITION. Machine/Tfit.lean: the trace governor, which fits the trace to the port (12 R394 to R396). -/

namespace Sys2Proof.Machine

/-- Blocks the writer has completed, as a number modulo 2^32. -/
def State.blksDone (s : State) : Nat := (s.scr.nextNo + 2 ^ 32 - b2n s.scr.cur.isSome) % 2 ^ 32

/-- Is the governor enabled? -/
def State.tfOn (s : State) : Bool := s.f F.WCH_CTRL_TFIT_EN == 1

/-- Does the governor act now (R394)? -/
def State.tfActs (s : State) : Bool := s.tfOn && s.trMode == 2 && s.scr.drain.isSome

/-- TARGET as it acts. -/
def State.tfTarget (s : State) : Nat := min (max (s.f F.WCH_TFIT_CTRL_TARGET) 1) 100

/-- LOW as it acts. -/
def State.tfLow (s : State) : Nat := min (s.f F.WCH_TFIT_CTRL_LOW) (s.tfTarget - 1)

/-- SAMPLE_MAX as it acts. -/
def State.tfMax (s : State) : Nat := max (s.f F.WCH_TFIT_CTRL_SAMPLE_MAX) s.wch.baseSample

/-- The last step of the ladder. -/
def State.tfLast (s : State) : Nat := 2 + (s.tfMax - s.wch.baseSample)

/-- SAMPLE at a step. -/
def State.tfSample (s : State) (step : Nat) : Nat := min (s.wch.baseSample + (step - 1)) s.tfMax

/-- MIN_LEVEL at a step. -/
def State.tfMin (s : State) (step : Nat) : Nat :=
  if step = 0 then s.wch.baseMin else if s.tfLast ≤ step then 2 else max s.wch.baseMin 1

/-- A step's values are put in force (R395): a change of level writes STATE under R343, and a change of SAMPLE alone writes it too. -/
def State.tfApply (s : State) (step : Nat) : State :=
  let lv := s.f F.SCR_STAT_LEVEL
  let sm := s.f F.SCR_CTRL_SAMPLE
  let s := (s.setF F.SCR_CTRL_SAMPLE (s.tfSample step)).setF F.SCR_CTRL_MIN_LEVEL (s.tfMin step)
  let s := (s.setF F.WCH_TFIT_STAT_STEP step).levelFit
  let s := { s with wch := { s.wch with lowRun := 0 } }
  if s.f F.SCR_STAT_LEVEL = lv ∧ s.f F.SCR_CTRL_SAMPLE ≠ sm ∧ s.trMask ≠ 0 ∧ lv ≠ 3 then (s.stateIn s.now 2).scrShow else s

/-- A move of the governor (R395, R396). -/
def State.tfMove (s : State) (step : Nat) : State := (s.tfApply step).wrapAdd F.WCH_TFIT_STAT_MOVES 1

/-- A window begins. -/
def State.tfWindow (s : State) : State := { s with wch := { s.wch with winT := s.clk, winBlocks := s.blksDone } }

/-- The present SAMPLE and MIN_LEVEL are the baseline at step 0 (R395). -/
def State.tfBase (s : State) : State :=
  let s : State := { s with wch := { s.wch with
    baseSample := s.f F.SCR_CTRL_SAMPLE, baseMin := s.f F.SCR_CTRL_MIN_LEVEL, lowRun := 0 } }
  s.setF F.WCH_TFIT_STAT_STEP 0

/-- TFIT_EN has changed from `was` (R395). -/
def State.tfEnable (s : State) (was : Bool) : State :=
  if s.tfOn && !was then s.tfBase.tfWindow else if !s.tfOn && was then s.tfApply 0 else s

/-- The end of a window (R394, R395). -/
def State.tfEnd (s : State) : State :=
  let n := (s.blksDone + 2 ^ 32 - s.wch.winBlocks) % 2 ^ 32
  let acts := s.tfActs
  let s := s.tfWindow
  if !acts then s
  else
    let i := 8 * 4096 * n
    let c := s.f F.PASS_RATE_MBPS
    let s := s.setF F.WCH_TFIT_STAT_INTAKE (if c = 0 then (if n = 0 then 0 else 255) else min (i / c) 255)
    let step := min (s.f F.WCH_TFIT_STAT_STEP) s.tfLast
    if s.tfTarget * c < i then (if step < s.tfLast then s.tfMove (step + 1) else { s with wch := { s.wch with lowRun := 0 } })
    else if i < s.tfLow * c then
      let s : State := { s with wch := { s.wch with lowRun := s.wch.lowRun + 1 } }
      if 8 ≤ s.wch.lowRun ∧ step ≠ 0 then s.tfMove (step - 1) else s
    else { s with wch := { s.wch with lowRun := 0 } }

end Sys2Proof.Machine
end

