-- ==== Sys2Proof/Machine/Reset.lean ====
section
/-! DEFINITION. Machine/Reset.lean: power-up and start-up, domains that come up and go down, chip warm reset, hub soft reset, and
the hub's power states (16; 01 R17; 03 R90). -/

namespace Sys2Proof.Machine

/-! ### Units going down and coming up (R17, R90, R373, R512) -/

/-- The final stamp of a unit (10 R339): its leaf's value at its last edge, which a unit in a low-power state has behind it. DESIGN CHOICE: a
unit whose leaf is not valid has none, and the master counter stands for it (log entry 17). -/
def State.finalStamp (s : State) (id : Nat) : Nat :=
  let c := s.cairn id
  if c.asleep then c.dormT else if c.leafValid then s.leafVal id else s.now

/-- A unit loses its domain: a fence whose FENCE_DONE has not left the Cairn is applied again at the wake (11 R373), and the Cairn
holds no state. Only the check bits of stack memory outlast it (R512). -/
def State.unitOff (s : State) (id : Nat) : State :=
  let r := s.fence id
  let c := s.cairn id
  let kept := r.drained && !(c.queue.any fun q => q.ev.name == .fenceDone && !q.sent)
  let s := if r.fenced && r.pending && !kept then s.setFence id { r with awaitWake := true, ordered := true, drained := false } else s
  let uc := if kindOf id = 3 then c.ucWords.filter fun w => decide (viewKey 1 0 ≤ w) && decide (w < viewKey 2 0) else []
  s.setCairn id { Cairn.off with ucWords := uc, dormT := s.finalStamp id }

/-- Valid leaves of a half as RDG_LEAF_VALID shows them. -/
def leafValidF (h : Nat) : Fld := if h = 0 then F.RDG_LEAF_VALID_HALF0 else F.RDG_LEAF_VALID_HALF1

/-- Has Summit enumerated the Cairns (R502)? -/
def State.enumerated (s : State) : Bool := decide (4 ≤ s.f F.SUM_START_STAT_PHASE)

/-- Is a chip warm reset over (R500)? WARM_DONE is raised once, when every Cairn is valid or dormant and the BMUs are ready. -/
def State.warmCheck (s : State) : State :=
  let up := s.cairns.filter fun e => e.2.powered
  if s.f F.SUM_RST_STAT_WARM_ACTIVE = 1 ∧ s.rst.warmWait = [] ∧ !s.rst.bmuWait ∧ up.all (fun e => e.2.leafValid) then
    (s.setF F.SUM_RST_STAT_WARM_ACTIVE 0).raise .warmDone 0x1000
      [.w up.length, .w (3008 - up.length), .w (s.now - s.rd64 R.SUM_WARM_T_LO)]
  else s

/-- One unit's domain reports power good (R17, R500): its Spur applies fence and map, and writes the Crest block back. A region
controller shows a voltage and a frequency that the spec does not state (log entry 3). -/
def State.unitUp (s : State) (id : Nat) : State :=
  if s.cairn id |>.powered then s
  else
    let old := s.cairn id
    let c : Cairn := { Cairn.off with powered := true, ucWords := old.ucWords, dormT := old.dormT }
    let c := (c.wr (bk .pass C.VIEW_STAT) (viewStatReset id)).wr (bk .host C.VIEW_STAT) (viewStatReset id)
    let c := c.setF CF.SHADOW_SIZE (shadowSize (kindOf id))
    let s := s.setCairn id c
    let s := if s.enumerated && !s.rst.warmWait.contains id then s.countDormant id false else s
    let s := (s.fenceWake id).crestRestore id
    let s := if s.wch.pend.any (fun r => r.from_ == id || r.to_ == id) then s.remapAtWake (coreOf id) else s
    let s := if kindOf id = 7 then
        let x := s.takeFree
        x.2.modC id fun c => (c.setF CF.P_VF_MV x.1).setF CF.P_VF_MHZ (x.1 / 4096)
      else s
    (if kindOf id = 1 then s.posShow id else s).touch id

/-- A domain reports power good (R17, R500): it is powered as one, whichever of its units a command names (04 R107). -/
def State.domainUp (s : State) (ids : List Nat) : State := if s.rst.on then s.forEach (s.domUnits ids) State.unitUp else s

/-- What the Spur delivers to a leaf that has become valid (04 R137; 03 R93): scheduled actions whose T lies ahead are pending at it;
of a cut whose T has passed the unit counts as dormant at the cut, and under STOP it stays held. -/
def State.wakeActs (s : State) (id : Nat) : State :=
  let issued := (s.cut.jobs.filter fun j => j.issued).map fun j => (⟨j.kind, j.t, j.id⟩ : PendAct)
  let ahead := (issued ++ s.sum.sched.filter fun a => a.kind == .shadowLoad).filter fun a => decide (s.now ≤ a.t)
  let past := fun (j : CutJob) => j.issued && decide (j.t < s.now)
  let held := s.cut.stop || s.cut.jobs.any fun j => past j && j.kind == .cutStop
  let cutAhead := ahead.any fun a => a.kind == .cutStop || a.kind == .cutGlance
  let freed := s.cut.jobs.any fun j => past j && j.kind == .resume
  let s := s.modC id fun c =>
    let c := { c with acts := c.acts ++ ahead, rxMsgs := s.sum.msgs.map (·.1) }
    let c := if cutAhead then c.setF CF.CUT_STAT_STATE 1 else c
    if held && !freed then (c.setF CF.CUT_STAT_STATE 2).setF CF.CUT_STAT_HELD_AFTER_WAKE 1 else c
  let s : State := { s with cut := { s.cut with jobs := s.cut.jobs.map fun (j : CutJob) => if past j then { j with woken := j.woken ++ [id] } else j } }
  if s.cut.cap ∧ !s.cut.capReady ∧ s.cou.capT < s.now then
    { s with cou := { s.cou with loadSeen := s.cou.loadSeen ++ [id] } } else s

/-- Is `val` the value of a tree-clock edge that has passed (03 R87, R90)? -/
def State.treeEdge (s : State) (val : Nat) : Bool := val % 5 == 0 && decide (val ≤ s.now)

/-- A leaf has taken value `val` at a tree-clock edge: it is valid, and the class 1 reports held until now carry its first valid value
(03 R90). -/
def Cairn.leafOn (c : Cairn) (val first : Nat) : Cairn :=
  { c with
    leafValid := true
    leafFrom := val
    queue := c.queue.map fun q => if q.sent then q else { q with ev := { q.ev with stamp := first } }
    pendFlt := c.pendFlt.map fun p => { p with stamp := first } }

/-- A unit that is not held runs from here. -/
def State.startRun (s : State) (id : Nat) : State := if (s.cairn id).frozen then s else s.unitRuns id

/-- A leaf becomes valid (03 R90, R91): it takes `val` at a tree-clock edge and its last good offset, and is calibrated with round trip
`trip`; pending cuts are delivered, RESUME is raised on the unit's behalf unless it comes out of a chip warm reset, a fence applied at the
wake reports, and held job ends follow. -/
def State.leafLoad (s : State) (id val : Nat) (trip : Option Nat) : State :=
  let c := s.cairn id
  if !c.powered ∨ c.leafValid ∨ !s.rdg.running ∨ !s.reachable id ∨ !s.treeEdge val then s
  else
    let warm := s.rst.warmWait.contains id
    let s := (s.setCairn id { c with leafOff := (smGet none s.rdg.delay id).getD 0 }).calibrate id trip
    let s := s.modC id fun c => c.leafOn val (s.leafVal id)
    let s := s.satAdd (leafValidF (halfOf id)) 1
    let s := (s.wakeActs id).startRun id
    let s := if warm then { s with rst := { s.rst with warmWait := s.rst.warmWait.filter (· ≠ id) } }
      else s.raiseSpur id .resume [.w (id + 2 ^ 12), .w 0, .w 0] (s.leafVal id)
    ((s.fenceWakeDone id).touch id).deferRaise.warmCheck

/-- The controller of the region in which a unit's domain lies (04 R107). -/
def State.regionCtl (s : State) (id : Nat) : Nat := 0xBA0 + (s.domOf id).2

/-- May a domain power down now (04 R126, R137)? Not while its region controller is frozen, nor while a Cairn of it holds a shadow. -/
def State.mayPowerDown (s : State) (ids : List Nat) : Bool :=
  ids.all fun id => !(s.cairn (s.regionCtl id)).frozen && (s.cairn id).f CF.SHADOW_HELD == 0

/-- One unit's domain goes down (R17; 10 R339): its Spur raises DORMANT for it and answers for it. -/
def State.unitDown (s : State) (id : Nat) : State :=
  if s.rst.warmWait.contains id then
    let s := { s with rst := { s.rst with warmWait := s.rst.warmWait.filter (· ≠ id) } }
    (if s.enumerated then s.countDormant id true else s).unitOff id |>.touch id |>.deferRaise
  else if s.dormant id then s
  else
    let s := if (s.cairn id).leafValid then
        let f := leafValidF (halfOf id)
        s.setF f (s.f f - 1)
      else s
    let s := s.unitOff id
    let s := s.raiseSpur id .dormant [.w (id + 2 ^ 12 + 2 ^ 13)] (s.cairn id).dormT
    let s := if s.enumerated then s.countDormant id true else s
    let s := (s.apFate (fun a => a.cairn == id) codeDormant).winFate (fun w => w.cairn == id) codeDormant
    s.touch id

/-- The chosen spare of a pending remap has become dormant (12 R391, R393): the remap is lost, unless the array it moves went down with
the spare and the remap waits for both. -/
def State.spareDown (s : State) (ids : List Nat) (id : Nat) : State :=
  if s.wch.pend.any fun r => r.to_ == id && ids.contains r.from_ then s else s.spareLost id

/-- A domain powers off (R17), all of it (04 R107). An Echo job whose target goes down with its spares has lost its target first, before its
capture is complete (09 R315). -/
def State.domainDown (s : State) (ids : List Nat) : State :=
  let ids := s.domUnits ids
  if s.mayPowerDown ids then
    let down := ids.filter fun id => !s.dormant id
    let s := s.forEach ids State.unitDown
    let s := (s.forEach down State.echoTargetLost).forEach down State.echoSpareLost
    (s.forEach ids fun s id => s.spareDown ids id).warmCheck
  else s

/-! ### VDD_HUB and start-up (R501, R502, R507) -/

/-- What outlasts a loss of VDD_HUB: the commands that wait, OTP, the MRAM, the stacks' interleave, the units' domains. -/
def State.fromPower (s : State) : State :=
  { State.reset with
    pending := s.pending, free := s.free, otp := s.otp, uid := s.uid, mram := s.mram, gran := s.gran, doms := s.doms }

/-- OTP as a loss of power leaves it: an OTP write under way has set `n` of its step's words and, of the next, the bits of `mask` only
(14 R439); the field of a provisioning object under verification may be written in part (14 R442). -/
def State.otpTorn (s : State) (n mask : Nat) : State :=
  match s.auth.run with
  | some r => if s.f F.LCY_STAT_STALLED = 1 then s else { s with otp := s.otp.torn r n mask }
  | none =>
    match s.auth.job with
    | some j => if obKind j.obj = 4 ∧ s.objCode j = 0 then s.provTorn j.obj n mask else s
    | none => s

/-- VDD_HUB loses power (R492, R505): all of Nynil is lost. -/
def State.hubOff (s : State) (n mask : Nat) : State :=
  let s' := (s.otpTorn n mask).fromPower
  { s' with rst := { s'.rst with on := false } }

/-- VDD_HUB reaches power good (R501). -/
def State.hubOn (s : State) : State := if s.rst.on then s else s.fromPower

/-- The hub PLL locks (R502): the counter starts. -/
def State.pllLock (s : State) : State :=
  if s.rst.on ∧ s.f F.SUM_START_STAT_PHASE = 0 then
    let s := { s with rdg := { s.rdg with running := true, now := 0, raw := 0 } }
    (s.setF F.RDG_STAT_LOCKED 1).setF F.SUM_START_STAT_PHASE 1
  else s

/-- The life-cycle state is decided at start-up (R502; 14 R432). -/
def State.startLcy (s : State) : State :=
  let s := s.lcySettle
  if s.f F.LCY_STAT_STATE = 7 then s.setF F.SUM_START_STAT_LCY_INVALID 1 else s

/-- Units of a half that are not dormant, those held in a chip warm reset among them. -/
def State.upIn (s : State) (h : Nat) : Nat :=
  ((s.cairns.filter fun e => (e.2.powered || s.rst.warmWait.contains e.1) && halfOf e.1 == h)).length
    + (s.rst.warmWait.filter fun id => (s.cairns.all fun e => e.1 != id) && halfOf id == h).length

/-- SPR_PRESENT_CNT and SPR_DORMANT_CNT as the Spurs' states have them (01 R38). -/
def State.sprCounts (s : State) : State :=
  [0, 1].foldl (fun s p =>
    let hs := [0, 1].filter fun h => s.spur p != 2 && s.server h == p
    let n := 1504 * hs.length
    (s.setF (F.SPR_PRESENT_CNT_CNT p) n).setF (F.SPR_DORMANT_CNT_CNT p) (n - hs.foldl (fun m h => m + s.upIn h) 0)) s

/-- A Spur fails its start-up self-check (01 R25). -/
def State.startSpur (s : State) (p : Nat) (ok : Bool) : State :=
  if ok then s
  else ((s.setF (if p = 0 then F.SUM_START_STAT_SPUR0_FAIL else F.SUM_START_STAT_SPUR1_FAIL) 1).spurLost p).svcUpdate

/-- The Spurs serve and the ledger is loaded (R502, R507): calibration done, the Cairns enumerated, EPOCH copies completed, the
ledger loaded, an epoch bit burned when it is lost, and a transition cut short resumed. -/
def State.startLedger (s : State) (ok0 ok1 : Bool) (uc : List Nat) : State :=
  let s := (s.startSpur 0 ok0).startSpur 1 ok1
  let s : State := { s with sum := { s.sum with live0 := s.clk, live1 := s.clk } }
  let x := s.takeFree
  let s : State := { x.2 with rdg := { x.2.rdg with lag0 := x.1 % 2, lag1 := x.1 / 2 % 2 } }
  let s := (s.setF F.RDG_STAT_CAL_DONE 1).sweepStart
  let s := (s.setF F.SUM_ENUM_HALF0_CNT (s.upIn 0)).setF F.SUM_ENUM_HALF1_CNT (s.upIn 1)
  let s := s.sprCounts
  let e := s.otp.epoch
  let s := { s with otp := { s.otp with epoch := e.setAll (Nat.lor (Nat.lor e.a e.b) e.c) } }
  let s := s.setF F.LCY_STAT_EPOCH s.otp.epochNo
  let s := s.talLoad uc
  let s := (s.setF F.SUM_START_STAT_LEDGER_LOST (s.f F.TAL_STAT_LOST)).epochCheck
  let s := s.lcyResume
  if s.auth.run.isSome then s.setF F.SUM_START_STAT_LCY_RESUMED 1 else s

/-- Start-up is done (R502, final row). -/
def State.startDone (s : State) : State :=
  let s := (s.wr R.SUM_START_T (s.now % 2 ^ 32)).setF F.SUM_PSTATE_STATE 1
  let s := if s.f F.FLT_STAT_FATAL_N = 1 then s else s.setF F.FLT_STAT_HB_RUN 1
  let s := { s with flt := { s.flt with hbNext := s.clk + sigLimit } }
  let s := s.setF F.SUM_START_STAT_PHASE 6
  s.authShow.raise .hubReady 0x1000 [.w (s.rd R.SUM_START_T), .w (s.rd R.SUM_START_STAT)]

/-- A phase of start-up completes (R502), if what it waits for has come. -/
def State.startPhase (s : State) (ok0 ok1 : Bool) (uc : List Nat) : State :=
  let go := fun (s : State) (n : Nat) => s.setF F.SUM_START_STAT_PHASE n
  if !s.rst.on then s
  else match s.f F.SUM_START_STAT_PHASE with
  | 1 => go (s.modPass fun p => { p with idle0 := false, idle1 := false }) 2
  | 2 => go s.startLcy 3
  | 3 => go (s.startLedger ok0 ok1 uc) 4
  | 4 => if s.auth.run.isNone ∨ s.f F.LCY_STAT_STALLED = 1 then go s.talBoot 5 else s
  | 5 => if s.tal.commit.isNone ∧ s.tal.held = [] then s.startDone else s
  | _ => s

/-! ### Chip warm reset (R494, R495, R499, R500, R513) -/

/-- The events of R499 that follow WARM_RESET in a fixed order. -/
def warmEvent (n : EvName) : Bool :=
  n == .warmReset || n == .ucAcked || n == .grantsEnded || n == .engStop || n == .stopAfterCancel || n == .dumpClosed || n == .traceGap

/-- The next event of the fixed order goes to the arbiter when the one before it has its number. -/
def State.chainNext (s : State) : State :=
  match s.rst.chainCur, s.rst.chain with
  | none, e :: es =>
    { s with rst := { s.rst with chain := es, chainCur := some e }, sum := { s.sum with intq := s.sum.intq ++ [e] } }
  | _, _ => s

/-- Runs `g` and takes the events of R499 it raises out of the arbiter's inputs, to follow in order. -/
def State.chained (s : State) (g : State → State) : State :=
  let n := s.sum.intq.length
  let s := g s
  let new := s.sum.intq.drop n
  { s with
    sum := { s.sum with intq := s.sum.intq.take n ++ new.filter fun e => !warmEvent e.name },
    rst := { s.rst with chain := s.rst.chain ++ new.filter fun e => warmEvent e.name } }

/-- The Cairns that a chip warm reset takes down: every powered one. -/
def State.poweredIds (s : State) : List Nat := (s.cairns.filter fun e => e.2.powered).map (·.1)

/-- A chip warm reset is asserted. -/
def State.warmReset (s : State) : State :=
  if !s.rst.on then s
  else
    let s := ((s.setF F.SUM_RST_STAT_BOTH (s.f F.SUM_RST_STAT_SOFT_PENDING)).setF F.SUM_RST_STAT_LAST 1).setF F.SUM_RST_STAT_WARM_ACTIVE 1
    let s := s.wr64 R.SUM_WARM_T_LO s.now
    let s := s.chained fun s => s.raise .warmReset 0x1000 [.d s.now]
    let s := s.chained State.ucWarmAck
    let s := s.chained State.authWarm
    let s := s.chained State.prbWarm
    let s := s.chained State.crsWarm
    let s := s.chained State.dumpTruncate
    let s := s.chained State.scrWarm
    let up := s.poweredIds
    let s := s.stepEnd.cutEnd
    let s := { s with rst := { s.rst with bmuWait := true, warmWait := up ++ s.rst.warmWait.filter fun id => !up.contains id } }
    let s := s.abortJobs (fun _ => true) reasonWarm true
    let s := s.forEach up State.unitOff
    let s := ((s.lagReset.vfWarm).setF F.RDG_LEAF_VALID_HALF0 0).setF F.RDG_LEAF_VALID_HALF1 0
    let s := { s with wch := { s.wch with disp := [] } }
    let s := s.wr R.COU_AUTO_RIGHTS (s.rd R.COU_AUTO_RIGHTS % 2 ^ 24)
    let s := { s with cou := { s.cou with drain := s.cou.drain.map fun (d : Drain) => { d with paused := true, sent := (s.slot d.slot).ack } } }
    let down := fun (id : Nat) => up.contains id
    ((s.devReset.apFate (fun a => down a.cairn) codeDormant).winFate (fun w => down w.cairn) codeDormant).chainNext

/-- The BMUs report ready after a chip warm reset (R500; 08 R278; 10 R346). -/
def State.bmuReady (s : State) : State :=
  if !s.rst.bmuWait then s
  else
    let s := { s with
      rst := { s.rst with bmuWait := false }, scr := { s.scr with paused := false },
      cou := { s.cou with drain := s.cou.drain.map fun (d : Drain) => { d with paused := false } } }
    s.deferRaise.warmCheck

/-! ### Hub soft reset (R493, R495 to R498) -/

/-- Is a hub soft reset pending? -/
def State.softPending (s : State) : Bool := s.f F.SUM_RST_STAT_SOFT_PENDING == 1

/-- The step of a transition whose action is in progress. -/
def State.otpStep (s : State) : Option Nat :=
  match s.auth.run with | some r => if s.f F.LCY_STAT_STALLED = 1 then none else some r.step | none => none

/-- Has W come (R497): no Talus commit, no OTP action and no header write that was in progress? -/
def State.softReady (s : State) (r : SoftRun) : Bool :=
  s.tal.commit.isNone && !(match s.cou.closing with | c :: _ => c.step == 3 | [] => false)
    && (r.otp.isNone || s.otpStep != r.otp)

/-- Do a hub page's registers at this address reset with a hub soft reset (R495 and the chapters' own tables)? Of a page that resets, the fault
registers of its header reset too, and PG_EVT_CNT does not (02 R56). -/
def softResets (a : Nat) : Bool :=
  let o := a % 0x1000
  let head := o == 0x10 || o == 0x14 || o == 0x1C
  if 0x100000 ≤ a || hubRows.any (fun r => r.banked && r.addrs.contains a) then true
  else match a / 0x1000 with
  | 0x00 => [R.SUM_DEV_ID, R.SUM_TOPO_CTRL, R.SUM_EXCL, R.SUM_CUT_CTRL, R.SUM_CUT_LEAD, R.SUM_XCUT_LEAD, R.SUM_STEP_TMO, R.SUM_STEP_DFLT,
      R.SUM_STEP_ENG].contains a
  | 0x02 | 0x03 | 0x04 | 0x05 | 0x06 | 0x11 => head || decide (0x40 ≤ o)
  | 0x08 => a == R.COU_DRAIN_CTRL || a == R.COU_AUTO_RIGHTS
  | 0x09 => head || (decide (0x40 ≤ o) && decide (o < 0x60))
  | 0x0A => head || decide (0x40 ≤ o) && (decide (o < 0x54) || a == R.ECH_LAST)
  | 0x0B => head || (decide (0x40 ≤ o) && a != R.SCR_WR_BLK)
  | 0x0D => a == R.WCH_CTRL || a == R.WCH_LAG_THR || a == R.WCH_DISP_INT || a == R.WCH_TFIT_CTRL
  | _ => false

/-- The registers that reset are at their reset values again. -/
def State.softRegs (s : State) : State :=
  let kept := smKeep (fun a => !softResets a) s.regs
  { s with regs := (resetRegs.filter fun e => softResets e.1).foldl (fun m e => smSet 0 m e.1 e.2) kept }

/-- A Cairn at the unscheduled release (R496): it discards its scheduled actions and its held shadow, and runs; its banked registers
reset (02 R63). -/
def Cairn.released (c : Cairn) (id : Nat) : Cairn :=
  if !c.powered then c
  else
    let c := { c with acts := [], due := [] }
    let c := ((c.setF CF.CUT_STAT_STATE 0).setF CF.CUT_STAT_HELD_AFTER_WAKE 0).setF CF.SHADOW_HELD 0
    let off := fun (a : Nat) => decide (0x130 ≤ a % 0x100000) && decide (a % 0x100000 < 0x140)
    let c := { c with regs := smKeep (fun a => !off a) c.regs }
    (c.wr (bk .pass C.VIEW_STAT) (viewStatReset id)).wr (bk .host C.VIEW_STAT) (viewStatReset id)

/-- The sequencers that a hub soft reset holds (R498): cut scheduler, authorisation engine, port controller. -/
def softHeld : List Nat := [2, 3, 5]

/-- The signature monitor takes the held sequencers as having passed their check points (R498). -/
def State.softChecked (s : State) : State :=
  { s with flt := { s.flt with
    checked := s.flt.checked ++ softHeld.filter fun q => !s.flt.checked.contains q,
    checkT := softHeld.foldl (fun m q => smSet 0 m q s.clk) s.flt.checkT } }

/-- At W the parts of R495 reset and every unit is released (R496, R497). -/
def State.softApply (s : State) : State :=
  match s.rst.soft with
  | none => s
  | some r =>
    if r.applied ∨ !s.softReady r then s
    else
      let w := s.clk - r.t0
      let s := { s with rst := { s.rst with soft := some { r with applied := true } } }
      let s := (s.setF F.SUM_RST_STAT_LAST 2).setF F.SUM_SOFT_WAIT_W w
      let s := s.raise .softReset 0x1000 [.w (mNum r.master), .w w, .w (s.rd R.SUM_TOPO_STAT)]
      let s := ((s.sessEnd seSoft).exclEnd exclByReset).authSoft
      let s := s.cut.held.foldl State.heldApply s
      let s := s.forEach s.poweredIds fun s id =>
        let was := (s.cairn id).frozen
        let s := s.modC id fun c => c.released id
        if was then s.unitRuns id else s
      let s := ((s.stepEnd.cutEnd).prbSoft).crsSoft
      let s := ((s.drainEnd drainReset).cenDrop.scrSoft).leadEnd
      let s := s.lagReset
      let s := { s with wch := { s.wch with selEng := [], lowRun := 0 } }
      let s := s.setF F.WCH_TFIT_STAT_STEP 0
      let s := s.sweepCut.devReset
      let clear := fun (x : MstSt) => { x with capHi := none, heldLo := none, denied := false }
      let s := (s.setMst .pass (clear s.sum.passM)).setMst .host (clear s.sum.hostM)
      let s := s.modPass fun p => { PassSt.init with idle0 := p.idle0, idle1 := p.idle1, lock0 := p.lock0, lock1 := p.lock1, ir := p.ir }
      s.softRegs.authShow.softChecked

/-- A Spur's self-check at a hub soft reset (01 R25): one that passes serves its own half again; its liveness is timed from here, its
staging buffer is empty, and its mirror is not current until the other's table has been sent again (R20; log entry 59). -/
def State.softSpur (s : State) (p : Nat) (ok : Bool) : State :=
  if ok then
    if s.spur p = 2 then
      let s := s.setSpur p 0
      let s : State := if p = 0 then { s with sum := { s.sum with live0 := s.clk } } else { s with sum := { s.sum with live1 := s.clk } }
      s.setStaged p []
    else s.setSpur p 0
  else if s.spur p = 2 then s else s.spurLost p

/-- Both Spurs serve again: each sends its whole table to the other (01 R20, R25; log entry 59). -/
def State.mirrorAll (s : State) : State := s.forEach (s.cairns.map (·.1)) State.touch

/-- SOFT_PENDING clears (R497): Spurs re-checked, the life-cycle state decided and a transition resumed, the dump in progress
truncated and Couloir rebuilt. -/
def State.softDone (s : State) (ok0 ok1 : Bool) : State :=
  match s.rst.soft with
  | none => s
  | some r =>
    if !r.applied then s
    else
      let lost := s.spur 0 == 2 || s.spur 1 == 2
      let s := ((s.softSpur 0 ok0).softSpur 1 ok1)
      let s := if s.spur 0 = 2 ∨ s.spur 1 = 2 then s else { s with sum := { s.sum with takeover := none } }
      let s := if s.sum.takeover.isSome then s else
        let two := fun (s : State) (p : Nat) => if s.spur p = 0 ∧ s.spur (otherSpur p) = 2 then s.setSpur p 1 else s
        two (two s 0) 1
      let back := lost && s.spur 0 == 0 && s.spur 1 == 0
      let s := if back then s.waitSort.mirrorAll else s.waitSort
      let s := s.sprCounts.sweepCut.svcUpdate
      let s := s.lcySettle.lcyResume
      let s := s.couRebuild.softChecked
      { s.setF F.SUM_RST_STAT_SOFT_PENDING 0 with rst := { s.rst with soft := none } }

/-! ### Hub power states (R504) -/

/-- Do the conditions of IDLE hold? -/
def State.idleOk (s : State) : Bool :=
  s.sess == sessNone && s.trMask == 0 && s.cou.cur.isNone && s.cou.drain.isNone && s.scr.drain.isNone
    && s.cen.jobs.all (·.done) && (List.range 4).all s.engIdle && s.f F.CRS_CTRL_RUN == 0
    && s.cutState == cutIdle && s.f F.SUM_STEP_STAT_STATE == 0

/-- SUM_PSTATE.STATE leaves IDLE when a condition breaks, and the 250,000 tk are counted from when all began to hold. -/
def State.idleWatch (s : State) : State :=
  if !s.started then s
  else if s.idleOk then
    if s.rst.idleT.isSome then s else { s with rst := { s.rst with idleT := some s.clk } }
  else
    let s := if s.rst.idleT.isSome then { s with rst := { s.rst with idleT := none } } else s
    if s.f F.SUM_PSTATE_STATE = 2 then s.setF F.SUM_PSTATE_STATE 1 else s

/-- After 250,000 tk with every condition held the hub is in IDLE. -/
def State.hubIdle (s : State) : State :=
  match s.rst.idleT with
  | some t => if s.started ∧ s.idleOk ∧ t + 250000 ≤ s.clk then s.setF F.SUM_PSTATE_STATE 2 else s
  | none => s

end Sys2Proof.Machine
end

