-- ==== Sys2Proof/Machine/Access.lean ====
section
/-! DEFINITION. Machine/Access.lean: how an access of a master or of a Pitch engine is carried out and completed: the register map,
rights, the effect of a read or write of every register, the Cairn window, order and arbitration (02; 07 R218 to R220). -/

namespace Sys2Proof.Machine

/-! ### Who accesses -/

/-- The agents that access registers: a master, or a Pitch engine (07 R218, R219). -/
inductive Agent
  | mst (m : Master)
  | eng (e : Nat)
  deriving DecidableEq, Repr

/-- The agent's source number (01 R29). -/
def Agent.src : Agent → Nat | .mst m => mSrc m | .eng e => engSrc e

/-- The number that events carry for a master; for an engine its source number. -/
def Agent.num : Agent → Nat | .mst m => mNum m | .eng e => engSrc e

/-- Is the agent an engine? -/
def Agent.isEng : Agent → Bool | .mst _ => false | .eng _ => true

/-- The rights the agent acts under: a master's held set, an engine's recorded set (07 R205). -/
def State.rightsIn (s : State) : Agent → Nat
  | .mst m => s.heldSet m
  | .eng e => s.rd (R.PRB_RIGHTS_REC e)

/-- Does the agent hold the right, if one is asked? -/
def State.may (s : State) (g : Agent) : Option Nat → Bool
  | none => true
  | some r => bit (s.rightsIn g) r

/-- The captured _HI value and the held _LO write of an agent (R46; 07 R219). -/
def State.holding (s : State) : Agent → Option (Nat × Nat) × Option (Nat × Nat)
  | .mst m => ((s.mst m).capHi, (s.mst m).heldLo)
  | .eng e => ((s.eng e).capHi, (s.eng e).heldLo)

/-- Both replaced. -/
def State.setHolding (s : State) (g : Agent) (cap held : Option (Nat × Nat)) : State :=
  match g with
  | .mst m => s.setMst m { s.mst m with capHi := cap, heldLo := held }
  | .eng e => s.setEng e { s.eng e with capHi := cap, heldLo := held }

/-! ### The register map (R41 to R44, R49, R50) -/

/-- Is `a` one of the row's words? -/
def RegRow.covers (r : RegRow) (a : Nat) : Bool :=
  decide (r.addr ≤ a) && (a - r.addr) % r.stride == 0 && decide ((a - r.addr) / r.stride < r.count)

/-- The row of a hub register. -/
def hubRow (a : Nat) : Option RegRow := hubRows.find? fun r => r.covers a

/-- The row of a Cairn register below the state view. -/
def crnRow (o : Nat) : Option RegRow := rowsCairn.find? fun r => r.covers o

/-- Is the page defined (R43)? -/
def pageThere (p : Nat) : Bool := (decide (p ≤ 0x14) && p != 0x07) || p == 0x20

/-- TYPE and INSTANCE of a hub page (R42). -/
def pageId (p : Nat) : Nat × Nat :=
  if 0x03 ≤ p ∧ p ≤ 0x06 then (0x03, p - 0x03) else if p = 0x13 then (0x12, 1) else (p, 0)

/-- PAGE_CAPS of a page whose chapter gives one; 0 elsewhere (log entry 9). -/
def pageCaps (p : Nat) : Nat :=
  match p with
  | 0x03 | 0x04 | 0x05 | 0x06 => 0x00480040
  | 0x09 => 0x1008
  | 0x0A => 0x400
  | 0x0B => 0x800
  | 0x0C => 0x1000
  | 0x0D => 0x80
  | 0x0E => 8
  | 0x0F => 0x818
  | 0x10 => 0x800
  | 0x11 => 3
  | _ => 0

/-- HAS_FLT of a hub page. -/
def hasFlt (p : Nat) : Bool := p != 0x0D && p != 0x20

/-- HAS_EVT of a hub page. -/
def hasEvt (p : Nat) : Bool := !(p == 0x0D || p == 0x09 || p == 0x0A || p == 0x14 || p == 0x20)

/-- BANKED of a hub page. -/
def hasBank (p : Nat) : Bool := p == 0x0A || hubRows.any fun r => r.banked && r.addr / 0x1000 == p

/-- Is `a` the _LO register of a pair of the hub (R46)? Its _HI lies at `a + 4`. -/
def hubLo (a : Nat) : Bool :=
  [R.SUM_TAKEOVER_T_LO, R.RDG_NOW_LO, R.RDG_EPOCH_TK_LO, R.SUM_CUT_REQ_T_LO, R.SUM_CUT_T_LO, R.SUM_STEP_T_LO, R.SUM_STEP_END_T_LO,
    R.CRS_CH_STICKY_LO, R.CRS_CH_PEND_LO, R.CRS_CH_SEEN_LO, R.CRS_ALARM_T_LO, R.CRS_SA_T_LO, R.COU_REF_T_LO, R.CEN_JOB_WORD_LO,
    R.CEN_BYTES_LO, R.SCR_REQ_T_LO, R.SCR_SPILL_BASE_LO, R.TAL_GEN_LO, R.TAL_COMMIT_T_LO, R.LCY_TIME_LO, R.AUTH_CERT_SER_LO,
    R.PASS_SESSION_T_LO, R.SUM_WARM_T_LO].contains a
  || (decide (0x3000 ≤ a) && decide (a < 0x7000) && a % 8 == 0 &&
      (a % 0x1000 == 0x70 || (decide (0x80 ≤ a % 0x1000) && decide (a % 0x1000 < 0x100))))
  || (decide (0x80C0 ≤ a) && decide (a < 0x80E0) && a % 8 == 0)

/-- Is `o` the _LO register of a pair of a Cairn page? -/
def crnLo (kind o : Nat) : Bool :=
  [0x104, 0x134, 0x44, 0x4C, 0x54, 0x5C, 0x68, 0x70, 0x78, 0x80, 0x8C, 0x94].contains o || (kind == 2 && o == 0x14C)

/-! ### Rights (R57 to R61) -/

/-- The right a read of a hub page from 0x040 on needs. -/
def pageRead (p : Nat) : Option Nat :=
  match p with
  | 0x01 | 0x0F | 0x10 | 0x20 => none
  | 0x0E => some rtLedgerRead
  | _ => some rtObserve

/-- The right a write to a hub page needs; SUM's registers are placed one by one. -/
def pageWrite (p : Nat) : Option Nat :=
  match p with
  | 0x01 => some rtTime
  | 0x02 => some rtTrigger
  | 0x03 | 0x04 | 0x05 | 0x06 => some rtProbe
  | 0x08 => some rtDump
  | 0x09 | 0x0A => some rtCensus
  | 0x0B => some rtTrace
  | 0x0C => some rtFault
  | 0x0D => some rtWatch
  | 0x0E => some rtLedgerRead
  | 0x11 => some rtPort
  | 0x20 => some rtInspect
  | _ => none

/-- The right a read of the common header needs; none where it needs nothing. -/
def headRead (o : Nat) : Option Nat :=
  if o = 0x08 ∨ o = 0x10 ∨ o = 0x14 ∨ o = 0x1C ∨ o = 0x20 ∨ o = 0x24 then some rtObserve else none

/-- The right a write to the common header needs; `page` is the page's write right. -/
def headWrite (o : Nat) (page : Option Nat) : Option Nat :=
  if o = 0x08 then page
  else if o = 0x1C ∨ o = 0x20 then some rtFault
  else if o = 0x18 then some rtFaultInject
  else none

/-- The right a read of a hub register needs. SCR_RD_WIN is placed under TRACE (10 R347). -/
def hubRead (a : Nat) : Option Nat :=
  if a % 0x1000 < 0x40 then headRead (a % 0x1000)
  else if 0xB800 ≤ a ∧ a < 0xC000 then some rtTrace
  else pageRead (a / 0x1000)

/-- The right a write to a register of SUM needs. -/
def sumWrite (a : Nat) : Option Nat :=
  if a = R.SUM_DEV_ID then some rtPort
  else if a = R.SUM_TOPO_CTRL then some rtFaultInject
  else if a = R.SUM_CWIN_TMO then some rtInspect
  else if (0xC0 ≤ a ∧ a < 0x140) ∨ a = R.SUM_RST_CMD then some rtHalt
  else none

/-- The right a write to a hub register needs; a Pass write to SUM_EXCL needs EXCLUSIVE (R57, R72). -/
def hubWrite (g : Agent) (a : Nat) : Option Nat :=
  if a % 0x1000 < 0x40 then headWrite (a % 0x1000) (pageWrite (a / 0x1000))
  else if a / 0x1000 = 0 then (if a = R.SUM_EXCL ∧ g = .mst .pass then some rtExclusive else sumWrite a)
  else pageWrite (a / 0x1000)

/-- Writes that complete with RIGHTS whatever the master holds (R71, R72). -/
def deniedWrite (g : Agent) (a v : Nat) : Bool :=
  g == .mst .host && (a == R.SUM_ARB_CTRL || (a == R.SUM_EXCL && (bit v 1 || bit v 2)))

/-- The right a read of a Cairn register needs. -/
def crnRead (o : Nat) : Option Nat :=
  if o < 0x40 then headRead o else if o < 0x140 then some rtObserve else some rtInspect

/-- The right a write to a Cairn register needs. The view selectors are written under INSPECT (05 R176). -/
def State.crnWrite (s : State) (o : Nat) : Option Nat :=
  if o < 0x40 then headWrite o (some rtHalt)
  else if o < 0x100 then some rtTrigger
  else if 0x130 ≤ o ∧ o < 0x13C then some rtInspect
  else if o < 0x140 then some rtHalt
  else if s.lcs = 4 then some rtDepositField else some rtDeposit

/-- The bit of a right in PG_RIGHTS. -/
def rtBit (r : Option Nat) : Nat := match r with | some n => 2 ^ n | none => 0

/-- The header's rights, named on every page. -/
def headRights : Nat := Nat.lor (Nat.lor (2 ^ rtObserve) (2 ^ rtFault)) (2 ^ rtFaultInject)

/-- PG_RIGHTS of a hub page (R57). -/
def pageRights (p : Nat) : Nat :=
  let own := Nat.lor (Nat.lor headRights (rtBit (pageRead p))) (rtBit (pageWrite p))
  if p = 0x00 then [rtHalt, rtExclusive, rtPort, rtInspect].foldl (fun n r => Nat.lor n (2 ^ r)) own else own

/-- PG_RIGHTS of a Cairn page (R57). -/
def State.crnRights (s : State) : Nat :=
  [rtTrigger, rtHalt, rtInspect, if s.lcs = 4 then rtDepositField else rtDeposit].foldl (fun n r => Nat.lor n (2 ^ r)) headRights

/-- PG_STAT.OPEN: the reader holds every right in the set. -/
def State.openTo (s : State) (g : Agent) (rights : Nat) : Bool := Nat.land rights (s.rightsIn g) == rights

/-- PG_STAT.LOCKED: an RWL field of the page is locked in the life-cycle state. -/
def State.pageLocked (s : State) (p : Nat) : Bool :=
  match p with
  | 0x00 => s.lcs != 2
  | 0x0C | 0x0D => s.lcs != 2 && s.lcs != 5
  | 0x0E => s.lcs != 0 && s.lcs != 2
  | _ => false

/-- May the host make this hub access during a Pass exclusive session (R73)? -/
def exclAllows (a : Nat) (write : Bool) : Bool :=
  if write then
    a / 0x1000 == 0x0C || a % 0x1000 == 0x20 || a == R.SUM_EXCL || a == R.CWIN_SEL0 || a == R.CWIN_SEL1 || a == R.CWIN_SEL2
  else match hubRow a with | some r => r.acc != .rc | none => true

/-- May the host make this access to a Cairn page during a Pass exclusive session (R73)? -/
def exclCairn (o : Nat) (write : Bool) : Bool :=
  if write then o == 0x20 else match crnRow o with | some r => r.acc != .rc | none => true

/-- The code a hub access that is carried out completes with, by page, exclusive session and rights (R43, R57, R58, R73). -/
def State.hubCode (s : State) (g : Agent) (a : Nat) (write : Bool) (v : Nat) : Nat :=
  if !pageThere (a / 0x1000) then codeNoPage
  else if g == .mst .host && s.excl && !exclAllows a write then codeExcl
  else if write && deniedWrite g a v then codeRights
  else if !s.may g (if write then hubWrite g a else hubRead a) then codeRights
  else codeOk

/-! ### Reading a hub register -/

/-- The common header of a hub page (R53, R54). -/
def State.hubHead (s : State) (g : Agent) (p o : Nat) : Nat :=
  match o with
  | 0x00 => (pageId p).1 + 2 ^ 8 * (pageId p).2 + 2 ^ 20
  | 0x04 => pageCaps p + 2 ^ 24 * b2n (hasFlt p) + 2 ^ 25 * b2n (hasEvt p) + 2 ^ 26 * b2n (hasBank p)
  | 0x0C =>
    (if 0x03 ≤ p ∧ p ≤ 0x06 then s.engState (p - 3) else 0) + 2 ^ 29 * b2n (s.openTo g (pageRights p)) + 2 ^ 31 * b2n (s.pageLocked p)
  | 0x10 | 0x14 | 0x1C => if hasFlt p then s.rd (p * 0x1000 + o) else 0
  | 0x24 => s.rd (p * 0x1000 + o)
  | 0x28 => pageRights p
  | _ => 0

/-- Jobs of a requester that have not finished (07 R227). -/
def State.jobsOut (s : State) (src : Nat) : Nat := (s.cen.jobs.filter fun j => j.src == src && !j.done).length

/-- The core an agent's WCH_LAG_SEL names (12 R386, R406). -/
def State.lagSel (s : State) : Agent → Nat
  | .mst m => s.f (bkF m F.WCH_LAG_SEL_CORE)
  | .eng e => smGet 0 s.wch.selEng e

/-- FLT_FENCE_STAT of a master (11 R383). -/
def State.fenceStat (s : State) (m : Master) : Nat :=
  let r := s.fence (s.rd (bk m R.FLT_FENCE_SEL))
  b2n r.fenced + 2 * b2n (r.fenced && r.pending) + 4 * b2n r.awaitWake + 8 * b2n r.engine + 16 * r.cause
    + 2 ^ 16 * s.f (bkF m F.FLT_FENCE_STAT_LAST_OUTCOME)

/-- Word `k` of FLT_FENCE_MAP (11 R382). -/
def State.fenceMap (s : State) (k : Nat) : Nat :=
  (List.range 32).foldl (fun n b => if s.fenced (32 * k + b) then n + 2 ^ b else n) 0

/-- Registers that show one thing to every agent and are computed when they are read. -/
def State.shown (s : State) (g : Agent) (a : Nat) : Option Nat :=
  let off := fun (base : Nat) (n : Nat) => if base ≤ a ∧ a < base + 4 * n then some ((a - base) / 4) else none
  if a / 0x1000 = 0x0D then
    if a = R.WCH_OP_TK then some (smGet 0 s.wch.opTk (s.lagSel g))
    else if a = R.WCH_BLOCKS then some (smGet 0 s.wch.blocks (s.lagSel g))
    else if a = R.WCH_CORE_STAT then some (s.coreStat (s.lagSel g))
    else (off (R.WCH_LAG 0) 128).map fun k => s.lagWord (s.lagSel g) k
  else if a / 0x1000 = 0x0C then
    match off (R.FLT_CE_FIRST 0) 16, off (R.FLT_UC_FIRST 0) 16, off (R.FLT_FATAL_FIRST 0) 16, off (R.FLT_CE_WIN 0) 16,
      off (R.FLT_HIST 0) 256, off (R.FLT_FENCE_MAP 0) 94 with
    | some k, _, _, _, _, _ => some (recWord s.flt.ce k)
    | _, some k, _, _, _, _ => some (recWord s.flt.uc k)
    | _, _, some k, _, _, _ => some (recWord s.flt.fatal k)
    | _, _, _, some k, _, _ =>
      some (if s.ringOcc = 0 then 0 else recWord (smGet none s.flt.ring (s.f F.FLT_CE_RD_RD % 4096)) k)
    | _, _, _, _, some k, _ => some (recWord (smGet none s.flt.hist (k / 16)) (k % 16))
    | _, _, _, _, _, some k => some (s.fenceMap k)
    | _, _, _, _, _, _ => none
  else if a = R.SUM_ARB_STAT then
    some (b2n (s.sess != sessNone) + 2 * b2n s.excl + 16 * (s.apsOf .pass).length + 256 * (s.apsOf .host).length)
  else if a = R.RDG_NOW_LO then some (s.now % 2 ^ 32)
  else if a = R.RDG_NOW_HI then some (s.now / 2 ^ 32 % 2 ^ 32)
  else if a = R.TAL_NEXT_S then some s.nextS
  else if 0x3000 ≤ a ∧ a < 0x7000 ∧ a % 0x1000 = 0x44 then
    let e := a / 0x1000 - 3
    some (s.rd a + 2 ^ 8 * (s.eng e).wins.length)
  else if 0x3000 ≤ a ∧ a < 0x7000 ∧ a % 0x1000 = 0x6C then some (s.stallOf (a / 0x1000 - 3))
  else none

/-- Registers that show each master its own copy and are computed when they are read. -/
def State.shownTo (s : State) (m : Master) (a : Nat) : Option Nat :=
  let sel := fun (n : Nat) => s.rd (bk m (R.CWIN_SEL0 + 4 * n)) % 4096
  if a = R.CWIN_STAT then some (s.f (bkF m F.CWIN_STAT_LAST_CODE) + 16 * (s.apsOf m).length)
  else if a = R.CWIN_SPUR then some (s.server (halfOf (sel 0)) + 2 * s.server (halfOf (sel 1)) + 4 * s.server (halfOf (sel 2)))
  else if a = R.CEN_JOB_WORD_LO then some (s.jobWord (s.f (bkF m F.CEN_JOB_SEL_ID)) (mSrc m) % 2 ^ 32)
  else if a = R.CEN_JOB_WORD_HI then some (s.jobWord (s.f (bkF m F.CEN_JOB_SEL_ID)) (mSrc m) / 2 ^ 32)
  else if a = R.SCR_RD_STAT then some (s.rdStat m)
  else if 0xB800 ≤ a ∧ a < 0xC000 then some (s.rdWin m ((a - 0xB800) / 4))
  else if a = R.FLT_FENCE_STAT then some (s.fenceStat m)
  else if a = R.FLT_FENCE_SEQ then
    some (let r := s.fence (s.rd (bk m R.FLT_FENCE_SEL)); if r.fenced then r.seq else 0)
  else if 0xE800 ≤ a ∧ a < 0xF000 then some (s.talWin m ((a - 0xE800) / 4))
  else if a = R.PASS_FAB_ENT then some (s.fabEnt m)
  else if R.PASS_FAB_UID 0 ≤ a ∧ a < R.PASS_FAB_UID 8 then some (s.fabUid m ((a - R.PASS_FAB_UID 0) / 4))
  else none

/-- Is the register banked, or does what it shows hang on a master's own selection? -/
def perMaster (s : State) (a : Nat) : Bool :=
  (match hubRow a with | some r => r.banked | none => false) || (s.shownTo .pass a).isSome
    || (decide (0x3000 ≤ a) && decide (a < 0x7000) && a % 0x1000 == 0x104)

/-- An engine's read of a hub register (07 R219): an RC register is not cleared; a register that exists only as a master's copy shows
an engine no stated value (log entry 3), but for WCH_LAG_SEL. -/
def State.engRead (s : State) (e a : Nat) : State × Nat :=
  if a % 0x1000 < 0x40 then (s, s.hubHead (.eng e) (a / 0x1000) (a % 0x1000))
  else match s.shown (.eng e) a with
  | some v => (s, v)
  | none =>
    if a = R.WCH_LAG_SEL then (s, smGet 0 s.wch.selEng e)
    else if perMaster s a then let x := s.takeFree; (x.2, x.1 % 2 ^ 32)
    else match hubRow a with
      | some r => (s, if r.acc = .wo then 0 else s.rd a)
      | none => (s, 0)

/-- A master's read of SPR_STAGE_USED: HWM starts again from what is in use (01 R38), but not on the page of a lost Spur, which keeps its last
values (R39; log entry 59). -/
def State.hwmRestart (s : State) (a : Nat) : State :=
  let one := fun (s : State) (p : Nat) =>
    if a = 0x12044 + 0x1000 * p ∧ s.spur p ≠ 2 then s.setF (F.SPR_STAGE_USED_HWM p) (s.f (F.SPR_STAGE_USED_USED p)) else s
  one (one s 0) 1

/-- A master's read of a hub register: an RC register clears to its reset value (R50, R52, R61). -/
def State.mstRead (s : State) (m : Master) (a : Nat) : State × Nat :=
  if a % 0x1000 < 0x40 then (s, s.hubHead (.mst m) (a / 0x1000) (a % 0x1000))
  else match s.shown (.mst m) a, s.shownTo m a with
  | some v, _ => (s, v)
  | none, some v => (s, v)
  | none, none =>
    if a = R.AUTH_BUF_DATA then s.bufRead m
    else if 0x3000 ≤ a ∧ a < 0x7000 ∧ a % 0x1000 = 0x104 then s.pmDataRead m (a / 0x1000 - 3)
    else match hubRow a with
      | none => (s, 0)
      | some r =>
        let b := if r.banked then bk m a else a
        if r.acc = .wo then (s, 0)
        else if r.acc = .rc then
          let v := s.rd b
          let s := s.wr b r.reset
          (if a = R.SUM_ERR then s.setMst m { s.mst m with denied := false } else s, v)
        else (s.hwmRestart a, s.rd b)

/-- A read of a hub register that has passed its checks. -/
def State.regRead (s : State) (g : Agent) (a : Nat) : State × Nat :=
  match g with | .mst m => s.mstRead m a | .eng e => s.engRead e a

/-! ### Writing a hub register -/

/-- A plain write under the register's access code: only the bits that a write changes; a banked register has no copy for an engine
(R50, R63). -/
def State.putReg (s : State) (g : Agent) (a v : Nat) : State :=
  match hubRow a with
  | none => s
  | some r =>
    let put := fun (b : Nat) =>
      let old := s.rd b
      match r.acc with
      | .rw | .rwl => s.wr b (Nat.lor (Nat.land v r.mask) (old - Nat.land old r.mask))
      | .w1c => s.wr b (old - Nat.land old (Nat.land v r.mask))
      | _ => s
    if r.banked then (match g with | .mst m => put (bk m a) | .eng _ => s) else put a

/-- A Spur is declared lost (01 R21, R23): with it the engines' window accesses in flight to it, the state pages in its staging buffer
and the trace data in it; SERVICE_N is asserted. -/
def State.loseSpur (s : State) (p : Nat) (rflags : Nat := 0) : State :=
  if s.spur p = 2 then s
  else (((s.spurLost p rflags).winFate (fun w => w.spur == p) codeSpurLost).stageLost p).scrSpur.svcUpdate

/-- A write to SUM_TOPO_CTRL (01 R37): in TEST_OPEN, a FORCE bit written as 1 declares its Spur lost and stays set. -/
def State.topoCtrl (s : State) (v : Nat) : State :=
  if s.lcs ≠ 2 then s
  else
    let one := fun (s : State) (p : Nat) =>
      if bit v p then (s.wr R.SUM_TOPO_CTRL (setBit (s.rd R.SUM_TOPO_CTRL) p)).loseSpur p else s
    one (one s 0) 1

/-- A write to SUM_CUT_CMD (04 R145): XDEV is ignored with ABANDON. -/
def State.cutCmd (s : State) (src v : Nat) : State :=
  let kind := bits v 0 2
  if bit v 3 ∧ kind ≠ 3 then (s.xcutReq kind src).1 else (s.cutReq kind src (bit v 2)).1

/-- A write to SUM_STEP_CMD (05 R175). -/
def State.stepCmd (s : State) (src v : Nat) : State := if bit v 0 then (s.stepReq src (bit v 1) (bit v 2)).1 else s

/-- An access under way at a hub soft reset completes with RESET (R48): a write may or may not have taken effect. -/
def State.mayHave (s : State) (write : Bool) (g : State → State) : State :=
  if write then let x := s.takeFree; if x.1 % 2 = 1 then g x.2 else x.2 else s

/-! ### Writing a Cairn register -/

/-- Forced faults of a Cairn's sources (11 R360). -/
def State.crnForce (s : State) (id v : Nat) : State :=
  (List.range 31).foldl (fun s b => if bit v b then s.cairnFault id { fltBit b with rflags := rfForced } else s) s

/-- The value of a Cairn register below the state view (02 R53, R54; 04 R146; 05 R176; 06 R186). -/
def State.crnVal (s : State) (g : Agent) (id o : Nat) : Nat :=
  let c := s.cairn id
  match o with
  | 0x00 => 0x80 + kindOf id + 2 ^ 8 * id + 2 ^ 20
  | 0x04 => 2 ^ 24 + 2 ^ 25 + 2 ^ 26
  | 0x0C => 2 ^ 29 * b2n (s.openTo g s.crnRights)
  | 0x10 | 0x14 | 0x1C | 0x24 => c.rd o
  | 0x28 => s.crnRights
  | _ =>
    if o < 0x40 then 0
    else match crnRow o with
      | some r => (match r.banked, g with | true, .mst m => c.rd (bk m o) | _, _ => c.rd o)
      | none => 0

/-- An engine's use of the view window of R164 through a page word: which space and address its selection names is not stated, as it
has no copy of the selectors (log entry 3). -/
def State.freeView (s : State) (o : Nat) : (Nat × Nat) × State :=
  let x := s.takeFree
  ((x.1 % 16, x.1 / 16 % 2 ^ 33 / 512 * 512 + (o - 0x200)), x.2)

/-- A read of a Cairn register: the view result (05 R169; OK below the view) and the data. -/
def State.crnGet (s : State) (g : Agent) (id o : Nat) (sec : Bool) : State × Nat × Nat :=
  if o < 0x140 then
    match crnRow o, g with
    | some r, .eng _ => if r.banked then (let x := s.takeFree; (x.2, vwOk, x.1 % 2 ^ 32)) else
        (if r.acc = .rc then s.modC id fun c => c.wr o r.reset else s, vwOk, s.crnVal g id o)
    | some r, .mst _ => (if r.acc = .rc then s.modC id fun c => c.wr o r.reset else s, vwOk, s.crnVal g id o)
    | none, _ => (s, vwOk, s.crnVal g id o)
  else match g with
    | .mst m => let r := s.viewRead m id o; (r.1, vwOk, r.2)
    | .eng _ =>
      if o < 0x200 then s.summaryRead id o sec
      else let x := s.freeView o; x.2.spaceRead id x.1.1 x.1.2 sec

/-- A write to a Cairn register (R50, R55; 06 R185; 05 R168): the view result (OK below the view). -/
def State.crnPut (s : State) (g : Agent) (id o v : Nat) (sec : Bool) : State × Nat :=
  if o < 0x40 then
    (if o = 0x1C then s.modC id fun c => c.wr o (v % 2 ^ 31)
     else if o = 0x20 then s.modC id fun c => { c with regs := pageAck c.regs 0 v }
     else if o = 0x18 then s.crnForce id v
     else s, vwOk)
  else if o < 0x140 then
    match crnRow o with
    | none => (s, vwOk)
    | some r =>
      let old := (s.cairn id).rd o
      if o = C.CRS_STAT then (s.modC id fun c => c.wr o (old - Nat.land old (Nat.land v 127)), vwOk)
      else if r.acc ≠ .rw then (s, vwOk)
      else if r.banked then
        (match g with | .mst m => s.modC id fun c => c.wr (bk m o) (Nat.land v r.mask) | .eng _ => s, vwOk)
      else
        let x := Nat.land v r.mask
        let s := s.modC id fun c => c.wr o x
        (if retained o then s.retainWrite id o x else s, vwOk)
  else match g with
    | .mst m => (s.viewWrite m id o v, vwOk)
    | .eng e =>
      if o < 0x200 then s.summaryWrite id o v (engSrc e) (s.leafVal id) sec
      else let x := s.freeView o; x.2.spaceWrite id x.1.1 x.1.2 v (engSrc e) (s.leafVal id) sec

/-- A Cairn access of an agent, with the pairs of R46: the view result and the data. `sec` says whether an engine's recorded set held
DUMP_SECURE when it issued the access (07 R218); a master's own set is asked where it matters. -/
def State.crnAccess (s : State) (g : Agent) (id o : Nat) (write : Bool) (v : Nat) (sec : Bool) : State × Nat × Nat :=
  let key := 2 ^ 20 * (id + 1) + o
  let h := s.holding g
  let s := s.setHolding g none none
  let lo := crnLo (kindOf id) o
  if write then
    if lo then (s.setHolding g none (some (key, v)), vwOk, 0)
    else
      let s := match h.2 with | some (k, w) => if k + 4 = key then (s.crnPut g id (o - 4) w sec).1 else s | none => s
      let r := s.crnPut g id o v sec
      (r.1, r.2, 0)
  else
    let own := match h.1 with | some (k, w) => if k = key then some w else none | none => none
    match own with
    | some w => (s, vwOk, w)
    | none =>
      let r := s.crnGet g id o sec
      if lo then (r.1.setHolding g (some (key + 4, (s.crnGet g id (o + 4) sec).2.2)) none, r.2) else r

/-! ### A hub soft reset is requested (16 R493) -/

/-- An aperture access in flight at a soft reset may have reached its Cairn. -/
def State.apPerhaps (s : State) (a : ApAcc) : State :=
  if a.fate.isSome || !s.reachable a.cairn || s.dormant a.cairn then s
  else s.mayHave a.write fun s => (s.crnPut (.mst a.master) a.cairn a.off a.val false).1

/-- A write to SUM_RST_CMD (16 R493): the Pass session ends, and every access under way completes with RESET. -/
def State.softRequest (s : State) (m : Master) (v : Nat) : State :=
  if !bit v 0 ∨ v / 65536 ≠ 0x51A5 ∨ s.softPending then s
  else
    let s := ((s.setF F.SUM_RST_STAT_SOFT_PENDING 1).setF F.SUM_RST_STAT_SOFT_MASTER (mNum m)).setF F.SUM_RST_STAT_BOTH 0
    let s := { s with rst := { s.rst with soft := some ⟨m, s.clk, s.otpStep, false⟩ } }
    let s := s.sessEnd seSoft
    let s := s.sum.aps.foldl State.apPerhaps s
    let s := s.apFate (fun _ => true) codeReset
    let held := s.sum.held
    let s := { s with sum := { s.sum with held := [] } }
    held.foldl (fun s a =>
      if 0x20400 ≤ a.addr ∧ a.addr < 0x21000 then s.apComplete a codeReset 0 else s.complete a.master a.addr codeReset 0) s

/-! ### Writes with an effect of their own, page by page -/

/-- A write to a register of SUM from 0x040 on. -/
def State.sumPut (s : State) (m : Master) (a v : Nat) : State :=
  if a = R.SUM_TOPO_CTRL then s.topoCtrl v
  else if a = R.SUM_EXCL then (match m with | .pass => s.exclPass v | .host => s.exclHost v)
  else if a = R.SUM_CUT_CMD then s.cutCmd (mSrc m) v
  else if a = R.SUM_STEP_CMD then s.stepCmd (mSrc m) v
  else if a = R.SUM_RST_CMD then s.softRequest m v
  else s.putReg (.mst m) a v

/-- A write to a register of CRS (06 R188, R193, R195). -/
def State.crsPut (s : State) (g : Agent) (a v : Nat) : State :=
  if a = R.CRS_CTRL then s.crsCtrl v (s.rightsIn g)
  else if a = R.CRS_XTRIG then s.raiseCh (v % 64) g.src
  else if R.CRS_CNT_CFG 0 ≤ a ∧ s.f F.CRS_CTRL_RUN = 1 then
    if (hubRow a).isSome then s.setF F.CRS_STAT_WR_IGN 1 else s
  else s.putReg g a v

/-- A write to a register of a PRB page (07 R204, R208, R210, R236). -/
def State.prbPut (s : State) (m : Master) (a v : Nat) : State :=
  let e := a / 0x1000 - 3
  if a = R.PRB_CTRL e then s.prbCtrl e v (mSrc m) (s.heldSet m)
  else if a = R.PRB_PM_DATA e then s.pmDataWrite m e v
  else if (a = R.PRB_CODE_WIN e ∨ a = R.PRB_DATA_WIN e ∨ (R.PRB_P e 0 ≤ a ∧ a < R.PRB_P e 32)) ∧ !s.engIdle e then s
  else s.putReg (.mst m) a v

/-- A write to a register of COU (08 R242, R247, R273, R274, R277, R281). -/
def State.couPut (s : State) (g : Agent) (a v : Nat) : State :=
  if a = R.COU_CTRL then s.couCtrl v (s.rightsIn g)
  else if (a = R.COU_CC_BASE ∨ a = R.COU_CC_SIZE) then if s.ccOn then s else s.putReg g a v
  else if a = R.COU_CMD then if bit v 4 then (s.dumpReq g.src (bits v 0 4)).1 else s
  else if a = R.COU_RELEASE then s.couRelease g.num v
  else if a = R.COU_DRAIN_CTRL then s.drainCtrl v
  else if a = R.COU_DRAIN_ACK then s.drainAck (v % 2 ^ 19)
  else s.putReg g a v

/-- A launch through CEN_SUBMIT or ECH_SUBMIT; the answer is the master's CEN_SUBMIT_STAT (09 R299, R308). -/
def State.jobSubmit (s : State) (echo : Bool) (g : Agent) (v : Nat) : State :=
  let r := s.jobReq echo g.src (s.rightsIn g) (v % 65536)
  match g with
  | .mst m => (r.1.setF (bkF m F.CEN_SUBMIT_STAT_JOB_ID) r.2.1).setF (bkF m F.CEN_SUBMIT_STAT_REFUSAL) r.2.2
  | .eng _ => r.1

/-- A write to a register of CEN or ECH. -/
def State.cenPut (s : State) (g : Agent) (a v : Nat) : State :=
  if a = R.CEN_SUBMIT then s.jobSubmit false g v
  else if a = R.ECH_SUBMIT then s.jobSubmit true g v
  else if a = R.CEN_ABORT then s.masterAbort false (v % 65536)
  else if a = R.ECH_ABORT then s.masterAbort true (v % 65536)
  else s.putReg g a v

/-- A trace request by a write to SCR_CMD; the answer is the master's SCR_CMD_STAT (10 R327). -/
def State.scrCmdBy (s : State) (g : Agent) (v : Nat) : State :=
  match g with
  | .mst m => s.scrCmd m v (s.heldSet m)
  | .eng _ =>
    let op := bits v 0 2
    if op = 0 ∨ op = 3 then s
    else (s.traceReq (op == 1) (v / 65536) (if bit v 2 then some (s.rd64 R.SCR_REQ_T_LO) else none) (s.rightsIn g) g.src).1

/-- A write to a register of SCR (10 R341, R344, R347, R348). -/
def State.scrPut (s : State) (g : Agent) (a v : Nat) : State :=
  if a = R.SCR_CTRL then (if s.tfOn && !g.isEng then (s.scrCtrl v).tfBase else s.scrCtrl v)
  else if a = R.SCR_CMD then s.scrCmdBy g v
  else if a = R.SCR_MARK then
    match g with
    | .mst m => s.scrMark m v
    | .eng e => if bit s.trMask sbMark then s.stagePkt ⟨s.now, 5, 0, pkMark, some sbMark, false, 0, 0, le 2 (engSrc e) ++ le 4 v⟩ else s
  else if R.SCR_SPILL_BASE_LO ≤ a ∧ a ≤ R.SCR_SPILL_SIZE then if s.scrFree then s.putReg g a v else s
  else if a = R.SCR_DRAIN_CTRL then s.trDrainCtrl v
  else if a = R.SCR_DRAIN_ACK then s.trAck v
  else s.putReg g a v

/-- A fence command (11 R371): by a master with the cause of a master, by an engine with Pitch's. -/
def State.fenceCmd (s : State) (g : Agent) (v : Nat) : State :=
  match g with
  | .mst m =>
    let r := s.fenceReq (v % 4096) fcMaster 0 (mSrc m)
    r.1.setF (bkF m F.FLT_FENCE_STAT_LAST_OUTCOME) r.2
  | .eng e => (s.fenceReq (v % 4096) fcPitch 0 (engSrc e)).1

/-- A write to a register of FLT (11 R362, R364, R371, R373, R377). -/
def State.fltPut (s : State) (g : Agent) (a v : Nat) : State :=
  if a = R.FLT_ACK then s.fltAck v g.src
  else if a = R.FLT_CE_RD then s.ceRd v
  else if a = R.FLT_FENCE_CMD then s.fenceCmd g v
  else if a = R.FLT_UNFENCE then
    if s.lcs = 2 ∨ s.lcs = 5 then (s.putReg g a v).unfence (v % 4096) g.num else s
  else if a = R.FLT_FENCE_THR then (s.putReg g a v).svcUpdate
  else s.putReg g a v

/-- A remap command; the answer is the master's WCH_REMAP_RES (12 R389). -/
def State.remapCmd (s : State) (g : Agent) (v : Nat) : State :=
  match g with
  | .mst m =>
    let r := s.remapReq (bits v 0 12) (bits v 16 12) rcMaster 0
    (r.1.setF (bkF m F.WCH_REMAP_RES_OUTCOME) r.2.1).setF (bkF m F.WCH_REMAP_RES_SPARE) r.2.2
  | .eng _ => (s.remapReq (bits v 0 12) (bits v 16 12) rcWatch 0).1

/-- An unmap command (12 R392), in TEST_OPEN and RMA only. -/
def State.unmapCmd (s : State) (g : Agent) (v : Nat) : State :=
  if s.lcs = 2 ∨ s.lcs = 5 then
    let r := (s.putReg g R.WCH_UNMAP v).unmapReq (v % 4096)
    match g with
    | .mst m => (r.1.setF (bkF m F.WCH_REMAP_RES_OUTCOME) r.2).setF (bkF m F.WCH_REMAP_RES_SPARE) 0
    | .eng _ => r.1
  else s

/-- A write to a register of WCH. -/
def State.wchPut (s : State) (g : Agent) (a v : Nat) : State :=
  if a = R.WCH_REMAP_CMD then s.remapCmd g v
  else if a = R.WCH_UNMAP then s.unmapCmd g v
  else if a = R.WCH_CTRL then (s.putReg g a v).tfEnable s.tfOn
  else if a = R.WCH_LAG_SEL then
    match g with
    | .mst _ => s.putReg g a v
    | .eng e => { s with wch := { s.wch with selEng := smSet 0 s.wch.selEng e (v % 8) } }
  else s.putReg g a v

/-- A write to a register of TAL (13 R413, R417, R420, R423, R424). -/
def State.talPut (s : State) (m : Master) (a v : Nat) : State :=
  if a = R.TAL_CTRL then s.talCtrl v
  else if a = R.TAL_TRACK then s.talTrack v
  else if a = R.TAL_CLEAR then s.talClear (mNum m) v
  else
    let s := s.putReg (.mst m) a v
    if a = R.TAL_PERSIST then s.modTal fun l => { l with persistCfg := s.rd R.TAL_PERSIST }
    else if a = R.TAL_CE_TRACK then s.modTal fun l => { l with ceTrack := s.rd R.TAL_CE_TRACK }
    else s

/-- A write to a register of LCY, AUTH or PASS (14 R435; 15 R483, R484). The fabric's answer to a claim of the lead comes from outside:
where a plain write makes one, it is a free value (log entry 3). -/
def State.portPut (s : State) (m : Master) (a v : Nat) : State :=
  if a = R.LCY_CMD then s.lcyCmd m v
  else if a = R.AUTH_CMD then s.authCmd m v
  else if a = R.AUTH_BUF_DATA then s.bufWrite m v
  else if a = R.PASS_FAB_CTRL then
    if bit v 0 then
      let x := s.takeFree
      if x.1 % 2 = 1 then x.2.fabCtrl v true (x.1 / 2) else x.2.fabCtrl v false 0
    else s.fabCtrl v false 0
  else s.putReg (.mst m) a v

/-- What a page's chapter attaches to one of its sources, which a forced fault takes too unless FORCE_DRY is set (11 R360). -/
def State.forceEffect (s : State) (p b : Nat) : State :=
  match p, b with
  | 0x01, 1 =>
    let s := (s.setF F.RDG_STAT_HOLDOVER 1).setF F.RDG_STAT_LOCKED 0
    ({ s with rdg := { s.rdg with refLost := true, glitches := [], refBad := s.clk } }).realign
  | 0x01, 3 => ({ s.setF F.RDG_STAT_TSYNC_OK 0 with rdg := { s.rdg with tsyncLost := true } }).realign
  | 0x02, 0 => s.runClear
  | 0x09, 0 => s.abortJobs (fun _ => true) reasonJobParity
  | 0x0F, 1 => if s.auth.run.isSome then s.setF F.LCY_STAT_STALLED 1 else s
  | 0x10, 0 => { s with auth := { s.auth with trngOk := false } }
  | 0x10, 1 => s.verifyParity
  | 0x11, 2 => s.sessEnd seBufUc
  | 0x03, 1 | 0x04, 1 | 0x05, 1 | 0x06, 1 => s.engStopRun (p - 3) stopPmUc
  | 0x03, 2 | 0x04, 2 | 0x05, 2 | 0x06, 2 => s.engStopRun (p - 3) stopWdog
  | 0x03, 3 | 0x04, 3 | 0x05, 3 | 0x06, 3 => s.engStopRun (p - 3) stopRfParity
  | _, _ => s

/-- Forced faults of a hub page's sources (11 R360). -/
def State.hubForce (s : State) (p v : Nat) : State :=
  (List.range 31).foldl (fun s b =>
    if !bit v b || hubFlt p b == 0 then s
    else if s.f F.FLT_CTRL_FORCE_DRY = 1 then s.hubFault p b rfForced
    else if (p = 0x12 ∨ p = 0x13) ∧ b = 0 ∧ s.spur (p - 0x12) ≠ 2 then s.loseSpur (p - 0x12) rfForced
    else (s.hubFault p b rfForced).forceEffect p b) s

/-- A write to the common header of a hub page (R53, R55; 11 R360). -/
def State.headPut (s : State) (p o v : Nat) : State :=
  if !hasFlt p then s
  else if o = 0x1C then s.wr (p * 0x1000 + o) (v % 2 ^ 31)
  else if o = 0x20 then { s with regs := pageAck s.regs (p * 0x1000) v }
  else if o = 0x18 then s.hubForce p v
  else s

/-- A write to a hub register that has passed its checks. -/
def State.regWrite (s : State) (g : Agent) (a v : Nat) : State :=
  if a % 0x1000 < 0x40 then s.headPut (a / 0x1000) (a % 0x1000) v
  else match a / 0x1000, g with
    | 0x00, .mst m => s.sumPut m a v
    | 0x01, _ => if a = R.RDG_CTRL then s.rdgCtrl v else s.putReg g a v
    | 0x02, _ => s.crsPut g a v
    | 0x03, .mst m => s.prbPut m a v
    | 0x04, .mst m => s.prbPut m a v
    | 0x05, .mst m => s.prbPut m a v
    | 0x06, .mst m => s.prbPut m a v
    | 0x08, _ => s.couPut g a v
    | 0x09, _ => s.cenPut g a v
    | 0x0A, _ => s.cenPut g a v
    | 0x0B, _ => s.scrPut g a v
    | 0x0C, _ => s.fltPut g a v
    | 0x0D, _ => s.wchPut g a v
    | 0x0E, .mst m => s.talPut m a v
    | 0x0F, .mst m => s.portPut m a v
    | 0x10, .mst m => s.portPut m a v
    | 0x11, .mst m => s.portPut m a v
    | _, _ => s.putReg g a v

/-- A hub access that has passed its checks, with the pairs of R46: the data of a read. -/
def State.hubDo (s : State) (g : Agent) (a : Nat) (write : Bool) (v : Nat) : State × Nat :=
  let h := s.holding g
  let s := s.setHolding g none none
  if write then
    if hubLo a && (match hubRow a with | some r => r.acc == .rw || r.acc == .w1c | none => false) then
      (s.setHolding g none (some (a, v)), 0)
    else
      let s := match h.2 with | some (k, w) => if k + 4 = a then s.regWrite g k w else s | none => s
      (s.regWrite g a v, 0)
  else
    let own := match h.1 with | some (k, w) => if k = a then some w else none | none => none
    match own with
    | some w => (s, w)
    | none =>
      let r := s.regRead g a
      if hubLo a then (r.1.setHolding g (some (a + 4, (s.regRead g (a + 4)).2)) none, r.2) else r

/-- An access that is not carried out is still the next access for R46: what was captured or held goes. -/
def State.hubMiss (s : State) (g : Agent) : State := s.setHolding g none none

/-! ### Arbitration and the Cairn window (R47, R48, R62 to R70) -/

/-- Does the address lie in an aperture? -/
def apAddr (a : Nat) : Bool := decide (0x20400 ≤ a) && decide (a < 0x21000)

/-- Are accesses answered with RESET (R48): a hub soft reset or start-up? -/
def State.inReset (s : State) : Bool := s.softPending || !s.started

/-- A hub access wins arbitration and completes. -/
def State.hubGrant (s : State) (x : ApAcc) : State :=
  let g := Agent.mst x.master
  match x.fate with
  | some c => (s.hubMiss g).complete x.master x.addr c 0
  | none =>
    let code := s.hubCode g x.addr x.write x.val
    if s.inReset then
      let s := s.hubMiss g
      let s := if code = codeOk then s.mayHave x.write fun s => (s.hubDo g x.addr true x.val).1 else s
      s.complete x.master x.addr codeReset 0
    else if code = codeOk then
      let r := s.hubDo g x.addr x.write x.val
      r.1.complete x.master x.addr codeOk r.2
    else (s.hubMiss g).complete x.master x.addr code 0

/-- The code with which an aperture access completes at the arbiter, if one does (R48, R58, R67, R73). -/
def State.apCode (s : State) (x : ApAcc) : Option Nat :=
  match x.fate with
  | some c => some c
  | none =>
    if s.inReset then some codeReset
    else if 0xBC0 ≤ x.cairn then some codeNoUnit
    else if x.master == .host && s.excl && !exclCairn x.off x.write then some codeExcl
    else if !s.may (.mst x.master) (if x.write then s.crnWrite x.off else crnRead x.off) then some codeRights
    else none

/-- An aperture access wins arbitration (R64 to R68): it takes its Cairn from the master's selection. -/
def State.apGrant (s : State) (x : ApAcc) : State :=
  let n := (x.addr % 0x1000 - 0x400) / 0x400
  let id := s.rd (bk x.master (R.CWIN_SEL0 + 4 * n)) % 4096
  let x := { x with cairn := id, off := x.addr % 0x400, t0 := s.clk, spur := s.server (halfOf id) }
  let s := if s.inReset && x.fate.isNone && kindOf id != 0 && s.may (.mst x.master) (s.crnWrite x.off) then s.apPerhaps x else s
  let s := match s.apCode x with | some _ => s.hubMiss (.mst x.master) | none => s
  s.apEnter { x with fate := s.apCode x }

/-- Must an access of a master wait behind its earlier ones (R47, R65)? -/
def State.mustWait (s : State) (m : Master) (a : Nat) : Bool :=
  let out := (s.apsOf m).length
  if apAddr a then decide (8 ≤ out) else out != 0

/-- Grants a master's turn in a round gives it (R70, R71). -/
def State.arbWt (s : State) (m : Master) : Nat :=
  max 1 (match m with | .pass => s.f F.SUM_ARB_CTRL_PASS_WT | .host => s.f F.SUM_ARB_CTRL_HOST_WT)

/-- A grant to master `m` counts in its turn; a grant out of turn begins one (R70). -/
def State.arbTurn (s : State) (m : Master) : State :=
  if s.sum.rrTurn = m ∧ s.sum.rrUsed < s.arbWt m then { s with sum := { s.sum with rrUsed := s.sum.rrUsed + 1 } }
  else { s with sum := { s.sum with rrTurn := m, rrUsed := 1 } }

/-- An access wins arbitration. -/
def State.grant (s : State) (x : ApAcc) : State :=
  let s := s.arbTurn x.master
  let s := if x.master = .pass then { s with sum := { s.sum with lastPass := s.clk } } else s
  if apAddr x.addr then s.apGrant x else s.hubGrant x

/-- A master's oldest access held at the arbiter, if it may win now. -/
def State.heldReady (s : State) (m : Master) : Option ApAcc :=
  (s.sum.held.find? fun x => x.master == m).filter fun x => !s.mustWait m x.addr

/-- The other master. -/
def otherMst : Master → Master | .pass => .host | .host => .pass

/-- The access that wins arbitration next, by weighted round robin (R70): the master whose turn it is while it has grants left, then the
other; a master with nothing pending passes its turn. -/
def State.nextGrant (s : State) : Option ApAcc :=
  let m := s.sum.rrTurn
  let own := s.heldReady m
  let other := s.heldReady (otherMst m)
  if s.sum.rrUsed < s.arbWt m then own.or other else other.or own

/-- Accesses held at the arbiter win it one after another, as long as they may (at most `n`). -/
def State.pumpN : Nat → State → State
  | 0, s => s
  | n + 1, s =>
    match s.nextGrant with
    | none => s
    | some x =>
      let s := { s with sum := { s.sum with
        held := (s.sum.held.filter fun (y : ApAcc) => y.master != x.master) ++ (s.sum.held.filter fun (y : ApAcc) => y.master == x.master).drop 1 } }
      State.pumpN n (s.grant x)

/-- Every access held at the arbiter that may now win it does. -/
def State.pump (s : State) : State := s.pumpN (s.sum.held.length + 1)

/-- A master issues one 32-bit access; `fate` is ALIGN for one of another width or alignment (R45). -/
def State.issue (s : State) (m : Master) (a : Nat) (write : Bool) (v : Nat) (fate : Option Nat) : State :=
  let x : ApAcc := ⟨m, a, 0, 0, write, v, s.clk, 0, fate, 0⟩
  let s := s.pump
  if s.sum.held.any (fun y => y.master == m) || s.mustWait m a then
    { s with sum := { s.sum with held := s.sum.held ++ [x] } }
  else s.grant x

/-- A master makes an access of `width` bytes (R45): the host window splits an aligned 64-bit access, the lower address first. -/
def State.masterAccess (s : State) (m : Master) (addr width : Nat) (write : Bool) (v : Nat) : State :=
  let a := addr % 2 ^ 20
  if width = 4 ∧ a % 4 = 0 then s.issue m a write (v % 2 ^ 32) none
  else if m = .host ∧ width = 8 ∧ a % 8 = 0 then
    (s.issue m a write (v % 2 ^ 32) none).issue m (a + 4) write (v / 2 ^ 32 % 2 ^ 32) none
  else s.issue m a write (v % 2 ^ 32) (some codeAlign)

/-- A 32-bit write by a master. -/
def State.masterWrite (s : State) (m : Master) (a v : Nat) : State := s.masterAccess m a 4 true v

/-- A 32-bit read by a master. -/
def State.masterRead (s : State) (m : Master) (a : Nat) : State := s.masterAccess m a 4 false 0

/-- SUM_CWIN_TMO as it acts (R71). -/
def State.cwinTmo (s : State) : Nat := max (s.f F.SUM_CWIN_TMO_TMO) 400

/-- The oldest aperture access in flight of a master leaves the window and completes. -/
def State.apEnd (s : State) (x : ApAcc) (code data : Nat) : State :=
  let m := x.master
  let mine := s.apsOf m
  let s := { s with sum := { s.sum with aps := (s.sum.aps.filter fun (y : ApAcc) => y.master != m) ++ mine.drop 1 } }
  ((s.apComplete x code data).apFlush m).pump

/-- Does an access to Cairn `id` that was issued at `t0` still await the service of Spur `p`? One whose Cairn does not answer, or whose time
is out, does not hold the others up (log entry 59). -/
def State.awaits (s : State) (p id t0 : Nat) (fate : Option Nat) : Bool :=
  fate.isNone && s.server (halfOf id) == p && s.reachable id && (s.dormant id || !(s.cairn id).noAnswer) && decide (s.clk < t0 + s.cwinTmo)

/-- Is access number `no` the next that the Spur which serves Cairn `id` takes: it takes the accesses of the masters and of the engines in
order of arrival (01 R10; 07 R218)? -/
def State.nextAt (s : State) (id no : Nat) : Bool :=
  let p := s.server (halfOf id)
  s.sum.aps.all (fun a => !(decide (a.no < no) && s.awaits p a.cairn a.t0 a.fate))
    && [0, 1, 2, 3].all fun e => (s.eng e).wins.all fun w => !(decide (w.no < no) && s.awaits p w.cairn w.t0 w.fate)

/-- The answer to a master's oldest aperture access returns (R65, R66). -/
def State.apAnswer (s : State) (m : Master) : State :=
  match s.apsOf m with
  | [] => s
  | x :: _ =>
    if !s.reachable x.cairn || decide (x.t0 + s.cwinTmo ≤ s.clk) || !s.nextAt x.cairn x.no then s
    else if s.dormant x.cairn then
      let s := s.hubMiss (.mst m)
      if !x.write && x.off == 0 then s.apEnd x codeOk (0x80 + kindOf x.cairn + 2 ^ 8 * x.cairn + 2 ^ 20)
      else if !x.write && x.off == 0x0C then s.apEnd x codeOk 0x40000000
      else s.apEnd x codeDormant 0
    else if (s.cairn x.cairn).noAnswer then s
    else
      let r := s.crnAccess (.mst m) x.cairn x.off x.write x.val false
      r.1.apEnd x codeOk r.2.2

/-- An aperture access that has not been answered within SUM_CWIN_TMO completes with TIMEOUT (R65). -/
def State.apTimeout (s : State) (m : Master) : State :=
  match s.apsOf m with
  | [] => s
  | x :: _ => if x.t0 + s.cwinTmo ≤ s.clk then (s.hubMiss (.mst m)).apEnd x codeTimeout 0 else s

/-- A master's access to a Cairn page and its answer, when no earlier access is under way. -/
def State.accessAns (s : State) (m : Master) (a : Nat) (write : Bool) (v : Nat) : State :=
  let s := s.masterAccess m a 4 write v
  if s.sum.held.any (fun y => y.master == m) || (s.apsOf m).length != 1 then s else s.apAnswer m

/-! ### A Pitch engine's accesses (07 R218 to R220) -/

/-- Pages to which an HWR completes with RIGHTS (07 R219). -/
def hwrClosed (p : Nat) : Bool := p == 0x00 || p == 0x0F || p == 0x10 || p == 0x11 || p == 0x0E || (decide (3 ≤ p) && decide (p ≤ 6))

/-- HRD or HWR of engine `e` (07 R219, R220): the data of a read. -/
def State.engHub (s : State) (e a : Nat) (write : Bool) (v : Nat) : State × Nat :=
  let g := Agent.eng e
  let code := if s.inReset then codeReset
    else if a / 0x1000 = 0x20 then codeNoPage
    else if write && hwrClosed (a / 0x1000) then codeRights
    else s.hubCode g a write v
  if code = codeOk then s.hubDo g a write v else ((s.hubMiss g).accErr e code 0 0, 0)

/-- The code with which a window access of engine `e` completes when it is issued, if one does: rights are those of the recorded set then
(07 R205, R218). -/
def State.winCode (s : State) (e : Nat) (w : WinAcc) : Option Nat :=
  let right := if w.rd.isNone then s.crnWrite (if w.view then 0x140 else w.off) else crnRead (if w.view then 0x140 else w.off)
  if s.inReset then some codeReset
  else if kindOf w.cairn = 0 then some codeNoUnit
  else if !s.may (.eng e) right then some codeRights
  else none

/-- A window access of engine `e` enters the window behind every access that has arrived (01 R10), its fate decided or not. -/
def State.winEnter (s : State) (e : Nat) (w : WinAcc) : State :=
  let fate := s.winCode e w
  let w := { w with spur := s.server (halfOf w.cairn), no := s.sum.arrNo, fate := fate, sec := bit (s.rightsIn (.eng e)) rtDumpSecure }
  let s := if fate.isSome then s.hubMiss (.eng e) else s
  let s := { s with sum := { s.sum with arrNo := s.sum.arrNo + 1 } }
  ((s.setEng e { s.eng e with wins := (s.eng e).wins ++ [w] }).touchWin w.cairn).winFlush e

/-- A window access of engine `e` is carried out (07 R218, R220): code, view results in order and data. The two words of W64 are
independent. -/
def State.engWin (s : State) (e : Nat) (w : WinAcc) : State × Nat × List Nat × Nat :=
  let g := Agent.eng e
  let id := w.cairn
  let write := w.rd.isNone
  if s.dormant id then
    let s := s.hubMiss g
    if !write && !w.view && w.off == 0 then (s, codeOk, [], 0x80 + kindOf id + 2 ^ 8 * id + 2 ^ 20)
    else if !write && !w.view && w.off == 0x0C then (s, codeOk, [], 0x40000000)
    else (s, codeDormant, [], 0)
  else if !w.view then
    let r := s.crnAccess g id w.off write w.val w.sec
    (r.1, codeOk, [r.2.1], r.2.2)
  else if write then
    let one := (s.hubMiss g).spaceWrite id w.space w.off (w.val % 2 ^ 32) (engSrc e) (s.leafVal id) w.sec
    if w.wide then
      let two := one.1.spaceWrite id w.space (w.off + 4) (w.val / 2 ^ 32 % 2 ^ 32) (engSrc e) (s.leafVal id) w.sec
      (two.1, codeOk, [one.2, two.2], 0)
    else (one.1, codeOk, [one.2], 0)
  else
    let one := (s.hubMiss g).spaceRead id w.space w.off w.sec
    if w.wide then
      let two := one.1.spaceRead id w.space (w.off + 4) w.sec
      (two.1, codeOk, [one.2.1, two.2.1], one.2.2 + 2 ^ 32 * two.2.2)
    else (one.1, codeOk, [one.2.1], one.2.2)

/-- A window access of engine `e` is answered (07 R216, R220): failures are recorded, and a read writes its register. -/
def State.engAnswer (s : State) (e : Nat) (w : WinAcc) : State :=
  let r := s.engWin e w
  let s := if r.2.1 = codeOk then (r.2.2.1.filter (· ≠ vwOk)).foldl (fun s v => s.accErr e codeOk v w.cairn) r.1
    else r.1.accErr e r.2.1 0 w.cairn
  let s := s.touchWin w.cairn
  match w.rd with | some n => s.setP e n r.2.2.2 | none => s

end Sys2Proof.Machine
end

