-- ==== Sys2Proof/Machine/Arbiter.lean ====
section
/-! DEFINITION. Machine/Arbiter.lean: the event arbiter: which input head takes the next sequence number, and what follows from a
number (01 R18, R19, R30 to R33). -/

namespace Sys2Proof.Machine

/-- Place of an event in the order of R31: FATAL, UC, CE, then events that are not faults. -/
def Ev.rank (e : Ev) : Nat := match e.flt with | some i => 3 - i.cls | none => 3

/-- Does `a` go before `b` under R31? -/
def Ev.first (a b : Ev) : Bool := decide (a.rank < b.rank) || (a.rank == b.rank && decide (a.src ≤ b.src))

/-- The oldest event of each internal source. -/
def intHeads (l : List Ev) : List Ev := l.foldl (fun acc e => if acc.any (fun x => x.src == e.src) then acc else acc ++ [e]) []

/-- The input heads (R30): number of the input (Spur 0, Spur 1, 2 for the internal sources) and its event. -/
def State.heads (s : State) : List (Nat × Ev) :=
  (s.sum.fifo0.take 1).map (fun e => (0, e)) ++ (s.sum.fifo1.take 1).map (fun e => (1, e)) ++ (intHeads s.sum.intq).map fun e => (2, e)

/-- The head that takes the next number (R31). -/
def bestHead : List (Nat × Ev) → Option (Nat × Ev)
  | [] => none
  | h :: hs => match bestHead hs with | some b => if h.2.first b.2 then some h else some b | none => some h

/-- The list without its first entry equal to `e`. -/
def dropEv (e : Ev) : List Ev → List Ev
  | [] => []
  | x :: xs => if x = e then xs else x :: dropEv e xs

/-- A head leaves its input; what a Spur held for want of room follows. -/
def State.popHead (s : State) (h : Nat × Ev) : State :=
  match h.1 with
  | 0 => (({ s with sum := { s.sum with fifo0 := s.sum.fifo0.drop 1 } }).fifoFill 0).fifoFill 1
  | 1 => (({ s with sum := { s.sum with fifo1 := s.sum.fifo1.drop 1 } }).fifoFill 1).fifoFill 0
  | _ => { s with sum := { s.sum with intq := dropEv h.2 s.sum.intq } }

/-- The first entry of a Cairn's queue that holds the event is numbered (R18, R23). -/
def markNumbered (e : Ev) : List QEnt → List QEnt
  | [] => []
  | q :: qs => if q.sent && !q.numbered && q.ev == e then { q with numbered := true } :: qs else q :: markNumbered e qs

/-- What is decided only when the number is given: a cut, a resume or a step whose T would fall short takes the T it is issued with
(04 R119; 05 R154); a fault takes the reaction its record names (11 R352, R370). -/
def State.atNumber (s : State) (seq epoch : Nat) (e : Ev) : State × Ev :=
  match e.name with
  | .cut =>
    let id := e.val 0
    let r := s.jobIssue (if e.val 1 = 0 then .cutStop else .cutGlance) id
    let s := { r.1.wr R.SUM_CUT_SEQ seq with cut := { r.1.cut with epoch := epoch } }
    (s.dumpNumbered id seq epoch, match r.2 with | some t => { e with data := e.data.set 2 (.d t) } | none => e)
  | .resumeSched =>
    let r := s.jobIssue .resume (e.val 0)
    (r.1, match r.2 with | some t => { e with data := e.data.set 1 (.d t) } | none => e)
  | .step =>
    let r := s.stepIssue
    (r.1, match r.2 with | some t => { e with data := (e.data.set 1 (.d t.1)).set 2 (.d t.2) } | none => e)
  | .fault =>
    match e.flt with
    | none => (s, e)
    | some i =>
      let lost := s.rd R.FLT_CE_LOST
      let r := s.faultNumbered seq epoch e i
      let s := if r.2.2 then r.1.talReq tcFatal else r.1
      let s := if lost < s.rd R.FLT_CE_LOST ∧ !bit i.rflags 0 then s.talAdd (devRow + 0x24) 4 (s.rd R.FLT_CE_LOST - lost) else s
      let s := if (i.page = 0x12 ∨ i.page = 0x13) ∧ i.bit = 0 then s.lossNumbered else s
      (s, { e with flt := some r.2.1.info })
  | _ => (s, e)

/-- A numbered REMAP: a fault's remap fences the array it took out, and an array that waited for the core takes its turn (11 R374,
R375). -/
def State.remapNumbered (s : State) (core : Nat) : State :=
  let due := s.wch.fenceAfter.filter fun f => coreOf f.1 == core
  let s := { s with wch := { s.wch with fenceAfter := s.wch.fenceAfter.filter fun f => coreOf f.1 != core } }
  (due.foldl (fun s f => (s.fenceReq f.2.1 fcFault f.2.2 0x1006).1) s).remapNext core

/-- What follows from a number once the event has it. -/
def State.afterNumber (s : State) (seq epoch : Nat) (e : Ev) : State :=
  match e.name with
  | .fence => s.fenceNumbered (e.val 0) seq
  | .fenceDone => s.fenceComplete (e.val 0)
  | .fenceReq =>
    if e.val 1 = 0 then
      let id := e.val 0
      (s.setFence id { s.fence id with causeSeq := seq }).fenceEvent id
    else s
  | .remap => s.remapNumbered (coreOf e.src)
  | .transition => s.wr R.CRS_LAST_SEQ seq
  | .talusCommit => s.commitNumbered seq epoch
  | _ => s

/-- An event takes number `seq` of `epoch`: its consequences, the trace, the ledger, the watch counters, and the order of a chip warm
reset's events (16 R499). -/
def State.giveNumber (s : State) (seq epoch : Nat) (e : Ev) : State :=
  let r := s.atNumber seq epoch e
  let n : NumEv := ⟨seq, epoch, r.2⟩
  let s := (r.1.scrEvent n).wchCount r.2
  let s : State := { s with tal := { s.tal with queue := s.tal.queue ++ [n] } }
  let s := if e.src < 0x1000 then s.modC e.src fun c => { c with queue := markNumbered e c.queue } else s
  let s := s.afterNumber seq epoch r.2
  if s.rst.chainCur = some e then ({ s with rst := { s.rst with chainCur := none } }).chainNext else s

/-- The next number is given; at the wrap the epoch rises and SEQ_WRAP takes number 0 of it (R33). -/
def State.takeNumber (s : State) (e : Ev) : State :=
  let seq := s.rd R.SUM_SEQ_NEXT
  let epoch := s.rd R.SUM_SEQ_EPOCH
  let s := s.wr R.SUM_SEQ_NEXT ((seq + 1) % 2 ^ 32)
  let s := s.giveNumber seq epoch e
  if seq + 1 < 2 ^ 32 then s
  else
    let ep := (epoch + 1) % 2 ^ 32
    let s := ((s.wr R.SUM_SEQ_EPOCH ep).wr R.SUM_SEQ_NEXT 1).bump 0x24
    s.giveNumber 0 ep { name := .seqWrap, src := 0x1000, stamp := s.now, data := [.w ep, .d s.now] }

/-- The arbiter numbers one head (R31). -/
def State.arbitrate (s : State) : State :=
  match bestHead s.heads with
  | none => s
  | some h => (s.popHead h).takeNumber h.2

/-! ### Class 1 transport (R18, R19, R22) -/

/-- The first entry not yet sent is marked as sent; the entry's event. -/
def sendFirst : List QEnt → Option (Ev × List QEnt)
  | [] => none
  | q :: qs => if q.sent then (sendFirst qs).map fun r => (r.1, q :: r.2) else some (q.ev, { q with sent := true } :: qs)

/-- A Cairn sends its oldest unsent class 1 report to the Spur that serves it (R19), once its leaf is valid (03 R90) and the Spur can
take it (R30, R32). -/
def State.reportSend (s : State) (id : Nat) : State :=
  let c := s.cairn id
  let p := s.server (halfOf id)
  if !c.powered || !c.leafValid || !s.reachable id || !s.fifoRoom p id || !(s.wait p).isEmpty then s
  else match sendFirst c.queue with
    | none => s
    | some r => (s.setCairn id { c with queue := r.2 }).fifoPut p r.1

/-- The queue without its first numbered entry. -/
def dropNumbered : List QEnt → List QEnt
  | [] => []
  | q :: qs => if q.numbered then qs else q :: dropNumbered qs

/-- The Cairn queues EVT_DROP with the count of dropped events (R18); EVT_DROP itself is not counted (02 R56). -/
def State.sendDrop (s : State) (id : Nat) : State :=
  s.modC id fun c =>
    { (c.enqueue { name := .evtDrop, src := id, stamp := s.leafVal id, data := [.w c.dropped] }) with dropped := 0 }

/-- The Cairn queues the oldest fault report it held (R18; 11 R358). -/
def State.sendHeld (s : State) (id : Nat) : State :=
  s.modC id fun c =>
    match c.pendFlt with
    | [] => c
    | p :: ps =>
      { (c.enqueue { name := .fault, src := id, stamp := p.stamp, data := [], flt := some p.info }) with pendFlt := ps }

/-- Summit's acknowledgement frees an entry (R18). Where both an EVT_DROP and a held fault wait for it, which goes first is not stated
(log entry 3). -/
def State.ackEntry (s : State) (id : Nat) : State :=
  let c := s.cairn id
  if !c.powered || !s.reachable id || !(c.queue.any fun q => q.numbered) then s
  else
    let s := s.setCairn id { c with queue := dropNumbered c.queue }
    let s :=
      if c.dropped = 0 then s.sendHeld id
      else if c.pendFlt.isEmpty then s.sendDrop id
      else
        let x := s.takeFree
        if x.1 % 2 = 0 then x.2.sendHeld id else x.2.sendDrop id
    s.touch id

end Sys2Proof.Machine
end

