-- ==== Sys2Proof/Machine/Rows.lean ====
section
/-! DEFINITION. Machine/Rows.lean: what the meanings of the commands share: a hub without power does nothing, and a command names
parts that exist. -/

namespace Sys2Proof.Machine

open Host

/-- What a happening at the hub leaves alone: the commands that wait, and VDD_HUB. -/
def State.keeping (s t : State) : State := { t with pending := s.pending, rst := { t.rst with on := s.rst.on } }

/-- A happening at the hub: without VDD_HUB nothing of Nynil does anything (16 R492). -/
def onHub (s : State) (k : State → State) : Out := .next (if s.rst.on then s.keeping (k s) else s)

/-- A happening at a Cairn. -/
def atCairn (id : Nat) (s : State) (k : State → State) : Out := withCairn id (onHub s k)

/-- A happening at a powered Cairn; a dormant one does nothing (01 R17). -/
def atUnit (id : Nat) (s : State) (k : State → State) : Out := atCairn id s fun s => if s.dormant id then s else k s

/-- A happening at a Cairn of one of the kinds listed; no other has the part concerned. -/
def atKind (kinds : List Nat) (id : Nat) (s : State) (k : State → State) : Out :=
  if kinds.contains (kindOf id) then atUnit id s k else .fault .noSuchPart

/-- A happening at a Spur that is not lost. -/
def atSpur (p : Nat) (s : State) (k : State → State) : Out := withSpur p (onHub s fun s => if s.spur p = 2 then s else k s)

/-- A happening at several Cairns, each of which exists. -/
def atCairns (ids : List Nat) (s : State) (k : State → State) : Out :=
  if ids.all fun id => kindOf id != 0 then onHub s k else .fault .noSuchPart

/-- A happening at the units of a freeze domain (04 R107, R108). -/
def atDomain (reps : List EdgeRep) (s : State) (k : State → State) : Out :=
  atCairns (reps.map (·.cairn)) s fun s => if s.domainOk reps then k s else s

/-- A write of a master to a hub register that has a command of its own. -/
def writeRow (m : Master) (a : Nat) (v : Word) (s : State) : Out := onHub s fun s => s.masterWrite m a v.toNat

/-- Is a sequencer of R369 held by a hub soft reset (16 R498)? -/
def State.heldSeq (s : State) (q : Nat) : Bool := softHeld.contains q && s.rst.soft.any fun r => r.applied

/-- Is a REMAP event of an array of the core on its way to a number? -/
def State.remapFlies (s : State) (core : Nat) : Bool :=
  let mine := fun (e : Ev) => e.name == .remap && decide (e.src < 0x420) && coreOf e.src == core
  (s.sum.fifo0 ++ s.sum.fifo1 ++ s.sum.wait0 ++ s.sum.wait1).any mine
    || (List.range 132).any fun a => (s.cairn (arrayId core a)).queue.any fun q => mine q.ev && !q.numbered

/-- A core's fences that wait for a REMAP event which no longer reaches the arbiter take effect at once (11 R374, R375). -/
def State.remapSettle (s : State) : State :=
  let waits := (s.wch.fenceAfter.map fun f => coreOf f.1) ++ s.wch.waiting.map fun w => coreOf w.1
  waits.eraseDups.foldl (fun s core => if s.remapping core || s.remapFlies core then s else s.remapNumbered core) s

/-! ### Accesses that the port makes one after another (15 R468, R480) -/

/-- Has every access of the Pass master completed? -/
def State.passQuiet (s : State) : Bool := (s.apsOf .pass).isEmpty && !s.sum.held.any fun x => x.master == .pass

/-- The access of a PASS_ACC scan is complete: what the next capture shows (15 R480). -/
def State.accPump (s : State) : State :=
  if s.pass.accWait && s.passQuiet then
    let x := s.sum.passM.resp
    s.modPass fun p => { p with accWait := false, accDone := true, accData := x.data, accCode := x.code }
  else s

/-- One step of the oldest REG_REQ: its next access begins, or has completed, or its REG_RSP is sent (15 R468). -/
def State.regPumpN : Nat → State → State
  | 0, s => s
  | n + 1, s =>
    match s.pass.reqs with
    | [] => s
    | r :: rest =>
      match r.ops with
      | [] => State.regPumpN n ((s.frameOut 0x11 s.ownDev ((r.tag + 256 * r.done.length) :: r.done)).modPass fun p => { p with reqs := rest })
      | o :: os =>
        if r.waiting then
          if s.passQuiet then
            let x := s.sum.passM.resp
            let r := { r with waiting := false, ops := if r.stop && x.code != codeOk then [] else os, done := r.done ++ [x.data + 2 ^ 32 * x.code] }
            State.regPumpN n (s.modPass fun p => { p with reqs := r :: rest })
          else s
        else
          let s := s.modPass fun p => { p with reqs := { r with waiting := true } :: rest }
          State.regPumpN n (s.masterAccess .pass (o % 2 ^ 20) 4 (bit o 20) (o / 2 ^ 32 % 2 ^ 32))

/-- The port's accesses go on as far as they can. -/
def State.passPump (s : State) : State :=
  let s := s.accPump
  s.regPumpN (s.pass.reqs.foldl (fun n r => n + 2 * r.ops.length + 1) 0)

end Sys2Proof.Machine
end

