-- ==== Sys2Proof/Machine/CensusRows.lean ====
section
/-! DEFINITION. Machine/CensusRows.lean: the commands of Census and Echo (09). -/

namespace Sys2Proof.Machine

open Host

/-- CEN_SUBMIT (R299). -/
def execCenSubmit (m : Master) (val : Word) (s : State) : Out := writeRow m R.CEN_SUBMIT val s

/-- ECH_SUBMIT (R308). -/
def execEchSubmit (m : Master) (val : Word) (s : State) : Out := writeRow m R.ECH_SUBMIT val s

/-- CEN_ABORT (R318). -/
def execCenAbort (m : Master) (val : Word) (s : State) : Out := writeRow m R.CEN_ABORT val s

/-- ECH_ABORT (R315). -/
def execEchAbort (m : Master) (val : Word) (s : State) : Out := writeRow m R.ECH_ABORT val s

/-- CENSUS_JOB_DONE (R301): `secPages` lists the pages of its regions that the ownership tag marks secure (R303). -/
def execCensusJobDone (job : Nat) (secPages : List Nat) (s : State) : Out := onHub s fun s => s.censusDone job secPages

/-- Does the leaf of an Echo job's target read `leaf` (03 R98)? -/
def State.jobLeaf (s : State) (job leaf : Nat) : Bool :=
  match s.job job with
  | some j => s.leafShows (echoTarget j.desc) leaf
  | none => false

/-- ECHO_CAPTURE_ISSUE (R309). -/
def execEchoCaptureIssue (job leaf : Nat) (relaxed int32 : Bool) (s : State) : Out :=
  onHub s fun s => if s.jobLeaf job leaf then s.echoIssue job leaf relaxed int32 else s

/-- TOO_LONG (R309): a write to the target's operand staging, which the store takes or which is too long for it. -/
def execTooLong (w : StageWrite) (s : State) : Out := onHub s fun s => s.echoWrite w.job w.off w.bytes

/-- ECHO_CAPTURE_COMPLETE (R309): the writes to the operand staging that no TOO_LONG row has brought, then the operation's completion edge. -/
def execEchoCaptureComplete (job : Nat) (last : List (Nat × List Byte)) (leaf : Nat) (out : List Byte) (s : State) : Out :=
  onHub s fun s =>
    if s.jobLeaf job leaf then (last.foldl (fun s w => s.echoWrite job w.1 w.2) s).echoCaptured job leaf out else s

/-- ECHO_REPLAY_DONE (R310). -/
def execEchoReplayDone (job spare : Nat) (out : List Byte) (s : State) : Out := onHub s fun s => s.echoReplayed job spare out

/-- ECHO_COMPARE_DONE (R311). -/
def execEchoCompareDone (job : Nat) (s : State) : Out := onHub s fun s => s.echoCompared job

/-- ECHO_TIMEOUT (R315). -/
def execEchoTimeout (job : Nat) (s : State) : Out := onHub s fun s => s.echoTimeout job

/-- JOB_PARITY (R323, R318): every job in flight is aborted. -/
def execJobParity (s : State) : Out := onHub s fun s => (s.hubFault 9 0).abortJobs (fun _ => true) reasonJobParity

/-- STORE_UC (R306, R323): the Echo job of core `core` is aborted. -/
def execStoreUc (core : Nat) (s : State) : Out :=
  if core < 8 then
    onHub s fun s =>
      let s := s.hubMemFault 10 1 none
      match s.echoOf core with
      | some j => s.jobAbort j reasonStoreUc
      | none => s
  else .fault .noSuchPart

end Sys2Proof.Machine
end

