-- ==== Sys2Proof/Machine/ClockRows.lean ====
section
/-! DEFINITION. Machine/ClockRows.lean: the commands of the time base, of domains that come up and go down, and of scheduled actions
(03; 01 R17). -/

namespace Sys2Proof.Machine

open Host

/-- TSYNC_EPOCH (R80): a mark or runt and the frame after it; `high` edges sampled high after `low` sampled low, E at REFCLK edge
`edge`, the counter at E, the start bit's edge after E, and the frame's 90 bits. -/
def execTsyncEpoch (high low edge lE start frame : Nat) (s : State) : Out :=
  onHub s fun s => if s.rdg.running ∧ lE ≤ s.now then s.tsync high low edge lE start frame else s

/-- Have three expected epoch instants passed with no accepted epoch since the last (R80)? -/
def State.tsyncLate (s : State) : Bool :=
  s.rdg.lastE.isSome && !s.rdg.tsyncLost && decide (s.rdg.lastRaw + 75 * s.rdg.interval ≤ s.rdg.raw)

/-- TSYNC_LOST (R80). -/
def execTsyncLost (s : State) : Out := onHub s fun s => if s.tsyncLate then s.tsyncLoss else s

/-- SLEW_POINT (R84). -/
def execSlewPoint (s : State) : Out := onHub s fun s => if s.slewDue then s.slewPoint else s

/-- RELOAD (R85). -/
def execReload (m : Master) (val : Word) (s : State) : Out := writeRow m R.RDG_CTRL val s

/-- CAL_SWEEP (R91). -/
def execCalSweep (m : Master) (val : Word) (s : State) : Out := writeRow m R.RDG_CTRL val s

/-- CAL_SLOT (R91, R92): the round trip measured, if it could be, and the crossing latency, in tk. -/
def execCalSlot (spur : Nat) (trip : Option Nat) (xing : Nat) (s : State) : Out :=
  atSpur spur s fun s => if s.slotDue spur then s.calSlot spur trip xing else s

/-- LEAF_LOAD (R90, R91): the value taken at a tree-clock edge, and the round trip of the calibration that follows. -/
def execLeafLoad (load : LeafRep) (s : State) : Out := atUnit load.cairn s fun s => s.leafLoad load.cairn load.val load.trip

/-- DOMAIN_POWER_UP (01 R17). -/
def execDomainPowerUp (cairns : List Nat) (s : State) : Out := atCairns cairns s fun s => s.domainUp cairns

/-- DOMAIN_POWER_DOWN (01 R17). -/
def execDomainPowerDown (cairns : List Nat) (s : State) : Out := atCairns cairns s fun s => (s.domainDown cairns).remapSettle

/-- SCHEDULED_ACTION_EFFECT (R93, R96): the leaf reads `leaf` on the first tick at which it reaches an action's T. -/
def execScheduledActionEffect (cairn leaf : Nat) (s : State) : Out :=
  atUnit cairn s fun s => if s.leafOk cairn leaf ∧ (s.cairn cairn).leafValid then s.actsReach cairn leaf else s

/-- REFCLK_GLITCH (R101): while REFCLK is in use. -/
def execRefclkGlitch (s : State) : Out := onHub s fun s => if s.rdg.running then s.refclkGlitch else s

/-- REFCLK_LOST (R102). -/
def execRefclkLost (s : State) : Out :=
  onHub s fun s => if s.rdg.running ∧ s.f F.RDG_STAT_HOLDOVER = 0 then s.refclkLost else s

/-- PLL_RELOCK (R103): in holdover, after 250,000 tk of good REFCLK. -/
def execPllRelock (s : State) : Out :=
  onHub s fun s => if s.f F.RDG_STAT_HOLDOVER = 1 ∧ s.rdg.refBad + 250000 ≤ s.clk then s.pllRelock else s

end Sys2Proof.Machine
end

