-- ==== Sys2Proof/Machine/CrestRows.lean ====
section
/-! DEFINITION. Machine/CrestRows.lean: the commands of Crest's comparators, channels and sequencer (06). -/

namespace Sys2Proof.Machine

open Host

/-- OBSERVATION_POINT_EDGE (R183): an edge of the unit's clock at leaf value `leaf`; `upd` tells whether the unit updates, `accs` what its
observation points present, `evs` the event codes that occur. -/
def execObservationPointEdge (cairn leaf : Nat) (upd : Bool) (accs : List ObsAcc) (evs : List Nat) (s : State) : Out :=
  atUnit cairn s fun s =>
    if !s.leafShows cairn leaf then s
    else s.modC cairn fun c => c.edge cairn s.clk upd accs evs

/-- CAIRN_RAISE (R184): output `out` of the Cairn sends its raise. -/
def execCairnRaise (cairn out : Nat) (s : State) : Out :=
  if out < 2 then atUnit cairn s fun s => s.outRaise cairn out else .fault .noSuchPart

/-- CHANNEL_RAISE (R188): a copy of raise number `raise` arrives at Summit. -/
def execChannelRaise (raise : Nat) (s : State) : Out := onHub s fun s => s.chArrive raise

/-- SEQUENCER_EVAL (R189). -/
def execSequencerEval (s : State) : Out := onHub s State.seqEval

/-- XTRIG (R188). -/
def execXtrig (m : Master) (val : Word) (s : State) : Out := writeRow m R.CRS_XTRIG val s

/-- RUN (R193). -/
def execRun (m : Master) (val : Word) (s : State) : Out := writeRow m R.CRS_CTRL val s

/-- SA_CANCEL (R195). -/
def execSaCancel (m : Master) (val : Word) (s : State) : Out := writeRow m R.CRS_CTRL val s

/-- STOP_AFTER_FIRE (R195). -/
def execStopAfterFire (s : State) : Out := onHub s State.saFire

/-- PIN_PULSE_EDGE (R196): HEARTBEAT is inverted, and at a pulse's beginning the lanes take its MARK (15 R469). -/
def execPinPulseEdge (s : State) : Out :=
  onHub s fun s => match s.pulseEdge with | (s, some t) => s.markSend t | (s, none) => s

/-- CFG_PARITY (R200). -/
def execCfgParity (s : State) : Out := onHub s State.cfgParity

end Sys2Proof.Machine
end

