-- ==== Sys2Proof/Machine/CutRows.lean ====
section
/-! DEFINITION. Machine/CutRows.lean: the commands of consistent cuts, steps and the state view (04, 05). -/

namespace Sys2Proof.Machine

open Host

/-! ### Cut requests (04) -/

/-- CUT_CMD_STOP (R118). -/
def execCutCmdStop (m : Master) (val : Word) (s : State) : Out := writeRow m R.SUM_CUT_CMD val s

/-- CUT_CMD_GLANCE (R118). -/
def execCutCmdGlance (m : Master) (val : Word) (s : State) : Out := writeRow m R.SUM_CUT_CMD val s

/-- CUT_CMD_RESUME (R123). -/
def execCutCmdResume (m : Master) (val : Word) (s : State) : Out := writeRow m R.SUM_CUT_CMD val s

/-- CUT_CMD_ABANDON (R136). -/
def execCutCmdAbandon (m : Master) (val : Word) (s : State) : Out := writeRow m R.SUM_CUT_CMD val s

/-- CUT_CMD_XDEV (R138). -/
def execCutCmdXdev (m : Master) (val : Word) (s : State) : Out := writeRow m R.SUM_CUT_CMD val s

/-! ### Messages and edges of a cut (04) -/

/-- Does a class 0 message other than a step's go to this unit: a trace start or stop goes to the general cores it selects (10 R327)? -/
def State.msgFor (s : State) (id : Nat) (m : Msg) : Bool :=
  match m.kind with
  | .stepRelease | .stepClose => false
  | .traceStart | .traceStop =>
    kindOf id == 2 && s.scr.acts.any fun a =>
      a.t == m.t && a.mask == m.arg && a.start == (m.kind == .traceStart) && flowBit a.flow (id - 0x420)
  | _ => true

/-- A message that Summit has sent and this leaf has not yet had (01 R12). -/
def State.newMsg (s : State) (id n leaf : Nat) : Option Msg :=
  if (s.cairn id).leafValid ∧ s.leafOk id leaf ∧ !(s.cairn id).rxMsgs.contains n then smGet none s.sum.msgs n else none

/-- CUT_MESSAGE (R119): message number `msg` reaches the Cairn while its leaf reads `leaf`. -/
def execCutMessage (cairn msg leaf : Nat) (s : State) : Out :=
  atUnit cairn s fun s =>
    match s.newMsg cairn msg leaf with
    | some m => if s.msgFor cairn m then s.deliver cairn msg leaf m else s
    | none => s

/-- CUT_EDGE (R108). -/
def execCutEdge (reps : List EdgeRep) (s : State) : Out := atDomain reps s fun s => s.cutEdge reps

/-- SPUR_CUT_AGGREGATE (R121). -/
def execSpurCutAggregate (spur : Nat) (s : State) : Out := atSpur spur s fun s => s.cutAggregate spur

/-- CUT_REPORT_TIMEOUT (R121). -/
def execCutReportTimeout (cairn : Nat) (s : State) : Out := atUnit cairn s fun s => s.cutTimeout cairn

/-- RESUME_EDGE (R123). -/
def execResumeEdge (reps : List EdgeRep) (s : State) : Out := atDomain reps s fun s => s.resumeEdge reps

/-- RELEASE_AGGREGATE (R123). -/
def execReleaseAggregate (spur : Nat) (s : State) : Out := atSpur spur s fun s => s.releaseIn spur

/-- SHADOW_DRAIN (R126). -/
def execShadowDrain (cairn : Nat) (s : State) : Out := atUnit cairn s fun s => s.shadowDrain cairn

/-! ### Write-divert (04) -/

/-- The page of the divert set that a write of unit `id` to page `page` meets: of stack memory, under the BMU whose channel holds the
page's first byte (08 R255). -/
def State.writePage (s : State) (id page : Nat) : PageId :=
  if kindOf id = 3 then ⟨0x520 + s.chanOf (page * 4096), page⟩ else ⟨id, page⟩

/-- Would a write to stack memory be discarded (08 R243; 10 R342)? -/
def State.intrudes (s : State) (id addr : Nat) (bytes : List Byte) : Bool :=
  kindOf id == 3 && ((List.range bytes.length).map (addr + ·)).any fun a => s.inCc a || s.inRing a

/-- A write of unit `id` of the accelerator to a page of an SRAM slice or of stack memory: discarded in the crash cache and the ring, held
while the page is uncaptured, else done at once (R130; 08 R243, R255; 10 R342). A BMU has only writes to its own channel. -/
def State.unitWrite (s : State) (id page addr : Nat) (bytes : List Byte) : State :=
  let h : HeldWr := ⟨s.writePage id page, addr, bytes⟩
  if addr / 4096 ≠ page ∨ (s.cairn id).frozen ∨ s.heldUnit h ≠ id then s
  else if s.intrudes id addr bytes then s.heldApply h
  else if s.cut.pages.contains h.pg then s.divertWrite h.pg addr bytes
  else s.heldApply h

/-- DIVERTED_WRITE (R130): `page` is the slice's page, or the device's page in stack memory. -/
def execDivertedWrite (cairn page addr : Nat) (bytes : List Byte) (s : State) : Out :=
  atKind [3, 5] cairn s fun s => s.unitWrite cairn page addr bytes

/-- Has every ordinal of a page been written by its BMU? -/
def State.pageCopied (s : State) (pg : PageId) : Bool :=
  match s.cou.cur with
  | some n => (pageOrds (s.slot n).plist pg).all fun o => s.cou.written.contains o
  | none => false

/-- PAGE_COPY_DONE (R130). -/
def execPageCopyDone (cairn page : Nat) (s : State) : Out :=
  atKind [3, 5] cairn s fun s =>
    if s.cut.pages.contains ⟨cairn, page⟩ && s.pageCopied ⟨cairn, page⟩ then s.copyDone ⟨cairn, page⟩ else s

/-! ### Across devices (04) -/

/-- XCUT_RECEIVE (R139): the lead hub asks for a STOP (0), a GLANCE (1) or a resume (2) at `t`. At the lead hub itself it is a request that
another hub has forwarded (R138; log entry 60). -/
def execXcutReceive (kind t : Nat) (s : State) : Out :=
  onHub s fun s => if 2 < kind then s else if s.isLead then (s.xcutReq kind 0x1009).1 else (s.xcutReceive kind t).1

/-- XCUT_ANSWER (R139): `code` 0 accepts. -/
def execXcutAnswer (hub code : Nat) (s : State) : Out :=
  onHub s fun s => if s.cut.xWait.contains hub then s.xcutAnswer hub code else s

/-! ### Steps (05) -/

/-- STEP_GO (R153). -/
def execStepGo (m : Master) (val : Word) (s : State) : Out := writeRow m R.SUM_STEP_CMD val s

/-- STEP_MESSAGE (R155): the step message, with which the Cairn latches its part, or the close message. -/
def execStepMessage (cairn msg leaf : Nat) (s : State) : Out :=
  atUnit cairn s fun s =>
    match s.newMsg cairn msg leaf with
    | none => s
    | some m =>
      if !s.stp.active ∨ m.arg ≠ s.stepNo then s
      else if m.kind = .stepRelease then (s.deliver cairn msg leaf m).stepLatch cairn
      else if m.kind = .stepClose then s.deliver cairn msg leaf m
      else s

/-- STEP_RELEASE_EDGE (R156). -/
def execStepReleaseEdge (reps : List EdgeRep) (s : State) : Out := atDomain reps s fun s => s.stepRelease reps

/-- STEP_REPORT_TIMEOUT (R156). -/
def execStepReportTimeout (cairn : Nat) (s : State) : Out := atUnit cairn s fun s => s.stepTimeout cairn

/-- Do these units complete a step unit together: one unit, or every stepped member of an engine (R151, R157)? -/
def State.completeTogether (s : State) (ids : List Nat) (net : Nat) : Bool :=
  !ids.isEmpty && ids.all fun id => s.canComplete id net &&
    (match s.stepUnit id with
     | some u => if u.eng then (s.engineUnits (coreOf id)).all (fun v => ids.contains v.cairn) && ids.all (fun i => coreOf i == coreOf id)
        else ids.length == 1
     | none => false)

/-- The lowest Cairn ID of a list: a domain's reference leaf among them (04 R107). -/
def leastId (ids : List Nat) : Nat := ids.foldl min 0xFFF

/-- STEP_UNIT_COMPLETE (R157): the units complete a step unit, for a router a grant on network `net`, while their reference leaf reads
`leaf`. -/
def execStepUnitComplete (cairns : List Nat) (net leaf : Nat) (s : State) : Out :=
  atCairns cairns s fun s =>
    if s.completeTogether cairns net ∧ s.leafOk (leastId cairns) leaf then cairns.foldl (fun s id => s.unitComplete id leaf) s else s

/-- STEP_AGGREGATE (R158). -/
def execStepAggregate (spur : Nat) (s : State) : Out := atSpur spur s fun s => s.stepAggregate spur

/-- STEP_CLOSE_ISSUE (R158). -/
def execStepCloseIssue (s : State) : Out :=
  onHub s fun s => if s.stp.active ∧ s.stp.closeWait ∧ !s.schedFull then s.closeIssue else s

/-- STEP_FREEZE_EDGE (R158). -/
def execStepFreezeEdge (reps : List EdgeRep) (s : State) : Out := atDomain reps s fun s => s.stepFreeze reps

/-- STEP_DEADLINE (R158). -/
def execStepDeadline (s : State) : Out := onHub s State.stepDeadline

/-- FREEZE_AGGREGATE (R160). -/
def execFreezeAggregate (spur : Nat) (s : State) : Out := atSpur spur s fun s => s.freezeAggregate spur

/-! ### The state view (05) -/

/-- VIEW_READ (R167): a read of the view through an aperture of the Cairn window, and its answer. -/
def execViewRead (m : Master) (addr : Nat) (s : State) : Out := onHub s fun s => s.accessAns m addr false 0

/-- VIEW_DEPOSIT (R168). -/
def execViewDeposit (m : Master) (addr : Nat) (val : Word) (s : State) : Out := onHub s fun s => s.accessAns m addr true val.toNat

end Sys2Proof.Machine
end

