-- ==== Sys2Proof/Machine/DumpRows.lean ====
section
/-! DEFINITION. Machine/DumpRows.lean: the commands of Couloir: the crash cache, dumps, chunks, drains and releases (08). -/

namespace Sys2Proof.Machine

open Host

/-- COU_ENABLE (R242). -/
def execCouEnable (m : Master) (val : Word) (s : State) : Out := writeRow m R.COU_CTRL val s

/-- COU_INIT_DONE (R242). -/
def execCouInitDone (s : State) : Out := onHub s State.initDone

/-- CC_INTRUDE (R243): the write is discarded. -/
def execCcIntrude (addr : Nat) (s : State) : Out :=
  onHub s fun s => if decide (addr < memTop) && s.inCc addr then s.hubFault 8 3 0 0 0 else s

/-- DUMP_GO (R249). -/
def execDumpGo (m : Master) (val : Word) (s : State) : Out := writeRow m R.COU_CMD val s

/-- SHADOW_LOAD (R252): the scheduled load of a CURRENT dump in a freeze domain. -/
def execShadowLoad (reps : List EdgeRep) (s : State) : Out := atDomain reps s fun s => s.loadEdge reps

/-- The spaces of a kind's shadow image, in the order it places them (R244, R245). -/
def imageSpaces (kind : Nat) : List Nat :=
  match kind with
  | 1 => [0, 2, 3] | 2 => [0, 1, 2] | 3 => [0] | 4 => [0, 1, 2] | 5 => [1] | 6 => [0, 1] | 7 => [0, 1] | _ => []

/-- Size of a space in a shadow image: CTLBUF takes its place at mesh 1 sites too (R244). -/
def imageSize (id sp : Nat) : Nat := if kindOf id = 4 ∧ sp = 2 then 2048 else spaceSize id sp

/-- The space and byte that byte `o` of a shadow image comes from; none in the internal part. -/
def imageAt (id : Nat) : List Nat → Nat → Option (Nat × Nat)
  | [], _ => none
  | sp :: rest, o =>
    let n := 64 * ceilDiv (imageSize id sp) 64
    if o < n then some (sp, o) else imageAt id rest (o - n)

/-- The LATENT source and address of the uncorrectable word at byte `o` of page `ord` of a slot (11 R355, R378): Cairn, source bit,
byte address. None where the memory has no such source. -/
def State.pageWord (s : State) (x : Slot) (ord o : Nat) : Option (Nat × Nat × Nat) :=
  let q := s.pageOf x ord
  match q.2.1 with
  | 0 => (imageAt q.1 (imageSpaces (kindOf q.1)) (4096 * q.2.2 + o)).bind fun w => (latentBit (kindOf q.1) w.1).map fun b => (q.1, b, w.2)
  | 1 => some (q.1, 10, 4096 * q.2.2 + o)
  | _ => let a := q.2.2 * 4096 + o; some (0x520 + s.chanOf a, 10, s.localOf a)

/-- A page's bytes with the 64-byte words at the offsets of `uc` as 0 (R257). -/
def zeroWords (raw : List Byte) (uc : List Nat) : List Byte :=
  raw.mapIdx fun i b => if uc.any fun w => w / 64 == i / 64 then 0 else b

/-- Byte `o` of a unit's shadow image, from what its Cairn held at the load (R244, R245): its spaces, CTLBUF as zeros at mesh 1 sites, and behind
them the unit's internal state. -/
def Cairn.imageByte (c : Cairn) (id o : Nat) : Byte :=
  match imageAt id (imageSpaces (kindOf id)) o with
  | some w => if w.2 < spaceSize id w.1 then c.unitByte (viewKey w.1 w.2) else 0
  | none => if c.seed = 0 then 0 else Config.internalByte c.seed o

/-- The raw bytes of the page of an ordinal (R245, R252, R255): of a shadow as it was loaded, of a slice as it stood at the cut, or of stack
memory, whose uncaptured pages take no write. -/
def State.pageRaw (s : State) (x : Slot) (ord : Nat) : List Byte :=
  let q := s.pageOf x ord
  match q.2.1 with
  | 0 => (List.range (stateLen (kindOf q.1) q.2.2)).map fun i => (s.shot q.1).imageByte q.1 (4096 * q.2.2 + i)
  | 1 => (List.range 4096).map fun i => (s.shot q.1).unitByte (viewKey 0 (4096 * q.2.2 + i))
  | _ => s.stackPage q.2.2

/-- Offsets of the 64-byte words of a page that are known to hold an uncorrectable word (R257). -/
def State.pageUc (s : State) (x : Slot) (ord : Nat) : List Nat :=
  let q := s.pageOf x ord
  let bad := fun (k : Nat) => (s.shot q.1).ucWords.any fun w => w / 64 == k / 64
  ((List.range 64).map (64 * ·)).filter fun o =>
    match q.2.1 with
    | 0 => match imageAt q.1 (imageSpaces (kindOf q.1)) (4096 * q.2.2 + o) with | some w => bad (viewKey w.1 w.2) | none => false
    | 1 => bad (viewKey 0 (4096 * q.2.2 + o))
    | _ => s.stackUc (q.2.2 * 4096 + o)

/-- Does element `i` lie wholly or partly in a word that `uc` names (09 R303)? -/
def outOf (uc : List Nat) (f : Fmt) (i : Nat) : Nat :=
  let lo := i * f.bits / 8
  let hi := (i * f.bits + f.bits - 1) / 8
  if uc.any fun w => w / 64 == lo / 64 || w / 64 == hi / 64 then 1 else 0

/-- A page's reader meets a corrected word at byte `o` (11 R354, R378): its memory counts it. The word is not lost. -/
def State.pageCe (s : State) (x : Slot) (ord o : Nat) : State :=
  match s.pageWord x ord o with
  | none => s
  | some w => match ceBit (kindOf w.1) w.2.1 with | some b => s.latentFault w.1 b w.2.2 | none => s

/-- A BMU writes the page of ordinal `ord`, if it is that page's turn in its half (R253 to R258): `uc` gives the offsets of uncorrectable words
it meets beside those known, `ce` those of corrected words. None is issued while a hub soft reset is pending (16 R497). -/
def State.bmuWrite (s : State) (half ord : Nat) (uc ce : List Nat) : State :=
  let s := s.couSync
  match s.cou.cur with
  | none => s
  | some n =>
    if s.softPending ∨ !s.pageReady n ord ∨ !s.pageTurn n ord ∨ halfOf (s.pageOf (s.slot n) ord).1 ≠ half then s
    else
      let x := s.slot n
      let q := s.pageOf x ord
      let all := s.pageRaw x ord
      let uc := ((uc.map (· / 64 * 64)) ++ s.pageUc x ord).eraseDups.filter fun o => decide (o < all.length)
      let raw := zeroWords all uc
      if s.secure q.1 q.2.1 q.2.2 ∧ !bit x.rights rtDumpSecure then s.pageStore n ord raw [] false
      else
        let fmt := if q.2.1 = 2 then (x.plist.getD (ord - 118400) (0, 0)).2 else 0
        let cen := if pfCensus x.profW ∧ fmt ≠ 0 then pageRecord fmt raw (outOf uc) else []
        if q.2.1 ≠ 0 ∧ !s.pageRoom ((s.pageData x ord raw cen).2.2.length / 64) then s.noBlock
        else
          let s := if cen.isEmpty then s
            else (s.bump R.CEN_PAGE_RECS).addBytes (if (fmtOf fmt).isSome ∧ fmt ≠ 0x0B then raw.length else 0)
          let s := uc.foldl (fun s o => match s.pageWord x ord o with | some w => s.latentFault w.1 w.2.1 w.2.2 | none => s) s
          let s := (ce.filter fun o => decide (o < all.length) && !uc.contains (o / 64 * 64)).foldl (fun s o => s.pageCe x ord o) s
          s.pageStore n ord raw cen (!uc.isEmpty)

/-- BMU_PAGE_WRITE (R254). -/
def execBmuPageWrite (half ord : Nat) (uc ce : List Nat) (s : State) : Out := onHub s fun s => s.bmuWrite half ord uc ce

/-- CHUNK_TIMER (R261). -/
def execChunkTimer (s : State) : Out := onHub s State.chunkTimer

/-- CHUNK_COMMIT_STEP_ACK (R262). While a hub soft reset is pending only a chunk whose header write is in flight commits (16 R497). -/
def execChunkCommitStepAck (s : State) : Out :=
  onHub s fun s =>
    if s.softPending && !((s.cou.closing.head?.map fun c => c.step) == some 3) then s else s.commitStep

/-- Is `blk` an I/O ring block whose link the dump still waits for (R264)? -/
def State.linkDue (s : State) (blk : Nat) : Bool := s.cou.linkWait.contains blk

/-- A happening in Couloir that concerns an I/O ring block. -/
def atRing (blk : Nat) (s : State) (k : State → State) : Out := if kindOf blk = 6 then onHub s k else .fault .noSuchPart

/-- LINK_RECORD (R264). -/
def execLinkRecord (blk dev peer rx : Nat) (s : State) : Out :=
  atRing blk s fun s => if s.linkDue blk then s.linkRecord blk (dev % 2 ^ 12) (peer % 2 ^ 16) (rx % 2 ^ 32) else s

/-- LINK_TIMEOUT (R264): nothing within COU_LINK_TMO. -/
def execLinkTimeout (blk : Nat) (s : State) : Out :=
  atRing blk s fun s =>
    if s.linkDue blk && decide (s.cou.linkT + 256 * max (s.f F.COU_LINK_TMO_TMO) 1 ≤ s.clk) then s.linkTimeout blk else s

/-- DRAIN_START (R273). -/
def execDrainStart (m : Master) (val : Word) (s : State) : Out := writeRow m R.COU_DRAIN_CTRL val s

/-- DRAIN_STOP (R274). -/
def execDrainStop (m : Master) (val : Word) (s : State) : Out := writeRow m R.COU_DRAIN_CTRL val s

/-- DRAIN_ACK (R274). -/
def execDrainAck (m : Master) (val : Word) (s : State) : Out := writeRow m R.COU_DRAIN_ACK val s

/-- DUMP_DRAIN_SEND (R273). -/
def execDumpDrainSend (uc : List Nat) (s : State) : Out := onHub s fun s => s.dumpSend uc

/-- COU_RELEASE (R277). -/
def execCouRelease (m : Master) (val : Word) (s : State) : Out := writeRow m R.COU_RELEASE val s

/-- SLOT_FREE (R277). -/
def execSlotFree (slot : Nat) (s : State) : Out := if slot < 4 then onHub s fun s => s.slotFree slot else .fault .noSuchPart

/-- AUTO_ARM (R251). -/
def execAutoArm (m : Master) (val : Word) (s : State) : Out := writeRow m R.COU_CTRL val s

/-- ABORT (R282). -/
def execAbort (m : Master) (val : Word) (s : State) : Out := writeRow m R.COU_CTRL val s

end Sys2Proof.Machine
end

