-- ==== Sys2Proof/Machine/FaultRows.lean ====
section
/-! DEFINITION. Machine/FaultRows.lean: the commands of faults, fences and degraded operation (11). -/

namespace Sys2Proof.Machine

open Host

/-! ### Detections (R354 to R358) -/

/-- Sources of a Cairn that have a command of their own: the calibration slot, the missing cut report and Echo's verdict. -/
def ownCairnFlt (kind b : Nat) : Bool := b == 0 || b == 1 || (kind == 1 && b == 11)

/-- Sources of a hub page that no other command detects (R356; 07 R233; 08 R284; 09 R323; 10 R349; 13 R427; 14 R456). -/
def plainHubFlt (page b : Nat) : Bool :=
  [(0x00, 2), (0x12, 1), (0x12, 2), (0x13, 1), (0x13, 2), (0x0C, 3), (0x0C, 4), (0x03, 0), (0x03, 1), (0x04, 0), (0x04, 1), (0x05, 0),
    (0x05, 1), (0x06, 0), (0x06, 1), (0x08, 0), (0x08, 1), (0x08, 2), (0x0A, 0), (0x0B, 0), (0x0E, 0), (0x0E, 1), (0x0F, 0),
    (0x10, 1)].contains (page, b)

/-- Is a Cairn's source one of a memory, whose record names the word (R378)? -/
def memFlt (kind b : Nat) : Bool :=
  match kind with
  | 1 => b == 8 || b == 9 || b == 10 || b == 12 || b == 13
  | 2 => b == 8 || b == 9 || b == 10 || b == 12
  | 3 | 4 | 5 => decide (8 ≤ b) && decide (b ≤ 12)
  | 6 => b == 10 || b == 11
  | _ => false

/-- The LATENT source of the memory whose uncorrectable word this source reports (R354, R355). -/
def ucLatent (kind b : Nat) : Option Nat :=
  match kind, b with
  | 1, 9 => some 12 | 1, 10 => some 13 | 1, 12 => some 12 | 1, 13 => some 13
  | 2, 9 => some 10 | 2, 10 => some 10 | 2, 11 => some 12 | 2, 12 => some 12
  | 3, 9 => some 10 | 3, 10 => some 10 | 3, 11 => some 12 | 3, 12 => some 12
  | 4, 9 => some 11 | 4, 11 => some 11 | 4, 10 => some 12 | 4, 12 => some 12
  | 5, 9 => some 10 | 5, 10 => some 10 | 5, 11 => some 12 | 5, 12 => some 12
  | 6, 10 => some 11 | 6, 11 => some 11
  | _, _ => none

/-- The words of the 64-byte word at `a` of a space are uncorrectable from here on (R355). -/
def Cairn.markUc (c : Cairn) (sp a : Nat) : Cairn :=
  { c with ucWords := c.ucWords ++ ((List.range 16).map fun i => viewKey sp (a / 64 * 64 + 4 * i)).filter fun w => !c.ucWords.contains w }

/-- A Cairn's unit detects a fault: bits 16:0 of `detail2` go to the record, bits 27:24 name the space of the word. -/
def State.detectAt (s : State) (id b tenant ctx detail detail2 : Nat) : State :=
  let k := kindOf id
  let mem := memFlt k b
  let sp := bits detail2 24 4
  let s := if ucLatent k b != none && latentBit k sp == ucLatent k b then s.modC id fun c => c.markUc sp detail else s
  s.cairnFault id { fltBit b with
    tenant := tenant % 2 ^ 16, ctx := ctx % 2 ^ 20,
    detail := if mem then detail / 64 * 64 else 0, detail2 := if mem then detail2 % 2 ^ 17 else 0 }

/-- An uncorrectable word of a Spur's staging buffer (R356): the shadow capture of its unit is INCOMPLETE (08 R259). -/
def State.stageUc (s : State) (p ord : Nat) : State :=
  if !(s.staged p).contains ord then s
  else
    let s := s.setStaged p ((s.staged p).filter (· ≠ ord))
    let s := { s with cou := { s.cou with stateLost := s.cou.stateLost ++ [ord] } }
    let q := ordPage ord
    let s := s.addEntry (bareEntry ord q.1 0 7 q.2.2) none
    let s := match s.cou.cur with
      | some n => s.setSlot n { s.slot n with flags := setBit (s.slot n).flags 3 }
      | none => s
    s.captureTail

/-- A record of the CE ring (index below 4,096) or of FLT_HIST (4,096 on) reads DAMAGED (R356, R378). -/
def State.ringDamage (s : State) (k : Nat) : State :=
  let hurt := fun (r : Option FltRec) => r.map fun r => { r with info := { r.info with rflags := setBit r.info.rflags 4 } }
  if k < 4096 then { s with flt := { s.flt with ring := smSet none s.flt.ring k (hurt (smGet none s.flt.ring k)) } }
  else { s with flt := { s.flt with hist := smSet none s.flt.hist (k - 4096) (hurt (smGet none s.flt.hist (k - 4096))) } }

/-- Is a metadata byte the first of a header copy or of a copy of the reference record (08 R241)? -/
def copyAt (o : Nat) : Bool := o == 0 || o == 0x40 || [0, 1, 2, 3].any fun n => o == hdrOff n 0 || o == hdrOff n 1

/-- What a detection does beside its report; `detail` of CC_UC is the metadata byte of the copy it meets, if any.
A corrected program-memory word met by a master's read (`detail2` 1) counts in CE_CNT. -/
def State.detectEffect (s : State) (page b detail detail2 : Nat) : State :=
  match page, b with
  | 0x12, 2 => s.stageUc 0 detail
  | 0x13, 2 => s.stageUc 1 detail
  | 0x0C, 4 => s.ringDamage detail
  | 0x08, 1 => if copyAt detail && s.ccOn then s.copyUc detail else s
  | 0x08, 2 => if detail < 4 ∧ (s.slot detail).st ≠ 0 then s.slotBad detail else s
  | 0x10, 1 => s.verifyParity
  | 0x03, 0 | 0x04, 0 | 0x05, 0 | 0x06, 0 => if detail2 = 1 then s.satAdd (F.PRB_PM_STAT_CE_CNT (page - 3)) 1 else s
  | 0x03, 1 | 0x04, 1 | 0x05, 1 | 0x06, 1 =>
    let a := detail % 65536
    let s := if s.pmBad a then s else { s with prb := { s.prb with pmUc := s.prb.pmUc ++ [a] } }
    s.engStopRun (page - 3) stopPmUc
  | _, _ => s

/-- Is a hub page's source one of a memory (R356, R378; 07 R233; 08 R284; 09 R323; 10 R349; 13 R427; 14 R456)? -/
def hubMem (page b : Nat) : Bool :=
  [(0x12, 1), (0x12, 2), (0x13, 1), (0x13, 2), (0x0C, 3), (0x0C, 4), (0x03, 0), (0x03, 1), (0x04, 0), (0x04, 1), (0x05, 0), (0x05, 1),
    (0x06, 0), (0x06, 1), (0x08, 0), (0x08, 1), (0x0A, 0), (0x0B, 0), (0x0E, 0), (0x0E, 1)].contains (page, b)

/-- The byte of the memory that FAULT_DETECT's `detail` names, where it names one: a program-memory word, a record of the CE ring. -/
def hubWord (page detail : Nat) : Option Nat :=
  match page with
  | 0x03 | 0x04 | 0x05 | 0x06 => some (4 * (detail % 65536))
  | 0x0C => some (64 * detail)
  | 0x08 => some detail
  | _ => none

/-- A hub page's source detects a fault. -/
def State.detectHub (s : State) (page b detail detail2 : Nat) : State :=
  if !plainHubFlt page b then s
  else
    let s := if hubMem page b then s.hubMemFault page b (hubWord page detail) (bits detail2 16 1) else s.hubFault page b
    s.detectEffect page b detail detail2

/-- FAULT_DETECT (R357): a source of a Cairn page (`page` its Cairn ID) or of a hub page. A source that another command detects is
left to it. -/
def execFaultDetect (onCairn : Bool) (page bit tenant ctx detail detail2 : Nat) (s : State) : Out :=
  if onCairn then
    atUnit page s fun s => if ownCairnFlt (kindOf page) bit then s else s.detectAt page bit tenant ctx detail detail2
  else if pageThere page then onHub s fun s => s.detectHub page bit detail detail2
  else .fault .noSuchPart

/-- The end of a CE source's coalescing interval (R358). -/
def State.ceTimer (s : State) (id b : Nat) : State :=
  let c := s.cairn id
  match c.ceCoal.find? (fun q => q.bit == b) with
  | none => s
  | some q =>
    if s.clk < q.start + ceInterval then s
    else if q.count = 0 then s.setCairn id { c with ceCoal := c.ceCoal.filter fun r => r.bit != b }
    else
      let c := c.report id (s.leafVal id) { q.info with count := q.count }
      (s.setCairn id { c with ceCoal := c.ceCoal.map fun r => if r.bit = b then { r with start := s.clk, count := 0 } else r }).touch id

/-- CE_COALESCE_TIMER (R358). -/
def execCeCoalesceTimer (cairn bit : Nat) (s : State) : Out := atUnit cairn s fun s => s.ceTimer cairn bit

/-! ### Writes (R55, R360, R362, R364) -/

/-- A write of a master to a register of the common header: of a hub page, or of a Cairn through an aperture, with its answer. -/
def State.headerWrite (s : State) (m : Master) (addr v : Nat) : State :=
  if apAddr (addr % 2 ^ 20) then s.accessAns m addr true v else s.masterWrite m addr v

/-- FLT_FORCE (R360). -/
def execFltForce (m : Master) (addr : Nat) (val : Word) (s : State) : Out := onHub s fun s => s.headerWrite m addr val.toNat

/-- FLT_PAGE_ACK (02 R55). -/
def execFltPageAck (m : Master) (addr : Nat) (val : Word) (s : State) : Out := onHub s fun s => s.headerWrite m addr val.toNat

/-- FLT_ACK_UC (R364). -/
def execFltAckUc (m : Master) (val : Word) (s : State) : Out := writeRow m R.FLT_ACK val s

/-- FLT_ACK_CE (R364). -/
def execFltAckCe (m : Master) (val : Word) (s : State) : Out := writeRow m R.FLT_ACK val s

/-- CE_RD (R362). -/
def execCeRd (m : Master) (val : Word) (s : State) : Out := writeRow m R.FLT_CE_RD val s

/-! ### The signature monitor and HEARTBEAT (R369; 16 R498) -/

/-- SIG_MON_CHECK (R369): `seqr` 0 event arbiter to 5 port controller. -/
def execSigMonCheck (seqr : Nat) (ok : Bool) (s : State) : Out :=
  if seqr < 6 then onHub s fun s => if s.rdg.running then s.sigCheck seqr ok else s else .fault .noSuchPart

/-- SIG_MON_TIMEOUT (R369). -/
def execSigMonTimeout (seqr : Nat) (s : State) : Out :=
  if seqr < 6 then onHub s fun s => if s.heldSeq seqr || !s.rdg.running then s else s.sigTimeout seqr else .fault .noSuchPart

/-- HEARTBEAT_TOGGLE (R369): from the end of start-up on (16 R502). -/
def execHeartbeatToggle (s : State) : Out := onHub s fun s => if s.started then s.heartbeat else s

/-! ### Fences (R371 to R373) -/

/-- FENCE_CMD (R371). -/
def execFenceCmd (m : Master) (val : Word) (s : State) : Out := writeRow m R.FLT_FENCE_CMD val s

/-- FENCE_ORDER (R372). -/
def execFenceOrder (cairn : Nat) (s : State) : Out := atCairn cairn s fun s => s.fenceOrder cairn

/-- FENCE_DONE (R372): the port's drain, which took `drain` tk, completes. -/
def execFenceDone (cairn drain : Nat) (s : State) : Out := atCairn cairn s fun s => s.fenceDrained cairn drain

/-- FENCE_STUCK (R372). -/
def execFenceStuck (cairn : Nat) (s : State) : Out := atCairn cairn s fun s => s.fenceStuck cairn

/-- UNFENCE (R373). -/
def execUnfence (m : Master) (val : Word) (s : State) : Out := writeRow m R.FLT_UNFENCE val s

end Sys2Proof.Machine
end

