-- ==== Sys2Proof/Machine/HubRows.lean ====
section
/-! DEFINITION. Machine/HubRows.lean: the commands of the hub's architecture and of its register space (01, 02). -/

namespace Sys2Proof.Machine

open Host

/-! ### Event arbiter, Spurs and Col (01) -/

/-- ARBITER_NUMBER (R31). -/
def execArbiterNumber (s : State) : Out := onHub s State.arbitrate

/-- CLASS1_REPORT (R19): a Cairn's unit raises an event of its own while the leaf reads `leaf`, or the Cairn sends its next report. -/
def execClass1Report (cairn leaf : Nat) (u : Option UnitEvent) (s : State) : Out :=
  atUnit cairn s fun s =>
    match u with
    | some e => if s.leafShows cairn leaf then s.unitEvent cairn leaf e else s
    | none => s.reportSend cairn

/-- SUMMIT_ACK (R18). -/
def execSummitAck (cairn : Nat) (s : State) : Out := atUnit cairn s fun s => s.ackEntry cairn

/-- MIRROR_UPDATE (R20): while both Spurs serve. -/
def execMirrorUpdate (spur : Nat) (s : State) : Out :=
  atSpur spur s fun s => if s.spur (otherSpur spur) = 2 then s else s.mirrorSend spur

/-- LIVENESS_FLIT (R21). -/
def execLivenessFlit (spur : Nat) (s : State) : Out := atSpur spur s fun s => s.liveFlit spur

/-- Is a Spur's loss due: its self-check reports a fault, or 1,024 tk have passed without a liveness flit (R21)? -/
def State.lossDue (s : State) (p : Nat) (selfCheck : Bool) : Bool :=
  s.enumerated && (selfCheck || decide ((if p = 0 then s.sum.live0 else s.sum.live1) + 1024 ≤ s.clk))

/-- SPUR_LIVENESS_TIMEOUT (R21; R38: the intervals missed before the loss). -/
def execSpurLivenessTimeout (spur : Nat) (selfCheck : Bool) (s : State) : Out :=
  atSpur spur s fun s => if s.lossDue spur selfCheck then (s.liveMiss spur).loseSpur spur else s

/-- TAKEOVER_COMPLETE (R22; 06 R185). -/
def execTakeoverComplete (s : State) : Out :=
  onHub s fun s =>
    match s.sum.takeover with
    | some p => if s.spur p = 2 ∨ !s.takeoverDue then s else ((s.takeoverDone p).retainLost (otherSpur p)).restoreLate (otherSpur p)
    | none => s

/-- FORCE_SPUR_LOSS (R37). -/
def execForceSpurLoss (m : Master) (val : Word) (s : State) : Out := writeRow m R.SUM_TOPO_CTRL val s

/-- COL_LANE_FAIL (R27). -/
def execColLaneFail (group : Nat) (s : State) : Out :=
  if group < 3 then onHub s fun s => s.colLane group else .fault .noSuchPart

/-! ### The register space (02) -/

/-- REGISTER_WRITE (R57). -/
def execRegisterWrite (m : Master) (addr width val : Nat) (s : State) : Out :=
  onHub s fun s => s.masterAccess m addr width true val

/-- REGISTER_READ (R57). -/
def execRegisterRead (m : Master) (addr width : Nat) (s : State) : Out :=
  onHub s fun s => s.masterAccess m addr width false 0

/-- READ_CLEAR (R50). -/
def execReadClear (m : Master) (addr : Nat) (s : State) : Out := onHub s fun s => s.masterRead m addr

/-- APERTURE_ACCESS (R65). -/
def execApertureAccess (m : Master) (addr width : Nat) (write : Bool) (val : Nat) (s : State) : Out :=
  onHub s fun s => s.masterAccess m addr width write val

/-- APERTURE_ANSWER (R65). -/
def execApertureAnswer (m : Master) (s : State) : Out := onHub s fun s => (s.apAnswer m).passPump

/-- APERTURE_TIMEOUT (R65). -/
def execApertureTimeout (m : Master) (s : State) : Out := onHub s fun s => (s.apTimeout m).passPump

/-- EXCL_ACQUIRE (R72). -/
def execExclAcquire (m : Master) (val : Word) (s : State) : Out := writeRow m R.SUM_EXCL val s

/-- EXCL_RELEASE (R75). -/
def execExclRelease (m : Master) (val : Word) (s : State) : Out := writeRow m R.SUM_EXCL val s

/-- HOST_REQ (R74). -/
def execHostReq (m : Master) (val : Word) (s : State) : Out := writeRow m R.SUM_EXCL val s

/-- EXCL_LEASE_EXPIRY (R75). -/
def execExclLeaseExpiry (s : State) : Out :=
  onHub s fun s => if s.excl ∧ s.leaseEnd ≤ s.clk then s.exclEnd exclByLease else s

end Sys2Proof.Machine
end

