-- ==== Sys2Proof/Machine/LedgerRows.lean ====
section
/-! DEFINITION. Machine/LedgerRows.lean: the commands of the Talus ledger (13). -/

namespace Sys2Proof.Machine

open Host

/-- TALUS_SAMPLE (R412): `regs` has the readings of the 32 regions. -/
def execTalusSample (regs : List RegionRd) (s : State) : Out := onHub s fun s => s.talSample regs

/-- TALUS_COUNT (R416). -/
def execTalusCount (s : State) : Out := onHub s State.talCount

/-- TALUS_SCHEDULE (R417). -/
def execTalusSchedule (s : State) : Out := onHub s State.talSchedule

/-- TAL_COMMIT (R417). -/
def execTalCommit (m : Master) (val : Word) (s : State) : Out := writeRow m R.TAL_CTRL val s

/-- TALUS_COMMIT_START (R418). None starts while a hub soft reset is pending (16 R497). -/
def execTalusCommitStart (s : State) : Out := onHub s fun s => if s.softPending then s else s.commitStart

/-- TALUS_COMMIT_VERIFY (R418): the boot commit opens what masters hold (14 R445). -/
def execTalusCommitVerify (ok : Bool) (s : State) : Out := onHub s fun s => (s.commitVerify ok).authShow

/-- TAL_SNAP (R424). -/
def execTalSnap (m : Master) (val : Word) (s : State) : Out := writeRow m R.TAL_CTRL val s

/-- TAL_TRACK (R414). -/
def execTalTrack (m : Master) (val : Word) (s : State) : Out := writeRow m R.TAL_TRACK val s

/-- TAL_CLEAR (R423). -/
def execTalClear (m : Master) (val : Word) (s : State) : Out := writeRow m R.TAL_CLEAR val s

end Sys2Proof.Machine
end

