-- ==== Sys2Proof/Machine/LifeRows.lean ====
section
/-! DEFINITION. Machine/LifeRows.lean: the commands of the life cycle and of the authorisation engine (14). -/

namespace Sys2Proof.Machine

open Host

/-- A happening in the authorisation engine: none passes while a hub soft reset holds it (16 R498). -/
def inAuth (s : State) (k : State → State) : Out := onHub s fun s => if s.heldSeq 3 then s else k s

/-- LCY_TRANSITION (R437). -/
def execLcyTransition (m : Master) (val : Word) (s : State) : Out := writeRow m R.LCY_CMD val s

/-- LCY_PROVISION (R442). -/
def execLcyProvision (m : Master) (val : Word) (s : State) : Out := writeRow m R.LCY_CMD val s

/-- CERT (R447). -/
def execCert (m : Master) (val : Word) (s : State) : Out := writeRow m R.AUTH_CMD val s

/-- CHALLENGE (R448). -/
def execChallenge (m : Master) (val : Word) (s : State) : Out := writeRow m R.AUTH_CMD val s

/-- RESPOND (R449). -/
def execRespond (m : Master) (val : Word) (s : State) : Out := writeRow m R.AUTH_CMD val s

/-- DROP (R450). -/
def execDrop (m : Master) (val : Word) (s : State) : Out := writeRow m R.AUTH_CMD val s

/-- AUTH_BUF_DATA (R435). -/
def execAuthBufData (m : Master) (write : Bool) (val : Word) (s : State) : Out :=
  onHub s fun s => if write then s.masterWrite m R.AUTH_BUF_DATA val.toNat else s.masterRead m R.AUTH_BUF_DATA

/-- AUTH_VERIFY_DONE (R435). -/
def execAuthVerifyDone (s : State) : Out := inAuth s State.authVerify

/-- CHALLENGE_EXPIRY (R448). -/
def execChallengeExpiry (s : State) : Out := onHub s State.chalExpire

/-- LCY_STEP_DONE (R439): `ok` is false where the step's writes do not read back. -/
def execLcyStepDone (ok : Bool) (s : State) : Out := inAuth s fun s => s.lcyStep ok

/-- TRNG_FAIL (R456). -/
def execTrngFail (s : State) : Out := onHub s fun s => s.trng false

/-- TRNG_HEALTH_PASS (R456). -/
def execTrngHealthPass (s : State) : Out := onHub s fun s => s.trng true

end Sys2Proof.Machine
end

