-- ==== Sys2Proof/Machine/PassRows.lean ====
section
/-! DEFINITION. Machine/PassRows.lean: the commands of the Pass port: frames, sessions, lanes, the TAP and the reach across the fabric
(15). -/

namespace Sys2Proof.Machine

open Host

/-- A happening in the port controller: none passes while a hub soft reset holds it (16 R498). -/
def inPort (s : State) (k : State → State) : Out := onHub s fun s => if s.heldSeq 5 then s else k s

/-- A happening at a lane of the port. -/
def atLane (lane : Nat) (s : State) (k : State → State) : Out := if lane < 2 then inPort s k else .fault .noSuchPart

/-- Does a frame concern this hub: LOCAL set, or DEV its own ID (R464, R485)? -/
def State.forMe (s : State) (loc : Bool) (dev : Nat) : Bool := loc || dev == s.ownDev

/-! ### Frames from the debugger (R465, R466) -/

/-- HELLO (R473). -/
def execHello (proto rate lanes tool : Nat) (t : Trailer) (s : State) : Out :=
  inPort s fun s => s.hello (proto % 2 ^ 16) (rate % 4) (lanes % 4) (tool % 2 ^ 32) t

/-- KEEPALIVE (R476). -/
def execKeepalive (t : Trailer) (s : State) : Out := inPort s fun s => s.frameIn t fun s => s

/-- BYE (R477). -/
def execBye (t : Trailer) (s : State) : Out := inPort s fun s => s.frameIn t fun s => s.sessEnd seBye

/-- ACK (R466): it takes no FSEQ. -/
def execAck (t : Trailer) (s : State) : Out := inPort s fun s => if s.sess = sessLanes then s.takeAck t else s

/-- Payload word 0 of a REG_RSP (R468, R485). -/
def rspHead (tag n : Nat) (busy noRelay : Bool) : Nat := tag % 256 + 256 * n + 2 ^ 16 * b2n busy + 2 ^ 17 * b2n noRelay

/-- A REG_REQ reaches the hub (R468, R485): taken up, carried to the hub it concerns, or answered at once with no accesses. -/
def State.regReq (s : State) (tag : Nat) (stop : Bool) (ops : List Nat) (loc : Bool) (dev : Nat) : State :=
  if s.forMe loc dev then
    if 4 ≤ s.pass.reqs.length then s.frameOut 0x11 s.ownDev [rspHead tag 0 true false]
    else (s.modPass fun p => { p with reqs := p.reqs ++ [⟨tag % 256, stop, ops.take 64, [], false⟩] }).passPump
  else
    if s.relays dev then s.carry dev 0x10 ((tag % 256 + 256 * ops.length + 2 ^ 16 * b2n stop) :: ops)
    else s.frameOut 0x11 dev [rspHead tag 0 false true]

/-- REG_REQ (R468). -/
def execRegReq (tag : Nat) (stop : Bool) (ops : List Nat) (loc : Bool) (dev : Nat) (t : Trailer) (s : State) : Out :=
  inPort s fun s => s.frameIn t fun s => s.regReq tag stop ops loc dev

/-- A port trigger (R469; 04 R117): the Pass master's write to SUM_CUT_CMD, counted and raised with its outcome. -/
def State.trigIn (s : State) (xdev : Bool) : State :=
  let kind := s.f F.SUM_CUT_CTRL_PORT_KIND
  let code := if s.inReset then codeReset else s.hubCode (.mst .pass) R.SUM_CUT_CMD true (kind + 8 * b2n xdev)
  let s := ({ s with sum := { s.sum with lastPass := s.clk } } : State).hubMiss (.mst .pass)
  let r : State × CutRes :=
    if code ≠ codeOk then (s.recordErr .pass code R.SUM_CUT_CMD 0, ⟨2, 0⟩)
    else if xdev then s.xcutReq kind (mSrc .pass) else s.cutReq kind (mSrc .pass)
  let f := if r.2.out = 2 then F.PASS_TRIG_IN_REFUSED else F.PASS_TRIG_IN_ACCEPTED
  (r.1.setF f (r.1.f f + 1)).raise .trigIn passSrc [.w kind, .w (b2n xdev), .w r.2.out]

/-- TRIGGER_IN (R469): one that concerns a relayed hub is carried to it (R485). -/
def execTriggerIn (xdev loc : Bool) (dev : Nat) (t : Trailer) (s : State) : Out :=
  inPort s fun s => s.frameIn t fun s =>
    if s.forMe loc dev then s.trigIn xdev else if s.relays dev then s.carry dev 0x20 [b2n xdev] else s

/-- RELAY_OPEN (R485): `ok` and `busy` list the hubs that answer so. -/
def execRelayOpen (dev : Nat) (all : Bool) (share : Nat) (ok busy : List Nat) (t : Trailer) (s : State) : Out :=
  inPort s fun s => s.frameIn t fun s => s.relayOpen (dev % 4096) all (share % 2 ^ 32) ok busy

/-- RELAY_CLOSE (R485). -/
def execRelayClose (dev : Nat) (all : Bool) (t : Trailer) (s : State) : Out :=
  inPort s fun s => s.frameIn t fun s => s.relayClose (dev % 4096) all

/-- RESERVED_FRAME (R465): acknowledged, discarded and counted. -/
def execReservedFrame (_ftype : Nat) (t : Trailer) (s : State) : Out := inPort s fun s => s.frameIn t fun s => s

/-- FRAME_BAD (R466): without a session there is no FSEQ to be out of order. -/
def execFrameBad (crc : Bool) (s : State) : Out :=
  inPort s fun s => if crc || s.sess == sessLanes then s.frameBad crc else s

/-! ### Frames to the debugger, lanes (R461, R466, R467, R474 to R476, R482) -/

/-- FRAME_SEND (R467). -/
def execFrameSend (s : State) : Out := inPort s State.frameSend

/-- RETRANSMIT_TIMEOUT (R466). -/
def execRetransmitTimeout (s : State) : Out := inPort s State.retxTimeout

/-- KEEPALIVE_SEND (R476). -/
def execKeepaliveSend (s : State) : Out := inPort s State.kaSend

/-- KEEPALIVE_TIMEOUT (R476). -/
def execKeepaliveTimeout (s : State) : Out := inPort s State.kaTimeout

/-- RATE_TRAIN (R474). -/
def execRateTrain (ok : Bool) (s : State) : Out := inPort s fun s => s.rateTrain ok

/-- LANE_LOST (R475). -/
def execLaneLost (lane : Nat) (s : State) : Out := atLane lane s fun s => s.laneLost lane

/-- LINK_LOSS (R475). -/
def execLinkLoss (s : State) : Out := inPort s State.linkLoss

/-- BLOCK_LOCK_GAINED (R461). -/
def execBlockLockGained (lane : Nat) (s : State) : Out := atLane lane s fun s => s.lockGained lane

/-- TX_IDLE (R482). -/
def execTxIdle (lane : Nat) (on : Bool) (s : State) : Out := atLane lane s fun s => s.txIdle lane on

/-- PORT_BUF_UC (R490). -/
def execPortBufUc (s : State) : Out := inPort s State.portBufUc

/-! ### The TAP (R479 to R481) -/

/-- TAP_RESET (R479). -/
def execTapReset (s : State) : Out := onHub s State.tapReset

/-- EXTEST (R479). -/
def execExtest (s : State) : Out := onHub s fun s => s.tapLoad tapExtest

/-- SAMPLE_PRELOAD (R479). -/
def execSamplePreload (s : State) : Out := onHub s fun s => s.tapLoad tapSample

/-- IDCODE (R479). -/
def execIdcode (s : State) : Out := onHub s fun s => s.tapLoad tapIdcode

/-- HIGHZ (R479). -/
def execHighz (s : State) : Out := onHub s fun s => s.tapLoad tapHighz

/-- CLAMP (R479). -/
def execClamp (s : State) : Out := onHub s fun s => s.tapLoad tapClamp

/-- BYPASS (R479). -/
def execBypass (s : State) : Out := onHub s fun s => s.tapLoad tapBypass

/-- Update-DR of PASS_ACC with the 64 bits `v` (R480, R481): with GO one access, in the TAP session that exists or that it opens;
otherwise the scan is refused and BUSY shows. -/
def State.passAcc (s : State) (v : Nat) : State :=
  let s := s.tapLoad tapPassAcc
  if s.pass.ir ≠ tapPassAcc then s.modPass fun p => { p with accBusy := true }
  else
    let s := if s.sess = sessTap then s.modPass fun p => { p with lastRx := s.clk } else s
    if !bit v 21 then s.modPass fun p => { p with accBusy := !s.started }
    else
      let may := s.started && !s.heldSeq 5 && !s.pass.accWait
        && (s.sess == sessTap || (s.sess == sessNone && s.f F.PASS_CTRL_TAP_ACC_EN == 1))
      if !may then s.modPass fun p => { p with accBusy := true }
      else
        let s := if s.sess = sessTap then s else s.sessOpen sessTap 0 0
        let s := s.modPass fun p => { p with accBusy := false, accDone := false, accWait := true }
        (s.masterAccess .pass (v % 2 ^ 20) 4 (bit v 20) (v / 2 ^ 32 % 2 ^ 32)).passPump

/-- PASS_ACC (R480). -/
def execPassAcc (val : Nat) (s : State) : Out := onHub s fun s => s.passAcc val

/-! ### The fabric (R483 to R487) -/

/-- A write of PASS_FAB_CTRL with what the fabric answers to a claim (R483). -/
def State.fabWrite (s : State) (m : Master) (v : Nat) (lead : Bool) (rival : Nat) : State :=
  let a := R.PASS_FAB_CTRL
  let t := s.pump
  if t.sum.held.any (fun y => y.master == m) || t.mustWait m a || t.inReset || t.hubCode (.mst m) a true v != codeOk then
    s.masterWrite m a v
  else
    let t := t.arbTurn m
    let t := if m = .pass then { t with sum := { t.sum with lastPass := t.clk } } else t
    ((t.hubMiss (.mst m)).fabCtrl v lead rival).complete m a codeOk 0

/-- LEAD_CLAIM (R483): `lead` says that another hub is lead already, `rival` is the DEVICE_UID of a hub whose claim meets this one. -/
def execLeadClaim (m : Master) (val : Word) (lead : Bool) (rival : Nat) (s : State) : Out :=
  onHub s fun s => s.fabWrite m val.toNat lead rival

/-- LEAD_DROP (R483). -/
def execLeadDrop (m : Master) (val : Word) (s : State) : Out := writeRow m R.PASS_FAB_CTRL val s

/-- DISCOVER (R484). -/
def execDiscover (m : Master) (val : Word) (s : State) : Out := writeRow m R.PASS_FAB_CTRL val s

/-- HUB_ANNOUNCE (R484). -/
def execHubAnnounce (uid dev status : Nat) (s : State) : Out := inPort s fun s => s.announce uid dev status

/-- DISCOVERY_TIMEOUT (R484). -/
def execDiscoveryTimeout (s : State) : Out := inPort s State.discoverEnd

/-- MEMBER_TIMEOUT (R484). -/
def execMemberTimeout (dev : Nat) (s : State) : Out := inPort s fun s => s.memberTimeout dev

/-- HOKUING_LINKS_UP (R484, R487). -/
def execHokuingLinksUp (s : State) : Out := inPort s State.linksUp

/-- HOKUING_LINKS_DOWN (R484). -/
def execHokuingLinksDown (dev : Nat) (s : State) : Out := inPort s fun s => s.memberDown dev 1

/-- RELAY_SESSION_OPEN (R485). -/
def execRelaySessionOpen (share : Nat) (s : State) : Out := inPort s fun s => s.relayed share

/-- RELAY_KEEPALIVE (R486). -/
def execRelayKeepalive (s : State) : Out := inPort s State.relayKa

/-- LEAD_LOST (R486). -/
def execLeadLost (s : State) : Out := inPort s State.leadLost

end Sys2Proof.Machine
end

