-- ==== Sys2Proof/Machine/PitchCode.lean ====
section
/-! DEFINITION. Machine/PitchCode.lean: the Pitch instructions, their decoder and their encoder (07 R211 to R213). -/

namespace Sys2Proof.Machine

/-- The ALU operations of OP 0x01, in the order of FN. -/
inductive AluFn
  | add | sub | and_ | or_ | xor | shl | shr | mul | minu | maxu
  deriving DecidableEq, Repr

/-- The branches that compare two registers, OP 0x08 to 0x0B. -/
inductive BrFn
  | beq | bne | bltu | bgeu
  deriving DecidableEq, Repr

/-- The branches that compare a register with IMM8, OP 0x0C to 0x0E. -/
inductive BriFn
  | beqi | bnei | bltui
  deriving DecidableEq, Repr

/-- A Pitch instruction with the fields its operation uses (07 R211, R213). -/
inductive PInstr
  | alu (fn : AluFn) (rd ra rb : BitVec 4)
  | addi (rd ra : BitVec 4) (imm : BitVec 18)
  | andi (rd ra : BitVec 4) (imm : BitVec 18)
  | movi (rd : BitVec 4) (imm : BitVec 22)
  | ldm (rd ra : BitVec 4) (imm : BitVec 18)
  | stm (rd ra : BitVec 4) (imm : BitVec 18)
  | aadd (rd ra rb : BitVec 4)
  | br (fn : BrFn) (ra rb : BitVec 4) (off : BitVec 18)
  | bri (fn : BriFn) (ra : BitVec 4) (imm : BitVec 8) (off : BitVec 14)
  | jal (rd : BitVec 4) (nolink : BitVec 1) (target : BitVec 16)
  | jr (ra : BitVec 4)
  | time (rd : BitVec 4)
  | waitt (ra : BitVec 4) (imm : BitVec 18)
  | crd (rd ra : BitVec 4) (off : BitVec 10)
  | cwr (rd ra : BitVec 4) (off : BitVec 10)
  | vrd (rd ra rb space : BitVec 4) (wide : BitVec 1)
  | vwr (rd ra rb space : BitVec 4) (wide : BitVec 1)
  | waitw
  | errs (rd : BitVec 4)
  | hrd (rd ra : BitVec 4) (imm : BitVec 18)
  | hwr (rd ra : BitVec 4) (imm : BitVec 18)
  | trig (ch : BitVec 6)
  | cut (rd ra : BitVec 4) (kind : BitVec 3) (abs xdev : BitVec 1)
  | trc (rd ra : BitVec 4) (stop : BitVec 1)
  | dump (rd prof : BitVec 4)
  | job (rd ra : BitVec 4) (echo : BitVec 1)
  | waitj (rd ra rb : BitVec 4)
  | waitch (rd ra : BitVec 4) (ch : BitVec 6)
  | log (ra rb : BitVec 4) (talus : BitVec 1) (tag : BitVec 12)
  | fence (rd ra : BitVec 4)
  | remap (rd ra rb : BitVec 4)
  | kick
  | halt (arg : BitVec 16)
  deriving DecidableEq, Repr

/-- The fields a CUT may name: KIND 0 to 5, and XDEV with KIND 0 to 2 only (07 R225). Every other instruction takes every value of its
fields. -/
def PInstr.wf : PInstr → Bool
  | .cut _ _ kind _ xdev => decide (kind.toNat < 6) && (xdev == 0 || decide (kind.toNat < 3))
  | _ => true

/-- FN of an ALU operation. -/
def AluFn.code : AluFn → BitVec 4
  | .add => 0 | .sub => 1 | .and_ => 2 | .or_ => 3 | .xor => 4 | .shl => 5 | .shr => 6 | .mul => 7 | .minu => 8 | .maxu => 9

/-- The ALU operation of FN; the rest are reserved. -/
def AluFn.ofCode (c : BitVec 4) : Option AluFn :=
  match c.toNat with
  | 0 => some .add | 1 => some .sub | 2 => some .and_ | 3 => some .or_ | 4 => some .xor | 5 => some .shl | 6 => some .shr
  | 7 => some .mul | 8 => some .minu | 9 => some .maxu | _ => none

/-- OP of a branch of two registers. -/
def BrFn.op : BrFn → BitVec 6
  | .beq => 0x08 | .bne => 0x09 | .bltu => 0x0A | .bgeu => 0x0B

/-- OP of a branch with IMM8. -/
def BriFn.op : BriFn → BitVec 6
  | .beqi => 0x0C | .bnei => 0x0D | .bltui => 0x0E

/-- A word in format R: its fields, the reserved bits 0 (R211). -/
def wordR (op : BitVec 6) (rd ra rb fn : BitVec 4) : BitVec 32 := op ++ rd ++ ra ++ rb ++ (0 : BitVec 10) ++ fn

/-- A word in format I or X. -/
def wordI (op : BitVec 6) (rd ra : BitVec 4) (imm : BitVec 18) : BitVec 32 := op ++ rd ++ ra ++ imm

/-- The word of an instruction; a field that its operation does not use is 0. -/
def PInstr.encode : PInstr → BitVec 32
  | .alu fn rd ra rb => wordR 0x01 rd ra rb fn.code
  | .addi rd ra imm => wordI 0x02 rd ra imm
  | .andi rd ra imm => wordI 0x03 rd ra imm
  | .movi rd imm => (0x04 : BitVec 6) ++ rd ++ imm
  | .ldm rd ra imm => wordI 0x05 rd ra imm
  | .stm rd ra imm => wordI 0x06 rd ra imm
  | .aadd rd ra rb => wordR 0x07 rd ra rb 0
  | .br fn ra rb off => wordI fn.op ra rb off
  | .bri fn ra imm off => fn.op ++ ra ++ imm ++ off
  | .jal rd nolink target => (0x10 : BitVec 6) ++ rd ++ (0 : BitVec 5) ++ nolink ++ target
  | .jr ra => wordR 0x11 0 ra 0 0
  | .time rd => wordR 0x14 rd 0 0 0
  | .waitt ra imm => wordI 0x15 0 ra imm
  | .crd rd ra off => (0x18 : BitVec 6) ++ rd ++ ra ++ (0 : BitVec 8) ++ off
  | .cwr rd ra off => (0x19 : BitVec 6) ++ rd ++ ra ++ (0 : BitVec 8) ++ off
  | .vrd rd ra rb space wide => (0x1A : BitVec 6) ++ rd ++ ra ++ rb ++ space ++ (0 : BitVec 9) ++ wide
  | .vwr rd ra rb space wide => (0x1B : BitVec 6) ++ rd ++ ra ++ rb ++ space ++ (0 : BitVec 9) ++ wide
  | .waitw => wordR 0x1C 0 0 0 0
  | .errs rd => wordR 0x1D rd 0 0 0
  | .hrd rd ra imm => wordI 0x20 rd ra imm
  | .hwr rd ra imm => wordI 0x21 rd ra imm
  | .trig ch => wordI 0x24 0 0 ((0 : BitVec 12) ++ ch)
  | .cut rd ra kind abs xdev => wordI 0x25 rd ra ((0 : BitVec 13) ++ xdev ++ abs ++ kind)
  | .trc rd ra stop => wordI 0x26 rd ra ((0 : BitVec 17) ++ stop)
  | .dump rd prof => wordI 0x27 rd 0 ((0 : BitVec 14) ++ prof)
  | .job rd ra echo => wordI 0x28 rd ra ((0 : BitVec 17) ++ echo)
  | .waitj rd ra rb => wordR 0x29 rd ra rb 0
  | .waitch rd ra ch => wordI 0x2A rd ra ((0 : BitVec 12) ++ ch)
  | .log ra rb talus tag => (0x2C : BitVec 6) ++ ra ++ rb ++ talus ++ (0 : BitVec 5) ++ tag
  | .fence rd ra => wordI 0x2D rd ra 0
  | .remap rd ra rb => wordR 0x2E rd ra rb 0
  | .kick => wordR 0x30 0 0 0 0
  | .halt arg => wordI 0x31 0 0 ((0 : BitVec 2) ++ arg)

/-- A field of a word: `n` bits from bit `lo` on. -/
abbrev fieldAt (w : BitVec 32) (lo n : Nat) : BitVec n := w.extractLsb' lo n

/-- An instruction whose reserved bits must be 0. -/
def ifClear {n : Nat} (reserved : BitVec n) (i : PInstr) : Option PInstr := if reserved = 0 then some i else none

/-- An instruction of format R whose FN must be 0, as must bits 13:4. -/
def decodeR (w : BitVec 32) (i : PInstr) : Option PInstr := ifClear (fieldAt w 0 14) i

/-- The instruction of a word; none for a word that is ILLEGAL (R212). -/
def PInstr.decode (w : BitVec 32) : Option PInstr :=
  let d := fieldAt w 22 4
  let a := fieldAt w 18 4
  let b := fieldAt w 14 4
  let imm := fieldAt w 0 18
  match (fieldAt w 26 6).toNat with
  | 0x01 =>
    match AluFn.ofCode (fieldAt w 0 4) with
    | some fn => ifClear (fieldAt w 4 10) (.alu fn d a b)
    | none => none
  | 0x02 => some (.addi d a imm)
  | 0x03 => some (.andi d a imm)
  | 0x04 => some (.movi d (fieldAt w 0 22))
  | 0x05 => some (.ldm d a imm)
  | 0x06 => some (.stm d a imm)
  | 0x07 => decodeR w (.aadd d a b)
  | 0x08 => some (.br .beq d a imm)
  | 0x09 => some (.br .bne d a imm)
  | 0x0A => some (.br .bltu d a imm)
  | 0x0B => some (.br .bgeu d a imm)
  | 0x0C => some (.bri .beqi d (fieldAt w 14 8) (fieldAt w 0 14))
  | 0x0D => some (.bri .bnei d (fieldAt w 14 8) (fieldAt w 0 14))
  | 0x0E => some (.bri .bltui d (fieldAt w 14 8) (fieldAt w 0 14))
  | 0x10 => ifClear (fieldAt w 17 5) (.jal d (fieldAt w 16 1) (fieldAt w 0 16))
  | 0x11 => decodeR w (.jr a)
  | 0x14 => decodeR w (.time d)
  | 0x15 => some (.waitt a imm)
  | 0x18 => ifClear (fieldAt w 10 8) (.crd d a (fieldAt w 0 10))
  | 0x19 => ifClear (fieldAt w 10 8) (.cwr d a (fieldAt w 0 10))
  | 0x1A => ifClear (fieldAt w 1 9) (.vrd d a b (fieldAt w 10 4) (fieldAt w 0 1))
  | 0x1B => ifClear (fieldAt w 1 9) (.vwr d a b (fieldAt w 10 4) (fieldAt w 0 1))
  | 0x1C => decodeR w .waitw
  | 0x1D => decodeR w (.errs d)
  | 0x20 => some (.hrd d a imm)
  | 0x21 => some (.hwr d a imm)
  | 0x24 => some (.trig (fieldAt w 0 6))
  | 0x25 =>
    let i := PInstr.cut d a (fieldAt w 0 3) (fieldAt w 3 1) (fieldAt w 4 1)
    if i.wf then ifClear (fieldAt w 5 13) i else none
  | 0x26 => some (.trc d a (fieldAt w 0 1))
  | 0x27 => some (.dump d (fieldAt w 0 4))
  | 0x28 => some (.job d a (fieldAt w 0 1))
  | 0x29 => decodeR w (.waitj d a b)
  | 0x2A => some (.waitch d a (fieldAt w 0 6))
  | 0x2C => ifClear (fieldAt w 12 5) (.log d a (fieldAt w 17 1) (fieldAt w 0 12))
  | 0x2D => some (.fence d a)
  | 0x2E => decodeR w (.remap d a b)
  | 0x30 => decodeR w .kick
  | 0x31 => some (.halt (fieldAt w 0 16))
  | _ => none

end Sys2Proof.Machine
end

