-- ==== Sys2Proof/Machine/Pitch.lean ====
section
/-! DEFINITION. Machine/Pitch.lean: how a Pitch engine issues an instruction, and what each group of instructions does (07 R208 to
R230). -/

namespace Sys2Proof.Machine

open Host

/-! ### Issue -/

/-- The registers an instruction reads or writes (R216). -/
def PInstr.regs : PInstr → List (BitVec 4)
  | .alu _ d a b | .aadd d a b | .waitj d a b | .remap d a b => [d, a, b]
  | .addi d a _ | .andi d a _ | .ldm d a _ | .stm d a _ | .crd d a _ | .cwr d a _ | .hrd d a _ | .hwr d a _ => [d, a]
  | .cut d a _ _ _ | .trc d a _ | .job d a _ | .waitch d a _ | .fence d a => [d, a]
  | .movi d _ | .time d | .errs d | .dump d _ => [d]
  | .jal d nolink _ => if nolink = 1 then [] else [d]
  | .br _ a b _ | .log a b _ _ => [a, b]
  | .bri _ a _ _ | .jr a | .waitt a _ => [a]
  | .vrd d a b _ _ | .vwr d a b _ _ => [d, a, b]
  | .waitw | .trig _ | .kick | .halt _ => []

/-- The instructions that wait for the engine's earlier events to be numbered (R217). -/
def PInstr.acts : PInstr → Bool
  | .trig _ | .cut .. | .trc .. | .dump .. | .job .. | .fence .. | .remap .. => true
  | _ => false

/-- Window accesses (R218). -/
def PInstr.window : PInstr → Bool
  | .crd .. | .cwr .. | .vrd .. | .vwr .. => true
  | _ => false

/-- The right whose lack stops the engine (R213). -/
def PInstr.right : PInstr → Option Nat
  | .trig _ => some rtTrigger
  | .cut .. => some rtHalt
  | .trc .. => some rtTrace
  | .dump .. => some rtDump
  | .job .. => some rtCensus
  | .log _ _ talus _ => if talus = 1 then some rtWatch else none
  | .fence .. => some rtFault
  | .remap .. => some rtWatch
  | _ => none

/-- Window accesses an engine may have in flight (R203). -/
def winMax : Nat := 8

/-- Entries of an engine's event input (R203). -/
def evMax : Nat := 16

/-- Events of an engine that have no number yet. -/
def State.engEvents (s : State) (e : Nat) : Nat := (s.sum.intq.filter fun v => v.src == engSrc e).length

/-- Does an instruction stall now (R215 to R217)? -/
def State.stalled (s : State) (e : Nat) (i : PInstr) : Bool :=
  (i.regs.any fun r => (s.eng e).wins.any fun w => w.rd == some r.toNat)
  || (i.window && decide (winMax ≤ (s.eng e).wins.length))
  || (i.acts && s.engEvents e != 0)
  || (match i with | .log .. => decide (evMax ≤ s.engEvents e) | _ => false)

/-- Does the recorded set lack the right an instruction needs (R205, R213)? -/
def State.lacks (s : State) (e : Nat) (i : PInstr) : Bool := !s.may (.eng e) i.right

/-- The engine's pc. -/
def State.pc (s : State) (e : Nat) : Nat := s.rd (R.PRB_PC e) % 65536

/-- The pc written, modulo 2^16. -/
def State.setPc (s : State) (e n : Nat) : State := s.wr (R.PRB_PC e) (n % 65536)

/-- An instruction retires and the pc goes to `n`. -/
def State.retireTo (s : State) (e n : Nat) : State := (s.bump (R.PRB_RETIRED e)).setPc e n

/-- An instruction retires and the next follows. -/
def State.goOn (s : State) (e : Nat) : State := s.retireTo e (s.pc e + 1)

/-- An instruction that writes a register retires. -/
def State.pSet (s : State) (e : Nat) (d : BitVec 4) (v : Nat) : State := (s.setP e d.toNat v).goOn e

/-- The instruction at the pc, or the stop its fetch brings (R208, R212, R231). -/
def State.fetch (s : State) (e : Nat) : Except State PInstr :=
  let pc := s.pc e
  if !s.inCodeOf e pc then .error (s.engStop e stopFetchRange)
  else if s.pmBad pc then .error (s.pmUcStop e pc)
  else match PInstr.decode (BitVec.ofNat 32 (s.pmWord pc)) with
  | none => .error (s.engStop e stopIllegal)
  | some i => .ok i

/-- A running engine issues its next instruction, if that is one for which `k` gives an effect: it stalls, stops with RIGHTS, or has
its effect. A stalled issue counts one cycle in PRB_STALL. -/
def State.issueP (s : State) (e : Nat) (k : PInstr → Option (State → State)) : State :=
  if s.engState e ≠ 1 then s
  else match s.fetch e with
  | .error t => t
  | .ok i =>
    match k i with
    | none => s
    | some g =>
      if s.stalled e i then s.bump (R.PRB_STALL e)
      else if s.lacks e i then s.engStop e stopRights
      else g s

/-- The command of a Pitch instruction: engine `e` issues it, if it stands at the pc. -/
def pitch (e : Nat) (s : State) (k : PInstr → Option (State → State)) : Out := withEngine e (onHub s fun s => s.issueP e k)

/-! ### Arithmetic, branches and program memory (R213, R214) -/

/-- A sum of a register and a signed immediate, modulo 2^64. -/
def State.addr (s : State) (e : Nat) (a : BitVec 4) (imm : BitVec 18) : Nat :=
  (s.p e a.toNat + (imm.signExtend 64).toNat) % 2 ^ 64

/-- The value of an ALU operation, before it wraps. -/
def AluFn.run : AluFn → Nat → Nat → Nat
  | .add, x, y => x + y
  | .sub, x, y => x + 2 ^ 64 - y
  | .and_, x, y => Nat.land x y
  | .or_, x, y => Nat.lor x y
  | .xor, x, y => Nat.xor x y
  | .shl, x, y => x * 2 ^ (y % 64)
  | .shr, x, y => x / 2 ^ (y % 64)
  | .mul, x, y => x * y
  | .minu, x, y => min x y
  | .maxu, x, y => max x y

/-- An ALU instruction. -/
def State.alu (s : State) (e : Nat) (fn : AluFn) (d a b : BitVec 4) : State :=
  s.pSet e d (fn.run (s.p e a.toNat) (s.p e b.toNat) % 2 ^ 64)

/-- A branch: `off` counts from the branch's own word. -/
def State.branch (s : State) (e : Nat) (taken : Bool) (off : Nat) : State := if taken then s.retireTo e (s.pc e + off) else s.goOn e

/-- Does a branch of two registers go? -/
def BrFn.taken : BrFn → Nat → Nat → Bool
  | .beq, x, y => x == y
  | .bne, x, y => x != y
  | .bltu, x, y => decide (x < y)
  | .bgeu, x, y => decide (y ≤ x)

/-- A branch of two registers. -/
def State.br (s : State) (e : Nat) (fn : BrFn) (a b : BitVec 4) (off : BitVec 18) : State :=
  s.branch e (fn.taken (s.p e a.toNat) (s.p e b.toNat)) (off.signExtend 16).toNat

/-- Does a branch with IMM8 go? -/
def BriFn.taken : BriFn → Nat → Nat → Bool
  | .beqi, x, y => x == y
  | .bnei, x, y => x != y
  | .bltui, x, y => decide (x < y)

/-- A branch with IMM8. -/
def State.bri (s : State) (e : Nat) (fn : BriFn) (a : BitVec 4) (imm : BitVec 8) (off : BitVec 14) : State :=
  s.branch e (fn.taken (s.p e a.toNat) imm.toNat) (off.signExtend 16).toNat

/-- JAL: the link is the 16-bit pc + 1. -/
def State.jal (s : State) (e : Nat) (d : BitVec 4) (nolink : BitVec 1) (target : BitVec 16) : State :=
  let s := if nolink = 1 then s else s.setP e d.toNat ((s.pc e + 1) % 65536)
  s.retireTo e target.toNat

/-- May a data access reach the doubleword at `a` (R208, R214)? -/
def State.dataOk (s : State) (e a : Nat) : Bool := decide (a ≤ 0xFFFF) && a % 2 == 0 && s.inData e a

/-- The first uncorrectable word of the doubleword at `a`. -/
def State.badWord (s : State) (a : Nat) : Option Nat := [a, a + 1].find? s.pmBad

/-- Does a store to the doubleword at `a` fall in the code window of an engine that is not IDLE (R208)? -/
def State.codeHit (s : State) (a : Nat) : Bool := s.inCode a || s.inCode (a + 1)

/-- LDM. -/
def State.ldm (s : State) (e : Nat) (d : BitVec 4) (a : Nat) : State :=
  if !s.dataOk e a then s.engStop e stopDataRange
  else match s.badWord a with
  | some w => s.pmUcStop e w
  | none => s.pSet e d (s.pmDouble a)

/-- STM. -/
def State.stm (s : State) (e : Nat) (d : BitVec 4) (a : Nat) : State :=
  if !s.dataOk e a || s.codeHit a then s.engStop e stopDataRange
  else (s.pmPutDouble a (s.p e d.toNat)).goOn e

/-- AADD: one indivisible read and write (R209). -/
def State.aadd (s : State) (e : Nat) (d b : BitVec 4) (a : Nat) : State :=
  if !s.dataOk e a || s.codeHit a then s.engStop e stopDataRange
  else match s.badWord a with
  | some w => s.pmUcStop e w
  | none =>
    let old := s.pmDouble a
    (s.pmPutDouble a ((old + s.p e b.toNat) % 2 ^ 64)).pSet e d old

/-! ### Waiting (R221 to R223) -/

/-- The engine begins a wait. -/
def State.waitOn (s : State) (e : Nat) (w : WaitFor) : State :=
  (s.setEng e { s.eng e with wait := some w, waitT := s.clk, chSeen := [] }).setF (F.PRB_STAT_STATE e) 2

/-- WAITT. -/
def State.waitt (s : State) (e t : Nat) : State := if t ≤ s.now then s.goOn e else s.waitOn e (.time t)

/-- WAITW. -/
def State.waitw (s : State) (e : Nat) : State := if (s.eng e).wins.isEmpty then s.goOn e else s.waitOn e .windows

/-- STATUS of a completion word. -/
def wordStatus (w : Nat) : Nat := w % 16

/-- WAITJ. -/
def State.waitj (s : State) (e : Nat) (d : BitVec 4) (id t : Nat) : State :=
  let w := s.jobWord id (engSrc e)
  if wordStatus w ≠ 1 ∨ t ≤ s.now then s.pSet e d w else s.waitOn e (.job id t d.toNat)

/-- WAITCH. -/
def State.waitch (s : State) (e : Nat) (d : BitVec 4) (ch t : Nat) : State :=
  if t ≤ s.now then s.pSet e d 0 else s.waitOn e (.chan ch t d.toNat)

/-- Has a wait's condition come? Then the value its register takes, if it has one. -/
def State.waitOver (s : State) (e : Nat) (w : WaitFor) : Option (Option (Nat × Nat)) :=
  match w with
  | .time t => if t ≤ s.now then some none else none
  | .windows => if (s.eng e).wins.isEmpty then some none else none
  | .job id t rd =>
    let v := s.jobWord id (engSrc e)
    if wordStatus v ≠ 1 ∨ t ≤ s.now then some (some (rd, v)) else none
  | .chan _ t rd =>
    if !(s.eng e).chSeen.isEmpty then some (some (rd, 1)) else if t ≤ s.now then some (some (rd, 0)) else none

/-- A wait whose condition has come ends: the time waited counts in PRB_STALL. -/
def State.waitEnd (s : State) (e : Nat) : State :=
  if s.engState e ≠ 2 then s
  else match (s.eng e).wait with
  | none => s
  | some w =>
    match s.waitOver e w with
    | none => s
    | some r =>
      let s := s.wr (R.PRB_STALL e) (s.stallOf e)
      let s := (s.setEng e { s.eng e with wait := none }).setF (F.PRB_STAT_STATE e) 1
      match r with
      | some x => (s.setP e x.1 x.2).goOn e
      | none => s.goOn e

/-! ### Cairns and hub registers (R218 to R220) -/

/-- A window access is issued. -/
def State.winIssue (s : State) (e : Nat) (w : WinAcc) : State := (s.winEnter e w).goOn e

/-- The Cairn ID in a register. -/
def State.pCairn (s : State) (e : Nat) (a : BitVec 4) : Nat := s.p e a.toNat % 4096

/-- CRD. -/
def State.crd (s : State) (e : Nat) (d a : BitVec 4) (off : Nat) : State :=
  if off % 4 ≠ 0 then s.engStop e stopAlign
  else s.winIssue e ⟨some d.toNat, s.pCairn e a, false, 0, off, false, 0, s.clk, 0, 0, none, false⟩

/-- CWR. -/
def State.cwr (s : State) (e : Nat) (d a : BitVec 4) (off : Nat) : State :=
  if off % 4 ≠ 0 then s.engStop e stopAlign
  else s.winIssue e ⟨none, s.pCairn e a, false, 0, off, false, s.p e d.toNat % 2 ^ 32, s.clk, 0, 0, none, false⟩

/-- Is a view address aligned for its width? -/
def viewAligned (wide : Bool) (a : Nat) : Bool := a % (if wide then 8 else 4) == 0

/-- VRD. -/
def State.vrd (s : State) (e : Nat) (d a : BitVec 4) (space addr : Nat) (wide : Bool) : State :=
  if !viewAligned wide addr then s.engStop e stopAlign
  else s.winIssue e ⟨some d.toNat, s.pCairn e a, true, space, addr, wide, 0, s.clk, 0, 0, none, false⟩

/-- VWR. -/
def State.vwr (s : State) (e : Nat) (d a : BitVec 4) (space addr : Nat) (wide : Bool) : State :=
  if !viewAligned wide addr then s.engStop e stopAlign
  else s.winIssue e ⟨none, s.pCairn e a, true, space, addr, wide, s.p e d.toNat, s.clk, 0, 0, none, false⟩

/-- The hub address of HRD and HWR. -/
def State.hubAddr (s : State) (e : Nat) (a : BitVec 4) (imm : BitVec 18) : Nat := (s.p e a.toNat + imm.toNat * 4) % 2 ^ 20

/-- HRD. -/
def State.hrd (s : State) (e : Nat) (d : BitVec 4) (addr : Nat) : State :=
  if addr % 4 ≠ 0 then s.engStop e stopAlign
  else let r := s.engHub e addr false 0; r.1.pSet e d r.2

/-- HWR. -/
def State.hwr (s : State) (e : Nat) (d : BitVec 4) (addr : Nat) : State :=
  if addr % 4 ≠ 0 then s.engStop e stopAlign
  else (s.engHub e addr true (s.p e d.toNat % 2 ^ 32)).1.goOn e

/-- ERRS. -/
def State.errs (s : State) (e : Nat) (d : BitVec 4) : State :=
  (s.wr (R.PRB_ACC_ERR e) 0).pSet e d (s.rd (R.PRB_ACC_ERR e))

/-! ### Actions (R224 to R230) -/

/-- TRIG. -/
def State.trig (s : State) (e ch : Nat) : State := (s.raiseCh ch (engSrc e)).goOn e

/-- The status word of CUT (R225). -/
def cutWord (out code : Nat) (clamped : Bool) (id : Nat) : Nat :=
  out + 256 * code + 4096 * b2n clamped + (if out < 2 then 65536 * id else 0)

/-- CUT with KIND 0 to 3. -/
def State.cutP (s : State) (e : Nat) (d a : BitVec 4) (kind : Nat) (abs xdev : Bool) : State :=
  let t := s.p e a.toNat
  let r := if xdev then s.xcutReq kind (engSrc e)
    else if abs then s.cutReqAt kind (engSrc e) t else s.cutReq kind (engSrc e)
  let clamped := abs && !xdev && kind != 3 && r.2.out == 0 && decide (t < s.minT)
  r.1.pSet e d (cutWord r.2.out r.2.code clamped (r.1.f F.SUM_CUT_STAT_CUT_ID))

/-- CUT with KIND STEP or STEP with TRIG_CLOSE. -/
def State.stepP (s : State) (e : Nat) (d a : BitVec 4) (abs trig : Bool) : State :=
  let t := s.p e a.toNat
  let r := if abs then s.stepReqAt (engSrc e) t trig else s.stepReq (engSrc e) false trig
  let out := if r.2 = 0 then 0 else 2
  r.1.pSet e d (cutWord out r.2 (abs && out == 0 && decide (t < s.minT)) r.1.stepNo)

/-- TRC: what pd receives of a request without effect is not stated (log entry 3). -/
def State.trcP (s : State) (e : Nat) (d a : BitVec 4) (start : Bool) : State :=
  let r := s.traceReq start (s.p e a.toNat % 65536) none (s.rd (R.PRB_RIGHTS_REC e)) (engSrc e)
  if r.2.1 = trNoEffect then let x := r.1.takeFree; x.2.pSet e d x.1 else r.1.pSet e d r.2.1

/-- DUMP: the code of R249, and for CUT_REFUSED the code of R118 in bits [11:8]. -/
def State.dumpP (s : State) (e : Nat) (d : BitVec 4) (prof : Nat) : State :=
  let r := s.dumpReq (engSrc e) prof
  r.1.pSet e d (r.2.1 + 2 ^ 8 * r.2.2)

/-- Do `n` words from `a` on lie in the engine's data window? -/
def State.dataArea (s : State) (e a n : Nat) : Bool :=
  decide (1 ≤ n) && decide (a + n ≤ 65536) && s.inData e a && s.inData e (a + n - 1)

/-- JOB (R208, R227, R299): the windows are checked before any refusal, that of a fifth job in flight included. -/
def State.jobP (s : State) (e : Nat) (d : BitVec 4) (a : Nat) (echo : Bool) : State :=
  if !(decide (a ≤ 0xFFFF) && s.inData e a) then s.engStop e stopDataRange
  else if s.pmBad a then s.pmUcStop e a
  else
    let w0 := s.pmWord a
    let n := descLen echo w0
    if !s.dataArea e a n then s.engStop e stopDataRange
    else match ((List.range n).map (a + ·)).find? s.pmBad with
    | some w => s.pmUcStop e w
    | none =>
      if !s.dataArea e (s.pmWord (a + 1) % 65536) (resultLen echo w0) then s.engStop e stopDataRange
      else if 4 ≤ s.jobsOut (engSrc e) then s.pSet e d (0xFF * 65536)
      else
        let r := s.jobReq echo (engSrc e) (s.rd (R.PRB_RIGHTS_REC e)) a
        r.1.pSet e d (r.2.1 + 65536 * r.2.2)

/-- LOG. -/
def State.logP (s : State) (e : Nat) (a b : BitVec 4) (talus tag : Nat) : State :=
  (s.raise .pitchLog (engSrc e) [.w tag, .w (s.pc e), .d (s.p e a.toNat), .d (s.p e b.toNat), .w talus]).goOn e

/-- FENCE (R229): the FENCE event follows FENCE_REQ once that is numbered; a refusal raises FENCE_REFUSED (11 R371). -/
def State.fenceP (s : State) (e : Nat) (d : BitVec 4) (id : Nat) : State :=
  let out := s.fenceOutcome id false
  let s := s.raise .fenceReq (engSrc e) [.w id, .w out]
  let s := if out = 0 then s.fenceMark id id fcPitch 0 false else if out = 3 then s.fenceRefuse id (engSrc e) false else s
  s.pSet e d out

/-- REMAP (R230). -/
def State.remapP (s : State) (e : Nat) (d : BitVec 4) (array spare : Nat) : State :=
  let r := s.remapReq array spare rcWatch 0
  (r.1.raise .remapReq (engSrc e) [.w array, .w spare, .w r.2.1, .w r.2.2]).pSet e d (r.2.1 + 65536 * r.2.2)

/-- KICK (R232). -/
def State.kick (s : State) (e : Nat) : State := (s.setEng e { s.eng e with kickT := s.clk }).goOn e

/-- HALT (R206): it retires, and the engine stops with its pc at it. -/
def State.haltP (s : State) (e arg : Nat) : State :=
  ((s.bump (R.PRB_RETIRED e)).setF (F.PRB_STAT_HALT_ARG e) arg).engStop e stopHalt

end Sys2Proof.Machine
end

