-- ==== Sys2Proof/Machine/PitchRows.lean ====
section
/-! DEFINITION. Machine/PitchRows.lean: the commands of the Pitch engines: one instruction each, issued by engine `e` when it stands at
its pc; starts, stops, the end of a wait, the loader registers and an engine's faults (07). -/

namespace Sys2Proof.Machine

open Host

/-! ### Engines and program memory -/

/-- PRB_START (R204). -/
def execPrbStart (m : Master) (e : Nat) (val : Word) (s : State) : Out := withEngine e (writeRow m (R.PRB_CTRL e) val s)

/-- PRB_STOP (R206). -/
def execPrbStop (m : Master) (e : Nat) (val : Word) (s : State) : Out := withEngine e (writeRow m (R.PRB_CTRL e) val s)

/-- PM_DATA_WRITE (R210). -/
def execPmDataWrite (m : Master) (e : Nat) (val : Word) (s : State) : Out := withEngine e (writeRow m (R.PRB_PM_DATA e) val s)

/-- PM_DATA_READ (R210). -/
def execPmDataRead (m : Master) (e : Nat) (s : State) : Out := withEngine e (onHub s fun s => s.masterRead m (R.PRB_PM_DATA e))

/-- WATCHDOG_EXPIRY (R232). -/
def execWatchdogExpiry (e : Nat) (s : State) : Out := withEngine e (onHub s fun s => s.wdogExpire e)

/-- RF_PARITY (R233). -/
def execRfParity (e : Nat) (s : State) : Out := withEngine e (onHub s fun s => s.rfParity e)

/-! ### Instructions -/

/-- ADD (R213). -/
def execAdd (e : Nat) (s : State) : Out :=
  pitch e s fun i => match i with | .alu .add d a b => some fun s => s.alu e .add d a b | _ => none

/-- SUB (R213). -/
def execSub (e : Nat) (s : State) : Out :=
  pitch e s fun i => match i with | .alu .sub d a b => some fun s => s.alu e .sub d a b | _ => none

/-- AND (R213). -/
def execIAnd (e : Nat) (s : State) : Out :=
  pitch e s fun i => match i with | .alu .and_ d a b => some fun s => s.alu e .and_ d a b | _ => none

/-- OR (R213). -/
def execIOr (e : Nat) (s : State) : Out :=
  pitch e s fun i => match i with | .alu .or_ d a b => some fun s => s.alu e .or_ d a b | _ => none

/-- XOR (R213). -/
def execXor (e : Nat) (s : State) : Out :=
  pitch e s fun i => match i with | .alu .xor d a b => some fun s => s.alu e .xor d a b | _ => none

/-- SHL (R213). -/
def execShl (e : Nat) (s : State) : Out :=
  pitch e s fun i => match i with | .alu .shl d a b => some fun s => s.alu e .shl d a b | _ => none

/-- SHR (R213). -/
def execShr (e : Nat) (s : State) : Out :=
  pitch e s fun i => match i with | .alu .shr d a b => some fun s => s.alu e .shr d a b | _ => none

/-- MUL (R213). -/
def execMul (e : Nat) (s : State) : Out :=
  pitch e s fun i => match i with | .alu .mul d a b => some fun s => s.alu e .mul d a b | _ => none

/-- MINU (R213). -/
def execMinu (e : Nat) (s : State) : Out :=
  pitch e s fun i => match i with | .alu .minu d a b => some fun s => s.alu e .minu d a b | _ => none

/-- MAXU (R213). -/
def execMaxu (e : Nat) (s : State) : Out :=
  pitch e s fun i => match i with | .alu .maxu d a b => some fun s => s.alu e .maxu d a b | _ => none

/-- ADDI (R213). -/
def execAddi (e : Nat) (s : State) : Out :=
  pitch e s fun i => match i with | .addi d a imm => some fun s => s.pSet e d (s.addr e a imm) | _ => none

/-- ANDI (R213). -/
def execAndi (e : Nat) (s : State) : Out :=
  pitch e s fun i => match i with | .andi d a imm => some fun s => s.pSet e d (Nat.land (s.p e a.toNat) imm.toNat) | _ => none

/-- MOVI (R213). -/
def execMovi (e : Nat) (s : State) : Out :=
  pitch e s fun i => match i with | .movi d imm => some fun s => s.pSet e d (imm.signExtend 64).toNat | _ => none

/-- LDM (R214). -/
def execLdm (e : Nat) (s : State) : Out :=
  pitch e s fun i => match i with | .ldm d a imm => some fun s => s.ldm e d (s.addr e a imm) | _ => none

/-- STM (R214). -/
def execStm (e : Nat) (s : State) : Out :=
  pitch e s fun i => match i with | .stm d a imm => some fun s => s.stm e d (s.addr e a imm) | _ => none

/-- AADD (R213). -/
def execAadd (e : Nat) (s : State) : Out :=
  pitch e s fun i => match i with | .aadd d a b => some fun s => s.aadd e d b (s.p e a.toNat) | _ => none

/-- BEQ (R214). -/
def execBeq (e : Nat) (s : State) : Out :=
  pitch e s fun i => match i with | .br .beq a b off => some fun s => s.br e .beq a b off | _ => none

/-- BNE (R214). -/
def execBne (e : Nat) (s : State) : Out :=
  pitch e s fun i => match i with | .br .bne a b off => some fun s => s.br e .bne a b off | _ => none

/-- BLTU (R214). -/
def execBltu (e : Nat) (s : State) : Out :=
  pitch e s fun i => match i with | .br .bltu a b off => some fun s => s.br e .bltu a b off | _ => none

/-- BGEU (R214). -/
def execBgeu (e : Nat) (s : State) : Out :=
  pitch e s fun i => match i with | .br .bgeu a b off => some fun s => s.br e .bgeu a b off | _ => none

/-- BEQI (R214). -/
def execBeqi (e : Nat) (s : State) : Out :=
  pitch e s fun i => match i with | .bri .beqi a imm off => some fun s => s.bri e .beqi a imm off | _ => none

/-- BNEI (R214). -/
def execBnei (e : Nat) (s : State) : Out :=
  pitch e s fun i => match i with | .bri .bnei a imm off => some fun s => s.bri e .bnei a imm off | _ => none

/-- BLTUI (R214). -/
def execBltui (e : Nat) (s : State) : Out :=
  pitch e s fun i => match i with | .bri .bltui a imm off => some fun s => s.bri e .bltui a imm off | _ => none

/-- JAL (R214). -/
def execJal (e : Nat) (s : State) : Out :=
  pitch e s fun i => match i with | .jal d nolink target => some fun s => s.jal e d nolink target | _ => none

/-- JR (R213). -/
def execJr (e : Nat) (s : State) : Out :=
  pitch e s fun i => match i with | .jr a => some fun s => s.retireTo e (s.p e a.toNat) | _ => none

/-- TIME (R221). -/
def execTime (e : Nat) (s : State) : Out :=
  pitch e s fun i => match i with | .time d => some fun s => s.pSet e d s.now | _ => none

/-- WAITT (R214). -/
def execWaitt (e : Nat) (s : State) : Out :=
  pitch e s fun i => match i with | .waitt a imm => some fun s => s.waitt e (s.addr e a imm) | _ => none

/-- WAITW (R221). -/
def execWaitw (e : Nat) (s : State) : Out :=
  pitch e s fun i => match i with | .waitw => some fun s => s.waitw e | _ => none

/-- WAITJ (R223). -/
def execWaitj (e : Nat) (s : State) : Out :=
  pitch e s fun i => match i with | .waitj d a b => some fun s => s.waitj e d (s.p e a.toNat % 65536) (s.p e b.toNat) | _ => none

/-- WAITCH (R222). -/
def execWaitch (e : Nat) (s : State) : Out :=
  pitch e s fun i => match i with | .waitch d a ch => some fun s => s.waitch e d ch.toNat (s.p e a.toNat) | _ => none

/-- WAIT_END (R221). -/
def execWaitEnd (e : Nat) (s : State) : Out := withEngine e (onHub s fun s => s.waitEnd e)

/-- CRD (R218). -/
def execCrd (e : Nat) (s : State) : Out :=
  pitch e s fun i => match i with | .crd d a off => some fun s => s.crd e d a off.toNat | _ => none

/-- CWR (R218). -/
def execCwr (e : Nat) (s : State) : Out :=
  pitch e s fun i => match i with | .cwr d a off => some fun s => s.cwr e d a off.toNat | _ => none

/-- VRD (R218). -/
def execVrd (e : Nat) (s : State) : Out :=
  pitch e s fun i => match i with | .vrd d a b space wide => some fun s => s.vrd e d a space.toNat (s.p e b.toNat) (wide == 1) | _ => none

/-- VWR (R218). -/
def execVwr (e : Nat) (s : State) : Out :=
  pitch e s fun i => match i with | .vwr d a b space wide => some fun s => s.vwr e d a space.toNat (s.p e b.toNat) (wide == 1) | _ => none

/-- ERRS (R220). -/
def execErrs (e : Nat) (s : State) : Out :=
  pitch e s fun i => match i with | .errs d => some fun s => s.errs e d | _ => none

/-- HRD (R219). -/
def execHrd (e : Nat) (s : State) : Out :=
  pitch e s fun i => match i with | .hrd d a imm => some fun s => s.hrd e d (s.hubAddr e a imm) | _ => none

/-- HWR (R219). -/
def execHwr (e : Nat) (s : State) : Out :=
  pitch e s fun i => match i with | .hwr d a imm => some fun s => s.hwr e d (s.hubAddr e a imm) | _ => none

/-- TRIG (R224). -/
def execTrig (e : Nat) (s : State) : Out :=
  pitch e s fun i => match i with | .trig ch => some fun s => s.trig e ch.toNat | _ => none

/-- CUT_STOP (R225). -/
def execCutStop (e : Nat) (s : State) : Out :=
  pitch e s fun i => match i with | .cut d a 0 abs xdev => some fun s => s.cutP e d a 0 (abs == 1) (xdev == 1) | _ => none

/-- CUT_GLANCE (R225). -/
def execCutGlance (e : Nat) (s : State) : Out :=
  pitch e s fun i => match i with | .cut d a 1 abs xdev => some fun s => s.cutP e d a 1 (abs == 1) (xdev == 1) | _ => none

/-- CUT_RESUME (R225). -/
def execCutResume (e : Nat) (s : State) : Out :=
  pitch e s fun i => match i with | .cut d a 2 abs xdev => some fun s => s.cutP e d a 2 (abs == 1) (xdev == 1) | _ => none

/-- CUT_ABANDON (R225). -/
def execCutAbandon (e : Nat) (s : State) : Out :=
  pitch e s fun i => match i with | .cut d a 3 abs xdev => some fun s => s.cutP e d a 3 (abs == 1) (xdev == 1) | _ => none

/-- CUT_STEP (R225). -/
def execCutStep (e : Nat) (s : State) : Out :=
  pitch e s fun i => match i with | .cut d a 4 abs _ => some fun s => s.stepP e d a (abs == 1) false | _ => none

/-- CUT_STEP_TRIG_CLOSE (R225). -/
def execCutStepTrigClose (e : Nat) (s : State) : Out :=
  pitch e s fun i => match i with | .cut d a 5 abs _ => some fun s => s.stepP e d a (abs == 1) true | _ => none

/-- TRC_START (R226). -/
def execTrcStart (e : Nat) (s : State) : Out :=
  pitch e s fun i => match i with | .trc d a 0 => some fun s => s.trcP e d a true | _ => none

/-- TRC_STOP (R226). -/
def execTrcStop (e : Nat) (s : State) : Out :=
  pitch e s fun i => match i with | .trc d a 1 => some fun s => s.trcP e d a false | _ => none

/-- DUMP (R226). -/
def execDump (e : Nat) (s : State) : Out :=
  pitch e s fun i => match i with | .dump d prof => some fun s => s.dumpP e d prof.toNat | _ => none

/-- JOB_CENSUS (R227). -/
def execJobCensus (e : Nat) (s : State) : Out :=
  pitch e s fun i => match i with | .job d a 0 => some fun s => s.jobP e d (s.p e a.toNat) false | _ => none

/-- JOB_ECHO (R227). -/
def execJobEcho (e : Nat) (s : State) : Out :=
  pitch e s fun i => match i with | .job d a 1 => some fun s => s.jobP e d (s.p e a.toNat) true | _ => none

/-- LOG (R228). -/
def execLog (e : Nat) (s : State) : Out :=
  pitch e s fun i => match i with | .log a b talus tag => some fun s => s.logP e a b talus.toNat tag.toNat | _ => none

/-- FENCE (R229). -/
def execFence (e : Nat) (s : State) : Out :=
  pitch e s fun i => match i with | .fence d a => some fun s => s.fenceP e d (s.pCairn e a) | _ => none

/-- REMAP (R230). -/
def execRemap (e : Nat) (s : State) : Out :=
  pitch e s fun i => match i with | .remap d a b => some fun s => s.remapP e d (s.pCairn e a) (s.pCairn e b) | _ => none

/-- KICK (R232). -/
def execKick (e : Nat) (s : State) : Out :=
  pitch e s fun i => match i with | .kick => some fun s => s.kick e | _ => none

/-- HALT (R206). -/
def execHalt (e : Nat) (s : State) : Out :=
  pitch e s fun i => match i with | .halt arg => some fun s => s.haltP e arg.toNat | _ => none

end Sys2Proof.Machine
end

