-- ==== Sys2Proof/Machine/ResetRows.lean ====
section
/-! DEFINITION. Machine/ResetRows.lean: the commands of power-up, start-up, the resets and the hub's power states (16). -/

namespace Sys2Proof.Machine

open Host

/-- VDD_HUB_POWER_UP (R501). -/
def execVddHubPowerUp (s : State) : Out := .next s.hubOn

/-- PLL_LOCK (R502). -/
def execPllLock (s : State) : Out := onHub s State.pllLock

/-- STARTUP_PHASE_DONE (R502): `self0` and `self1` say that a Spur passes its self-check, `uc` lists slots of the ledger that read
back with an uncorrectable word. -/
def execStartupPhaseDone (self0 self1 : Bool) (uc : List Nat) (s : State) : Out := onHub s fun s => s.startPhase self0 self1 uc

/-- VDD_HUB_LOSS (R492, R505): of an OTP write under way `done` words are set, and of the next the bits of `mask`. -/
def execVddHubLoss (done mask : Nat) (s : State) : Out := .next (if s.rst.on then s.hubOff done mask else s)

/-- CHIP_WARM_RESET (R499). -/
def execChipWarmReset (s : State) : Out := onHub s fun s => s.warmReset.remapSettle

/-- BMU_READY (R500). -/
def execBmuReady (s : State) : Out := onHub s State.bmuReady

/-- SOFT_RESET_REQUEST (R493). -/
def execSoftResetRequest (m : Master) (val : Word) (s : State) : Out := writeRow m R.SUM_RST_CMD val s

/-- SOFT_RESET_APPLY (R497). -/
def execSoftResetApply (s : State) : Out := onHub s State.softApply

/-- SOFT_RESET_DONE (R497). -/
def execSoftResetDone (self0 self1 : Bool) (s : State) : Out := onHub s fun s => s.softDone self0 self1

/-- HUB_IDLE (R504). -/
def execHubIdle (s : State) : Out := onHub s State.hubIdle

end Sys2Proof.Machine
end

