-- ==== Sys2Proof/Machine/TraceRows.lean ====
section
/-! DEFINITION. Machine/TraceRows.lean: the commands of Scree, the trace stream (10). -/

namespace Sys2Proof.Machine

open Host

/-- SCR_CMD_START (R327). -/
def execScrCmdStart (m : Master) (val : Word) (s : State) : Out := writeRow m R.SCR_CMD val s

/-- SCR_CMD_STOP (R327). -/
def execScrCmdStop (m : Master) (val : Word) (s : State) : Out := writeRow m R.SCR_CMD val s

/-- TRACE_ACTION_EFFECT (R327). -/
def execTraceActionEffect (s : State) : Out := onHub s State.traceEffect

/-- PACKET_WRITE (R329). -/
def execPacketWrite (s : State) : Out := onHub s fun s => s.writeOne false

/-- SYNC_TIMER (R331). -/
def execSyncTimer (s : State) : Out := onHub s State.syncTimer

/-- FLOW_PACKET (R337): a running general core retires an instruction that the trace may show. -/
def execFlowPacket (cairn pc n : Nat) (transfer : Bool) (target : Nat) (exc : Bool) (leaf : Nat) (s : State) : Out :=
  atKind [2] cairn s fun s => if (s.cairn cairn).frozen || !s.leafShows cairn leaf then s else (s.unitRuns cairn).flowRetire cairn pc n transfer target exc leaf

/-- LOSS (R338). -/
def execLoss (cairn leaf : Nat) (s : State) : Out := atKind [2] cairn s fun s => if s.leafShows cairn leaf then s.flowLoss cairn leaf else s

/-- BLOCK_PAD_TIMEOUT (R341). -/
def execBlockPadTimeout (s : State) : Out := onHub s State.padTimeout

/-- SPILL_BLOCK_WRITE (R342). -/
def execSpillBlockWrite (s : State) : Out := onHub s State.spill

/-- SPILL_INTRUDE (R342): the write is discarded. -/
def execSpillIntrude (addr : Nat) (s : State) : Out :=
  onHub s fun s => if decide (addr < memTop) && s.inRing addr then s.hubFault 0x0B 2 else s

/-- SCR_MARK (R335). -/
def execScrMark (m : Master) (val : Word) (s : State) : Out := writeRow m R.SCR_MARK val s

/-- CLEAR (R348). -/
def execClear (m : Master) (val : Word) (s : State) : Out := writeRow m R.SCR_CTRL val s

/-- SCR_DRAIN_START (R344). -/
def execScrDrainStart (m : Master) (val : Word) (s : State) : Out := writeRow m R.SCR_DRAIN_CTRL val s

/-- SCR_DRAIN_STOP (R344). -/
def execScrDrainStop (m : Master) (val : Word) (s : State) : Out := writeRow m R.SCR_DRAIN_CTRL val s

/-- SCR_DRAIN_ACK (R344). -/
def execScrDrainAck (m : Master) (val : Word) (s : State) : Out := writeRow m R.SCR_DRAIN_ACK val s

/-- TRACE_DRAIN_SEND (R344). -/
def execTraceDrainSend (s : State) : Out := onHub s State.traceSend

/-- BUF_UC (R349). -/
def execBufUc (block : Nat) (s : State) : Out := onHub s fun s => s.bufUc block

end Sys2Proof.Machine
end

