-- ==== Sys2Proof/Machine/WatchRows.lean ====
section
/-! DEFINITION. Machine/WatchRows.lean: the commands of the watch function: lag blocks, remaps, the trace governor, droop, voltage and
frequency, the power model, expert dispatch (12). -/

namespace Sys2Proof.Machine

open Host

/-- A happening at a core. -/
def atCore (core : Nat) (s : State) (k : State → State) : Out := if core < 8 then onHub s k else .fault .noSuchPart

/-- A happening in a powered unit of one of the kinds listed; while the unit is frozen none passes (04 R109). -/
def inUnit (kinds : List Nat) (id : Nat) (s : State) (k : State → State) : Out :=
  atKind kinds id s fun s => if (s.cairn id).frozen then s else k s

/-- LAG_BLOCK (R385 to R387): a block that a serving Spur delivers: of each of its 256 operations the issue edge and the 128 positions' last
edges, which the monitor turns into array times, lags and the median base; `mixed` names the positions that more than one array served in the block. The engine's
positions beyond threshold count in Talus (13 R411). -/
def execLagBlock (core : Nat) (issues : List Nat) (writes : List (List Nat)) (mixed : List Nat) (s : State) : Out :=
  let times := arrayTimes issues writes
  atCore core s fun s =>
    if s.engineFenced core || !s.reachable (arrayId core 0) then s
    else
      let s := s.lagBlock core (blockBase times) ((List.range 128).map (blockLag times)) mixed
      s.talLag core ((List.range 128).filter (s.beyond core))

/-- REMAP_CMD (R389). -/
def execRemapCmd (m : Master) (val : Word) (s : State) : Out := writeRow m R.WCH_REMAP_CMD val s

/-- REMAP_BOUNDARY (R390). -/
def execRemapBoundary (core : Nat) (s : State) : Out := atCore core s fun s => s.remapBoundary core

/-- REMAP_GATE_OPEN (R390). -/
def execRemapGateOpen (core : Nat) (s : State) : Out := atCore core s fun s => (s.gateOpen core).remapSettle

/-- UNMAP (R392). -/
def execUnmap (m : Master) (val : Word) (s : State) : Out := writeRow m R.WCH_UNMAP val s

/-- TFIT_WINDOW (R394, R395): a window of 250,000 tk ends. -/
def execTfitWindow (s : State) : Out := onHub s fun s => if s.wch.winT + 250000 ≤ s.clk then s.tfEnd else s

/-- DROOP_ENTER (R397): the responders run on while the controller's unit is frozen (04 R110). -/
def execDroopEnter (cairn kind mv mhz : Nat) (s : State) : Out := atKind [7] cairn s fun s => s.droopEnter cairn kind mv mhz

/-- DROOP_EXIT (R397): as DROOP_ENTER. -/
def execDroopExit (cairn stretched bubbles : Nat) (s : State) : Out :=
  atKind [7] cairn s fun s => s.droopExit cairn stretched bubbles

/-- VF_REQ (R397). -/
def execVfReq (cairn kind target : Nat) (s : State) : Out := inUnit [7] cairn s fun s => s.vfReq cairn (kind % 2) target

/-- VF_CHANGE_START (R397). -/
def execVfChangeStart (cairn : Nat) (s : State) : Out := inUnit [7] cairn s fun s => s.vfStart cairn

/-- VF_DONE (R404): generators and regulators complete a change while the controller's unit is frozen (04 R110, R137). -/
def execVfDone (cairn : Nat) (s : State) : Out := atKind [7] cairn s fun s => s.vfDone cairn

/-- PM_INTERVAL (R399). -/
def execPmInterval (cairn est meas limit : Nat) (s : State) : Out :=
  inUnit [7] cairn s fun s => s.pmInterval cairn est meas limit

/-- DISPATCH_CASE (R401): `what` 0 tie, 1 overflow, 2 skip, 3 duplicate, 4 stale return. -/
def execDispatchCase (cairn what tag expert : Nat) (s : State) : Out :=
  inUnit [3] cairn s fun s => s.dispCase cairn what tag expert

/-- DISPATCH_SUMMARY (R402). -/
def execDispatchSummary (cairn : Nat) (s : State) : Out := inUnit [3] cairn s fun s => s.dispSummary cairn

/-- BATCH_CANCEL (R403). -/
def execBatchCancel (cairn old new tenant ctx : Nat) (s : State) : Out :=
  inUnit [3] cairn s fun s => s.batchCancel cairn old new tenant ctx

end Sys2Proof.Machine
end

