-- ==== Sys2Proof/Machine/Dispatch.lean ====
section
/-! DEFINITION. Machine/Dispatch.lean: every command and its meaning. -/

namespace Sys2Proof.Machine

open Host

def exec (i : Instr) (s : State) : Host.Outcome State Fault Refusal :=
  match i with
  | .class1Report cairn leaf u => Sys2Proof.Machine.execClass1Report cairn leaf u s
  | .summitAck cairn => Sys2Proof.Machine.execSummitAck cairn s
  | .mirrorUpdate spur => Sys2Proof.Machine.execMirrorUpdate spur s
  | .livenessFlit spur => Sys2Proof.Machine.execLivenessFlit spur s
  | .spurLivenessTimeout spur selfCheck => Sys2Proof.Machine.execSpurLivenessTimeout spur selfCheck s
  | .forceSpurLoss m val => Sys2Proof.Machine.execForceSpurLoss m val s
  | .colLaneFail group => Sys2Proof.Machine.execColLaneFail group s
  | .registerWrite m addr width val => Sys2Proof.Machine.execRegisterWrite m addr width val s
  | .readClear m addr => Sys2Proof.Machine.execReadClear m addr s
  | .apertureAccess m addr width write val => Sys2Proof.Machine.execApertureAccess m addr width write val s
  | .apertureAnswer m => Sys2Proof.Machine.execApertureAnswer m s
  | .apertureTimeout m => Sys2Proof.Machine.execApertureTimeout m s
  | .exclAcquire m val => Sys2Proof.Machine.execExclAcquire m val s
  | .exclRelease m val => Sys2Proof.Machine.execExclRelease m val s
  | .hostReq m val => Sys2Proof.Machine.execHostReq m val s
  | .tsyncEpoch high low edge lE start frame => Sys2Proof.Machine.execTsyncEpoch high low edge lE start frame s
  | .reload m val => Sys2Proof.Machine.execReload m val s
  | .calSweep m val => Sys2Proof.Machine.execCalSweep m val s
  | .calSlot spur trip xing => Sys2Proof.Machine.execCalSlot spur trip xing s
  | .leafLoad load => Sys2Proof.Machine.execLeafLoad load s
  | .domainPowerUp cairns => Sys2Proof.Machine.execDomainPowerUp cairns s
  | .domainPowerDown cairns => Sys2Proof.Machine.execDomainPowerDown cairns s
  | .scheduledActionEffect cairn leaf => Sys2Proof.Machine.execScheduledActionEffect cairn leaf s
  | .channelRaise raise => Sys2Proof.Machine.execChannelRaise raise s
  | .cutCmdStop m val => Sys2Proof.Machine.execCutCmdStop m val s
  | .cutCmdGlance m val => Sys2Proof.Machine.execCutCmdGlance m val s
  | .cutCmdResume m val => Sys2Proof.Machine.execCutCmdResume m val s
  | .cutCmdAbandon m val => Sys2Proof.Machine.execCutCmdAbandon m val s
  | .cutCmdXdev m val => Sys2Proof.Machine.execCutCmdXdev m val s
  | .cutMessage cairn msg leaf => Sys2Proof.Machine.execCutMessage cairn msg leaf s
  | .cutEdge reps => Sys2Proof.Machine.execCutEdge reps s
  | .spurCutAggregate spur => Sys2Proof.Machine.execSpurCutAggregate spur s
  | .cutReportTimeout cairn => Sys2Proof.Machine.execCutReportTimeout cairn s
  | .resumeEdge reps => Sys2Proof.Machine.execResumeEdge reps s
  | .releaseAggregate spur => Sys2Proof.Machine.execReleaseAggregate spur s
  | .shadowDrain cairn => Sys2Proof.Machine.execShadowDrain cairn s
  | .divertedWrite cairn page addr bytes => Sys2Proof.Machine.execDivertedWrite cairn page addr bytes s
  | .pageCopyDone cairn page => Sys2Proof.Machine.execPageCopyDone cairn page s
  | .xcutReceive kind t => Sys2Proof.Machine.execXcutReceive kind t s
  | .xcutAnswer hub code => Sys2Proof.Machine.execXcutAnswer hub code s
  | .stepGo m val => Sys2Proof.Machine.execStepGo m val s
  | .stepMessage cairn msg leaf => Sys2Proof.Machine.execStepMessage cairn msg leaf s
  | .stepReleaseEdge reps => Sys2Proof.Machine.execStepReleaseEdge reps s
  | .stepReportTimeout cairn => Sys2Proof.Machine.execStepReportTimeout cairn s
  | .stepUnitComplete cairns net leaf => Sys2Proof.Machine.execStepUnitComplete cairns net leaf s
  | .stepAggregate spur => Sys2Proof.Machine.execStepAggregate spur s
  | .stepFreezeEdge reps => Sys2Proof.Machine.execStepFreezeEdge reps s
  | .freezeAggregate spur => Sys2Proof.Machine.execFreezeAggregate spur s
  | .viewRead m addr => Sys2Proof.Machine.execViewRead m addr s
  | .viewDeposit m addr val => Sys2Proof.Machine.execViewDeposit m addr val s
  | .cairnRaise cairn out => Sys2Proof.Machine.execCairnRaise cairn out s
  | .xtrig m val => Sys2Proof.Machine.execXtrig m val s
  | .run m val => Sys2Proof.Machine.execRun m val s
  | .saCancel m val => Sys2Proof.Machine.execSaCancel m val s
  | .prbStart m e val => Sys2Proof.Machine.execPrbStart m e val s
  | .prbStop m e val => Sys2Proof.Machine.execPrbStop m e val s
  | .pmDataWrite m e val => Sys2Proof.Machine.execPmDataWrite m e val s
  | .pmDataRead m e => Sys2Proof.Machine.execPmDataRead m e s
  | .add e => Sys2Proof.Machine.execAdd e s
  | .sub e => Sys2Proof.Machine.execSub e s
  | .iAnd e => Sys2Proof.Machine.execIAnd e s
  | .iOr e => Sys2Proof.Machine.execIOr e s
  | .xor e => Sys2Proof.Machine.execXor e s
  | .shl e => Sys2Proof.Machine.execShl e s
  | .shr e => Sys2Proof.Machine.execShr e s
  | .mul e => Sys2Proof.Machine.execMul e s
  | .minu e => Sys2Proof.Machine.execMinu e s
  | .maxu e => Sys2Proof.Machine.execMaxu e s
  | .addi e => Sys2Proof.Machine.execAddi e s
  | .andi e => Sys2Proof.Machine.execAndi e s
  | .movi e => Sys2Proof.Machine.execMovi e s
  | .ldm e => Sys2Proof.Machine.execLdm e s
  | .stm e => Sys2Proof.Machine.execStm e s
  | .aadd e => Sys2Proof.Machine.execAadd e s
  | .beq e => Sys2Proof.Machine.execBeq e s
  | .bne e => Sys2Proof.Machine.execBne e s
  | .bltu e => Sys2Proof.Machine.execBltu e s
  | .bgeu e => Sys2Proof.Machine.execBgeu e s
  | .beqi e => Sys2Proof.Machine.execBeqi e s
  | .bnei e => Sys2Proof.Machine.execBnei e s
  | .bltui e => Sys2Proof.Machine.execBltui e s
  | .jal e => Sys2Proof.Machine.execJal e s
  | .jr e => Sys2Proof.Machine.execJr e s
  | .time e => Sys2Proof.Machine.execTime e s
  | .waitt e => Sys2Proof.Machine.execWaitt e s
  | .waitw e => Sys2Proof.Machine.execWaitw e s
  | .waitj e => Sys2Proof.Machine.execWaitj e s
  | .waitch e => Sys2Proof.Machine.execWaitch e s
  | .waitEnd e => Sys2Proof.Machine.execWaitEnd e s
  | .crd e => Sys2Proof.Machine.execCrd e s
  | .cwr e => Sys2Proof.Machine.execCwr e s
  | .vrd e => Sys2Proof.Machine.execVrd e s
  | .vwr e => Sys2Proof.Machine.execVwr e s
  | .errs e => Sys2Proof.Machine.execErrs e s
  | .hrd e => Sys2Proof.Machine.execHrd e s
  | .hwr e => Sys2Proof.Machine.execHwr e s
  | .trig e => Sys2Proof.Machine.execTrig e s
  | .cutStop e => Sys2Proof.Machine.execCutStop e s
  | .cutGlance e => Sys2Proof.Machine.execCutGlance e s
  | .cutResume e => Sys2Proof.Machine.execCutResume e s
  | .cutAbandon e => Sys2Proof.Machine.execCutAbandon e s
  | .cutStep e => Sys2Proof.Machine.execCutStep e s
  | .cutStepTrigClose e => Sys2Proof.Machine.execCutStepTrigClose e s
  | .trcStart e => Sys2Proof.Machine.execTrcStart e s
  | .trcStop e => Sys2Proof.Machine.execTrcStop e s
  | .dump e => Sys2Proof.Machine.execDump e s
  | .jobCensus e => Sys2Proof.Machine.execJobCensus e s
  | .jobEcho e => Sys2Proof.Machine.execJobEcho e s
  | .log e => Sys2Proof.Machine.execLog e s
  | .fence e => Sys2Proof.Machine.execFence e s
  | .remap e => Sys2Proof.Machine.execRemap e s
  | .kick e => Sys2Proof.Machine.execKick e s
  | .halt e => Sys2Proof.Machine.execHalt e s
  | .watchdogExpiry e => Sys2Proof.Machine.execWatchdogExpiry e s
  | .rfParity e => Sys2Proof.Machine.execRfParity e s
  | .couEnable m val => Sys2Proof.Machine.execCouEnable m val s
  | .ccIntrude addr => Sys2Proof.Machine.execCcIntrude addr s
  | .dumpGo m val => Sys2Proof.Machine.execDumpGo m val s
  | .shadowLoad reps => Sys2Proof.Machine.execShadowLoad reps s
  | .bmuPageWrite half ord uc ce => Sys2Proof.Machine.execBmuPageWrite half ord uc ce s
  | .linkRecord blk dev peer rx => Sys2Proof.Machine.execLinkRecord blk dev peer rx s
  | .linkTimeout blk => Sys2Proof.Machine.execLinkTimeout blk s
  | .drainStart m val => Sys2Proof.Machine.execDrainStart m val s
  | .drainStop m val => Sys2Proof.Machine.execDrainStop m val s
  | .drainAck m val => Sys2Proof.Machine.execDrainAck m val s
  | .dumpDrainSend uc => Sys2Proof.Machine.execDumpDrainSend uc s
  | .couRelease m val => Sys2Proof.Machine.execCouRelease m val s
  | .slotFree slot => Sys2Proof.Machine.execSlotFree slot s
  | .autoArm m val => Sys2Proof.Machine.execAutoArm m val s
  | .abort m val => Sys2Proof.Machine.execAbort m val s
  | .cenSubmit m val => Sys2Proof.Machine.execCenSubmit m val s
  | .echSubmit m val => Sys2Proof.Machine.execEchSubmit m val s
  | .cenAbort m val => Sys2Proof.Machine.execCenAbort m val s
  | .echAbort m val => Sys2Proof.Machine.execEchAbort m val s
  | .censusJobDone job secPages => Sys2Proof.Machine.execCensusJobDone job secPages s
  | .echoCaptureComplete job last leaf out => Sys2Proof.Machine.execEchoCaptureComplete job last leaf out s
  | .echoReplayDone job spare out => Sys2Proof.Machine.execEchoReplayDone job spare out s
  | .echoCompareDone job => Sys2Proof.Machine.execEchoCompareDone job s
  | .echoTimeout job => Sys2Proof.Machine.execEchoTimeout job s
  | .storeUc core => Sys2Proof.Machine.execStoreUc core s
  | .scrCmdStart m val => Sys2Proof.Machine.execScrCmdStart m val s
  | .scrCmdStop m val => Sys2Proof.Machine.execScrCmdStop m val s
  | .flowPacket cairn pc n transfer target exc leaf => Sys2Proof.Machine.execFlowPacket cairn pc n transfer target exc leaf s
  | .loss cairn leaf => Sys2Proof.Machine.execLoss cairn leaf s
  | .spillIntrude addr => Sys2Proof.Machine.execSpillIntrude addr s
  | .scrMark m val => Sys2Proof.Machine.execScrMark m val s
  | .clear m val => Sys2Proof.Machine.execClear m val s
  | .scrDrainStart m val => Sys2Proof.Machine.execScrDrainStart m val s
  | .scrDrainStop m val => Sys2Proof.Machine.execScrDrainStop m val s
  | .scrDrainAck m val => Sys2Proof.Machine.execScrDrainAck m val s
  | .bufUc block => Sys2Proof.Machine.execBufUc block s
  | .faultDetect onCairn page bit tenant ctx detail detail2 => Sys2Proof.Machine.execFaultDetect onCairn page bit tenant ctx detail detail2 s
  | .ceCoalesceTimer cairn bit => Sys2Proof.Machine.execCeCoalesceTimer cairn bit s
  | .fltForce m addr val => Sys2Proof.Machine.execFltForce m addr val s
  | .fltPageAck m addr val => Sys2Proof.Machine.execFltPageAck m addr val s
  | .fltAckUc m val => Sys2Proof.Machine.execFltAckUc m val s
  | .fltAckCe m val => Sys2Proof.Machine.execFltAckCe m val s
  | .ceRd m val => Sys2Proof.Machine.execCeRd m val s
  | .sigMonCheck seqr ok => Sys2Proof.Machine.execSigMonCheck seqr ok s
  | .sigMonTimeout seqr => Sys2Proof.Machine.execSigMonTimeout seqr s
  | .fenceCmd m val => Sys2Proof.Machine.execFenceCmd m val s
  | .fenceOrder cairn => Sys2Proof.Machine.execFenceOrder cairn s
  | .fenceDone cairn drain => Sys2Proof.Machine.execFenceDone cairn drain s
  | .fenceStuck cairn => Sys2Proof.Machine.execFenceStuck cairn s
  | .unfence m val => Sys2Proof.Machine.execUnfence m val s
  | .lagBlock core issues writes mixed => Sys2Proof.Machine.execLagBlock core issues writes mixed s
  | .remapCmd m val => Sys2Proof.Machine.execRemapCmd m val s
  | .remapBoundary core => Sys2Proof.Machine.execRemapBoundary core s
  | .remapGateOpen core => Sys2Proof.Machine.execRemapGateOpen core s
  | .unmap m val => Sys2Proof.Machine.execUnmap m val s
  | .droopEnter cairn kind mv mhz => Sys2Proof.Machine.execDroopEnter cairn kind mv mhz s
  | .droopExit cairn stretched bubbles => Sys2Proof.Machine.execDroopExit cairn stretched bubbles s
  | .vfReq cairn kind target => Sys2Proof.Machine.execVfReq cairn kind target s
  | .vfChangeStart cairn => Sys2Proof.Machine.execVfChangeStart cairn s
  | .vfDone cairn => Sys2Proof.Machine.execVfDone cairn s
  | .pmInterval cairn est meas limit => Sys2Proof.Machine.execPmInterval cairn est meas limit s
  | .dispatchCase cairn what tag expert => Sys2Proof.Machine.execDispatchCase cairn what tag expert s
  | .dispatchSummary cairn => Sys2Proof.Machine.execDispatchSummary cairn s
  | .batchCancel cairn old new tenant ctx => Sys2Proof.Machine.execBatchCancel cairn old new tenant ctx s
  | .talusSample regs => Sys2Proof.Machine.execTalusSample regs s
  | .talCommit m val => Sys2Proof.Machine.execTalCommit m val s
  | .talusCommitVerify ok => Sys2Proof.Machine.execTalusCommitVerify ok s
  | .talSnap m val => Sys2Proof.Machine.execTalSnap m val s
  | .talTrack m val => Sys2Proof.Machine.execTalTrack m val s
  | .talClear m val => Sys2Proof.Machine.execTalClear m val s
  | .lcyTransition m val => Sys2Proof.Machine.execLcyTransition m val s
  | .lcyProvision m val => Sys2Proof.Machine.execLcyProvision m val s
  | .cert m val => Sys2Proof.Machine.execCert m val s
  | .challenge m val => Sys2Proof.Machine.execChallenge m val s
  | .respond m val => Sys2Proof.Machine.execRespond m val s
  | .drop m val => Sys2Proof.Machine.execDrop m val s
  | .authBufData m write val => Sys2Proof.Machine.execAuthBufData m write val s
  | .lcyStepDone ok => Sys2Proof.Machine.execLcyStepDone ok s
  | .hello proto rate lanes tool t => Sys2Proof.Machine.execHello proto rate lanes tool t s
  | .keepalive t => Sys2Proof.Machine.execKeepalive t s
  | .bye t => Sys2Proof.Machine.execBye t s
  | .ack t => Sys2Proof.Machine.execAck t s
  | .regReq tag stop ops loc dev t => Sys2Proof.Machine.execRegReq tag stop ops loc dev t s
  | .triggerIn xdev loc dev t => Sys2Proof.Machine.execTriggerIn xdev loc dev t s
  | .relayOpen dev all share ok busy t => Sys2Proof.Machine.execRelayOpen dev all share ok busy t s
  | .relayClose dev all t => Sys2Proof.Machine.execRelayClose dev all t s
  | .frameBad crc => Sys2Proof.Machine.execFrameBad crc s
  | .rateTrain ok => Sys2Proof.Machine.execRateTrain ok s
  | .laneLost lane => Sys2Proof.Machine.execLaneLost lane s
  | .txIdle lane on => Sys2Proof.Machine.execTxIdle lane on s
  | .passAcc val => Sys2Proof.Machine.execPassAcc val s
  | .leadClaim m val lead rival => Sys2Proof.Machine.execLeadClaim m val lead rival s
  | .leadDrop m val => Sys2Proof.Machine.execLeadDrop m val s
  | .discover m val => Sys2Proof.Machine.execDiscover m val s
  | .hubAnnounce uid dev status => Sys2Proof.Machine.execHubAnnounce uid dev status s
  | .memberTimeout dev => Sys2Proof.Machine.execMemberTimeout dev s
  | .startupPhaseDone self0 self1 uc => Sys2Proof.Machine.execStartupPhaseDone self0 self1 uc s
  | .vddHubLoss done mask => Sys2Proof.Machine.execVddHubLoss done mask s
  | .softResetRequest m val => Sys2Proof.Machine.execSoftResetRequest m val s
  | .softResetDone self0 self1 => Sys2Proof.Machine.execSoftResetDone self0 self1 s
  | .registerRead m addr width => Sys2Proof.Machine.execRegisterRead m addr width s
  | .observationPointEdge cairn leaf upd accs evs => Sys2Proof.Machine.execObservationPointEdge cairn leaf upd accs evs s
  | .echoCaptureIssue job leaf relaxed int32 => Sys2Proof.Machine.execEchoCaptureIssue job leaf relaxed int32 s
  | .tooLong w => Sys2Proof.Machine.execTooLong w s
  | .blockLockGained lane => Sys2Proof.Machine.execBlockLockGained lane s
  | .hokuingLinksDown dev => Sys2Proof.Machine.execHokuingLinksDown dev s
  | .relaySessionOpen share => Sys2Proof.Machine.execRelaySessionOpen share s
  | .reservedFrame ftype t => Sys2Proof.Machine.execReservedFrame ftype t s
  | .arbiterNumber => Sys2Proof.Machine.execArbiterNumber s
  | .takeoverComplete => Sys2Proof.Machine.execTakeoverComplete s
  | .exclLeaseExpiry => Sys2Proof.Machine.execExclLeaseExpiry s
  | .tsyncLost => Sys2Proof.Machine.execTsyncLost s
  | .slewPoint => Sys2Proof.Machine.execSlewPoint s
  | .refclkGlitch => Sys2Proof.Machine.execRefclkGlitch s
  | .refclkLost => Sys2Proof.Machine.execRefclkLost s
  | .pllRelock => Sys2Proof.Machine.execPllRelock s
  | .stepCloseIssue => Sys2Proof.Machine.execStepCloseIssue s
  | .stepDeadline => Sys2Proof.Machine.execStepDeadline s
  | .sequencerEval => Sys2Proof.Machine.execSequencerEval s
  | .stopAfterFire => Sys2Proof.Machine.execStopAfterFire s
  | .pinPulseEdge => Sys2Proof.Machine.execPinPulseEdge s
  | .cfgParity => Sys2Proof.Machine.execCfgParity s
  | .couInitDone => Sys2Proof.Machine.execCouInitDone s
  | .chunkTimer => Sys2Proof.Machine.execChunkTimer s
  | .chunkCommitStepAck => Sys2Proof.Machine.execChunkCommitStepAck s
  | .jobParity => Sys2Proof.Machine.execJobParity s
  | .traceActionEffect => Sys2Proof.Machine.execTraceActionEffect s
  | .packetWrite => Sys2Proof.Machine.execPacketWrite s
  | .syncTimer => Sys2Proof.Machine.execSyncTimer s
  | .blockPadTimeout => Sys2Proof.Machine.execBlockPadTimeout s
  | .spillBlockWrite => Sys2Proof.Machine.execSpillBlockWrite s
  | .traceDrainSend => Sys2Proof.Machine.execTraceDrainSend s
  | .heartbeatToggle => Sys2Proof.Machine.execHeartbeatToggle s
  | .tfitWindow => Sys2Proof.Machine.execTfitWindow s
  | .talusCount => Sys2Proof.Machine.execTalusCount s
  | .talusSchedule => Sys2Proof.Machine.execTalusSchedule s
  | .talusCommitStart => Sys2Proof.Machine.execTalusCommitStart s
  | .authVerifyDone => Sys2Proof.Machine.execAuthVerifyDone s
  | .challengeExpiry => Sys2Proof.Machine.execChallengeExpiry s
  | .trngFail => Sys2Proof.Machine.execTrngFail s
  | .frameSend => Sys2Proof.Machine.execFrameSend s
  | .retransmitTimeout => Sys2Proof.Machine.execRetransmitTimeout s
  | .keepaliveSend => Sys2Proof.Machine.execKeepaliveSend s
  | .keepaliveTimeout => Sys2Proof.Machine.execKeepaliveTimeout s
  | .linkLoss => Sys2Proof.Machine.execLinkLoss s
  | .tapReset => Sys2Proof.Machine.execTapReset s
  | .extest => Sys2Proof.Machine.execExtest s
  | .samplePreload => Sys2Proof.Machine.execSamplePreload s
  | .idcode => Sys2Proof.Machine.execIdcode s
  | .highz => Sys2Proof.Machine.execHighz s
  | .clamp => Sys2Proof.Machine.execClamp s
  | .bypass => Sys2Proof.Machine.execBypass s
  | .discoveryTimeout => Sys2Proof.Machine.execDiscoveryTimeout s
  | .relayKeepalive => Sys2Proof.Machine.execRelayKeepalive s
  | .leadLost => Sys2Proof.Machine.execLeadLost s
  | .portBufUc => Sys2Proof.Machine.execPortBufUc s
  | .vddHubPowerUp => Sys2Proof.Machine.execVddHubPowerUp s
  | .pllLock => Sys2Proof.Machine.execPllLock s
  | .chipWarmReset => Sys2Proof.Machine.execChipWarmReset s
  | .bmuReady => Sys2Proof.Machine.execBmuReady s
  | .softResetApply => Sys2Proof.Machine.execSoftResetApply s
  | .hubIdle => Sys2Proof.Machine.execHubIdle s
  | .trngHealthPass => Sys2Proof.Machine.execTrngHealthPass s
  | .hokuingLinksUp => Sys2Proof.Machine.execHokuingLinksUp s

end Sys2Proof.Machine
end

