-- ==== Sys2Proof/Machine/Tick.lean ====
section
/-! DEFINITION. Machine/Tick.lean: what happens in a hub tick with no command waiting: the counter advances, and what the hub does of
its own accord with time goes on (log entry 2). -/

namespace Sys2Proof.Machine

/-- The oldest access of each Cairn among an engine's window accesses: accesses to one Cairn complete in issue order (07 R216). -/
def winHeads : List WinAcc → List Nat → List WinAcc
  | [], _ => []
  | w :: ws, seen => if seen.contains w.cairn then winHeads ws seen else w :: winHeads ws (w.cairn :: seen)

/-- Can the window answer an access now (02 R65; 01 R10, R22)? -/
def State.winReady (s : State) (w : WinAcc) : Bool :=
  (s.dormant w.cairn || !(s.cairn w.cairn).noAnswer) && s.reachable w.cairn && s.nextAt w.cairn w.no

/-- An engine's window accesses in one tick: one past SUM_CWIN_TMO completes with TIMEOUT; otherwise one whose turn has come is answered
in this tick or a later one, which is not stated (log entry 3). -/
def State.winTick (s : State) (e : Nat) : State :=
  let ws := (s.eng e).wins
  if ws.isEmpty then s
  else
    let heads := winHeads ws []
    let drop := fun (s : State) (w : WinAcc) => s.setEng e { s.eng e with wins := (s.eng e).wins.erase w }
    match heads.find? fun w => decide (w.t0 + s.cwinTmo ≤ s.clk) with
    | some w => (((drop s w).hubMiss (.eng e)).winFail e w codeTimeout).winFlush e
    | none =>
      match heads.find? s.winReady with
      | some w =>
        let x := s.takeFree
        if x.1 % 2 = 0 then ((drop x.2 w).engAnswer e w).winFlush e else x.2
      | none => s

/-- One hub tick with no command waiting. -/
def State.idle (s : State) : State :=
  if !s.rdg.running then s
  else
    let t0 := s.now
    let s := s.tick
    let s := ((s.couSync.echoHold (s.now - t0)).watchHold 1).flowTick
    let s := (s.pump.passPump).idleWatch
    (((s.winTick 0).winTick 1).winTick 2).winTick 3

end Sys2Proof.Machine
end

