-- ==== Sys2Proof/Machine/Step.lean ====
section
/-! DEFINITION. Machine/Step.lean: one step: the command at the front of the queue, or a tick of the hub clock when none waits. -/

namespace Sys2Proof.Machine

open Host

/-- One step: the front command is taken from the queue and carried out on the rest; with no command waiting, a tick passes (log
entry 2). -/
def step (s : State) : Outcome State Fault Refusal :=
  match s.pending with
  | c :: rest => exec c { s with pending := rest }
  | [] => onHub s State.idle

/-- The state with the command that a word spells put at the front of its queue. The table gives no row any bits, so no word spells a
command. -/
def State.withFetchWord (s : State) (nbits w : Nat) : State :=
  match decodeTableWord nbits w with
  | some c => { s with pending := c :: s.pending }
  | none => s

end Sys2Proof.Machine
end

