-- ==== Sys2Proof/WellFormed.lean ====
section
/-! DEFINITION. WellFormed.lean: which commands name parts that the spec says exist, and operands that fit their fields. An ill-formed
command that names no such part is one no agent sends; `exec` answers it with the fault noSuchPart. -/

namespace Sys2Proof

/-- The operand is below a bound. -/
def below (n x : Nat) : Bool := decide (x < n)

/-- The operand fits a field of `n` bits. -/
def fits (n x : Nat) : Bool := decide (x < 2 ^ n)

/-- A Cairn ID of the device (01 R13): 3,008 units. -/
def isUnit (id : Nat) : Bool := decide (id < 0xBC0)

/-- The Cairn ID of a general core. -/
def isGc (id : Nat) : Bool := decide (0x420 ≤ id) && decide (id < 0x520)

/-- The Cairn ID of a BMU. -/
def isBmu (id : Nat) : Bool := decide (0x520 ≤ id) && decide (id < 0x620)

/-- The Cairn ID of an SRAM slice. -/
def isSlice (id : Nat) : Bool := decide (0x760 ≤ id) && decide (id < 0xB60)

/-- The Cairn ID of an I/O ring block. -/
def isRing (id : Nat) : Bool := decide (0xB60 ≤ id) && decide (id < 0xBA0)

/-- The Cairn ID of a power/clock region controller. -/
def isRegion (id : Nat) : Bool := decide (0xBA0 ≤ id) && decide (id < 0xBC0)

/-- The Cairns of a freeze domain's edge: each exists and brings a 64-bit leaf value and 32-bit link numbers. -/
def repsOk (reps : List EdgeRep) : Bool :=
  reps.all fun r => isUnit r.cairn && fits 64 r.leaf && fits 32 r.txSeq && fits 32 r.ackSeq && fits 32 r.rxSeq

/-- The width of an access in bytes (02 R45). -/
def widthOk (w : Nat) : Bool := w == 1 || w == 2 || w == 4 || w == 8

/-- The 16-bit frame numbers of a trailer (15 R464). -/
def trailerOk (t : Trailer) : Bool := fits 16 t.fseq && fits 16 t.ack

/-- The accesses of a REG_REQ: 1 to 64 words of 64 bits (15 R468). -/
def opsOk (ops : List Nat) : Bool := decide (1 ≤ ops.length) && decide (ops.length ≤ 64) && ops.all (fits 64)

/-- A byte address of stack memory (01 R16). -/
def deviceByte (a : Nat) : Bool := decide (a < 1536000000000)

/-- Where a fault is detected: a source bit of a Cairn page or of a hub page (11 R354, R356). -/
def faultPlace (onCairn : Bool) (page bit : Nat) : Bool := (if onCairn then isUnit page else (decide (page < 0x15) && page != 7) || page == 0x20) && decide (bit < 31)

/-- The edges of a block's 256 operations, of 128 positions each, none before its operation's issue (12 R385, R386). -/
def lagEdges (issues : List Nat) (writes : List (List Nat)) : Bool :=
  issues.length == 256 && writes.length == 256
    && (issues.zip writes).all fun o => o.2.length == 128 && o.2.all fun t => decide (o.1 ≤ t) && fits 64 t

/-- A write within the operand staging of 16,384 bytes (05 R165). -/
def stageOk (w : Nat × List Byte) : Bool := decide (w.1 + w.2.length ≤ 16384)

/-- Does a command name parts that exist and operands that fit? -/
def Instr.wf : Instr → Bool
  | .class1Report cairn leaf _ => isUnit cairn && fits 64 leaf
  | .summitAck cairn => isUnit cairn
  | .mirrorUpdate spur => below 2 spur
  | .livenessFlit spur => below 2 spur
  | .spurLivenessTimeout spur _ => below 2 spur
  | .forceSpurLoss _ _ => true
  | .colLaneFail group => below 3 group
  | .registerWrite _ addr width val => fits 20 addr && widthOk width && fits 64 val
  | .readClear _ addr => fits 20 addr
  | .apertureAccess _ addr width _ val => fits 20 addr && widthOk width && fits 64 val
  | .apertureAnswer _ => true
  | .apertureTimeout _ => true
  | .exclAcquire _ _ => true
  | .exclRelease _ _ => true
  | .hostReq _ _ => true
  | .tsyncEpoch _ _ _ _ _ _ => true
  | .reload _ _ => true
  | .calSweep _ _ => true
  | .calSlot spur _ _ => below 2 spur
  | .leafLoad load => isUnit load.cairn && fits 64 load.val
  | .domainPowerUp cairns => cairns.all isUnit
  | .domainPowerDown cairns => cairns.all isUnit
  | .scheduledActionEffect cairn leaf => isUnit cairn && fits 64 leaf
  | .channelRaise _ => true
  | .cutCmdStop _ _ => true
  | .cutCmdGlance _ _ => true
  | .cutCmdResume _ _ => true
  | .cutCmdAbandon _ _ => true
  | .cutCmdXdev _ _ => true
  | .cutMessage cairn _ leaf => isUnit cairn && fits 64 leaf
  | .cutEdge reps => repsOk reps
  | .spurCutAggregate spur => below 2 spur
  | .cutReportTimeout cairn => isUnit cairn
  | .resumeEdge reps => repsOk reps
  | .releaseAggregate spur => below 2 spur
  | .shadowDrain cairn => isUnit cairn
  | .divertedWrite cairn _ _ _ => (isBmu cairn || isSlice cairn)
  | .pageCopyDone cairn _ => (isBmu cairn || isSlice cairn)
  | .xcutReceive _ _ => true
  | .xcutAnswer _ _ => true
  | .stepGo _ _ => true
  | .stepMessage cairn _ leaf => isUnit cairn && fits 64 leaf
  | .stepReleaseEdge reps => repsOk reps
  | .stepReportTimeout cairn => isUnit cairn
  | .stepUnitComplete cairns _ leaf => cairns.all isUnit && fits 64 leaf
  | .stepAggregate spur => below 2 spur
  | .stepFreezeEdge reps => repsOk reps
  | .freezeAggregate spur => below 2 spur
  | .viewRead _ addr => fits 20 addr
  | .viewDeposit _ addr _ => fits 20 addr
  | .cairnRaise cairn out => isUnit cairn && below 2 out
  | .xtrig _ _ => true
  | .run _ _ => true
  | .saCancel _ _ => true
  | .prbStart _ e _ => below 4 e
  | .prbStop _ e _ => below 4 e
  | .pmDataWrite _ e _ => below 4 e
  | .pmDataRead _ e => below 4 e
  | .add e => below 4 e
  | .sub e => below 4 e
  | .iAnd e => below 4 e
  | .iOr e => below 4 e
  | .xor e => below 4 e
  | .shl e => below 4 e
  | .shr e => below 4 e
  | .mul e => below 4 e
  | .minu e => below 4 e
  | .maxu e => below 4 e
  | .addi e => below 4 e
  | .andi e => below 4 e
  | .movi e => below 4 e
  | .ldm e => below 4 e
  | .stm e => below 4 e
  | .aadd e => below 4 e
  | .beq e => below 4 e
  | .bne e => below 4 e
  | .bltu e => below 4 e
  | .bgeu e => below 4 e
  | .beqi e => below 4 e
  | .bnei e => below 4 e
  | .bltui e => below 4 e
  | .jal e => below 4 e
  | .jr e => below 4 e
  | .time e => below 4 e
  | .waitt e => below 4 e
  | .waitw e => below 4 e
  | .waitj e => below 4 e
  | .waitch e => below 4 e
  | .waitEnd e => below 4 e
  | .crd e => below 4 e
  | .cwr e => below 4 e
  | .vrd e => below 4 e
  | .vwr e => below 4 e
  | .errs e => below 4 e
  | .hrd e => below 4 e
  | .hwr e => below 4 e
  | .trig e => below 4 e
  | .cutStop e => below 4 e
  | .cutGlance e => below 4 e
  | .cutResume e => below 4 e
  | .cutAbandon e => below 4 e
  | .cutStep e => below 4 e
  | .cutStepTrigClose e => below 4 e
  | .trcStart e => below 4 e
  | .trcStop e => below 4 e
  | .dump e => below 4 e
  | .jobCensus e => below 4 e
  | .jobEcho e => below 4 e
  | .log e => below 4 e
  | .fence e => below 4 e
  | .remap e => below 4 e
  | .kick e => below 4 e
  | .halt e => below 4 e
  | .watchdogExpiry e => below 4 e
  | .rfParity e => below 4 e
  | .couEnable _ _ => true
  | .ccIntrude addr => deviceByte addr
  | .dumpGo _ _ => true
  | .shadowLoad reps => repsOk reps
  | .bmuPageWrite half ord uc ce => below 2 half && below 380544 ord && uc.all (below 4096) && ce.all (below 4096)
  | .linkRecord blk dev _ _ => isRing blk && below 4096 dev
  | .linkTimeout blk => isRing blk
  | .drainStart _ _ => true
  | .drainStop _ _ => true
  | .drainAck _ _ => true
  | .dumpDrainSend _ => true
  | .couRelease _ _ => true
  | .slotFree slot => below 4 slot
  | .autoArm _ _ => true
  | .abort _ _ => true
  | .cenSubmit _ _ => true
  | .echSubmit _ _ => true
  | .cenAbort _ _ => true
  | .echAbort _ _ => true
  | .censusJobDone _ _ => true
  | .echoCaptureComplete _ last leaf out => last.all stageOk && fits 64 leaf && out.length == 4096
  | .echoReplayDone _ spare out => below 2 spare && out.length == 4096
  | .echoCompareDone _ => true
  | .echoTimeout _ => true
  | .storeUc core => below 8 core
  | .scrCmdStart _ _ => true
  | .scrCmdStop _ _ => true
  | .flowPacket cairn _ _ _ _ _ leaf => isGc cairn && fits 64 leaf
  | .loss cairn leaf => isGc cairn && fits 64 leaf
  | .spillIntrude addr => deviceByte addr
  | .scrMark _ _ => true
  | .clear _ _ => true
  | .scrDrainStart _ _ => true
  | .scrDrainStop _ _ => true
  | .scrDrainAck _ _ => true
  | .bufUc _ => true
  | .faultDetect onCairn page bit _ _ _ _ => faultPlace onCairn page bit
  | .ceCoalesceTimer cairn _ => isUnit cairn
  | .fltForce _ addr _ => fits 20 addr
  | .fltPageAck _ addr _ => fits 20 addr
  | .fltAckUc _ _ => true
  | .fltAckCe _ _ => true
  | .ceRd _ _ => true
  | .sigMonCheck seqr _ => below 6 seqr
  | .sigMonTimeout seqr => below 6 seqr
  | .fenceCmd _ _ => true
  | .fenceOrder cairn => isUnit cairn
  | .fenceDone cairn _ => isUnit cairn
  | .fenceStuck cairn => isUnit cairn
  | .unfence _ _ => true
  | .lagBlock core issues writes mixed => below 8 core && lagEdges issues writes && mixed.all (below 128)
  | .remapCmd _ _ => true
  | .remapBoundary core => below 8 core
  | .remapGateOpen core => below 8 core
  | .unmap _ _ => true
  | .droopEnter cairn kind _ _ => isRegion cairn && (below 4 kind && kind != 0)
  | .droopExit cairn _ _ => isRegion cairn
  | .vfReq cairn kind _ => isRegion cairn && below 2 kind
  | .vfChangeStart cairn => isRegion cairn
  | .vfDone cairn => isRegion cairn
  | .pmInterval cairn _ _ _ => isRegion cairn
  | .dispatchCase cairn what _ _ => isBmu cairn && below 5 what
  | .dispatchSummary cairn => isBmu cairn
  | .batchCancel cairn _ _ _ _ => isBmu cairn
  | .talusSample _ => true
  | .talCommit _ _ => true
  | .talusCommitVerify _ => true
  | .talSnap _ _ => true
  | .talTrack _ _ => true
  | .talClear _ _ => true
  | .lcyTransition _ _ => true
  | .lcyProvision _ _ => true
  | .cert _ _ => true
  | .challenge _ _ => true
  | .respond _ _ => true
  | .drop _ _ => true
  | .authBufData _ _ _ => true
  | .lcyStepDone _ => true
  | .hello proto rate lanes tool t => fits 16 proto && below 4 rate && below 4 lanes && fits 32 tool && trailerOk t
  | .keepalive t => trailerOk t
  | .bye t => trailerOk t
  | .ack t => trailerOk t
  | .regReq tag _ ops _ dev t => fits 8 tag && opsOk ops && below 4096 dev && trailerOk t
  | .triggerIn _ _ dev t => below 4096 dev && trailerOk t
  | .relayOpen dev _ _ _ _ t => below 4096 dev && trailerOk t
  | .relayClose dev _ t => below 4096 dev && trailerOk t
  | .frameBad _ => true
  | .rateTrain _ => true
  | .laneLost lane => below 2 lane
  | .txIdle lane _ => below 2 lane
  | .passAcc val => fits 64 val
  | .leadClaim _ _ _ _ => true
  | .leadDrop _ _ => true
  | .discover _ _ => true
  | .hubAnnounce uid dev _ => fits 256 uid && below 4096 dev
  | .memberTimeout dev => below 4096 dev
  | .startupPhaseDone _ _ _ => true
  | .vddHubLoss _ _ => true
  | .softResetRequest _ _ => true
  | .softResetDone _ _ => true
  | .registerRead _ addr width => fits 20 addr && widthOk width
  | .observationPointEdge cairn leaf _ _ _ => isUnit cairn && fits 64 leaf
  | .echoCaptureIssue _ leaf _ _ => fits 64 leaf
  | .tooLong w => stageOk (w.off, w.bytes)
  | .blockLockGained lane => below 2 lane
  | .hokuingLinksDown dev => below 4096 dev
  | .relaySessionOpen _ => true
  | .reservedFrame _ t => trailerOk t
  | .arbiterNumber => true
  | .takeoverComplete => true
  | .exclLeaseExpiry => true
  | .tsyncLost => true
  | .slewPoint => true
  | .refclkGlitch => true
  | .refclkLost => true
  | .pllRelock => true
  | .stepCloseIssue => true
  | .stepDeadline => true
  | .sequencerEval => true
  | .stopAfterFire => true
  | .pinPulseEdge => true
  | .cfgParity => true
  | .couInitDone => true
  | .chunkTimer => true
  | .chunkCommitStepAck => true
  | .jobParity => true
  | .traceActionEffect => true
  | .packetWrite => true
  | .syncTimer => true
  | .blockPadTimeout => true
  | .spillBlockWrite => true
  | .traceDrainSend => true
  | .heartbeatToggle => true
  | .tfitWindow => true
  | .talusCount => true
  | .talusSchedule => true
  | .talusCommitStart => true
  | .authVerifyDone => true
  | .challengeExpiry => true
  | .trngFail => true
  | .frameSend => true
  | .retransmitTimeout => true
  | .keepaliveSend => true
  | .keepaliveTimeout => true
  | .linkLoss => true
  | .tapReset => true
  | .extest => true
  | .samplePreload => true
  | .idcode => true
  | .highz => true
  | .clamp => true
  | .bypass => true
  | .discoveryTimeout => true
  | .relayKeepalive => true
  | .leadLost => true
  | .portBufUc => true
  | .vddHubPowerUp => true
  | .pllLock => true
  | .chipWarmReset => true
  | .bmuReady => true
  | .softResetApply => true
  | .hubIdle => true
  | .trngHealthPass => true
  | .hokuingLinksUp => true

/-- The Cairns a command names by its operands. -/
def Instr.cairnIds : Instr → List Nat
  | .class1Report cairn _ _ => [cairn]
  | .summitAck cairn => [cairn]
  | .mirrorUpdate _ => []
  | .livenessFlit _ => []
  | .spurLivenessTimeout _ _ => []
  | .forceSpurLoss _ _ => []
  | .colLaneFail _ => []
  | .registerWrite _ _ _ _ => []
  | .readClear _ _ => []
  | .apertureAccess _ _ _ _ _ => []
  | .apertureAnswer _ => []
  | .apertureTimeout _ => []
  | .exclAcquire _ _ => []
  | .exclRelease _ _ => []
  | .hostReq _ _ => []
  | .tsyncEpoch _ _ _ _ _ _ => []
  | .reload _ _ => []
  | .calSweep _ _ => []
  | .calSlot _ _ _ => []
  | .leafLoad load => [load.cairn]
  | .domainPowerUp cairns => cairns
  | .domainPowerDown cairns => cairns
  | .scheduledActionEffect cairn _ => [cairn]
  | .channelRaise _ => []
  | .cutCmdStop _ _ => []
  | .cutCmdGlance _ _ => []
  | .cutCmdResume _ _ => []
  | .cutCmdAbandon _ _ => []
  | .cutCmdXdev _ _ => []
  | .cutMessage cairn _ _ => [cairn]
  | .cutEdge reps => reps.map (·.cairn)
  | .spurCutAggregate _ => []
  | .cutReportTimeout cairn => [cairn]
  | .resumeEdge reps => reps.map (·.cairn)
  | .releaseAggregate _ => []
  | .shadowDrain cairn => [cairn]
  | .divertedWrite cairn _ _ _ => [cairn]
  | .pageCopyDone cairn _ => [cairn]
  | .xcutReceive _ _ => []
  | .xcutAnswer _ _ => []
  | .stepGo _ _ => []
  | .stepMessage cairn _ _ => [cairn]
  | .stepReleaseEdge reps => reps.map (·.cairn)
  | .stepReportTimeout cairn => [cairn]
  | .stepUnitComplete cairns _ _ => cairns
  | .stepAggregate _ => []
  | .stepFreezeEdge reps => reps.map (·.cairn)
  | .freezeAggregate _ => []
  | .viewRead _ _ => []
  | .viewDeposit _ _ _ => []
  | .cairnRaise cairn _ => [cairn]
  | .xtrig _ _ => []
  | .run _ _ => []
  | .saCancel _ _ => []
  | .prbStart _ _ _ => []
  | .prbStop _ _ _ => []
  | .pmDataWrite _ _ _ => []
  | .pmDataRead _ _ => []
  | .add _ => []
  | .sub _ => []
  | .iAnd _ => []
  | .iOr _ => []
  | .xor _ => []
  | .shl _ => []
  | .shr _ => []
  | .mul _ => []
  | .minu _ => []
  | .maxu _ => []
  | .addi _ => []
  | .andi _ => []
  | .movi _ => []
  | .ldm _ => []
  | .stm _ => []
  | .aadd _ => []
  | .beq _ => []
  | .bne _ => []
  | .bltu _ => []
  | .bgeu _ => []
  | .beqi _ => []
  | .bnei _ => []
  | .bltui _ => []
  | .jal _ => []
  | .jr _ => []
  | .time _ => []
  | .waitt _ => []
  | .waitw _ => []
  | .waitj _ => []
  | .waitch _ => []
  | .waitEnd _ => []
  | .crd _ => []
  | .cwr _ => []
  | .vrd _ => []
  | .vwr _ => []
  | .errs _ => []
  | .hrd _ => []
  | .hwr _ => []
  | .trig _ => []
  | .cutStop _ => []
  | .cutGlance _ => []
  | .cutResume _ => []
  | .cutAbandon _ => []
  | .cutStep _ => []
  | .cutStepTrigClose _ => []
  | .trcStart _ => []
  | .trcStop _ => []
  | .dump _ => []
  | .jobCensus _ => []
  | .jobEcho _ => []
  | .log _ => []
  | .fence _ => []
  | .remap _ => []
  | .kick _ => []
  | .halt _ => []
  | .watchdogExpiry _ => []
  | .rfParity _ => []
  | .couEnable _ _ => []
  | .ccIntrude _ => []
  | .dumpGo _ _ => []
  | .shadowLoad reps => reps.map (·.cairn)
  | .bmuPageWrite _ _ _ _ => []
  | .linkRecord blk _ _ _ => [blk]
  | .linkTimeout blk => [blk]
  | .drainStart _ _ => []
  | .drainStop _ _ => []
  | .drainAck _ _ => []
  | .dumpDrainSend _ => []
  | .couRelease _ _ => []
  | .slotFree _ => []
  | .autoArm _ _ => []
  | .abort _ _ => []
  | .cenSubmit _ _ => []
  | .echSubmit _ _ => []
  | .cenAbort _ _ => []
  | .echAbort _ _ => []
  | .censusJobDone _ _ => []
  | .echoCaptureComplete _ _ _ _ => []
  | .echoReplayDone _ _ _ => []
  | .echoCompareDone _ => []
  | .echoTimeout _ => []
  | .storeUc _ => []
  | .scrCmdStart _ _ => []
  | .scrCmdStop _ _ => []
  | .flowPacket cairn _ _ _ _ _ _ => [cairn]
  | .loss cairn _ => [cairn]
  | .spillIntrude _ => []
  | .scrMark _ _ => []
  | .clear _ _ => []
  | .scrDrainStart _ _ => []
  | .scrDrainStop _ _ => []
  | .scrDrainAck _ _ => []
  | .bufUc _ => []
  | .faultDetect _ _ _ _ _ _ _ => []
  | .ceCoalesceTimer cairn _ => [cairn]
  | .fltForce _ _ _ => []
  | .fltPageAck _ _ _ => []
  | .fltAckUc _ _ => []
  | .fltAckCe _ _ => []
  | .ceRd _ _ => []
  | .sigMonCheck _ _ => []
  | .sigMonTimeout _ => []
  | .fenceCmd _ _ => []
  | .fenceOrder cairn => [cairn]
  | .fenceDone cairn _ => [cairn]
  | .fenceStuck cairn => [cairn]
  | .unfence _ _ => []
  | .lagBlock _ _ _ _ => []
  | .remapCmd _ _ => []
  | .remapBoundary _ => []
  | .remapGateOpen _ => []
  | .unmap _ _ => []
  | .droopEnter cairn _ _ _ => [cairn]
  | .droopExit cairn _ _ => [cairn]
  | .vfReq cairn _ _ => [cairn]
  | .vfChangeStart cairn => [cairn]
  | .vfDone cairn => [cairn]
  | .pmInterval cairn _ _ _ => [cairn]
  | .dispatchCase cairn _ _ _ => [cairn]
  | .dispatchSummary cairn => [cairn]
  | .batchCancel cairn _ _ _ _ => [cairn]
  | .talusSample _ => []
  | .talCommit _ _ => []
  | .talusCommitVerify _ => []
  | .talSnap _ _ => []
  | .talTrack _ _ => []
  | .talClear _ _ => []
  | .lcyTransition _ _ => []
  | .lcyProvision _ _ => []
  | .cert _ _ => []
  | .challenge _ _ => []
  | .respond _ _ => []
  | .drop _ _ => []
  | .authBufData _ _ _ => []
  | .lcyStepDone _ => []
  | .hello _ _ _ _ _ => []
  | .keepalive _ => []
  | .bye _ => []
  | .ack _ => []
  | .regReq _ _ _ _ _ _ => []
  | .triggerIn _ _ _ _ => []
  | .relayOpen _ _ _ _ _ _ => []
  | .relayClose _ _ _ => []
  | .frameBad _ => []
  | .rateTrain _ => []
  | .laneLost _ => []
  | .txIdle _ _ => []
  | .passAcc _ => []
  | .leadClaim _ _ _ _ => []
  | .leadDrop _ _ => []
  | .discover _ _ => []
  | .hubAnnounce _ _ _ => []
  | .memberTimeout _ => []
  | .startupPhaseDone _ _ _ => []
  | .vddHubLoss _ _ => []
  | .softResetRequest _ _ => []
  | .softResetDone _ _ => []
  | .registerRead _ _ _ => []
  | .observationPointEdge cairn _ _ _ _ => [cairn]
  | .echoCaptureIssue _ _ _ _ => []
  | .tooLong _ => []
  | .blockLockGained _ => []
  | .hokuingLinksDown _ => []
  | .relaySessionOpen _ => []
  | .reservedFrame _ _ => []
  | .arbiterNumber => []
  | .takeoverComplete => []
  | .exclLeaseExpiry => []
  | .tsyncLost => []
  | .slewPoint => []
  | .refclkGlitch => []
  | .refclkLost => []
  | .pllRelock => []
  | .stepCloseIssue => []
  | .stepDeadline => []
  | .sequencerEval => []
  | .stopAfterFire => []
  | .pinPulseEdge => []
  | .cfgParity => []
  | .couInitDone => []
  | .chunkTimer => []
  | .chunkCommitStepAck => []
  | .jobParity => []
  | .traceActionEffect => []
  | .packetWrite => []
  | .syncTimer => []
  | .blockPadTimeout => []
  | .spillBlockWrite => []
  | .traceDrainSend => []
  | .heartbeatToggle => []
  | .tfitWindow => []
  | .talusCount => []
  | .talusSchedule => []
  | .talusCommitStart => []
  | .authVerifyDone => []
  | .challengeExpiry => []
  | .trngFail => []
  | .frameSend => []
  | .retransmitTimeout => []
  | .keepaliveSend => []
  | .keepaliveTimeout => []
  | .linkLoss => []
  | .tapReset => []
  | .extest => []
  | .samplePreload => []
  | .idcode => []
  | .highz => []
  | .clamp => []
  | .bypass => []
  | .discoveryTimeout => []
  | .relayKeepalive => []
  | .leadLost => []
  | .portBufUc => []
  | .vddHubPowerUp => []
  | .pllLock => []
  | .chipWarmReset => []
  | .bmuReady => []
  | .softResetApply => []
  | .hubIdle => []
  | .trngHealthPass => []
  | .hokuingLinksUp => []

end Sys2Proof
end

