-- ==== Sys2Proof/Safety.lean ====
section
/-! DEFINITION. Safety.lean: what the statements call a sound state and a safe step. -/

namespace Sys2Proof.Machine

open Host

/-- The canonical form of stack memory: addresses rising, no byte listed that equals what an unlisted address reads as. -/
def Memory.wf (m : SMap Byte) : Bool := smWf 0 m

/-- The hub's registers, its Cairns, the program memory and stack memory are in canonical form. -/
def State.canonical (s : State) : Bool := smWf 0 s.regs && Memory.wf s.mem && smWf 0 s.prb.pm

/-- The hub without VDD_HUB (16 R492): everything of Nynil and of the accelerator is lost but OTP, the MRAM, how the stacks are
wired and which units share a domain; the commands and the free values still to come are the model's own. -/
def State.dark (s : State) : State :=
  { State.reset with
    pending := s.pending, free := s.free, otp := s.otp, uid := s.uid, mram := s.mram, gran := s.gran, doms := s.doms, rst := { RstSt.init with on := false } }

/-- Nothing outlasts a loss of VDD_HUB but what `dark` keeps: what a state holds while the supply is off (16 R492). -/
def State.darkOk (s : State) : Prop := s.rst.on = false → s = s.dark

/-- The step goes on: it stops with no fault and no refusal. -/
def stepsOn (s : State) : Prop := ∃ t, step s = .next t

/-- Every command that waits is well-formed. -/
def State.sane (s : State) : Bool := s.pending.all Instr.wf

/-! ### Terms of the statements -/

/-- The parts of the state beside the hub's registers: what waits to be numbered, the masters' own parts with their accesses, the rest
of the tree, and one for each other field. -/
inductive Part
  | free | intq | access | tree | rdg | cut | stp | cou | flt | wch | cen | prb | crs | scr | tal | auth | pass | rst | cairns | retain
  | mem | otp | mram
  deriving DecidableEq, Repr

/-- The part is the same in two states. -/
def Part.same (s t : State) : Part → Prop
  | .free => t.free = s.free
  | .intq => t.sum.intq = s.sum.intq
  | .access => t.sum.passM = s.sum.passM ∧ t.sum.hostM = s.sum.hostM ∧ t.sum.lastPass = s.sum.lastPass ∧ t.sum.aps = s.sum.aps
      ∧ t.sum.held = s.sum.held ∧ t.sum.arrNo = s.sum.arrNo ∧ t.sum.rrTurn = s.sum.rrTurn ∧ t.sum.rrUsed = s.sum.rrUsed
  | .tree => t.sum.fifo0 = s.sum.fifo0 ∧ t.sum.fifo1 = s.sum.fifo1 ∧ t.sum.msgNo = s.sum.msgNo ∧ t.sum.msgs = s.sum.msgs
      ∧ t.sum.sched = s.sum.sched ∧ t.sum.live0 = s.sum.live0 ∧ t.sum.live1 = s.sum.live1 ∧ t.sum.takeover = s.sum.takeover
      ∧ t.sum.lostT = s.sum.lostT ∧ t.sum.mirror = s.sum.mirror ∧ t.sum.mirPend0 = s.sum.mirPend0 ∧ t.sum.mirPend1 = s.sum.mirPend1
      ∧ t.sum.wait0 = s.sum.wait0 ∧ t.sum.wait1 = s.sum.wait1 ∧ t.sum.in0 = s.sum.in0 ∧ t.sum.in1 = s.sum.in1
      ∧ t.sum.lostNum = s.sum.lostNum
  | .rdg => t.rdg = s.rdg
  | .cut => t.cut = s.cut
  | .stp => t.stp = s.stp
  | .cou => t.cou = s.cou
  | .flt => t.flt = s.flt
  | .wch => t.wch = s.wch
  | .cen => t.cen = s.cen
  | .prb => t.prb = s.prb
  | .crs => t.crs = s.crs
  | .scr => t.scr = s.scr
  | .tal => t.tal = s.tal
  | .auth => t.auth = s.auth
  | .pass => t.pass = s.pass
  | .rst => t.rst = s.rst
  | .cairns => t.cairns = s.cairns
  | .retain => t.retain = s.retain
  | .mem => t.mem = s.mem
  | .otp => t.otp = s.otp ∧ t.uid = s.uid ∧ t.gran = s.gran ∧ t.doms = s.doms
  | .mram => t.mram = s.mram

/-- The frame of a command: the queue, every register of the hub that is not listed and lies on no page listed, and every part not
listed are as before; where `mem` is not listed, so is every byte of stack memory. -/
def State.frame (s t : State) (regs pages : List Nat) (parts : List Part) : Prop :=
  t.pending = s.pending ∧ (∀ a, a ∉ regs → a / 0x1000 ∉ pages → t.rd a = s.rd a) ∧ ∀ p, p ∉ parts → p.same s t

/-- The frame of a command that changes one Cairn: no other Cairn is changed. -/
def State.only (s t : State) (id : Nat) : Prop := ∀ j, j ≠ id → t.cairn j = s.cairn j

/-- The command is carried out: it answers a next state, of which `p` holds. -/
def runs (c : Instr) (s : State) (p : State → Prop) : Prop := ∃ t, exec c s = .next t ∧ p t

/-- SPR_STAT of both Spurs, whose MIRROR_OK falls when a Cairn's entry changes (01 R20, R38). -/
def mirrorRegs : List Nat := [R.SPR_STAT 0, R.SPR_STAT 1]

/-- The event a hub source raises now (10 R336). -/
def State.ev (s : State) (n : EvName) (src : Nat) (data : List EvVal) : Ev := { name := n, src := src, stamp := s.now, data := data }

/-- VDD_HUB is on, and a master's 32-bit access to the hub register `a` is carried out at once (02 R47, R48, R57, R73; 16 R502): the hub
has started and no soft reset is pending, no access held at the arbiter could win it now (02 R70), none of the master waits or is in flight, no exclusive session keeps the host out, the
master holds the right, and it holds no _LO write for `a` (02 R46). -/
def State.ready (s : State) (m : Master) (r : Option Nat) (a : Nat) : Bool :=
  s.rst.on && !s.inReset && s.nextGrant.isNone && (s.apsOf m).isEmpty && !s.sum.held.any (fun y => y.master == m) && !(m == .host && s.excl)
    && s.may (.mst m) r && (match (s.mst m).heldLo with | some h => h.1 + 4 != a | none => true)

/-! ### Terms of the statements about Pitch (07) -/

/-- Engine `e` runs, the instruction at its pc is `i`, and neither its fetch, a stall nor a missing right holds it back (R205, R208, R215
to R217). -/
def State.issues (s : State) (e : Nat) (i : PInstr) : Bool :=
  s.rst.on && decide (e < 4) && s.engState e == 1 && s.inCodeOf e (s.pc e) && !s.pmBad (s.pc e)
    && PInstr.decode (BitVec.ofNat 32 (s.pmWord (s.pc e))) == some i && !s.stalled e i && !s.lacks e i

/-- A window access as it stands in flight once issued: the Spur it went to, its place in arrival order and whether the recorded set holds
DUMP_SECURE (R205, R218; 01 R10). -/
def State.winSent (s : State) (e : Nat) (w : WinAcc) : WinAcc :=
  { w with spur := s.server (halfOf w.cairn), no := s.sum.arrNo, sec := bit (s.rd (R.PRB_RIGHTS_REC e)) rtDumpSecure }

/-- An instruction of engine `e` has retired and the pc goes to `pc`: nothing is changed but the p registers `ds`, the hub registers
`regs` and the parts listed. -/
def State.retired (s t : State) (e pc : Nat) (ds regs : List Nat) (parts : List Part) : Prop :=
  t.pc e = pc % 65536 ∧ t.rd (R.PRB_RETIRED e) = (s.rd (R.PRB_RETIRED e) + 1) % 2 ^ 32
  ∧ s.frame t ([R.PRB_PC e, R.PRB_RETIRED e] ++ regs ++ ds.flatMap fun n => [R.PRB_P e (2 * n), R.PRB_P e (2 * n + 1)]) [] parts

/-- The command of an ALU operation. -/
def aluCmd (e : Nat) : AluFn → Instr
  | .add => .add e | .sub => .sub e | .and_ => .iAnd e | .or_ => .iOr e | .xor => .xor e
  | .shl => .shl e | .shr => .shr e | .mul => .mul e | .minu => .minu e | .maxu => .maxu e

/-- What an ALU operation computes on 64-bit words (R213). -/
def aluWord (x y : BitVec 64) : AluFn → BitVec 64
  | .add => x + y | .sub => x - y | .and_ => x &&& y | .or_ => x ||| y | .xor => x ^^^ y
  | .shl => x <<< (y.toNat % 64) | .shr => x >>> (y.toNat % 64) | .mul => x * y
  | .minu => if x ≤ y then x else y | .maxu => if x ≤ y then y else x

/-- A p register as a 64-bit word. -/
def State.pWord (s : State) (e : Nat) (r : BitVec 4) : BitVec 64 := BitVec.ofNat 64 (s.p e r.toNat)

/-! ### Terms of the statements about dumps (08) -/

/-- Offsets of the uncorrectable words of the page of an ordinal, those that a write of its BMU meets beside the known ones included
(R257). -/
def State.bmuBad (s : State) (n ord : Nat) (uc : List Nat) : List Nat :=
  ((uc.map (· / 64 * 64)) ++ s.pageUc (s.slot n) ord).eraseDups.filter fun o => decide (o < (s.pageRaw (s.slot n) ord).length)

/-- The raw bytes a BMU writes of the page of an ordinal: its uncorrectable words as 0 (R257). -/
def State.bmuBytes (s : State) (n ord : Nat) (uc : List Nat) : List Byte := zeroWords (s.pageRaw (s.slot n) ord) (s.bmuBad n ord uc)

/-! ### Terms of the statements about reports and jobs (01, 09) -/

/-- The Cairn is powered and its event queue takes a report (01 R18). -/
def State.room (s : State) (id : Nat) : Bool := (s.cairn id).powered && decide ((s.cairn id).queue.length < evQueueLen)

/-- The Cairn has queued the event, unsent and unnumbered (01 R18). -/
def State.queued (s t : State) (id : Nat) (n : EvName) (stamp : Nat) (data : List EvVal) : Prop :=
  (t.cairn id).queue = (s.cairn id).queue
    ++ [⟨{ name := n, src := id, stamp := stamp, data := data, tag := (s.cairn id).nextTag }, false, false⟩]

/-- The registers that show the dispatcher's table (09 R321, R322; 07 R236). -/
def tableRegs : List Nat :=
  [R.CEN_STAT, R.ECH_CORE_BUSY, R.PRB_STAT 0, R.PRB_STAT 1, R.PRB_STAT 2, R.PRB_STAT 3]

/-- The table with one job ended (09 R300, R318). -/
def endedJobs (l : List Job) (j : Job) (status summary : Nat) : List Job :=
  l.map fun k => if k.id = j.id then { k with done := true, status := status, summary := summary } else k

/-- An Echo job has ended ABORTED for a reason (09 R305, R315, R317, R320): the header and the body say so, the table keeps the job as
finished, the counters count it, and nothing of program memory but its result area is changed. -/
def State.echoAborted (s t : State) (j : Job) (e : EchoSt) (reason : Nat) : Prop :=
  t.cen.jobs = endedJobs s.cen.jobs j 3 0
  ∧ t.pmWord j.result = j.id % 65536 + 2 ^ 16 + 3 * 2 ^ 24 ∧ t.pmWord (j.result + 1) = reason
  ∧ t.pmWord (j.result + 4) = s.now % 2 ^ 32 ∧ t.pmWord (j.result + 6) = 0 ∧ t.pmWord (j.result + 7) = 0
  ∧ t.pmWord (j.result + 8) = echoTarget j.desc + e.spareA % 65536 * 65536
  ∧ t.pmWord (j.result + 9) % 2 ^ 24 = e.spareB % 65536 + 7 * 65536
  ∧ (∀ i, ¬(j.result ≤ i ∧ i < j.result + 32) → t.pmWord i = s.pmWord i)
  ∧ t.rd R.ECH_RUNS = (s.rd R.ECH_RUNS + 1) % 2 ^ 32 ∧ t.f F.ECH_ABORTS_CNT = min (s.f F.ECH_ABORTS_CNT + 1) 65535
  ∧ t.f F.ECH_LAST_TARGET = echoTarget j.desc ∧ t.f F.ECH_LAST_VERDICT = 7 ∧ t.f F.ECH_LAST_JOB_ID = j.id % 65536

/-- An unfinished Echo job of the table, the only one of its ID. -/
def State.echoJob (s : State) (j : Job) (e : EchoSt) : Bool :=
  (s.cen.jobs.filter fun k => k.id == j.id) == [j] && !j.done && j.echo == some e

/-! ### Terms of the statements about OTP (14) -/

/-- Every bit set in a number is set in another. -/
def bitsKept (x y : Nat) : Prop := Nat.land x y = x

/-- Every bit set in a copy of a field is set in the same copy of another. -/
def Tri.kept (x y : Tri) : Prop := bitsKept x.a y.a ∧ bitsKept x.b y.b ∧ bitsKept x.c y.c

/-- No bit of OTP has been cleared (14 R431). -/
def OtpSt.kept (o p : OtpSt) : Prop :=
  (∀ n, (o.slot n).state.kept (p.slot n).state ∧ (o.slot n).tgt.kept (p.slot n).tgt ∧ (o.slot n).pm.kept (p.slot n).pm)
  ∧ (∀ k, bitsKept (smGet 0 o.fields k) (smGet 0 p.fields k)) ∧ (∀ k, (smGet Tri.zero o.written k).kept (smGet Tri.zero p.written k))
  ∧ (∀ k, (smGet Tri.zero o.consumed k).kept (smGet Tri.zero p.consumed k)) ∧ o.epoch.kept p.epoch

/-- Registers of a master's challenge (14 R454). -/
def chalRegs (m : Master) : List Nat := bk m R.AUTH_CHAL_REQ :: (List.range 8).map fun k => bk m (R.AUTH_CHAL k)

/-- Registers that hold a master's grants, and those that show what both masters hold (14 R454). -/
def grantRegs (m : Master) : List Nat :=
  [bk m R.AUTH_CERT, bk m R.AUTH_CERT_SER_LO, bk m R.AUTH_CERT_SER_HI, bk m R.AUTH_CERT_MAX, bk m R.AUTH_JEX, R.AUTH_HELD_PASS, R.AUTH_HELD_HOST,
    bk .pass R.AUTH_BASE, bk .host R.AUTH_BASE, R.AUTH_BOOT]

/-! ### Terms of the statements about the port (15) -/

/-- A frame of a LANES session with the FSEQ expected reaches the port, and no soft reset holds the port (15 R466; 16 R498). -/
def State.hears (s : State) (x : Trailer) : Bool := s.rst.on && !s.heldSeq 5 && s.sess == sessLanes && x.fseq == s.pass.rxNext

/-- A frame has been accepted (15 R464, R466): counted and numbered, its acknowledgement due, and its trailer has taken effect. -/
def State.accepted (s t : State) (x : Trailer) : Prop :=
  t.rd R.PASS_FRM_RX = (s.rd R.PASS_FRM_RX + 1) % 2 ^ 32 ∧ t.pass.rxNext = (x.fseq + 1) % 65536 ∧ t.pass.lastFseq = some x.fseq
  ∧ t.pass.ackDue = true ∧ t.pass.lastRx = s.clk
  ∧ t.pass.unacked = (if x.ackOk then ackDrop x.ack s.pass.unacked else s.pass.unacked) ∧ (x.nak = true → t.pass.resend = 0)

/-- The session has ended for a cause (15 R477): SESSION_END is on its way, and what the session held has ended with it. -/
def State.sessOver (s t : State) (cause : Nat) : Prop :=
  t.sess = sessNone ∧ t.f F.SUM_ARB_STAT_PASS_UP = 0 ∧ t.f F.PASS_RATE_MBPS = 0 ∧ t.excl = false ∧ t.cou.drain = none ∧ t.scr.drain = none
  ∧ t.pass.sendq = [] ∧ t.pass.unacked = [] ∧ t.pass.reqs = [] ∧ t.pass.train = none ∧ t.pass.accWait = false
  ∧ t.rd (bk .pass R.AUTH_CERT) = 0 ∧ t.rd (bk .pass R.AUTH_JEX) = 0 ∧ (s.sess = sessLanes → t.isLead = false)
  ∧ s.ev .sessionEnd 0x1009 [.w s.sess, .w (s.f F.PASS_STAT_SESSION_ID), .w cause] ∈ t.sum.intq

/-- Registers that the end of a session may change; it may also change those of the pages 0x08 and 0x0B that show the drains. -/
def sessRegs : List Nat :=
  [R.PASS_STAT, R.PASS_RATE, R.PASS_FAB_STAT, R.SUM_ARB_STAT, R.SUM_EXCL, 0x11024, 0x10024] ++ grantRegs .pass ++ chalRegs .pass

/-- Registers that show what both masters hold. -/
def heldRegs : List Nat := [bk .pass R.AUTH_BASE, bk .host R.AUTH_BASE, R.AUTH_HELD_PASS, R.AUTH_HELD_HOST, R.AUTH_BOOT]

end Sys2Proof.Machine
end

