-- ==== Sys2Proof/Certificates/Slice0/Obligations.lean ====
section
/-! DEFINITION. Obligations.lean: the statements for the provers. Rule numbers are those of spec/; a clause that rests on the model's own
choice names its log entry. -/

open Sys2Proof Sys2Proof.Machine Host

/-! ### The machine (16 R492, R501; 01 R31) -/

/-- A step with a command in front of the queue carries out that command on the queue's rest. -/
def Obligations.StepRunsTheFrontCommand : Prop :=
  ∀ (c : Instr) (rest : List Instr) (s : State), step { s with pending := c :: rest } = exec c { s with pending := rest }

/-- What VDD_HUB power-up leaves (01 R33, R35, R36; 02 R71, R72; 03 R104; 16 R501); the invariants below hold in it. -/
def Obligations.ResetLeaves : Prop :=
  let s := State.reset
  s.rst.on = true ∧ s.f F.SUM_START_STAT_PHASE = 0 ∧ s.now = 0 ∧ s.rdg.running = false ∧ s.rd R.SUM_SEQ_NEXT = 0
    ∧ s.rd R.SUM_SEQ_EPOCH = 0 ∧ s.rd R.SUM_TOPO_STAT = 0x70 ∧ s.spur 0 = 0 ∧ s.spur 1 = 0 ∧ s.excl = false
    ∧ s.heldSet .pass = 0 ∧ s.heldSet .host = 0 ∧ s.f F.RDG_STAT_LOCKED = 0 ∧ s.f F.RDG_STAT_LOADED = 0
    ∧ s.sum.intq = [] ∧ s.pending = [] ∧ (∀ id, (s.cairn id).powered = false) ∧ s.canonical = true ∧ s.darkOk

/-- A well-formed command always answers a next state: no ordinary data ends a run. -/
def Obligations.WellFormedCommandsComplete : Prop :=
  ∀ (c : Instr) (s : State), c.wf = true → ∃ t, exec c s = .next t

/-- No command puts a command into the queue or takes one out of it; without VDD_HUB nothing but its return changes the hub (16 R492),
and no other command gives or takes the supply. -/
def Obligations.CommandsKeepTheQueueAndTheSupply : Prop :=
  ∀ (c : Instr) (s t : State), exec c s = .next t →
    t.pending = s.pending ∧ (s.rst.on = false → c ≠ .vddHubPowerUp → t = s)
    ∧ (c ≠ .vddHubPowerUp → (∀ d k, c ≠ .vddHubLoss d k) → t.rst.on = s.rst.on)

/-- While the supply is off a state holds nothing but what outlasts its loss (16 R492, R505): every step keeps this. -/
def Obligations.DarkHubHoldsNothing : Prop :=
  ∀ s t, s.darkOk → step s = .next t → t.darkOk

/-- Stack memory keeps its canonical form: addresses rising, and no byte listed that equals what an unlisted address reads as, 0 (the
model's own choice for a byte nothing has written, log entry 4). Every step keeps this; that it holds after reset is part of
ResetLeaves. -/
def Obligations.StackMemoryStaysCanonical : Prop :=
  ∀ s t, Memory.wf s.mem = true → step s = .next t → Memory.wf t.mem = true

/-- OTP and the MRAM are written by start-up, the authorisation engine, the ledger's commits and the supply alone (13 R408; 14 R430,
R437, R439, R445; 16 R502): no other command touches a fuse or a slot of the ledger. -/
def Obligations.LastingStoresFrame : Prop :=
  ∀ (c : Instr) (s t : State), exec c s = .next t →
    ((∀ a b l, c ≠ .startupPhaseDone a b l) → (∀ d k, c ≠ .vddHubLoss d k) → c ≠ .vddHubPowerUp →
      (c ≠ .authVerifyDone → (∀ b, c ≠ .lcyStepDone b) → t.otp = s.otp)
      ∧ (c ≠ .authVerifyDone → t.uid = s.uid)
      ∧ (c ≠ .talusCommitStart → (∀ b, c ≠ .talusCommitVerify b) → t.mram = s.mram)
      ∧ t.gran = s.gran)

/-! ### The tree (01) -/

/-- CLASS1_REPORT and SUMMIT_ACK (R18, R19, R20, R30, R32, R335, R339): the Cairn sends its oldest unsent entry to its Spur's input when that
has room and no earlier entry of the Cairn stands at the other's, behind every entry of an earlier hub cycle and before those of this one with
a higher ID; a unit's own event takes the next place of a queue that is not full, and the units it concerns show the new owner or
context; an acknowledgement frees the oldest numbered entry, whose place a held EVT_DROP or a
held fault takes. -/
def Obligations.ReportsTravelToTheArbiter : Prop :=
  (∀ (id leaf : Nat) (pre post : List QEnt) (q : QEnt) (s : State), s.rst.on = true → kindOf id ≠ 0 → (s.cairn id).powered = true →
    (s.cairn id).leafValid = true → s.reachable id = true → s.wait (s.server (halfOf id)) = [] →
    (s.fifo (s.server (halfOf id))).length < 64 →
    (∀ e ∈ s.fifo (1 - s.server (halfOf id)) ++ s.wait (1 - s.server (halfOf id)), e.src ≠ id) →
    (s.cairn id).queue = pre ++ q :: post → (∀ p ∈ pre, p.sent = true) → q.sent = false →
    runs (.class1Report id leaf none) s fun t =>
      (∃ a b : List Ev, s.fifo (s.server (halfOf id)) = a ++ b ∧ t.fifo (s.server (halfOf id)) = a ++ q.ev :: b
        ∧ (∀ e ∈ b.head?, q.ev.src < e.src)
        ∧ ((if s.server (halfOf id) = 0 then s.sum.in0 else s.sum.in1).1 ≠ s.clk * 2 / 5 → b = []))
      ∧ t.cairn id = { s.cairn id with queue := pre ++ { q with sent := true } :: post }
      ∧ s.only t id ∧ s.frame t [] [] [.tree, .cairns])
  ∧ (∀ (id leaf : Nat) (u : UnitEvent) (s : State), s.rst.on = true → kindOf id ≠ 0 → (s.cairn id).powered = true →
    (s.cairn id).queue.length < 8 → s.leafShows id leaf = true →
    (match u with | .own c _ _ | .ctx c _ _ => s.scopeOk c id = true | _ => True) →
    runs (.class1Report id leaf (some u)) s fun t =>
      (∃ e : QEnt, (t.cairn id).queue = (s.cairn id).queue ++ [e] ∧ e.sent = false ∧ e.numbered = false ∧ e.ev.src = id ∧ e.ev.stamp = leaf
        ∧ match u with
          | .own c n x => e.ev.name = .own ∧ (id ∈ s.scopeUnits c id → e.ev.sec = x)
              ∧ e.ev.data = [.w (unitCode c id), .w (n % 65536), .w ((s.cairn id).f CF.U_OWNER_TENANT)]
              ∧ ∀ i ∈ s.scopeUnits c id, (t.cairn i).f CF.U_OWNER_TENANT = n % 65536 ∧ (t.cairn i).f CF.U_OWNER_SEC = b2n x
          | .ctx c n x => e.ev.name = .ctx ∧ (id ∈ s.scopeUnits c id → e.ev.sec = x) ∧ e.ev.data = [.w (unitCode c id), .w (n % 2 ^ 20 + 2 ^ 24 * b2n x)]
              ∧ ∀ i ∈ s.scopeUnits c id, (t.cairn i).f CF.U_CTX_CTX = n % 2 ^ 20 ∧ (t.cairn i).f CF.U_OWNER_SEC = b2n x
          | .lowPower => e.ev.name = .dormant ∧ e.ev.data = [.w id] ∧ (t.cairn id).asleep = true ∧ (t.cairn id).dormT = leaf
          | .wake => e.ev.name = .resume ∧ (t.cairn id).asleep = false)
      ∧ (∀ j, j ≠ id → (match u with | .own c _ _ | .ctx c _ _ => j ∉ s.scopeUnits c id | _ => True) → t.cairn j = s.cairn j)
      ∧ s.frame t mirrorRegs [] [.tree, .cairns])
  ∧ (∀ (id : Nat) (pre post : List QEnt) (q : QEnt) (s : State), s.rst.on = true → kindOf id ≠ 0 → (s.cairn id).powered = true →
    s.reachable id = true → (s.cairn id).queue = pre ++ q :: post → (∀ p ∈ pre, p.numbered = false) → q.numbered = true →
    runs (.summitAck id) s fun t =>
      ((s.cairn id).dropped = 0 → (s.cairn id).pendFlt = [] → t.cairn id = { s.cairn id with queue := pre ++ post })
      ∧ ((s.cairn id).dropped ≠ 0 → (s.cairn id).pendFlt = [] →
        ∃ e : QEnt, (t.cairn id).queue = pre ++ post ++ [e] ∧ e.sent = false ∧ e.ev.name = .evtDrop
          ∧ e.ev.data = [.w (s.cairn id).dropped] ∧ e.ev.stamp = s.leafVal id ∧ (t.cairn id).dropped = 0)
      ∧ (∀ p ps, (s.cairn id).dropped = 0 → (s.cairn id).pendFlt = p :: ps →
        ∃ e : QEnt, (t.cairn id).queue = pre ++ post ++ [e] ∧ e.sent = false ∧ e.ev.name = .fault ∧ e.ev.flt = some p.info
          ∧ e.ev.stamp = p.stamp ∧ (t.cairn id).pendFlt = ps)
      ∧ s.only t id ∧ s.frame t mirrorRegs [] [.free, .tree, .cairns])

/-- ARBITER_NUMBER (R30, R31, R33): the head that goes before every other takes the next number; at the wrap the epoch rises and
SEQ_WRAP takes number 0 of it, with the new epoch and the time. -/
def Obligations.ArbiterNumbersOneHead : Prop :=
  ∀ s : State, s.rst.on = true → s.heads ≠ [] → ∃ h ∈ s.heads, (∀ g ∈ s.heads, h.2.first g.2 = true) ∧
    runs .arbiterNumber s fun t =>
      (∃ n ∈ t.tal.queue, n.seq = s.rd R.SUM_SEQ_NEXT ∧ n.epoch = s.rd R.SUM_SEQ_EPOCH ∧ n.ev.name = h.2.name ∧ n.ev.src = h.2.src
        ∧ n.ev.stamp = h.2.stamp)
      ∧ (s.rd R.SUM_SEQ_NEXT + 1 < 2 ^ 32 → t.rd R.SUM_SEQ_NEXT = s.rd R.SUM_SEQ_NEXT + 1 ∧ t.rd R.SUM_SEQ_EPOCH = s.rd R.SUM_SEQ_EPOCH)
      ∧ (s.rd R.SUM_SEQ_NEXT + 1 = 2 ^ 32 → t.rd R.SUM_SEQ_NEXT = 1 ∧ t.rd R.SUM_SEQ_EPOCH = (s.rd R.SUM_SEQ_EPOCH + 1) % 2 ^ 32
        ∧ ∃ n ∈ t.tal.queue, n.seq = 0 ∧ n.epoch = (s.rd R.SUM_SEQ_EPOCH + 1) % 2 ^ 32 ∧ n.ev.name = .seqWrap ∧ n.ev.src = 0x1000
          ∧ n.ev.data = [.w ((s.rd R.SUM_SEQ_EPOCH + 1) % 2 ^ 32), .d s.now])
      ∧ t.now = s.now

/-- The Spurs, their mirrors and Col (R20 to R22, R26, R27, R37, R38). -/
def Obligations.SpursAndCol : Prop :=
  (∀ (p id : Nat) (rest : List Nat) (s : State), s.rst.on = true → p < 2 → s.spur 0 ≠ 2 → s.spur 1 ≠ 2 →
    (if p = 0 then s.sum.mirPend0 else s.sum.mirPend1) = id :: rest →
    runs (.mirrorUpdate p) s fun t =>
      smGet MirEnt.none t.sum.mirror id = s.entryOf id ∧ (if p = 0 then t.sum.mirPend0 else t.sum.mirPend1) = rest
      ∧ t.f (F.SPR_STAT_MIRROR_OK (1 - p)) = b2n rest.isEmpty ∧ s.frame t [R.SPR_STAT (1 - p)] [] [.tree])
  ∧ (∀ (p : Nat) (s : State), s.rst.on = true → p < 2 → s.spur p ≠ 2 →
    runs (.livenessFlit p) s fun t =>
      (if p = 0 then t.sum.live0 else t.sum.live1) = s.clk
      ∧ t.f (F.SPR_LIVE_MISS_CNT p)
        = min (s.f (F.SPR_LIVE_MISS_CNT p) + ((s.clk - (if p = 0 then s.sum.live0 else s.sum.live1)) / 256 - 1)) 0xFFFF
      ∧ s.frame t [R.SPR_LIVE_MISS p] [] [.tree])
  ∧ (∀ (p : Nat) (b : Bool) (s : State), s.rst.on = true → p < 2 → s.spur p ≠ 2 → s.enumerated = true →
    (b = true ∨ (if p = 0 then s.sum.live0 else s.sum.live1) + 1024 ≤ s.clk) →
    runs (.spurLivenessTimeout p b) s fun t =>
      t.spur p = 2 ∧ t.f (F.SPR_STAT_STATE p) = 2 ∧ bit (t.rd (0x12014 + 0x1000 * p)) 0 = true
      ∧ (s.spur (1 - p) = 2 → t.f F.FLT_STAT_FATAL_N = 1 ∧ bit (t.rd 0x14) 0 = true)
      ∧ t.mem = s.mem ∧ t.otp = s.otp ∧ t.mram = s.mram)
  ∧ (∀ (p : Nat) (s : State), s.rst.on = true → p < 2 → s.sum.takeover = some p → s.spur p ≠ 2 →
    s.sum.lostNum = true → s.sum.lostT + 176 ≤ s.clk →
    runs .takeoverComplete s fun t => t.spur p = 1 ∧ t.f (F.SPR_STAT_STATE p) = 1 ∧ t.sum.takeover = none ∧ t.mem = s.mem)
  ∧ (∀ (m : Master) (p : Nat) (v : Word) (s : State), s.ready m (some rtFaultInject) R.SUM_TOPO_CTRL = true → p < 2 → s.lcs = 2 →
    bit v.toNat p = true → s.spur p ≠ 2 →
    runs (.forceSpurLoss m v) s fun t => t.spur p = 2 ∧ bit (t.rd R.SUM_TOPO_CTRL) p = true ∧ (t.mst m).resp = ⟨codeOk, 0⟩)
  ∧ (∀ (g : Nat) (s : State), s.rst.on = true → g < 3 →
    runs (.colLaneFail g) s fun t =>
      (bit (s.f F.COL_STAT_GRP_SPARED) g = false →
        t.f F.COL_STAT_GRP_SPARED = setBit (s.f F.COL_STAT_GRP_SPARED) g ∧ t.f F.COL_STAT_GRP_OK = s.f F.COL_STAT_GRP_OK
        ∧ bit (t.rd 0x14014) 0 = true)
      ∧ (bit (s.f F.COL_STAT_GRP_SPARED) g = true →
        t.f F.COL_STAT_GRP_OK = clrBit (s.f F.COL_STAT_GRP_OK) g ∧ t.f F.SUM_TOPO_STAT_COL_GRP_OK = clrBit (s.f F.COL_STAT_GRP_OK) g
        ∧ t.f F.COL_STAT_LOST = 1 ∧ bit (t.rd 0x14014) 1 = true)
      ∧ s.frame t [R.SUM_TOPO_STAT, R.FLT_STAT, R.FLT_CLASS_FLAGS] [0x14] [.intq, .flt])

/-! ### The register space (02) -/

/-- REGISTER_WRITE, REGISTER_READ and READ_CLEAR (R46, R48 to R50, R57, R61, R71). A write that is carried out completes with
OK, and a plain RW register then holds the bits written that it implements; one without the right completes with RIGHTS and
changes no register but the master's own SUM_ERR; the two halves of a pair take effect together. A read shows the register, and an RC register is then at its reset
value; a read of SPR_STAGE_USED starts its high-water mark again from what is in use (01 R38). -/
def Obligations.RegisterReadsAndWrites : Prop :=
  (∀ (m : Master) (a : Nat) (v : Nat) (s : State), s.ready m (hubWrite (.mst m) a) a = true → a % 4 = 0 → a < 2 ^ 20 → v < 2 ^ 32 →
    apAddr a = false → pageThere (a / 0x1000) = true → deniedWrite (.mst m) a v = false →
    runs (.registerWrite m a 4 v) s fun t => (t.mst m).resp = ⟨codeOk, 0⟩)
  ∧ (∀ (m : Master) (a : Nat) (r : RegRow) (v : Nat) (s : State),
    a ∈ [R.SUM_DEV_ID, R.SUM_CWIN_TMO, R.CWIN_SEL0, R.CWIN_SEL2, R.RDG_EPOCH_INT, R.SCR_FLOW_EN 0, R.SCR_FLOW_EN 7, R.FLT_FENCE_SEL,
      R.WCH_LAG_SEL, R.PASS_KA_TMO] → hubRow a = some r →
    s.ready m (hubWrite (.mst m) a) a = true → v < 2 ^ 32 →
    runs (.registerWrite m a 4 v) s fun t =>
      Nat.land (t.rd (if r.banked then bk m a else a)) r.mask = Nat.land v r.mask
      ∧ s.frame t [if r.banked then bk m a else a] [] [.access])
  ∧ (∀ (m : Master) (a : Nat) (v : Nat) (s : State), s.ready m none a = true → a % 4 = 0 → a < 2 ^ 20 → apAddr a = false →
    pageThere (a / 0x1000) = true → s.may (.mst m) (hubWrite (.mst m) a) = false → v < 2 ^ 32 →
    runs (.registerWrite m a 4 v) s fun t =>
      (t.mst m).resp = ⟨codeRights, 0⟩ ∧ s.frame t [bk m R.SUM_ERR, bk m R.SUM_ERR_ADDR, 0x10024] [] [.access, .intq]
      ∧ (s.f (bkF m F.SUM_ERR_VALID) = 0 → t.f (bkF m F.SUM_ERR_VALID) = 1 ∧ t.f (bkF m F.SUM_ERR_CODE) = codeRights
        ∧ t.rd (bk m R.SUM_ERR_ADDR) = a)
      ∧ ((s.mst m).denied = false → t.sum.intq = s.sum.intq ++ [s.ev .accessDenied 0x1007 [.w (mNum m), .w a]]))
  ∧ (∀ (v : Nat) (s : State), s.ready .host (some rtHalt) R.SUM_CUT_REQ_T_LO = true → v < 2 ^ 64 →
    runs (.registerWrite .host R.SUM_CUT_REQ_T_LO 8 v) s fun t =>
      t.rd64 R.SUM_CUT_REQ_T_LO = v ∧ s.frame t [R.SUM_CUT_REQ_T_LO, R.SUM_CUT_REQ_T_HI] [] [.access])
  ∧ (∀ (m : Master) (v w : Nat) (s : State), s.ready m (some rtHalt) R.SUM_CUT_REQ_T_LO = true → v < 2 ^ 32 → w < 2 ^ 32 →
    runs (.registerWrite m R.SUM_CUT_REQ_T_LO 4 v) s fun t => s.frame t [] [] [.access] ∧
      runs (.registerWrite m R.SUM_CUT_REQ_T_HI 4 w) t fun u =>
        u.rd64 R.SUM_CUT_REQ_T_LO = v + 2 ^ 32 * w ∧ s.frame u [R.SUM_CUT_REQ_T_LO, R.SUM_CUT_REQ_T_HI] [] [.access])
  ∧ (∀ (m : Master) (a : Nat) (r : RegRow) (s : State), s.ready m (hubRead a) a = true → hubRow a = some r → r.acc = .ro ∨ r.acc = .rw →
    a % 0x1000 ≥ 0x40 → a % 4 = 0 → a < 2 ^ 20 → apAddr a = false → pageThere (a / 0x1000) = true → s.shown (.mst m) a = none →
    s.shownTo m a = none → (a < 0x3000 ∨ 0x7000 ≤ a ∨ a % 0x1000 ≠ 0x104) → a ≠ R.AUTH_BUF_DATA → (s.mst m).capHi = none →
    runs (.registerRead m a 4) s fun t =>
      (t.mst m).resp = ⟨codeOk, s.rd (if r.banked then bk m a else a)⟩
      ∧ (∀ p, p < 2 → a = 0x12044 + 0x1000 * p → s.spur p ≠ 2 → t.f (F.SPR_STAGE_USED_HWM p) = s.f (F.SPR_STAGE_USED_USED p))
      ∧ s.frame t (if a = 0x12044 ∨ a = 0x13044 then [a] else []) [] [.access])
  ∧ (∀ (m : Master) (a : Nat) (r : RegRow) (s : State), s.ready m (hubRead a) a = true → hubRow a = some r → r.acc = .rc →
    a % 0x1000 ≥ 0x40 → a % 4 = 0 → a < 2 ^ 20 → apAddr a = false → pageThere (a / 0x1000) = true → s.shown (.mst m) a = none →
    s.shownTo m a = none → (a < 0x3000 ∨ 0x7000 ≤ a ∨ a % 0x1000 ≠ 0x104) → (s.mst m).capHi = none →
    runs (.readClear m a) s fun t =>
      (t.mst m).resp = ⟨codeOk, s.rd (if r.banked then bk m a else a)⟩ ∧ t.rd (if r.banked then bk m a else a) = r.reset % 2 ^ 32
      ∧ s.frame t [if r.banked then bk m a else a] [] [.access])

/-- Every access is a naturally aligned one of 32 bits (R45): any other completes with ALIGN, in an aperture too; a host access of 64 bits is two of 32, the
lower address first, each of which completes on its own; a read of the time gives one 64-bit value: the low word as it is, and the high word as it was at that
read (R46). -/
def Obligations.AccessWidthsAndPairs : Prop :=
  (∀ (m : Master) (a w v : Nat) (s : State), s.ready m none a = true → a < 2 ^ 20 → (w ≠ 4 ∨ a % 4 ≠ 0) → (m = .pass ∨ w ≠ 8 ∨ a % 8 ≠ 0) →
    apAddr a = false →
    (runs (.registerWrite m a w v) s fun t => (t.mst m).resp = ⟨codeAlign, 0⟩ ∧ s.frame t [bk m R.SUM_ERR, bk m R.SUM_ERR_ADDR] [] [.access])
    ∧ runs (.registerRead m a w) s fun t => (t.mst m).resp = ⟨codeAlign, 0⟩ ∧ s.frame t [bk m R.SUM_ERR, bk m R.SUM_ERR_ADDR] [] [.access])
  ∧ (∀ (m : Master) (a w v : Nat) (b : Bool) (s : State), s.ready m none a = true → a < 2 ^ 20 → (w ≠ 4 ∨ a % 4 ≠ 0) → (m = .pass ∨ w ≠ 8 ∨ a % 8 ≠ 0) →
    apAddr a = true →
    runs (.apertureAccess m a w b v) s fun t => (t.mst m).resp = ⟨codeAlign, 0⟩ ∧ t.apsOf m = [] ∧ t.cairns = s.cairns)
  ∧ (∀ (a v : Nat) (s : State), a ∈ [R.SUM_CUT_REQ_T_LO, R.CWIN_SEL0, R.SCR_FLOW_EN 0, R.SCR_FLOW_EN 6] → v < 2 ^ 64 →
    s.ready .host (hubWrite (.mst .host) a) a = true → s.ready .host (hubWrite (.mst .host) (a + 4)) (a + 4) = true →
    runs (.registerWrite .host a 4 (v % 2 ^ 32)) s fun t => runs (.registerWrite .host (a + 4) 4 (v / 2 ^ 32)) t fun u =>
      exec (.registerWrite .host a 8 v) s = .next u)
  ∧ (∀ (a : Nat) (s : State), a ∈ [R.RDG_NOW_LO, R.SUM_CUT_T_LO, R.CWIN_SEL0, R.SUM_TOPO_CTRL] → s.ready .host (hubRead a) a = true →
    runs (.registerRead .host a 4) s fun t => runs (.registerRead .host (a + 4) 4) t fun u => exec (.registerRead .host a 8) s = .next u)
  ∧ (∀ (m : Master) (s u : State), s.ready m (some rtObserve) R.RDG_NOW_LO = true ∨ s.ready m none R.RDG_NOW_LO = true →
    (s.mst m).capHi = none → u.ready m none R.RDG_NOW_HI = true →
    runs (.registerRead m R.RDG_NOW_LO 4) s fun t => (t.mst m).resp = ⟨codeOk, s.now % 2 ^ 32⟩ ∧
      (u.mst m = t.mst m →
        runs (.registerRead m R.RDG_NOW_HI 4) u fun x => (x.mst m).resp = ⟨codeOk, s.now / 2 ^ 32 % 2 ^ 32⟩))

/-- An access to a reserved page completes with NO_PAGE and changes nothing but the master's SUM_ERR (R43; ahead of it stand ALIGN and RESET, R48). -/
def Obligations.ReservedPages : Prop :=
  (∀ (m : Master) (p o v : Nat) (s : State), p = 0x07 ∨ (0x15 ≤ p ∧ p ≤ 0x1F) ∨ (0x21 ≤ p ∧ p ≤ 0xFF) → o < 0x1000 → o % 4 = 0 →
    s.rst.on = true → s.inReset = false → s.nextGrant = none → s.apsOf m = [] → s.sum.held.any (fun y => y.master == m) = false →
    (runs (.registerWrite m (0x1000 * p + o) 4 v) s fun t =>
      (t.mst m).resp = ⟨codeNoPage, 0⟩ ∧ s.frame t [bk m R.SUM_ERR, bk m R.SUM_ERR_ADDR] [] [.access])
    ∧ runs (.registerRead m (0x1000 * p + o) 4) s fun t =>
      (t.mst m).resp = ⟨codeNoPage, 0⟩ ∧ s.frame t [bk m R.SUM_ERR, bk m R.SUM_ERR_ADDR] [] [.access])
  ∧ (∀ p, p < 0x100 → (pageThere p = false ↔ p = 0x07 ∨ (0x15 ≤ p ∧ p ≤ 0x1F) ∨ (0x21 ≤ p ∧ p ≤ 0xFF)))

/-- The Cairn window (R54, R62, R64 to R69): an access takes its Cairn from its aperture's selection; one that names no unit completes
with NO_UNIT and one without the right with RIGHTS; every other enters the window behind every access that has arrived (01 R10), and its
answer, when it is the next that its Spur takes, or its timeout completes it. -/
def Obligations.ApertureAccesses : Prop :=
  (∀ (m : Master) (n o v : Nat) (w : Bool) (s : State), n < 3 → o % 4 = 0 → o < 0x400 → v < 2 ^ 32 →
    let a := 0x20400 + 0x400 * n + o
    let id := s.rd (bk m (R.CWIN_SEL0 + 4 * n)) % 4096
    s.ready m none a = true → id < 0xBC0 → s.may (.mst m) (if w then s.crnWrite o else crnRead o) = true →
    runs (.apertureAccess m a 4 w v) s fun t =>
      t.apsOf m = [⟨m, a, id, o, w, v, s.clk, s.server (halfOf id), none, s.sum.arrNo⟩] ∧ t.sum.arrNo = s.sum.arrNo + 1
      ∧ s.frame t mirrorRegs [] [.access, .tree])
  ∧ (∀ (m : Master) (n o v : Nat) (w : Bool) (s : State), n < 3 → o % 4 = 0 → o < 0x400 → v < 2 ^ 32 →
    let a := 0x20400 + 0x400 * n + o
    let id := s.rd (bk m (R.CWIN_SEL0 + 4 * n)) % 4096
    s.ready m none a = true → (0xBC0 ≤ id ∨ s.may (.mst m) (if w then s.crnWrite o else crnRead o) = false) →
    runs (.apertureAccess m a 4 w v) s fun t =>
      t.apsOf m = [] ∧ (t.mst m).resp = ⟨if 0xBC0 ≤ id then codeNoUnit else codeRights, 0⟩
      ∧ t.rd (bk m R.CWIN_TOTAL) = (s.rd (bk m R.CWIN_TOTAL) + 1) % 2 ^ 32
      ∧ t.rd (bk m R.CWIN_ERRS) = (s.rd (bk m R.CWIN_ERRS) + 1) % 2 ^ 32 ∧ t.cairns = s.cairns ∧ t.mem = s.mem)
  ∧ (∀ (m : Master) (x : ApAcc) (s : State), s.rst.on = true → s.apsOf m = [x] → x.master = m → s.reachable x.cairn = true →
    s.clk < x.t0 + s.cwinTmo → s.nextAt x.cairn x.no = true → s.pass.accWait = false → s.pass.reqs = [] →
    s.sum.held.any (fun y => y.master == m) = false → (s.mst m).capHi = none →
    runs (.apertureAnswer m) s fun t =>
      ((s.cairn x.cairn).powered = true → (s.cairn x.cairn).noAnswer = false → x.write = false → x.off = 0 →
        (t.mst m).resp = ⟨codeOk, 0x80 + kindOf x.cairn + 2 ^ 8 * x.cairn + 2 ^ 20⟩ ∧ t.apsOf m = [])
      ∧ ((s.cairn x.cairn).powered = false → x.write = true ∨ x.off ≠ 0 ∧ x.off ≠ 0x0C →
        (t.mst m).resp = ⟨codeDormant, 0⟩ ∧ t.apsOf m = []))
  ∧ (∀ (m : Master) (x : ApAcc) (s : State), s.rst.on = true → s.apsOf m = [x] → x.master = m → x.t0 + s.cwinTmo ≤ s.clk →
    s.pass.accWait = false → s.pass.reqs = [] → s.sum.held = [] →
    runs (.apertureTimeout m) s fun t =>
      t.apsOf m = [] ∧ (t.mst m).resp = ⟨codeTimeout, 0⟩ ∧ t.f (bkF m F.CWIN_STAT_LAST_CODE) = codeTimeout
      ∧ t.rd (bk m R.CWIN_ERRS) = (s.rd (bk m R.CWIN_ERRS) + 1) % 2 ^ 32
      ∧ s.frame t ([bk m R.CWIN_STAT, bk m R.CWIN_TOTAL, bk m R.CWIN_ERRS, bk m R.SUM_ERR, bk m R.SUM_ERR_ADDR] ++ mirrorRegs) [] [.access, .tree])

/-- The exclusive session (R72, R74, R75): the Pass master acquires it with EXCLUSIVE and releases it; the host may ask for its end; it
ends by itself when the lease has run out. -/
def Obligations.ExclusiveSession : Prop :=
  (∀ (v : Word) (s : State), s.ready .pass (some rtExclusive) R.SUM_EXCL = true → bit v.toNat 1 = true → bit v.toNat 2 = false →
    runs (.exclAcquire .pass v) s fun t =>
      t.f F.SUM_EXCL_EXCL = 1 ∧ t.f F.SUM_EXCL_LEASE_MS = v.toNat / 65536 ∧ (s.excl = true → t.f F.SUM_EXCL_HOST_REQ = 0)
      ∧ s.frame t [R.SUM_EXCL] [] [.access])
  ∧ (∀ (v : Word) (s : State), s.ready .pass (some rtExclusive) R.SUM_EXCL = true → bit v.toNat 1 = false → bit v.toNat 2 = true →
    s.excl = true →
    runs (.exclRelease .pass v) s fun t =>
      t.f F.SUM_EXCL_EXCL = 0 ∧ t.f F.SUM_EXCL_HOST_REQ = 0 ∧ (∃ c, t.sum.intq = s.sum.intq ++ [s.ev .exclEnd 0x1009 [.w c]])
      ∧ s.frame t [R.SUM_EXCL, 0x11024] [] [.access, .intq])
  ∧ (∀ (v : Word) (s : State), s.rst.on = true → s.inReset = false → s.nextGrant = none → s.apsOf .host = [] →
    s.sum.held.any (fun y => y.master == .host) = false → (∀ h, s.sum.hostM.heldLo = some h → h.1 + 4 ≠ R.SUM_EXCL) →
    bit v.toNat 1 = false → bit v.toNat 2 = false → bit v.toNat 3 = true →
    runs (.hostReq .host v) s fun t =>
      t.f F.SUM_EXCL_HOST_REQ = 1 ∧ t.f F.SUM_EXCL_EXCL = s.f F.SUM_EXCL_EXCL
      ∧ t.sum.intq = s.sum.intq ++ [s.ev .exclRequest 0x1009 []] ∧ s.frame t [R.SUM_EXCL, 0x11024] [] [.access, .intq])
  ∧ (∀ s : State, s.rst.on = true → s.excl = true → s.sum.lastPass + max (s.f F.SUM_EXCL_LEASE_MS) 1 * 2500000 ≤ s.clk →
    runs .exclLeaseExpiry s fun t =>
      t.f F.SUM_EXCL_EXCL = 0 ∧ t.f F.SUM_EXCL_HOST_REQ = 0 ∧ (∃ c, t.sum.intq = s.sum.intq ++ [s.ev .exclEnd 0x1009 [.w c]])
      ∧ s.frame t [R.SUM_EXCL, 0x11024] [] [.intq])

/-! ### Ridgeline (03; 01 R17) -/

/-- TSYNC_EPOCH, TSYNC_LOST and SLEW_POINT (R80, R82 to R86): the first accepted epoch loads the counter; a later one gives its offset D,
which a slew takes up when tracking is on, or, once a reload is armed and the device is behind, loads the counter; a mark or frame that is not accepted
is counted; a slew point moves the counter by 0 or by 2.
REFCLK_GLITCH, REFCLK_LOST and PLL_RELOCK (R101 to R103). -/
def Obligations.Timekeeping : Prop :=
  (∀ (high low edge lE start frame : Nat) (s : State), s.rst.on = true → s.rdg.running = true → lE ≤ s.now →
    s.f F.RDG_STAT_HOLDOVER = 0 → 8 ≤ high → 8 ≤ low → frameOk start frame = true → s.rdg.lastE = none → s.f F.RDG_STAT_LOADED = 0 →
    runs (.tsyncEpoch high low edge lE start frame) s fun t =>
      t.now = bits frame 1 64 + (s.now - lE) ∧ t.clk = s.clk ∧ t.f F.RDG_STAT_LOADED = 1 ∧ t.f F.RDG_STAT_TSYNC_OK = 1
      ∧ t.rd64 R.RDG_EPOCH_TK_LO = bits frame 1 64 ∧ t.rdg.lastE = some edge
      ∧ (∃ e ∈ t.sum.intq, e.name = .timeLoad ∧ e.data = [.d s.now, .d t.now])
      ∧ t.rdg.lastRaw = s.rdg.raw - (s.now - lE) ∧ t.scr = { s.scr with lastSync := (t.now + 65535) / 65536 - 1 }
      ∧ (s.rdg.slewRem = 0 → t.f F.RDG_STAT_ALIGNED = 1)
      ∧ s.frame t [R.RDG_EPOCH_TK_LO, R.RDG_EPOCH_TK_HI, R.RDG_FRAME_FLAGS, R.RDG_STAT, 0x1024] [] [.rdg, .intq, .scr])
  ∧ (∀ (high low edge lE start frame e0 : Nat) (s : State), s.rst.on = true → s.rdg.running = true → lE ≤ s.now →
    s.f F.RDG_STAT_HOLDOVER = 0 → 8 ≤ high → 8 ≤ low → frameOk start frame = true → s.rdg.lastE = some e0 → s.f F.RDG_STAT_LOADED = 1 →
    s.f F.RDG_STAT_RELOAD_ARMED = 0 → edge = e0 + s.rdg.interval → bits frame 1 64 = s.rd64 R.RDG_EPOCH_TK_LO + 25 * s.rdg.interval →
    runs (.tsyncEpoch high low edge lE start frame) s fun t =>
      let d : Int := (lE : Int) - (bits frame 1 64 : Int)
      t.now = s.now ∧ t.rd R.RDG_OFFSET = signed32 d ∧ t.rd64 R.RDG_EPOCH_TK_LO = bits frame 1 64 ∧ t.rdg.lastE = some edge
      ∧ (s.f F.RDG_CTRL_TRACK_EN = 1 → t.rdg.slewRem = if -1 ≤ d ∧ d ≤ 1 then 0 else d)
      ∧ (s.f F.RDG_CTRL_TRACK_EN = 0 → t.rdg.slewRem = s.rdg.slewRem)
      ∧ s.frame t [] [0x01] [.rdg, .intq])
  ∧ (∀ (high low edge lE start frame e0 : Nat) (s : State), s.rst.on = true → s.rdg.running = true → lE ≤ s.now →
    s.f F.RDG_STAT_HOLDOVER = 0 → 8 ≤ high → 8 ≤ low → frameOk start frame = true → s.rdg.lastE = some e0 → s.f F.RDG_STAT_LOADED = 1 →
    s.f F.RDG_STAT_RELOAD_ARMED = 1 → lE < bits frame 1 64 → edge = e0 + s.rdg.interval →
    bits frame 1 64 = s.rd64 R.RDG_EPOCH_TK_LO + 25 * s.rdg.interval →
    runs (.tsyncEpoch high low edge lE start frame) s fun t =>
      t.now = bits frame 1 64 + (s.now - lE) ∧ t.f F.RDG_STAT_RELOAD_ARMED = 0 ∧ t.rdg.slewRem = 0 ∧ s.frame t [] [0x01] [.rdg, .intq, .scr])
  ∧ (∀ (high low edge lE start frame : Nat) (s : State), s.rst.on = true → s.rdg.running = true → lE ≤ s.now →
    s.f F.RDG_STAT_HOLDOVER = 0 → (high < 8 ∨ low < 8 ∨ frameOk start frame = false) →
    runs (.tsyncEpoch high low edge lE start frame) s fun t =>
      t.rdg = s.rdg ∧ t.f F.RDG_TSYNC_BAD_CNT = min (s.f F.RDG_TSYNC_BAD_CNT + 1) 0xFFFF ∧ bit (t.rd 0x1014) 2 = true
      ∧ t.f F.RDG_STAT_LOADED = s.f F.RDG_STAT_LOADED ∧ s.frame t [R.RDG_TSYNC_BAD, R.RDG_STAT, 0x1010, 0x1014] [] [.intq])
  ∧ (∀ s : State, s.rst.on = true → s.tsyncLate = true →
    runs .tsyncLost s fun t =>
      t.f F.RDG_STAT_TSYNC_OK = 0 ∧ t.f F.RDG_STAT_ALIGNED = 0 ∧ bit (t.rd 0x1014) 3 = true ∧ t.rdg = { s.rdg with tsyncLost := true }
      ∧ s.frame t [R.RDG_STAT, 0x1010, 0x1014, 0x1024] [] [.rdg, .intq])
  ∧ (∀ s : State, s.rst.on = true → s.slewDue = true →
    runs .slewPoint s fun t =>
      t.clk = s.clk + 1 ∧ (0 < s.rdg.slewRem → t.now = s.now ∧ t.rdg.slewRem = s.rdg.slewRem - 1)
      ∧ (s.rdg.slewRem < 0 → t.now = s.now + 2 ∧ t.rdg.slewRem = s.rdg.slewRem + 1)
      ∧ t.rd R.RDG_SLEW_REM = signed32 t.rdg.slewRem ∧ t.f F.RDG_STAT_SLEWING = b2n (t.rdg.slewRem != 0)
      ∧ s.frame t [R.RDG_SLEW_REM, R.RDG_STAT, 0x1024] [] [.rdg, .intq])
  ∧ (∀ s : State, s.rst.on = true → s.rdg.running = true →
    runs .refclkGlitch s fun t =>
      t.f F.RDG_REF_GLITCH_CNT = min (s.f F.RDG_REF_GLITCH_CNT + 1) 0xFFFF ∧ bit (t.rd 0x1014) 0 = true ∧ t.now = s.now
      ∧ (15 ≤ (s.rdg.glitches.filter fun g => decide (s.clk < g + 25000)).length → s.f F.RDG_STAT_HOLDOVER = 0 →
        t.f F.RDG_STAT_HOLDOVER = 1 ∧ bit (t.rd 0x1014) 1 = true)
      ∧ ((s.rdg.glitches.filter fun g => decide (s.clk < g + 25000)).length < 15 → t.f F.RDG_STAT_HOLDOVER = s.f F.RDG_STAT_HOLDOVER)
      ∧ s.frame t [R.RDG_REF_GLITCH, R.RDG_STAT, 0x1010, 0x1014, 0x1024] [] [.rdg, .intq])
  ∧ (∀ s : State, s.rst.on = true → s.rdg.running = true → s.f F.RDG_STAT_HOLDOVER = 0 →
    runs .refclkLost s fun t =>
      t.f F.RDG_STAT_HOLDOVER = 1 ∧ t.f F.RDG_STAT_LOCKED = 0 ∧ t.f F.RDG_STAT_ALIGNED = 0 ∧ bit (t.rd 0x1014) 1 = true ∧ t.now = s.now
      ∧ s.frame t [R.RDG_STAT, 0x1010, 0x1014, 0x1024] [] [.rdg, .intq])
  ∧ (∀ s : State, s.rst.on = true → s.f F.RDG_STAT_HOLDOVER = 1 → s.rdg.refBad + 250000 ≤ s.clk →
    runs .pllRelock s fun t =>
      t.f F.RDG_STAT_HOLDOVER = 0 ∧ t.f F.RDG_STAT_LOCKED = 1 ∧ t.now = s.now ∧ s.frame t [R.RDG_STAT, 0x1024] [] [.rdg, .intq])

/-- RELOAD, CAL_SWEEP, CAL_SLOT, LEAF_LOAD, domains and scheduled actions (R85, R90 to R93, R96; 01 R17; 04 R107): a leaf's slot takes its new
offset from its round trip, or keeps the last good one; a domain is powered as one. -/
def Obligations.LeavesAndDomains : Prop :=
  (∀ (m : Master) (v : Word) (s : State), s.ready m (some rtTime) R.RDG_CTRL = true → bit v.toNat 3 = true → bit v.toNat 2 = false →
    s.anyAction = false →
    runs (.reload m v) s fun t =>
      t.f F.RDG_STAT_RELOAD_ARMED = 1 ∧ t.f F.RDG_CTRL_TRACK_EN = v.toNat % 2 ∧ t.f F.RDG_CTRL_BG_CAL_EN = v.toNat / 2 % 2
      ∧ t.now = s.now ∧ s.frame t [R.RDG_CTRL, R.RDG_STAT, R.RDG_CAL_STAT, R.RDG_CAL_NEXT1] [] [.access, .rdg])
  ∧ (∀ (m : Master) (v : Word) (s : State), s.ready m (some rtTime) R.RDG_CTRL = true → bit v.toNat 2 = true → bit v.toNat 3 = false →
    s.f F.RDG_STAT_SWEEP_BUSY = 0 → s.f F.RDG_STAT_CAL_DONE = 1 →
    runs (.calSweep m v) s fun t =>
      t.f F.RDG_STAT_SWEEP_BUSY = 1 ∧ t.rdg.sweep0 = ⟨0, s.clk + 64, false⟩ ∧ t.rdg.sweep1 = ⟨0, s.clk + 64, false⟩
      ∧ s.frame t [R.RDG_CTRL, R.RDG_STAT, R.RDG_CAL_STAT, R.RDG_CAL_NEXT1] [] [.access, .rdg])
  ∧ (∀ (p xing : Nat) (trip : Option Nat) (s : State), s.rst.on = true → p < 2 → s.slotDue p = true →
    (s.sweep p).pos + 1 < s.sweepLen p →
    let id := s.sweepId p (s.sweep p).pos
    let used := (s.cairn id).powered && (s.cairn id).leafValid
    let delay := fun (n : Nat) => n / 2 + (if halfOf id = 1 then xing % 2 ^ F.COL_XING_TK_TK.width else 0)
    let good := match trip, smGet none s.rdg.delay id with
      | none, _ => false
      | some _, none => true
      | some n, some o => decide (delay n ≤ o + 2) && decide (o ≤ delay n + 2)
    runs (.calSlot p trip xing) s fun t =>
      (t.sweep p).next = (s.sweep p).next + s.slotTk
      ∧ (used = false → (t.sweep p).pos = (s.sweep p).pos + 1 ∧ t.cairn id = s.cairn id)
      ∧ (used = true → good = true → (t.sweep p).pos = (s.sweep p).pos + 1 ∧ t.rdg.failing.contains id = false
        ∧ (∀ n, trip = some n → (t.cairn id).leafOff = delay n ∧ smGet none t.rdg.delay id = some (delay n)))
      ∧ (used = true → good = false → (t.cairn id).leafOff = (s.cairn id).leafOff ∧ smGet none t.rdg.delay id = smGet none s.rdg.delay id)
      ∧ (used = true → good = false → s.rdg.failing.contains id = false →
        (t.sweep p).pos = (s.sweep p).pos ∧ t.rdg.failing.contains id = true)
      ∧ (used = true → good = false → s.rdg.failing.contains id = true →
        (t.sweep p).pos = (s.sweep p).pos + 1 ∧ bit ((t.cairn id).rd 0x14) 0 = true ∧ t.rdg.leafTime.contains id = true)
      ∧ s.only t id ∧ s.frame t [R.RDG_CAL_STAT, R.RDG_CAL_NEXT1, R.COL_XING_TK] [] [.free, .rdg, .tree, .cairns])
  ∧ (∀ (id val : Nat) (trip : Option Nat) (s : State), s.rst.on = true → kindOf id ≠ 0 → (s.cairn id).powered = true →
    (s.cairn id).leafValid = false → s.rdg.running = true → s.reachable id = true → val % 5 = 0 → val ≤ s.now →
    runs (.leafLoad ⟨id, val, trip⟩) s fun t =>
      (t.cairn id).leafValid = true ∧ (t.cairn id).powered = true ∧ (t.cairn id).leafFrom = val
      ∧ t.f (leafValidF (halfOf id)) = min (s.f (leafValidF (halfOf id)) + 1) (2 ^ (leafValidF (halfOf id)).width - 1)
      ∧ (s.rst.warmWait.contains id = false →
        ∃ e ∈ t.sum.fifo0 ++ t.sum.fifo1 ++ t.sum.wait0 ++ t.sum.wait1, e.name = .resume ∧ e.src = id ∧ e.stamp = t.leafVal id)
      ∧ t.mem = s.mem)
  ∧ (∀ (ids : List Nat) (s : State), s.rst.on = true → (∀ id ∈ ids, kindOf id ≠ 0) →
    runs (.domainPowerUp ids) s fun t => (∀ id ∈ s.domUnits ids, (t.cairn id).powered = true) ∧ (∀ id ∈ ids, id ∈ s.domUnits ids)
      ∧ (∀ j, j ∉ s.domUnits ids → s.wch.pend = [] → t.cairn j = s.cairn j) ∧ t.mem = s.mem ∧ t.otp = s.otp)
  ∧ (∀ (ids : List Nat) (s : State), s.rst.on = true → (∀ id ∈ ids, kindOf id ≠ 0) → s.mayPowerDown (s.domUnits ids) = true →
    runs (.domainPowerDown ids) s fun t => (∀ id ∈ s.domUnits ids, t.dormant id = true) ∧ (∀ id ∈ ids, id ∈ s.domUnits ids)
      ∧ t.mem = s.mem ∧ t.otp = s.otp)
  ∧ (∀ (id leaf : Nat) (s : State), s.rst.on = true → kindOf id ≠ 0 → (s.cairn id).powered = true → (s.cairn id).leafValid = true →
    s.leafOk id leaf = true →
    runs (.scheduledActionEffect id leaf) s fun t =>
      (t.cairn id).acts = (s.cairn id).acts.filter (fun a => decide (leaf < a.t))
      ∧ (∀ a ∈ (s.cairn id).acts, a.t ≤ leaf → a.kind ≠ .traceStart → a.kind ≠ .traceStop → a ∈ (t.cairn id).due)
      ∧ (∀ a ∈ (s.cairn id).due, a ∈ (t.cairn id).due) ∧ s.only t id ∧ s.frame t [] [] [.cairns])

/-! ### Consistent cuts (04) -/

/-- The T of a request through SUM_CUT_CMD (R94, R117, R144): now plus the lead, or the T that stands in SUM_CUT_REQ_T with ABS_T, raised to the least T
the hub issues. -/
def cutT (s : State) (v : Nat) : Nat :=
  if bit v 2 then max (s.rd64 R.SUM_CUT_REQ_T_LO) (s.now + 100) else s.now + max (s.f F.SUM_CUT_LEAD_LEAD) 100

/-- CUT_CMD_STOP, _GLANCE, _RESUME and _ABANDON (R117 to R119, R123, R128, R136, R145): a request that the cut state lets through is
scheduled at its T under the next cut ID, with its event; a STOP while a STOP is in effect is merged, and a request with no room or in the wrong state is
refused with its code. -/
def Obligations.CutRequests : Prop :=
  (∀ (m : Master) (v : Word) (s : State), s.ready m (some rtHalt) R.SUM_CUT_CMD = true → v.toNat % 4 = 0 → bit v.toNat 3 = false →
    (s.cutState = 0 ∨ s.cutState = 3 ∨ s.cutState = 1 ∧ s.hasJob .cutStop = false) → s.hasJob .resume = false → s.schedFull = false →
    let id := (s.f F.SUM_CUT_STAT_CUT_ID + 1) % 2 ^ 16
    runs (.cutCmdStop m v) s fun t =>
      t.cutState = 1 ∧ t.f F.SUM_CUT_STAT_CUT_ID = id ∧ t.f F.SUM_CUT_STAT_KIND = 0
      ∧ t.rd64 R.SUM_CUT_T_LO = cutT s v.toNat % 2 ^ 64 ∧ t.rd R.SUM_CUT_SRC = mSrc m
      ∧ s.ev .cut 0x1001 [.w id, .w 0, .d (cutT s v.toNat), .w (mSrc m), .w 0] ∈ t.sum.intq
      ∧ (∃ j ∈ t.cut.jobs, j.kind = .cutStop ∧ j.id = id ∧ j.t = cutT s v.toNat ∧ j.issued = false)
      ∧ (s.stp.active = false → s.frame t [R.SUM_CUT_STAT, R.SUM_CUT_T_LO, R.SUM_CUT_T_HI, R.SUM_CUT_SRC, 0x2024] []
        [.access, .intq, .tree, .cut]))
  ∧ (∀ (m : Master) (v : Word) (s : State), s.ready m (some rtHalt) R.SUM_CUT_CMD = true → v.toNat % 4 = 0 → bit v.toNat 3 = false →
    (s.cutState = 2 ∨ s.cutState = 4 ∨ s.cutState = 1 ∧ s.hasJob .cutStop = true) → s.stp.active = false →
    runs (.cutCmdStop m v) s fun t =>
      t.f F.SUM_CUT_SRC_MERGED = min (s.f F.SUM_CUT_SRC_MERGED + 1) (2 ^ F.SUM_CUT_SRC_MERGED.width - 1)
      ∧ s.frame t [R.SUM_CUT_SRC] [] [.access])
  ∧ (∀ (m : Master) (v : Word) (s : State), s.ready m (some rtHalt) R.SUM_CUT_CMD = true → v.toNat % 4 < 2 → bit v.toNat 3 = false →
    s.cutState = 0 → s.schedFull = true →
    runs (if v.toNat % 4 = 0 then .cutCmdStop m v else .cutCmdGlance m v) s fun t =>
      t.f F.SUM_CUT_STAT_LAST_REFUSAL = 1 ∧ t.cutState = 0
      ∧ t.sum.intq = s.sum.intq ++ [s.ev .cutRefused 0x1001 [.w (s.f F.SUM_CUT_STAT_CUT_ID), .w 1, .w (mSrc m)]]
      ∧ s.frame t [R.SUM_CUT_STAT, 0x2024] [] [.access, .intq])
  ∧ (∀ (m : Master) (v : Word) (n : Nat) (s : State), s.ready m (some rtHalt) R.SUM_CUT_CMD = true → v.toNat % 4 = 1 →
    bit v.toNat 3 = false → s.cutState = 0 → s.schedFull = false →
    s.dumpCode (s.rd (R.COU_PROF (s.f F.COU_CTRL_GLANCE_PROF))) false = couNone → s.cou.freeSlot = some n →
    let id := (s.f F.SUM_CUT_STAT_CUT_ID + 1) % 2 ^ 16
    runs (.cutCmdGlance m v) s fun t =>
      t.cutState = 1 ∧ t.f F.SUM_CUT_STAT_CUT_ID = id ∧ t.f F.SUM_CUT_STAT_KIND = 1
      ∧ t.rd64 R.SUM_CUT_T_LO = cutT s v.toNat % 2 ^ 64 ∧ t.cut.cap = true ∧ t.cut.capId = id ∧ (t.slot n).st = 1
      ∧ (∃ j ∈ t.cut.jobs, j.kind = .cutGlance ∧ j.id = id ∧ j.t = cutT s v.toNat)
      ∧ (∃ e ∈ t.sum.intq, e.name = .cut) ∧ (∃ e ∈ t.sum.intq, e.name = .dumpOpen) ∧ t.cairns = s.cairns ∧ t.otp = s.otp)
  ∧ (∀ (m : Master) (v : Word) (s : State), s.ready m (some rtHalt) R.SUM_CUT_CMD = true → v.toNat % 4 = 2 → bit v.toNat 3 = false →
    (s.cutState = 2 ∨ s.cutState = 4 ∧ s.blockFree = true) → s.schedFull = false →
    runs (.cutCmdResume m v) s fun t =>
      t.cutState = 5 ∧ t.rd64 R.SUM_CUT_T_LO = cutT s v.toNat % 2 ^ 64 ∧ t.f F.SUM_CUT_STAT_CUT_ID = s.f F.SUM_CUT_STAT_CUT_ID
      ∧ t.sum.intq = s.sum.intq ++ [s.ev .resumeSched 0x1001 [.w (s.f F.SUM_CUT_STAT_CUT_ID), .d (cutT s v.toNat)]]
      ∧ (∃ j ∈ t.cut.jobs, j.kind = .resume ∧ j.t = cutT s v.toNat ∧ j.issued = false)
      ∧ s.frame t [R.SUM_CUT_STAT, R.SUM_CUT_T_LO, R.SUM_CUT_T_HI, 0x2024] [] [.access, .intq, .tree, .cut])
  ∧ (∀ (m : Master) (v : Word) (s : State), s.ready m (some rtHalt) R.SUM_CUT_CMD = true → v.toNat % 4 = 2 → bit v.toNat 3 = false →
    (s.cutState = 0 ∨ s.cutState = 3) →
    runs (.cutCmdResume m v) s fun t =>
      t.f F.SUM_CUT_STAT_LAST_REFUSAL = 3 ∧ t.cutState = s.cutState
      ∧ t.sum.intq = s.sum.intq ++ [s.ev .cutRefused 0x1001 [.w (s.f F.SUM_CUT_STAT_CUT_ID), .w 3, .w (mSrc m)]]
      ∧ s.frame t [R.SUM_CUT_STAT, 0x2024] [] [.access, .intq])
  ∧ (∀ (m : Master) (v : Word) (s : State), s.ready m (some rtHalt) R.SUM_CUT_CMD = true → v.toNat % 4 = 3 → s.cut.cap = true →
    s.cut.capAband = false → (s.cutState = 3 ∨ s.cutState = 4) →
    runs (.cutCmdAbandon m v) s fun t =>
      t.f F.SUM_CUT_STAT_PARTIAL = 1 ∧ t.cut.pages = [] ∧ t.rd R.SUM_CUT_UNCAPT = 0
      ∧ (∃ e ∈ t.sum.intq, e.name = .cutPartial ∧ e.data = [.w s.cut.capId, .w s.cut.pages.length])
      ∧ (∀ h ∈ t.cut.held, (t.cairn (t.heldUnit h)).frozen = true))

/-- CUT_MESSAGE, CUT_EDGE and RESUME_EDGE (R95, R108, R109, R119, R123, R146): a leaf takes the first copy of the message, at once and with
LATE_ACTION when its T has passed; every unit of a domain freezes at the edge at which the anchor's leaf reaches T and records it, and runs on at the
release edge. -/
def Obligations.CutEdges : Prop :=
  (∀ (id n leaf : Nat) (m : Msg) (s : State), s.rst.on = true → kindOf id ≠ 0 → (s.cairn id).powered = true →
    (s.cairn id).leafValid = true → s.leafOk id leaf = true → (s.cairn id).rxMsgs.contains n = false →
    smGet none s.sum.msgs n = some m → m.kind = .cutStop ∨ m.kind = .cutGlance ∨ m.kind = .resume →
    runs (.cutMessage id n leaf) s fun t =>
      (t.cairn id).rxMsgs.contains n = true
      ∧ (leaf ≤ m.t → (t.cairn id).acts = (s.cairn id).acts ++ [⟨m.kind, m.t, m.arg⟩] ∧ (t.cairn id).queue = (s.cairn id).queue)
      ∧ (m.t < leaf → (t.cairn id).due = (s.cairn id).due ++ [⟨m.kind, m.t, m.arg⟩]
        ∧ ((s.cairn id).queue.length < 8 → ∃ e ∈ (t.cairn id).queue, e.ev.name = .lateAction ∧ e.ev.data = [.w n, .w (leaf - m.t)]))
      ∧ (m.kind ≠ .resume → (t.cairn id).f CF.CUT_STAT_LATE = b2n (decide (m.t < leaf))
        ∧ ((s.cairn id).frozen = false → (t.cairn id).f CF.CUT_STAT_STATE = 1))
      ∧ s.only t id ∧ s.frame t mirrorRegs [] [.tree, .cairns])
  ∧ (∀ (id n leaf : Nat) (s : State), s.rst.on = true → kindOf id ≠ 0 → (s.cairn id).rxMsgs.contains n = true →
    runs (.cutMessage id n leaf) s fun t => t = s)
  ∧ (∀ (a : EdgeRep) (rest : List EdgeRep) (act : PendAct) (s : State), s.rst.on = true → s.domainOk (a :: rest) = true →
    ((a :: rest).map fun r => r.cairn).Nodup → (∀ r ∈ a :: rest, r.leaf < 2 ^ 64) →
    s.reachedAct a.cairn [.cutStop, .cutGlance] a.leaf = some act → (act.kind = .cutStop ∨ act.kind = .cutGlance) →
    runs (.cutEdge (a :: rest)) s fun t =>
      (∀ r ∈ a :: rest, (t.cairn r.cairn).f CF.CUT_STAT_STATE =
          (if act.kind = .cutStop ∨ (s.cairn r.cairn).frozen = true then 2 else 3)
        ∧ (t.cairn r.cairn).f CF.CUT_STAT_CUT_ID = act.arg % 2 ^ 16
        ∧ (t.cairn r.cairn).rd C.CUT_EDGE_LO + 2 ^ 32 * (t.cairn r.cairn).rd C.CUT_EDGE_HI = r.leaf
        ∧ (t.cairn r.cairn).rd C.CUT_EVT = (s.cairn r.cairn).rd pgEvtCnt)
      ∧ (∀ j ∈ t.cut.jobs, j.kind = act.kind → j.id = act.arg → ∀ r ∈ a :: rest, j.reported.contains r.cairn = true)
      ∧ (∀ i, (∀ r ∈ a :: rest, r.cairn ≠ i) → t.cairn i = s.cairn i) ∧ t.mem = s.mem)
  ∧ (∀ (a : EdgeRep) (rest : List EdgeRep) (act : PendAct) (s : State), s.rst.on = true → s.domainOk (a :: rest) = true →
    ((a :: rest).map fun r => r.cairn).Nodup → s.reachedAct a.cairn [.resume] a.leaf = some act → act.kind = .resume →
    (∀ r ∈ a :: rest, (s.cairn r.cairn).f CF.CUT_STAT_STATE = 2) →
    runs (.resumeEdge (a :: rest)) s fun t =>
      (∀ r ∈ a :: rest, (t.cairn r.cairn).f CF.CUT_STAT_STATE =
          b2n ((s.cairn r.cairn).acts.any fun b => b.kind == .cutStop || b.kind == .cutGlance)
        ∧ (t.cairn r.cairn).f CF.CUT_STAT_HELD_AFTER_WAKE = 0)
      ∧ (∀ j ∈ t.cut.jobs, j.kind = .resume → j.id = act.arg → ∀ r ∈ a :: rest, j.reported.contains r.cairn = true))

/-- SPUR_CUT_AGGREGATE, CUT_REPORT_TIMEOUT and RELEASE_AGGREGATE (R121, R123): a Cairn that has not reported 2,000 tk after T is marked
missing with CUT_NOACK; when both Spurs' aggregates are in, the cut is done, or the device runs on. -/
def Obligations.CutReports : Prop :=
  (∀ (p : Nat) (j : CutJob) (js : List CutJob) (s : State), s.rst.on = true → p < 2 → s.cut.jobs = j :: js → j.kind = .cutStop →
    s.jobReady j p = true → s.bothIn j p = true →
    s.cut.cap = false →
    runs (.spurCutAggregate p) s fun t =>
      t.cutState = (if s.cutState = 4 ∨ s.cutState = 5 then s.cutState else 2) ∧ t.cut.stop = true ∧ t.cut.jobs.length = js.length ∧ t.cut.noAck = j.missing
      ∧ t.sum.intq = s.sum.intq ++ [s.ev .cutDone 0x1001 [.w j.id, .w j.missing.length]]
      ∧ s.frame t [R.SUM_CUT_STAT, R.SUM_CUT_ACKS, 0x2024] [] [.intq, .cut])
  ∧ (∀ (p : Nat) (j : CutJob) (js : List CutJob) (s : State), s.rst.on = true → p < 2 → s.cut.jobs = j :: js → j.kind ≠ .resume →
    s.jobReady j p = true → s.bothIn j p = false →
    runs (.spurCutAggregate p) s fun t =>
      t.cutState = s.cutState ∧ (∃ k ∈ t.cut.jobs, k.id = j.id ∧ (if p = 0 then k.agg0 else k.agg1) = true) ∧ t.cut.jobs.length = s.cut.jobs.length
      ∧ s.frame t [R.SUM_CUT_ACKS] [] [.cut])
  ∧ (∀ (id : Nat) (j : CutJob) (js : List CutJob) (s : State), s.rst.on = true → kindOf id ≠ 0 → (s.cairn id).powered = true →
    s.cut.jobs = j :: js → j.kind ≠ .resume → j.issued = true → j.t + 2000 ≤ s.now → j.reported.contains id = false →
    j.missing.contains id = false → j.woken.contains id = false →
    runs (.cutReportTimeout id) s fun t =>
      (∃ k ∈ t.cut.jobs, k.id = j.id ∧ k.missing.contains id = true) ∧ bit ((t.cairn id).rd 0x14) 1 = true
      ∧ s.only t id ∧ s.frame t [] [] [.tree, .cut, .cairns])
  ∧ (∀ (p : Nat) (j : CutJob) (js : List CutJob) (s : State), s.rst.on = true → p < 2 → s.cut.jobs = j :: js → j.kind = .resume →
    s.jobReady j p = true → s.bothIn j p = true →
    s.spur p ≠ 2 → s.stp.active = false →
    runs (.releaseAggregate p) s fun t =>
      t.cut.stop = false ∧ t.cut.noAck = [] ∧ t.cut.jobs.length = js.length
      ∧ t.cutState = (if js.any (fun k => k.kind == .cutStop) then 1 else if s.cut.cap ∧ s.cut.pages ≠ [] then 3 else 0)
      ∧ t.sum.intq = s.sum.intq ++ [s.ev .resumed 0x1001 [.w j.id]]
      ∧ s.frame t [R.SUM_CUT_STAT, R.SUM_CUT_ACKS, R.SUM_CUT_T_LO, R.SUM_CUT_T_HI, R.SUM_DIVERT_HELD, 0x2024] [] [.intq, .cut])

/-- SHADOW_DRAIN, DIVERTED_WRITE and PAGE_COPY_DONE (R126, R130, R132): the Spur takes a held shadow; a write to an uncaptured page waits
until the page's copy is complete, and one to any other page is done at once, to the bytes it names and no other. -/
def Obligations.WriteDivert : Prop :=
  (∀ (id : Nat) (s : State), s.rst.on = true → kindOf id ≠ 0 → (s.cairn id).powered = true → s.cut.heldIds.contains id = true →
    s.reachable id = true → s.stageRoom (s.server (halfOf id)) (halfOf id) (s.shadowOrds id).length = true →
    runs (.shadowDrain id) s fun t =>
      (t.cairn id).f CF.SHADOW_HELD = 0 ∧ t.cut.heldIds.contains id = false
      ∧ (∀ o ∈ s.shadowOrds id, (t.staged (s.server (halfOf id))).contains o = true) ∧ s.only t id ∧ t.mem = s.mem)
  ∧ (∀ (id page addr : Nat) (bs : List Byte) (s : State), s.rst.on = true → kindOf id = 3 → (s.cairn id).powered = true →
    (s.cairn id).frozen = false → addr / 4096 = page → 0x520 + s.chanOf addr = id → s.intrudes id addr bs = false →
    s.cut.pages.contains (s.writePage id page) = false →
    runs (.divertedWrite id page addr bs) s fun t =>
      (∀ i (h : i < bs.length), smGet 0 t.mem (addr + i) = bs[i])
      ∧ (∀ a, a < addr ∨ addr + bs.length ≤ a → smGet 0 t.mem a = smGet 0 s.mem a) ∧ s.frame t [] [] [.mem])
  ∧ (∀ (id page addr : Nat) (bs : List Byte) (s : State), s.rst.on = true → kindOf id = 5 → (s.cairn id).powered = true →
    (s.cairn id).frozen = false → addr / 4096 = page → s.cut.pages.contains ⟨id, page⟩ = false →
    runs (.divertedWrite id page addr bs) s fun t =>
      (∀ i (h : i < bs.length), (t.cairn id).unitByte (viewKey 0 (addr + i)) = bs[i]) ∧ s.only t id ∧ s.frame t [] [] [.cairns])
  ∧ (∀ (id page addr : Nat) (bs : List Byte) (s : State), s.rst.on = true → kindOf id = 3 ∨ kindOf id = 5 → (s.cairn id).powered = true →
    (s.cairn id).frozen = false → addr / 4096 = page → (kindOf id = 3 → 0x520 + s.chanOf addr = id) → s.intrudes id addr bs = false →
    s.cut.pages.contains (s.writePage id page) = true → s.blockFree = true →
    runs (.divertedWrite id page addr bs) s fun t =>
      t.cut.held = s.cut.held ++ [⟨s.writePage id page, addr, bs⟩] ∧ t.rd R.SUM_DIVERT_CNT = min (s.rd R.SUM_DIVERT_CNT + 1) (2 ^ 32 - 1)
      ∧ s.only t id ∧ s.frame t [R.SUM_DIVERT_CNT, R.SUM_DIVERT_HELD, R.COU_DIVERT_Q] [] [.cut, .cairns])
  ∧ (∀ (id page addr : Nat) (bs : List Byte) (s : State), s.rst.on = true → kindOf id = 3 → (s.cairn id).powered = true →
    (s.cairn id).frozen = false → addr / 4096 = page → 0x520 + s.chanOf addr = id → s.intrudes id addr bs = true →
    runs (.divertedWrite id page addr bs) s fun t =>
      t.mem = s.mem ∧ t.cairns = s.cairns ∧ t.cut = s.cut
      ∧ ((∃ i < bs.length, s.inCc (addr + i) = true) → bit (t.rd 0x8014) 3 = true)
      ∧ ((∀ i < bs.length, s.inCc (addr + i) = false) → bit (t.rd 0xB014) 2 = true))
  ∧ (∀ (id page : Nat) (s : State), s.rst.on = true → kindOf id = 3 ∨ kindOf id = 5 → (s.cairn id).powered = true →
    s.cut.pages.contains ⟨id, page⟩ = true → s.pageCopied ⟨id, page⟩ = true →
    runs (.pageCopyDone id page) s fun t =>
      t.cut.pages.contains ⟨id, page⟩ = false ∧ t.rd R.SUM_CUT_UNCAPT = t.cut.pages.length % 2 ^ 32
      ∧ (∀ h ∈ t.cut.held, h.pg = ⟨id, page⟩ → (t.cairn (t.heldUnit h)).frozen = true))

/-- CUT_CMD_XDEV, XCUT_RECEIVE and XCUT_ANSWER (03 R100; 04 R138, R139, R142, R143, R148; 15 R487): a request is refused NOT_ALIGNED where this
hub's clock is not, sent to every present member by the lead hub with T at least SUM_XCUT_LEAD ahead, and forwarded by any other hub, to which the
lead's copy comes as XCUT_RECEIVE; a member schedules it at the lead's T or answers with its code, and has no part in the resume of a cut it refused;
the lead counts the answers. -/
def Obligations.CutsAcrossDevices : Prop :=
  (∀ (m : Master) (v : Word) (s : State), s.ready m (some rtHalt) R.SUM_CUT_CMD = true → v.toNat % 4 < 3 → bit v.toNat 3 = true →
    (s.f F.RDG_STAT_ALIGNED = 0 ∨ s.isLead = false ∧ s.f F.SUM_DEV_ID_VALID = 0) →
    runs (.cutCmdXdev m v) s fun t =>
      t.f F.SUM_CUT_STAT_LAST_REFUSAL = 5
      ∧ t.sum.intq = s.sum.intq ++ [s.ev .cutRefused 0x1001 [.w (s.f F.SUM_CUT_STAT_CUT_ID), .w 5, .w (mSrc m)]]
      ∧ s.frame t [R.SUM_CUT_STAT, 0x2024] [] [.access, .intq])
  ∧ (∀ (m : Master) (v : Word) (s : State), s.ready m (some rtHalt) R.SUM_CUT_CMD = true → v.toNat % 4 = 0 → bit v.toNat 3 = true →
    s.f F.RDG_STAT_ALIGNED = 1 → s.isLead = true → s.f F.SUM_DEV_ID_VALID = 1 → s.cutState = 0 → s.hasJob .resume = false →
    s.schedFull = false → s.stp.active = false →
    let T := s.now + max (s.f F.SUM_XCUT_LEAD_LEAD) 4124
    let id := (s.f F.SUM_CUT_STAT_CUT_ID + 1) % 2 ^ 16
    runs (.cutCmdXdev m v) s fun t =>
      t.cutState = 1 ∧ t.f F.SUM_CUT_STAT_XDEV = 1 ∧ t.rd64 R.SUM_CUT_T_LO = T % 2 ^ 64 ∧ t.f F.SUM_XCUT_STAT_ACCEPTED = 0
      ∧ t.f F.SUM_XCUT_STAT_REFUSED = 0 ∧ t.rd R.SUM_CUT_SRC = mSrc m ∧ t.cut.xSent = some ⟨0, T, id⟩ ∧ t.cut.xId = id
      ∧ (∀ e ∈ s.pass.members, e.1 ≠ 0 → (match e.2 with | some x => x.present | none => false) = true → t.cut.xWait.contains e.1 = true)
      ∧ s.frame t [R.SUM_CUT_STAT, R.SUM_CUT_T_LO, R.SUM_CUT_T_HI, R.SUM_CUT_SRC, R.SUM_XCUT_STAT, 0x2024] []
        [.access, .intq, .tree, .cut])
  ∧ (∀ (m : Master) (v : Word) (n : Nat) (s : State), s.ready m (some rtHalt) R.SUM_CUT_CMD = true → v.toNat % 4 = 1 → bit v.toNat 3 = true →
    s.f F.RDG_STAT_ALIGNED = 1 → s.isLead = true → s.f F.SUM_DEV_ID_VALID = 1 → s.cutState = 0 → s.schedFull = false →
    s.dumpCode (s.rd (R.COU_PROF (s.f F.COU_CTRL_GLANCE_PROF))) false = couNone → s.cou.freeSlot = some n →
    let T := s.now + max (s.f F.SUM_XCUT_LEAD_LEAD) 4124
    let id := (s.f F.SUM_CUT_STAT_CUT_ID + 1) % 2 ^ 16
    runs (.cutCmdXdev m v) s fun t =>
      t.cutState = 1 ∧ t.f F.SUM_CUT_STAT_KIND = 1 ∧ t.f F.SUM_CUT_STAT_XDEV = 1 ∧ t.rd64 R.SUM_CUT_T_LO = T % 2 ^ 64
      ∧ t.cut.xSent = some ⟨1, T, id⟩ ∧ t.cut.cap = true ∧ (t.slot n).st = 1 ∧ (t.slot n).xdev = true ∧ t.cairns = s.cairns)
  ∧ (∀ (m : Master) (v : Word) (s : State), s.ready m (some rtHalt) R.SUM_CUT_CMD = true → v.toNat % 4 = 2 → bit v.toNat 3 = true →
    s.f F.RDG_STAT_ALIGNED = 1 → s.isLead = true → s.f F.SUM_DEV_ID_VALID = 1 →
    (s.cutState = 2 ∨ s.cutState = 4 ∧ s.blockFree = true) → s.schedFull = false →
    let T := s.now + max (s.f F.SUM_XCUT_LEAD_LEAD) 4124
    runs (.cutCmdXdev m v) s fun t =>
      t.cutState = 5 ∧ t.rd64 R.SUM_CUT_T_LO = T % 2 ^ 64 ∧ t.cut.xSent = some ⟨2, T, s.f F.SUM_CUT_STAT_CUT_ID⟩
      ∧ s.frame t [R.SUM_CUT_STAT, R.SUM_CUT_T_LO, R.SUM_CUT_T_HI, 0x2024] [] [.access, .intq, .tree, .cut])
  ∧ (∀ (m : Master) (v : Word) (s : State), s.ready m (some rtHalt) R.SUM_CUT_CMD = true → v.toNat % 4 < 3 → bit v.toNat 3 = true →
    s.f F.RDG_STAT_ALIGNED = 1 → s.isLead = true → s.f F.SUM_DEV_ID_VALID = 0 →
    runs (.cutCmdXdev m v) s fun t => t.pass.heldX = s.pass.heldX ++ [⟨v.toNat % 4, mSrc m⟩] ∧ s.frame t [] [] [.access, .pass])
  ∧ (∀ (m : Master) (v : Word) (s : State), s.ready m (some rtHalt) R.SUM_CUT_CMD = true → v.toNat % 4 < 3 → bit v.toNat 3 = true →
    s.f F.RDG_STAT_ALIGNED = 1 → s.isLead = false → s.f F.SUM_DEV_ID_VALID = 1 →
    runs (.cutCmdXdev m v) s fun t => t.cut.xFwd = s.cut.xFwd ++ [⟨v.toNat % 4, mSrc m⟩] ∧ s.frame t [] [] [.access, .cut])
  ∧ (∀ (k T : Nat) (s : State), s.rst.on = true → s.isLead = false → k < 2 → s.f F.RDG_STAT_ALIGNED = 0 →
    runs (.xcutReceive k T) s fun t =>
      t.cut.xRefused = true ∧ t.cut.xAns = 5 ∧ t.cut.xStat = s.rd R.RDG_STAT ∧ t.f F.SUM_CUT_STAT_LAST_REFUSAL = 5
      ∧ t.sum.intq = s.sum.intq ++ [s.ev .cutRefused 0x1001 [.w (s.f F.SUM_CUT_STAT_CUT_ID), .w 5, .w 0x1009]]
      ∧ s.frame t [R.SUM_CUT_STAT, 0x2024] [] [.intq, .cut])
  ∧ (∀ (k T : Nat) (s : State), s.rst.on = true → s.isLead = false → k < 2 → s.f F.RDG_STAT_ALIGNED = 1 → T < s.now + 100 →
    runs (.xcutReceive k T) s fun t =>
      t.cut.xRefused = true ∧ t.cut.xAns = 7 ∧ t.f F.SUM_CUT_STAT_LAST_REFUSAL = 7 ∧ s.frame t [R.SUM_CUT_STAT, 0x2024] [] [.intq, .cut])
  ∧ (∀ (T : Nat) (s : State), s.rst.on = true → s.isLead = false → s.f F.RDG_STAT_ALIGNED = 1 → s.now + 100 ≤ T → T < 2 ^ 64 →
    s.cutState = 0 → s.hasJob .resume = false → s.schedFull = false → s.stp.active = false →
    runs (.xcutReceive 0 T) s fun t =>
      t.cut.xAns = 0 ∧ t.cut.xRefused = false ∧ t.cutState = 1 ∧ t.f F.SUM_CUT_STAT_XDEV = 1 ∧ t.rd64 R.SUM_CUT_T_LO = T
      ∧ t.rd R.SUM_CUT_SRC = 0x1009
      ∧ s.frame t [R.SUM_CUT_STAT, R.SUM_CUT_T_LO, R.SUM_CUT_T_HI, R.SUM_CUT_SRC, 0x2024] [] [.intq, .tree, .cut])
  ∧ (∀ (T n : Nat) (s : State), s.rst.on = true → s.isLead = false → s.f F.RDG_STAT_ALIGNED = 1 → s.now + 100 ≤ T → T < 2 ^ 64 →
    s.cutState = 0 → s.schedFull = false → s.dumpCode (s.rd (R.COU_PROF (s.f F.COU_CTRL_GLANCE_PROF))) false = couNone → s.cou.freeSlot = some n →
    runs (.xcutReceive 1 T) s fun t =>
      t.cut.xAns = 0 ∧ t.cut.xRefused = false ∧ t.cutState = 1 ∧ t.f F.SUM_CUT_STAT_XDEV = 1 ∧ t.f F.SUM_CUT_STAT_KIND = 1
      ∧ t.rd64 R.SUM_CUT_T_LO = T ∧ (t.slot n).st = 1 ∧ (t.slot n).xdev = true ∧ t.cairns = s.cairns)
  ∧ (∀ (T : Nat) (s : State), s.rst.on = true → s.isLead = false →
    (s.cut.xRefused = true ∨ s.f F.RDG_STAT_ALIGNED = 1 ∧ s.cutState = 2 ∧ s.schedFull = false ∧ T < 2 ^ 64) →
    runs (.xcutReceive 2 T) s fun t =>
      (s.cut.xRefused = true → t = s)
      ∧ (s.cut.xRefused = false → t.cutState = 5 ∧ t.rd64 R.SUM_CUT_T_LO = max T (s.now + 100) % 2 ^ 64
        ∧ (∃ j ∈ t.cut.jobs, j.kind = .resume ∧ j.t = max T (s.now + 100))
        ∧ s.frame t [R.SUM_CUT_STAT, R.SUM_CUT_T_LO, R.SUM_CUT_T_HI, 0x2024] [] [.intq, .tree, .cut]))
  ∧ (∀ (T : Nat) (s : State), s.rst.on = true → s.isLead = true → s.f F.RDG_STAT_ALIGNED = 1 → s.f F.SUM_DEV_ID_VALID = 1 → s.cutState = 0 →
    s.hasJob .resume = false → s.schedFull = false → s.stp.active = false →
    runs (.xcutReceive 0 T) s fun t =>
      t.cutState = 1 ∧ t.rd64 R.SUM_CUT_T_LO = (s.now + max (s.f F.SUM_XCUT_LEAD_LEAD) 4124) % 2 ^ 64 ∧ t.rd R.SUM_CUT_SRC = 0x1009
      ∧ s.frame t [R.SUM_CUT_STAT, R.SUM_CUT_T_LO, R.SUM_CUT_T_HI, R.SUM_CUT_SRC, R.SUM_XCUT_STAT, 0x2024] [] [.intq, .tree, .cut])
  ∧ (∀ (hub code : Nat) (s : State), s.rst.on = true → s.cut.xWait.contains hub = true →
    runs (.xcutAnswer hub code) s fun t =>
      t.cut.xWait.contains hub = false
      ∧ (code = 0 → t.f F.SUM_XCUT_STAT_ACCEPTED = min (s.f F.SUM_XCUT_STAT_ACCEPTED + 1) (2 ^ F.SUM_XCUT_STAT_ACCEPTED.width - 1))
      ∧ (code ≠ 0 → t.f F.SUM_XCUT_STAT_REFUSED = min (s.f F.SUM_XCUT_STAT_REFUSED + 1) (2 ^ F.SUM_XCUT_STAT_REFUSED.width - 1)
        ∧ t.sum.intq = s.sum.intq ++ [s.ev .xcutRefused 0x1001 [.w s.cut.xId, .w hub, .w code]])
      ∧ s.frame t [R.SUM_XCUT_STAT, 0x2024] [] [.intq, .cut])

/-! ### Steps and the state view (05) -/

/-- T_s of a step request (R94, R153): now plus the cut lead, or the T in SUM_CUT_REQ_T_LO with ABS_T, raised to the least T the hub issues. -/
def stepT (s : State) (v : Nat) : Nat :=
  if bit v 1 then max (s.rd64 R.SUM_CUT_REQ_T_LO) (s.now + 100) else s.now + max (s.f F.SUM_CUT_LEAD_LEAD) 100

/-- STEP_GO, STEP_MESSAGE and STEP_CLOSE_ISSUE (R149 to R155, R158): a request of a stopped device takes the next step number, its T_s and its T_d;
one that cannot be taken is refused with its code; the message makes each Cairn latch what its unit is to do; a close waits for a
place and then goes out with T_e.
STEP_RELEASE_EDGE, STEP_REPORT_TIMEOUT, STEP_UNIT_COMPLETE, STEP_AGGREGATE, STEP_FREEZE_EDGE, STEP_DEADLINE and FREEZE_AGGREGATE
(R156 to R160): units in STEP or FOLLOW run from their domain's release edge; a unit in STEP freezes with the last step unit of its
count; a unit still running freezes at T_e or at T_d and is incomplete if its count was not reached; when both Spurs show every unit
frozen the step is done. -/
def Obligations.Steps : Prop :=
  (∀ (m : Master) (v : Word) (s : State), s.ready m (some rtHalt) R.SUM_STEP_CMD = true → bit v.toNat 0 = true →
    s.f F.SUM_STEP_STAT_STATE = 0 → s.cutState = 2 → s.schedFull = false →
    let no := (s.f F.SUM_STEP_STAT_STEP_NO + 1) % 2 ^ 16
    let tD := stepT s v.toNat + max (s.f F.SUM_STEP_TMO_TMO) 400
    runs (.stepGo m v) s fun t =>
      t.f F.SUM_STEP_STAT_STATE = 1 ∧ t.f F.SUM_STEP_STAT_STEP_NO = no ∧ t.f F.SUM_STEP_STAT_CAUSE = 0
      ∧ t.rd64 R.SUM_STEP_T_LO = stepT s v.toNat % 2 ^ 64
      ∧ t.stp.active = true ∧ t.stp.tS = stepT s v.toNat ∧ t.stp.tD = tD ∧ t.stp.trigClose = bit v.toNat 2 ∧ t.stp.units = []
      ∧ t.sum.intq = s.sum.intq ++ [s.ev .step 0x1001 [.w no, .d (stepT s v.toNat), .d tD, .w (mSrc m)]]
      ∧ s.frame t [R.SUM_STEP_STAT, R.SUM_STEP_T_LO, R.SUM_STEP_T_LO + 4, R.SUM_STEP_UNITS, R.SUM_STEP_FOLLOW, R.SUM_STEP_ENGST, 0x2024] []
        [.access, .intq, .tree, .stp])
  ∧ (∀ (m : Master) (v : Word) (s : State), s.ready m (some rtHalt) R.SUM_STEP_CMD = true → bit v.toNat 0 = true →
    s.f F.SUM_STEP_STAT_STATE ≠ 0 ∨ s.cutState ≠ 2 ∨ s.schedFull = true →
    let code := if s.f F.SUM_STEP_STAT_STATE ≠ 0 then 2 else if s.cutState ≠ 2 then 3 else 1
    runs (.stepGo m v) s fun t =>
      t.f F.SUM_STEP_STAT_LAST_REFUSAL = code
      ∧ t.sum.intq = s.sum.intq ++ [s.ev .stepRefused 0x1001 [.w code, .w (mSrc m)]]
      ∧ s.frame t [R.SUM_STEP_STAT, 0x2024] [] [.access, .intq])
  ∧ (∀ (id n leaf : Nat) (m : Msg) (s : State), s.rst.on = true → kindOf id ≠ 0 → (s.cairn id).powered = true →
    (s.cairn id).leafValid = true → s.leafOk id leaf = true → (s.cairn id).rxMsgs.contains n = false → smGet none s.sum.msgs n = some m →
    m.kind = .stepRelease → s.stp.active = true → m.arg = s.stepNo → leaf ≤ m.t →
    runs (.stepMessage id n leaf) s fun t =>
      t.stp.units = s.stp.units ++ [⟨id, (s.stepMode id).1, (s.stepMode id).2.1,
        if (s.cairn id).f CF.STEP_CTRL_NET = 3 then 0 else (s.cairn id).f CF.STEP_CTRL_NET, 0, false, false, false, false,
        kindOf id == 1 && (s.stepMode id).1 == 2, false⟩]
      ∧ (t.cairn id).f CF.STEP_STAT_STEP_NO = s.stepNo % 2 ^ CF.STEP_STAT_STEP_NO.width ∧ (t.cairn id).f CF.STEP_STAT_UREF = (s.stepMode id).2.2
      ∧ (t.cairn id).f CF.STEP_STAT_DONE = 0 ∧ (t.cairn id).f CF.STEP_STAT_DEPOSITED = (s.cairn id).f CF.STEP_STAT_DEPOSITED
      ∧ (t.cairn id).acts = (s.cairn id).acts ++ [⟨.stepRelease, m.t, m.arg⟩]
      ∧ s.only t id ∧ s.frame t [R.SUM_STEP_ENGST] [] [.stp, .cairns])
  ∧ (∀ (id : Nat) (s : State), kindOf id ≠ 1 → (s.cairn id).f CF.STEP_CTRL_MODE = 0 → bits (s.rd R.SUM_STEP_DFLT) (2 * (kindOf id - 1)) 2 ≠ 3 →
    s.cut.noAck.contains id = false → s.stepMode id = (1, 0, 0))
  ∧ (∀ (id : Nat) (s : State), kindOf id = 2 → (s.cairn id).f CF.STEP_CTRL_MODE = 2 → (s.cairn id).fencedHere = false →
    s.cut.noAck.contains id = false → s.stepMode id = (2, max ((s.cairn id).f CF.STEP_CTRL_COUNT) 1, 0))
  ∧ (∀ s : State, s.rst.on = true → s.stp.active = true → s.stp.closeWait = true → s.schedFull = false →
    let tE := max (s.now + 100) s.stp.tS
    runs .stepCloseIssue s fun t =>
      t.stp.tE = some tE ∧ t.stp.closeWait = false ∧ t.f F.SUM_STEP_STAT_STATE = 3
      ∧ t.rd64 R.SUM_STEP_END_T_LO = min tE s.stp.tD % 2 ^ 64
      ∧ smGet none t.sum.msgs s.sum.msgNo = some ⟨.stepClose, tE, s.stepNo, 0⟩ ∧ t.sum.msgNo = (s.sum.msgNo + 1) % 2 ^ 16
      ∧ (∀ j, (s.cairn j).rxMsgs.contains s.sum.msgNo = false → t.cairn j = s.cairn j)
      ∧ s.frame t [R.SUM_STEP_STAT, R.SUM_STEP_END_T_LO, R.SUM_STEP_END_T_LO + 4] [] [.tree, .stp, .cairns])
  ∧ (∀ (a : EdgeRep) (u : StepUnit) (s : State), s.rst.on = true → s.domainOk [a] = true → s.stp.active = true → s.stp.tS ≤ a.leaf →
    s.stepUnit a.cairn = some u → u.released = false → u.ended = false → s.stepNext a.cairn a.leaf = true → s.cut.held = [] →
    runs (.stepReleaseEdge [a]) s fun t =>
      (∃ w, t.stepUnit a.cairn = some w ∧ w.released = true ∧ w.mode = u.mode)
      ∧ (s.f F.SUM_STEP_STAT_STATE = 1 → t.f F.SUM_STEP_STAT_STATE = 2)
      ∧ (u.mode ≠ 1 → (t.cairn a.cairn).f CF.CUT_STAT_STATE = 0) ∧ (u.mode = 1 → t.cairn a.cairn = (s.cairn a.cairn).dropRelease)
      ∧ s.only t a.cairn ∧ s.frame t [R.SUM_STEP_STAT, R.SUM_DIVERT_HELD] [] [.free, .stp, .cairns])
  ∧ (∀ (id : Nat) (s : State), s.rst.on = true → kindOf id ≠ 0 → (s.cairn id).powered = true → s.stp.active = true → s.stp.issued = true →
    s.stp.tS + 2000 ≤ s.now → (s.stepUnit id).any (fun u => u.released) = false → s.stp.missing.contains id = false →
    runs (.stepReportTimeout id) s fun t =>
      t.stp.missing = s.stp.missing ++ [id] ∧ (∀ u, t.stepUnit id = some u → u.mode = 1)
      ∧ t.f F.SUM_STEP_FOLLOW_MISSING = min (s.f F.SUM_STEP_FOLLOW_MISSING + 1) (2 ^ F.SUM_STEP_FOLLOW_MISSING.width - 1)
      ∧ s.frame t [R.SUM_STEP_FOLLOW] [] [.stp])
  ∧ (∀ (id net leaf : Nat) (u : StepUnit) (s : State), s.rst.on = true → kindOf id ≠ 0 → s.stepUnit id = some u → u.mode = 2 →
    u.released = true → u.frozen = false → u.eng = false → u.ended = false → (kindOf id = 4 → u.net = net ∨ u.net = 2) → s.leafOk id leaf = true →
    runs (.stepUnitComplete [id] net leaf) s fun t =>
      (t.cairn id).f CF.STEP_STAT_DONE = (u.done + 1) % 2 ^ CF.STEP_STAT_DONE.width
      ∧ (t.cairn id).rd C.STEP_TOTAL = ((s.cairn id).rd C.STEP_TOTAL + 1) % 2 ^ 32
      ∧ (u.count ≤ u.done + 1 → (t.cairn id).f CF.STEP_STAT_REACHED = 1 ∧ (t.cairn id).f CF.CUT_STAT_STATE = 2 ∧ (t.cairn id).endT = leaf)
      ∧ (u.done + 1 < u.count → (t.cairn id).f CF.CUT_STAT_STATE = (s.cairn id).f CF.CUT_STAT_STATE)
      ∧ s.only t id ∧ s.frame t [] [] [.stp, .cairns])
  ∧ (∀ (p : Nat) (hs : List Nat) (s : State), s.rst.on = true → p < 2 → s.stp.active = true → s.stepHalves p = hs → hs ≠ [] →
    hs.all s.releasesIn = true → (∀ h ∈ hs, s.relOf h = false ∧ s.halfReached h = true) → (∀ h, h < 2 → h ∈ hs ∨ s.doneOf h = true) →
    s.f F.SUM_STEP_STAT_CAUSE = 0 → s.schedFull = false →
    runs (.stepAggregate p) s fun t =>
      t.f F.SUM_STEP_STAT_CAUSE = 1 ∧ t.f F.SUM_STEP_STAT_STATE = 3 ∧ t.stp.tE = some (max (s.now + 100) s.stp.tS)
      ∧ t.f F.SUM_STEP_UNITS_STEPPING = min (s.f F.SUM_STEP_UNITS_STEPPING + ((hs.flatMap s.halfUnits).filter fun u => u.mode == 2).length)
        (2 ^ F.SUM_STEP_UNITS_STEPPING.width - 1)
      ∧ t.f F.SUM_STEP_FOLLOW_FOLLOWING = min (s.f F.SUM_STEP_FOLLOW_FOLLOWING + ((hs.flatMap s.halfUnits).filter fun u => u.mode == 3).length)
        (2 ^ F.SUM_STEP_FOLLOW_FOLLOWING.width - 1)
      ∧ (∀ j, (s.cairn j).rxMsgs.contains s.sum.msgNo = false → t.cairn j = s.cairn j)
      ∧ s.frame t [R.SUM_STEP_STAT, R.SUM_STEP_UNITS, R.SUM_STEP_FOLLOW, R.SUM_STEP_END_T_LO, R.SUM_STEP_END_T_LO + 4] [] [.tree, .stp, .cairns])
  ∧ (∀ (a : EdgeRep) (act : PendAct) (u : StepUnit) (s : State), s.rst.on = true → s.domainOk [a] = true →
    s.reachedAct a.cairn [.stepClose] a.leaf = some act → s.stp.active = true → s.stp.issued = true →
    s.resumeBefore (min act.t s.stp.tD) = false → s.stepUnit a.cairn = some u → u.mode ≠ 1 → u.released = true → u.frozen = false → u.ended = false →
    runs (.stepFreezeEdge [a]) s fun t =>
      (t.cairn a.cairn).f CF.CUT_STAT_STATE = 2 ∧ (t.cairn a.cairn).endT = a.leaf
      ∧ (u.mode = 2 → u.reached = false → (t.cairn a.cairn).f CF.STEP_STAT_INCOMPLETE = 1)
      ∧ (∃ w, t.stepUnit a.cairn = some w ∧ w.frozen = true ∧ w.incomplete = (u.mode == 2 && !u.reached))
      ∧ s.only t a.cairn ∧ s.frame t [] [] [.stp, .cairns])
  ∧ (∀ (u : StepUnit) (s : State), s.rst.on = true → s.stp.active = true → s.stp.issued = true → s.stp.tD ≤ s.now →
    s.resumeBefore s.stp.tD = false → s.stp.tE = none → s.stp.units = [u] → u.mode ≠ 1 → u.released = true → u.frozen = false → u.ended = false →
    s.stp.tD ≤ s.leafVal (s.domOf u.cairn).1 →
    runs .stepDeadline s fun t =>
      t.f F.SUM_STEP_STAT_STATE = 3 ∧ t.f F.SUM_STEP_STAT_CAUSE = (if s.f F.SUM_STEP_STAT_CAUSE = 0 then 3 else s.f F.SUM_STEP_STAT_CAUSE)
      ∧ t.rd64 R.SUM_STEP_END_T_LO = s.stp.tD % 2 ^ 64 ∧ (t.cairn u.cairn).f CF.CUT_STAT_STATE = 2 ∧ (t.cairn u.cairn).endT = s.leafVal u.cairn
      ∧ s.only t u.cairn ∧ s.frame t [R.SUM_STEP_STAT, R.SUM_STEP_END_T_LO, R.SUM_STEP_END_T_LO + 4] [] [.stp, .cairns])
  ∧ (∀ (p : Nat) (s : State), s.rst.on = true → p < 2 → s.spur p ≠ 2 → s.stp.active = true → s.f F.SUM_STEP_STAT_STATE = 3 →
    (if p = 0 then s.stp.frz0 else s.stp.frz1) = false → (if p = 0 then s.stp.frz1 else s.stp.frz0) = true ∨ s.answers p (1 - p) = true →
    (∀ h, h < 2 → s.answers p h = true → s.halfFrozen h = true) →
    runs (.freezeAggregate p) s fun t =>
      t.stp.active = false ∧ t.f F.SUM_STEP_STAT_STATE = 0 ∧ t.f F.SUM_STEP_STAT_CAUSE = s.f F.SUM_STEP_STAT_CAUSE
      ∧ t.sum.intq = s.sum.intq ++ [s.ev .stepDone 0x1001 [.w s.stepNo, .w (s.f F.SUM_STEP_STAT_CAUSE),
        .w (s.stp.units.filter (·.reached)).length, .w (s.stp.units.filter (·.incomplete)).length, .w s.stp.missing.length]]
      ∧ s.frame t [R.SUM_STEP_STAT, R.SUM_STEP_UNITS, R.SUM_STEP_ENGST, 0x2024] [] [.intq, .tree, .stp, .cairns])

/-- VIEW_READ and VIEW_DEPOSIT (R164, R165, R167 to R171): a read of the selected space of a frozen unit answers the word and OK in
CRN_VIEW_STAT; a read outside the space answers 0 with the result that says why; a deposit to a frozen unit replaces the word and is
reported once, and one to a unit that runs changes nothing and says NOT_FROZEN. -/
def Obligations.ViewAccesses : Prop :=
  (∀ (m : Master) (n o : Nat) (s : State), n < 3 → 0x200 ≤ o → o < 0x400 → o % 4 = 0 →
    let a := 0x20400 + 0x400 * n + o
    let id := s.rd (bk m (R.CWIN_SEL0 + 4 * n)) % 4096
    let sp := (s.cairn id).f (bkF m CF.VIEW_SEL_SPACE)
    let x := (s.cairn id).viewAddr m o
    s.ready m none a = true → (s.mst m).capHi = none → id < 0xBC0 → s.has m rtInspect = true → s.reachable id = true →
    (s.cairn id).powered = true → (s.cairn id).noAnswer = false → (s.cairn id).f CF.CUT_STAT_STATE = 2 → x < spaceSize id sp →
    (s.secView id sp x = true → s.has m rtDumpSecure = true) → s.isUc id sp x = false →
    runs (.viewRead m a) s fun t =>
      (t.mst m).resp = ⟨codeOk, s.viewWord id sp x⟩ ∧ (t.cairn id).f (bkF m CF.VIEW_STAT_RESULT) = 0
      ∧ (t.cairn id).f (bkF m CF.VIEW_STAT_LIVE) = 0 ∧ s.only t id
      ∧ s.frame t ([bk m R.CWIN_STAT, bk m R.CWIN_TOTAL] ++ mirrorRegs) [] [.access, .tree, .cairns])
  ∧ (∀ (m : Master) (n o : Nat) (s : State), n < 3 → 0x200 ≤ o → o < 0x400 → o % 4 = 0 →
    let a := 0x20400 + 0x400 * n + o
    let id := s.rd (bk m (R.CWIN_SEL0 + 4 * n)) % 4096
    let sp := (s.cairn id).f (bkF m CF.VIEW_SEL_SPACE)
    let x := (s.cairn id).viewAddr m o
    s.ready m none a = true → (s.mst m).capHi = none → id < 0xBC0 → s.has m rtInspect = true → s.reachable id = true →
    (s.cairn id).powered = true → (s.cairn id).noAnswer = false →
    spaceSize id sp ≤ x ∨ s.secView id sp x = true ∧ s.has m rtDumpSecure = false →
    runs (.viewRead m a) s fun t =>
      (t.mst m).resp = ⟨codeOk, 0⟩
      ∧ (t.cairn id).f (bkF m CF.VIEW_STAT_RESULT) = (if spaceSize id sp = 0 then vwNoSpace else if spaceSize id sp ≤ x then vwRange else vwRedacted)
      ∧ s.only t id ∧ s.frame t ([bk m R.CWIN_STAT, bk m R.CWIN_TOTAL] ++ mirrorRegs) [] [.access, .tree, .cairns])
  ∧ (∀ (m : Master) (n o : Nat) (v : Word) (s : State), n < 3 → 0x200 ≤ o → o < 0x400 → o % 4 = 0 →
    let a := 0x20400 + 0x400 * n + o
    let id := s.rd (bk m (R.CWIN_SEL0 + 4 * n)) % 4096
    let sp := (s.cairn id).f (bkF m CF.VIEW_SEL_SPACE)
    let x := (s.cairn id).viewAddr m o
    s.ready m none a = true → (s.mst m).heldLo = none → id < 0xBC0 → s.has m (if s.lcs = 4 then rtDepositField else rtDeposit) = true →
    s.reachable id = true → (s.cairn id).powered = true → (s.cairn id).noAnswer = false → (s.cairn id).f CF.CUT_STAT_STATE = 2 →
    x < spaceSize id sp → s.writable id sp x = true → ¬(kindOf id = 3 ∧ sp = 1) → (kindOf id = 5 → s.cut.pages.contains ⟨id, x / 4096⟩ = false) →
    (kindOf id = 1 → s.activity id ≠ 1) → (s.secView id sp x = true → s.has m rtDumpSecure = true) →
    runs (.viewDeposit m a v) s fun t =>
      (t.mst m).resp = ⟨codeOk, 0⟩ ∧ (t.cairn id).f (bkF m CF.VIEW_STAT_RESULT) = 0
      ∧ t.viewWord id sp x = v.toNat ∧ (t.cairn id).f CF.STEP_STAT_DEPOSITED = 1
      ∧ ((s.cairn id).f CF.STEP_STAT_DEPOSITED = 0 → (s.cairn id).queue.length < 8 →
        ∃ e ∈ (t.cairn id).queue, e.ev.name = .deposit ∧ e.ev.data = [.w (mNum m), .w sp, .d x])
      ∧ ((s.cairn id).f CF.STEP_STAT_DEPOSITED = 1 → (t.cairn id).queue = (s.cairn id).queue)
      ∧ s.only t id ∧ s.frame t ([bk m R.CWIN_STAT, bk m R.CWIN_TOTAL] ++ mirrorRegs) [] [.access, .tree, .cairns])
  ∧ (∀ (m : Master) (n o : Nat) (v : Word) (s : State), n < 3 → 0x200 ≤ o → o < 0x400 → o % 4 = 0 →
    let a := 0x20400 + 0x400 * n + o
    let id := s.rd (bk m (R.CWIN_SEL0 + 4 * n)) % 4096
    let sp := (s.cairn id).f (bkF m CF.VIEW_SEL_SPACE)
    let x := (s.cairn id).viewAddr m o
    s.ready m none a = true → (s.mst m).heldLo = none → id < 0xBC0 → s.has m (if s.lcs = 4 then rtDepositField else rtDeposit) = true →
    s.reachable id = true → (s.cairn id).powered = true → (s.cairn id).noAnswer = false → (s.cairn id).f CF.CUT_STAT_STATE ≠ 2 →
    x < spaceSize id sp → s.writable id sp x = true → (s.secView id sp x = true → s.has m rtDumpSecure = true) →
    runs (.viewDeposit m a v) s fun t =>
      (t.mst m).resp = ⟨codeOk, 0⟩ ∧ (t.cairn id).f (bkF m CF.VIEW_STAT_RESULT) = vwNotFrozen
      ∧ t.viewWord id sp x = s.viewWord id sp x
      ∧ s.only t id ∧ s.frame t ([bk m R.CWIN_STAT, bk m R.CWIN_TOTAL] ++ mirrorRegs) [] [.access, .tree, .cairns])

/-! ### Crest (06) -/

/-- OBSERVATION_POINT_EDGE and CAIRN_RAISE (R180 to R184, R187): a comparator that matches and the range comparator set their SEEN bits; an
output whose condition holds outside its hold window is due to raise, and inside it counts a merge; a counter counts its event once and
gives its terminal when it reaches LIM; a frozen unit shows nothing; a raise is sent with the channel of its output. -/
def Obligations.CrestBlocks : Prop :=
  (∀ (id leaf : Nat) (a : ObsAcc) (s : State), s.rst.on = true → kindOf id ≠ 0 → (s.cairn id).powered = true → s.leafShows id leaf = true →
    (s.cairn id).f CF.CUT_STAT_STATE ≠ 2 → obsThere id a.obs = true → (s.cairn id).f (CF.CMP_CTRL_EN 0) = 1 →
    (s.cairn id).f (CF.CMP_CTRL_OBS 0) = a.obs → (s.cairn id).f (CF.CMP_CTRL_AKIND 0) = 0 ∨ (s.cairn id).f (CF.CMP_CTRL_AKIND 0) = a.kind →
    (Nat.land a.addr ((s.cairn id).rd64 (C.CMP_AMASK_LO 0)) = Nat.land ((s.cairn id).rd64 (C.CMP_ADDR_LO 0)) ((s.cairn id).rd64 (C.CMP_AMASK_LO 0))
      ↔ (s.cairn id).f (CF.CMP_CTRL_AINV 0) = 0) → (s.cairn id).f (CF.CMP_CTRL_VMODE 0) = 0 →
    let hold := (if (s.cairn id).f CF.OUT0_HOLD = 0 then 4 else (s.cairn id).f CF.OUT0_HOLD) * 64
    runs (.observationPointEdge id leaf false [a] []) s fun t =>
      bit ((t.cairn id).f CF.CRS_STAT_SEEN) 0 = true
      ∧ ((s.cairn id).f CF.OUT0_EN = 1 → (s.cairn id).f CF.OUT0_ALL = 0 → bit ((s.cairn id).f CF.OUT0_SEL) 0 = true →
        (∀ u, (s.cairn id).out0.last = some u → u + hold ≤ s.clk) →
        (t.cairn id).out0 = ⟨some s.clk, true⟩)
      ∧ ((s.cairn id).f CF.OUT0_EN = 1 → (s.cairn id).f CF.OUT0_ALL = 0 → bit ((s.cairn id).f CF.OUT0_SEL) 0 = true →
        (∃ u, (s.cairn id).out0.last = some u ∧ s.clk < u + hold) →
        (t.cairn id).out0 = (s.cairn id).out0 ∧ (t.cairn id).f CF.CRS_MERGED_M0 = min ((s.cairn id).f CF.CRS_MERGED_M0 + 1) 65535)
      ∧ ((s.cairn id).f CF.OUT0_SEL = 0 → (t.cairn id).out0 = (s.cairn id).out0)
      ∧ s.only t id ∧ s.frame t [] [] [.cairns])
  ∧ (∀ (id leaf : Nat) (a : ObsAcc) (s : State), s.rst.on = true → kindOf id ≠ 0 → (s.cairn id).powered = true → s.leafShows id leaf = true →
    (s.cairn id).f CF.CUT_STAT_STATE ≠ 2 → obsThere id a.obs = true → (s.cairn id).f CF.RNG_CTRL_EN = 1 →
    (s.cairn id).f CF.RNG_CTRL_OBS = a.obs → (s.cairn id).f CF.RNG_CTRL_AKIND = 0 ∨ (s.cairn id).f CF.RNG_CTRL_AKIND = a.kind →
    (((s.cairn id).rd64 C.RNG_BASE_LO ≤ a.addr ∧ a.addr ≤ (s.cairn id).rd64 C.RNG_LIM_LO) ↔ (s.cairn id).f CF.RNG_CTRL_OUTSIDE = 0) →
    runs (.observationPointEdge id leaf false [a] []) s fun t =>
      bit ((t.cairn id).f CF.CRS_STAT_SEEN) 2 = true ∧ s.only t id ∧ s.frame t [] [] [.cairns])
  ∧ (∀ (id leaf : Nat) (s : State), s.rst.on = true → kindOf id ≠ 0 → (s.cairn id).powered = true → s.leafShows id leaf = true →
    (s.cairn id).f CF.CUT_STAT_STATE ≠ 2 → (s.cairn id).f (CF.ECNT_CFG_EN 0) = 1 → (s.cairn id).f (CF.ECNT_CFG_EVT 0) = 4 →
    runs (.observationPointEdge id leaf true [] []) s fun t =>
      let lim := (s.cairn id).rd (C.ECNT_LIM 0)
      let auto := (s.cairn id).f (CF.ECNT_CFG_AUTO_RESET 0)
      let v := (s.cairn id).rd (C.ECNT_VAL 0)
      (v + 1 = lim → (t.cairn id).rd (C.ECNT_VAL 0) = (if auto = 1 then 0 else lim) ∧ bit ((t.cairn id).f CF.CRS_STAT_SEEN) 3 = true)
      ∧ (v + 1 ≠ lim → (t.cairn id).rd (C.ECNT_VAL 0) = (if lim ≠ 0 ∧ v = lim ∧ auto = 0 then v else (v + 1) % 2 ^ 32)
        ∧ bit ((t.cairn id).f CF.CRS_STAT_SEEN) 3 = bit ((s.cairn id).f CF.CRS_STAT_SEEN) 3)
      ∧ s.only t id ∧ s.frame t [] [] [.cairns])
  ∧ (∀ (id leaf : Nat) (upd : Bool) (accs : List ObsAcc) (evs : List Nat) (s : State), s.rst.on = true → kindOf id ≠ 0 →
    (s.cairn id).powered = true → s.leafShows id leaf = true → (s.cairn id).f CF.CUT_STAT_STATE = 2 → evs.contains 5 = false →
    runs (.observationPointEdge id leaf upd accs evs) s fun t =>
      (t.cairn id).f CF.CRS_STAT_SEEN = (s.cairn id).f CF.CRS_STAT_SEEN ∧ (t.cairn id).out0 = (s.cairn id).out0
      ∧ (t.cairn id).out1 = (s.cairn id).out1 ∧ (∀ k, k < 4 → (t.cairn id).rd (C.ECNT_VAL k) = (s.cairn id).rd (C.ECNT_VAL k))
      ∧ s.only t id ∧ s.frame t [] [] [.cairns])
  ∧ (∀ (id n : Nat) (s : State), s.rst.on = true → kindOf id ≠ 0 → (s.cairn id).powered = true → n < 2 →
    (if n = 0 then (s.cairn id).out0 else (s.cairn id).out1).level = true →
    runs (.cairnRaise id n) s fun t =>
      t.crs.flight = (s.crs.flight.filter fun r => r.num != s.crs.nextNum) ++ [⟨s.crs.nextNum, (s.cairn id).f (if n = 0 then CF.OUT0_CH else CF.OUT1_CH), id, false⟩]
      ∧ t.crs.nextNum = (s.crs.nextNum + 1) % 2 ^ 16 ∧ (t.cairn id).f CF.CRS_STAT_RAISES = ((s.cairn id).f CF.CRS_STAT_RAISES + 1) % 65536
      ∧ (if n = 0 then (t.cairn id).out0 else (t.cairn id).out1).level = false ∧ s.only t id ∧ s.frame t [] [] [.crs, .cairns])

/-- CHANNEL_RAISE and XTRIG (R188): the first copy of a raise is accepted, marked as seen and counted, and waits for the next snapshot, or while
the sequencer is stopped makes a sticky channel pending; the second copy is discarded; a master's raise carries the master's source
number.
RUN, SEQUENCER_EVAL, SA_CANCEL, STOP_AFTER_FIRE, PIN_PULSE_EDGE and CFG_PARITY (R189, R193 to R196, R200): a graph whose every enabled
transition passes the checks starts in START_STATE under the writer's rights, and one that does not stays stopped with its first error;
a stopped sequencer does nothing but what the last transition's ACT_B still asks (R194); the enabled transition of lowest index whose channel is seen is taken and reported, and nothing is
taken when none is true. -/
def Obligations.ChannelsAndSequencer : Prop :=
  (∀ (r : RaiseFl) (s : State), s.rst.on = true → s.crs.flight.find? (fun x => x.num == r.num) = some r → r.first = false → r.ch < 64 →
    runs (.channelRaise r.num) s fun t =>
      bit (t.rd64 R.CRS_CH_SEEN_LO) r.ch = true ∧ t.rd R.CRS_RAISE_CNT = min (s.rd R.CRS_RAISE_CNT + 1) (2 ^ 32 - 1)
      ∧ (∃ x ∈ t.crs.flight, x.num = r.num ∧ x.first = true)
      ∧ (s.f F.CRS_CTRL_RUN = 1 → t.crs.wait = s.crs.wait ++ [(r.ch, r.src)])
      ∧ (s.f F.CRS_CTRL_RUN = 0 → bit (s.rd64 R.CRS_CH_STICKY_LO) r.ch = true → bit (s.rd64 R.CRS_CH_PEND_LO) r.ch = false →
        bit (t.rd64 R.CRS_CH_PEND_LO) r.ch = true ∧ smGet 0 t.crs.raiser r.ch = r.src)
      ∧ s.frame t [R.CRS_CH_SEEN_LO, R.CRS_CH_SEEN_HI, R.CRS_RAISE_CNT, R.CRS_CH_PEND_LO, R.CRS_CH_PEND_HI] [] [.crs, .prb])
  ∧ (∀ (r : RaiseFl) (s : State), s.rst.on = true → s.crs.flight.find? (fun x => x.num == r.num) = some r → r.first = true →
    runs (.channelRaise r.num) s fun t => t.crs.flight = s.crs.flight.erase r ∧ t.crs.wait = s.crs.wait ∧ s.frame t [] [] [.crs])
  ∧ (∀ (m : Master) (v : Word) (s : State), s.ready m (some rtTrigger) R.CRS_XTRIG = true →
    runs (.xtrig m v) s fun t =>
      bit (t.rd64 R.CRS_CH_SEEN_LO) (v.toNat % 64) = true ∧ t.rd R.CRS_RAISE_CNT = min (s.rd R.CRS_RAISE_CNT + 1) (2 ^ 32 - 1)
      ∧ (s.f F.CRS_CTRL_RUN = 1 → t.crs.wait = s.crs.wait ++ [(v.toNat % 64, mSrc m)])
      ∧ s.frame t [R.CRS_CH_SEEN_LO, R.CRS_CH_SEEN_HI, R.CRS_RAISE_CNT, R.CRS_CH_PEND_LO, R.CRS_CH_PEND_HI] [] [.access, .crs, .prb])
  ∧ (∀ (m : Master) (v : Word) (s : State), s.ready m (some rtTrigger) R.CRS_CTRL = true → bit v.toNat 0 = true → bit v.toNat 5 = false →
    s.f F.CRS_CTRL_RUN = 0 → (∀ k, k < 64 → s.trError k (s.heldSet m) = 0) →
    runs (.run m v) s fun t =>
      t.f F.CRS_CTRL_RUN = 1 ∧ t.f F.CRS_STAT_RUNNING = 1 ∧ t.f F.CRS_STAT_STATE = v.toNat / 2 % 16 ∧ t.rd R.CRS_RUN_RIGHTS = s.heldSet m
      ∧ t.f F.CRS_STAT_CFG_ERR = 0 ∧ t.crs.wait = []
      ∧ t.sum.intq = s.sum.intq ++ [s.ev .crsRun 0x1001 [.w 1, .w (v.toNat / 2 % 16), .w (s.heldSet m)]]
      ∧ s.frame t [R.CRS_CTRL, R.CRS_STAT, R.CRS_RUN_RIGHTS, R.CRS_CH_PEND_LO, R.CRS_CH_PEND_HI, 0x2024] [] [.access, .intq, .crs])
  ∧ (∀ (m : Master) (v : Word) (k : Nat) (s : State), s.ready m (some rtTrigger) R.CRS_CTRL = true → bit v.toNat 0 = true →
    bit v.toNat 5 = false → s.f F.CRS_CTRL_RUN = 0 → k < 64 → s.trError k (s.heldSet m) ≠ 0 → (∀ j, j < k → s.trError j (s.heldSet m) = 0) →
    runs (.run m v) s fun t =>
      t.f F.CRS_CTRL_RUN = 0 ∧ t.f F.CRS_STAT_CFG_ERR = s.trError k (s.heldSet m) ∧ t.f F.CRS_STAT_ERR_ST = k / 4 ∧ t.f F.CRS_STAT_ERR_TR = k % 4
      ∧ s.frame t [R.CRS_CTRL, R.CRS_STAT] [] [.access])
  ∧ (∀ s : State, s.rst.on = true → s.f F.CRS_CTRL_RUN = 0 → s.crs.actB = none → runs .sequencerEval s fun t => t = s)
  ∧ (∀ (p a : Nat) (s : State), s.rst.on = true → s.f F.CRS_CTRL_RUN = 0 → s.crs.actB = some (1, p, a) → s.cutState = 0 → s.hasJob .resume = false →
    s.schedFull = false → s.stp.active = false →
    runs .sequencerEval s fun t =>
      t.crs.actB = none ∧ t.cutState = 1 ∧ t.rd R.SUM_CUT_SRC = 0x1001
      ∧ s.frame t [R.SUM_CUT_STAT, R.SUM_CUT_T_LO, R.SUM_CUT_T_HI, R.SUM_CUT_SRC, 0x2024] [] [.intq, .tree, .cut, .crs])
  ∧ (∀ (st c src i : Nat) (s : State), s.rst.on = true → s.f F.CRS_CTRL_RUN = 1 → s.f F.CRS_STAT_STATE = st → s.crs.wait = [(c, src)] →
    s.crs.held = [] → s.crs.actB = none → src < 2 ^ 32 → c < 64 → s.rd64 R.CRS_CH_STICKY_LO = 0 → s.crsLevel < 60 → i < 4 → s.f (F.CRS_TR_EN (4 * st + i)) = 1 →
    s.f (F.CRS_TR_COND (4 * st + i)) = c → (∀ j, j < i → s.f (F.CRS_TR_EN (4 * st + j)) = 0) →
    s.f (F.CRS_TR_ACT_A (4 * st + i)) = 0 → s.f (F.CRS_TR_ACT_B (4 * st + i)) = 0 →
    let next := s.f (F.CRS_TR_NEXT (4 * st + i))
    runs .sequencerEval s fun t =>
      t.f F.CRS_STAT_STATE = next ∧ t.f F.CRS_LAST_TRANS_FROM = st ∧ t.f F.CRS_LAST_TRANS_TO = next ∧ t.f F.CRS_LAST_TRANS_INDEX = i
      ∧ t.f F.CRS_LAST_TRANS_COND = c ∧ t.crs.wait = [] ∧ t.crs.entered = some next ∧ t.crs.rst = s.f (F.CRS_ST_ENTRY_RST next)
      ∧ t.sum.intq = s.sum.intq ++ [s.ev .transition 0x1001 [.w st, .w next, .w i, .w c, .w src]]
      ∧ s.frame t [] [2] [.intq, .crs, .prb])
  ∧ (∀ (st : Nat) (s : State), s.rst.on = true → s.f F.CRS_CTRL_RUN = 1 → s.f F.CRS_STAT_STATE = st → s.crsLevel < 60 → s.crs.actB = none →
    (∀ i, i < 4 → s.f (F.CRS_TR_EN (4 * st + i)) = 0) →
    runs .sequencerEval s fun t =>
      t.f F.CRS_STAT_STATE = st ∧ t.crs.wait = [] ∧ t.crs.held = [] ∧ t.crs.lastT = s.clk ∧ s.frame t [] [2] [.crs, .prb])
  ∧ (∀ (st : Nat) (s : State), s.rst.on = true → s.f F.CRS_CTRL_RUN = 1 → 60 ≤ s.crsLevel → s.f F.CRS_STAT_STATE = st → s.crs.actB = none →
    runs .sequencerEval s fun t => t.f F.CRS_STAT_STALLED = 1 ∧ t.f F.CRS_STAT_STATE = st ∧ s.frame t [] [2] [.crs, .prb])
  ∧ (∀ (m : Master) (v : Word) (s : State), s.ready m (some rtTrigger) R.CRS_CTRL = true → bit v.toNat 5 = true →
    s.f F.CRS_CTRL_RUN = b2n (bit v.toNat 0) → s.f F.CRS_STAT_SA_PENDING = 1 →
    runs (.saCancel m v) s fun t =>
      t.f F.CRS_STAT_SA_PENDING = 0 ∧ t.f F.CRS_CTRL_RUN = s.f F.CRS_CTRL_RUN
      ∧ (∃ c, t.sum.intq = s.sum.intq ++ [s.ev .stopAfterCancel 0x1001 [.d (s.rd64 R.CRS_SA_T_LO), .w c]])
      ∧ s.frame t [R.CRS_CTRL, R.CRS_STAT, 0x2024] [] [.access, .intq])
  ∧ (∀ s : State, s.rst.on = true → s.f F.CRS_STAT_SA_PENDING = 1 → s.rd64 R.CRS_SA_T_LO ≤ s.now + max (s.f F.SUM_CUT_LEAD_LEAD) 100 →
    s.crs.saWhat = 0 → s.cutState = 0 → s.hasJob .resume = false → s.schedFull = false → s.stp.active = false →
    let T := max (s.rd64 R.CRS_SA_T_LO) (s.now + 100)
    runs .stopAfterFire s fun t =>
      t.f F.CRS_STAT_SA_PENDING = 0 ∧ t.cutState = 1 ∧ t.rd64 R.SUM_CUT_T_LO = T % 2 ^ 64 ∧ t.rd R.SUM_CUT_SRC = 0x1001
      ∧ s.frame t [R.CRS_STAT, R.SUM_CUT_STAT, R.SUM_CUT_T_LO, R.SUM_CUT_T_HI, R.SUM_CUT_SRC, 0x2024] [] [.intq, .tree, .cut])
  ∧ (∀ (p : Pulse) (s : State), s.rst.on = true → s.crs.pulses = [p] → p.begun = false → p.tp ≤ s.now →
    runs .pinPulseEdge s fun t =>
      t.crs.pulses = [{ p with begun := true }]
      ∧ (p.hb = true → s.f F.FLT_STAT_FATAL_N = 0 → t.hbPin ≠ s.hbPin) ∧ (p.hb = false ∨ s.f F.FLT_STAT_FATAL_N ≠ 0 → t.hbPin = s.hbPin)
      ∧ (p.lane = true → s.sess = sessLanes → t.pass.marks = [(p.tp % 2 ^ 48, s.pass.markNo)])
      ∧ (p.lane = false → t.pass = s.pass) ∧ s.frame t [] [] [.crs, .pass])
  ∧ (∀ (p : Pulse) (s : State), s.rst.on = true → s.crs.pulses = [p] → p.begun = true → p.tp + 25 * p.width ≤ s.now →
    runs .pinPulseEdge s fun t => t.crs.pulses = [] ∧ s.frame t [] [] [.crs])
  ∧ (∀ s : State, s.rst.on = true →
    runs .cfgParity s fun t =>
      bit (t.rd 0x2014) 0 = true ∧ t.f F.CRS_CTRL_RUN = 0 ∧ (s.f F.CRS_CTRL_RUN = 1 → t.f F.CRS_STAT_RUNNING = 0)
      ∧ t.f F.CRS_STAT_SA_PENDING = s.f F.CRS_STAT_SA_PENDING
      ∧ (s.f F.CRS_CTRL_RUN = 1 → ∃ e ∈ t.sum.intq, e.name = .crsRun ∧ e.data = [.w 0, .w (s.f F.CRS_CTRL_START_STATE), .w (s.rd R.CRS_RUN_RIGHTS)])
      ∧ (∀ k, k < 8 → t.rd (R.CRS_CNT_VAL k) = if s.f F.CRS_CTRL_RUN = 1 ∧ bit s.crs.rst k = true then 0 else s.rd (R.CRS_CNT_VAL k))
      ∧ (s.f F.CRS_CTRL_RUN = 0 → s.frame t [0x2010, 0x2014, 0x2024] [] [.intq])
      ∧ s.frame t ([R.CRS_CTRL, R.CRS_STAT, 0x2010, 0x2014, 0x2024, R.CRS_CH_PEND_LO, R.CRS_CH_PEND_HI] ++ (List.range 8).map R.CRS_CNT_VAL) []
        [.intq, .crs, .prb])


/-! ### Pitch (07) -/

/-- ADD, SUB, AND, OR, XOR, SHL, SHR, MUL, MINU, MAXU, ADDI, ANDI, MOVI, TIME, LDM, STM and AADD (R207, R208, R213, R214): each writes pd from
64-bit words and goes on to the next word; a store changes its doubleword and no other word of program memory; an access outside the
data window stops the engine with DATA_RANGE. -/
def Obligations.PitchDataInstructions : Prop :=
  (∀ (e : Nat) (fn : AluFn) (d a b : BitVec 4) (s : State), s.issues e (.alu fn d a b) = true →
    runs (aluCmd e fn) s fun t => t.p e d.toNat = (aluWord (s.pWord e a) (s.pWord e b) fn).toNat ∧ s.retired t e (s.pc e + 1) [d.toNat] [] [])
  ∧ (∀ (e : Nat) (d a : BitVec 4) (imm : BitVec 18) (s : State), s.issues e (.addi d a imm) = true →
    runs (.addi e) s fun t => t.p e d.toNat = (s.pWord e a + imm.signExtend 64).toNat ∧ s.retired t e (s.pc e + 1) [d.toNat] [] [])
  ∧ (∀ (e : Nat) (d a : BitVec 4) (imm : BitVec 18) (s : State), s.issues e (.andi d a imm) = true →
    runs (.andi e) s fun t => t.p e d.toNat = (s.pWord e a &&& imm.setWidth 64).toNat ∧ s.retired t e (s.pc e + 1) [d.toNat] [] [])
  ∧ (∀ (e : Nat) (d : BitVec 4) (imm : BitVec 22) (s : State), s.issues e (.movi d imm) = true →
    runs (.movi e) s fun t => t.p e d.toNat = (imm.signExtend 64).toNat ∧ s.retired t e (s.pc e + 1) [d.toNat] [] [])
  ∧ (∀ (e : Nat) (d : BitVec 4) (s : State), s.issues e (.time d) = true →
    runs (.time e) s fun t => t.p e d.toNat = s.now % 2 ^ 64 ∧ s.retired t e (s.pc e + 1) [d.toNat] [] [])
  ∧ (∀ (e : Nat) (d a : BitVec 4) (imm : BitVec 18) (s : State), s.issues e (.ldm d a imm) = true →
    let x := (s.pWord e a + imm.signExtend 64).toNat
    x ≤ 0xFFFF → x % 2 = 0 → s.inData e x = true → s.pmBad x = false → s.pmBad (x + 1) = false →
    runs (.ldm e) s fun t => t.p e d.toNat = s.pmWord x + 2 ^ 32 * s.pmWord (x + 1) ∧ s.retired t e (s.pc e + 1) [d.toNat] [] [])
  ∧ (∀ (e : Nat) (d a : BitVec 4) (imm : BitVec 18) (s : State), s.issues e (.stm d a imm) = true →
    let x := (s.pWord e a + imm.signExtend 64).toNat
    x ≤ 0xFFFF → x % 2 = 0 → s.inData e x = true → s.inCode x = false → s.inCode (x + 1) = false →
    runs (.stm e) s fun t =>
      t.pmWord x = s.p e d.toNat % 2 ^ 32 ∧ t.pmWord (x + 1) = s.p e d.toNat / 2 ^ 32 ∧ (∀ y, y ≠ x ∧ y ≠ x + 1 → t.pmWord y = s.pmWord y)
      ∧ t.prb.eng = s.prb.eng ∧ s.retired t e (s.pc e + 1) [] [] [.prb])
  ∧ (∀ (e : Nat) (d a b : BitVec 4) (s : State), s.issues e (.aadd d a b) = true →
    let x := s.p e a.toNat
    x ≤ 0xFFFF → x % 2 = 0 → s.inData e x = true → s.inCode x = false → s.inCode (x + 1) = false → s.pmBad x = false → s.pmBad (x + 1) = false →
    let old := s.pmWord x + 2 ^ 32 * s.pmWord (x + 1)
    runs (.aadd e) s fun t =>
      t.p e d.toNat = old ∧ t.pmWord x + 2 ^ 32 * t.pmWord (x + 1) = (old + s.p e b.toNat) % 2 ^ 64
      ∧ (∀ y, y ≠ x ∧ y ≠ x + 1 → t.pmWord y = s.pmWord y) ∧ t.prb.eng = s.prb.eng ∧ s.retired t e (s.pc e + 1) [d.toNat] [] [.prb])
  ∧ (∀ (e : Nat) (d a : BitVec 4) (imm : BitVec 18) (i : PInstr) (s : State), i = .ldm d a imm ∨ i = .stm d a imm → s.issues e i = true →
    let x := (s.pWord e a + imm.signExtend 64).toNat
    (0xFFFF < x ∨ x % 2 = 1 ∨ s.inData e x = false) →
    runs (if i = .ldm d a imm then .ldm e else .stm e) s fun t =>
      t.engState e = 0 ∧ t.f (F.PRB_STAT_STOP_CODE e) = 4 ∧ t.pc e = s.pc e ∧ (∀ y, t.pmWord y = s.pmWord y)
      ∧ (∃ v ∈ t.sum.intq, v.name = .engStop ∧ v.src = 0x1002 + e) ∧ s.frame t [] [3 + e] [.intq, .prb])

/-- BEQ, BNE, BLTU, BGEU, BEQI, BNEI, BLTUI, JAL and JR (R213, R214): a branch that is taken goes to its own word address plus the signed
offset, modulo 2^16, and any other to the next word; JAL links the next word's address. -/
def Obligations.PitchBranches : Prop :=
  (∀ (e : Nat) (fn : BrFn) (a b : BitVec 4) (off : BitVec 18) (s : State), s.issues e (.br fn a b off) = true →
    let x := s.pWord e a
    let y := s.pWord e b
    let taken := match fn with | .beq => x == y | .bne => x != y | .bltu => decide (x < y) | .bgeu => decide (y ≤ x)
    let c := match fn with | .beq => Instr.beq e | .bne => .bne e | .bltu => .bltu e | .bgeu => .bgeu e
    runs c s fun t => s.retired t e (if taken then (((s.pc e : Int) + off.toInt) % 65536).toNat else s.pc e + 1) [] [] [])
  ∧ (∀ (e : Nat) (fn : BriFn) (a : BitVec 4) (imm : BitVec 8) (off : BitVec 14) (s : State), s.issues e (.bri fn a imm off) = true →
    let x := s.pWord e a
    let y := imm.setWidth 64
    let taken := match fn with | .beqi => x == y | .bnei => x != y | .bltui => decide (x < y)
    let c := match fn with | .beqi => Instr.beqi e | .bnei => .bnei e | .bltui => .bltui e
    runs c s fun t => s.retired t e (if taken then (((s.pc e : Int) + off.toInt) % 65536).toNat else s.pc e + 1) [] [] [])
  ∧ (∀ (e : Nat) (d : BitVec 4) (target : BitVec 16) (s : State), s.issues e (.jal d 0 target) = true →
    runs (.jal e) s fun t => t.p e d.toNat = (s.pc e + 1) % 65536 ∧ s.retired t e target.toNat [d.toNat] [] [])
  ∧ (∀ (e : Nat) (d : BitVec 4) (target : BitVec 16) (s : State), s.issues e (.jal d 1 target) = true →
    runs (.jal e) s fun t => s.retired t e target.toNat [] [] [])
  ∧ (∀ (e : Nat) (a : BitVec 4) (s : State), s.issues e (.jr a) = true →
    runs (.jr e) s fun t => s.retired t e (s.p e a.toNat) [] [] [])

/-- WAITT, WAITW, WAITJ, WAITCH, WAIT_END, CRD, CWR, VRD, VWR, ERRS, HRD and HWR (R214, R218 to R223): a wait that is over at once goes on, any
other makes the engine WAITING until it is; a window access goes into flight behind every access that has
arrived, or completes at once with the code of what forbids it (R205, R218; 01 R10), and the engine goes on; ERRS reads and clears PRB_ACC_ERR;
HRD reads a hub register and HWR writes one; an access turned away records its code. -/
def Obligations.PitchWaitsAndAccesses : Prop :=
  (∀ (e : Nat) (a : BitVec 4) (imm : BitVec 18) (s : State), s.issues e (.waitt a imm) = true →
    let x := (s.pWord e a + imm.signExtend 64).toNat
    runs (.waitt e) s fun t =>
      (x ≤ s.now → s.retired t e (s.pc e + 1) [] [] [])
      ∧ (s.now < x → t.engState e = 2 ∧ (t.eng e).wait = some (.time x) ∧ t.pc e = s.pc e ∧ s.frame t [R.PRB_STAT e] [] [.prb]))
  ∧ (∀ (e : Nat) (s : State), s.issues e .waitw = true →
    runs (.waitw e) s fun t =>
      ((s.eng e).wins = [] → s.retired t e (s.pc e + 1) [] [] [])
      ∧ ((s.eng e).wins ≠ [] → t.engState e = 2 ∧ (t.eng e).wait = some .windows ∧ t.pc e = s.pc e ∧ s.frame t [R.PRB_STAT e] [] [.prb]))
  ∧ (∀ (e : Nat) (d a b : BitVec 4) (s : State), s.issues e (.waitj d a b) = true →
    let w := s.jobWord (s.p e a.toNat % 65536) (0x1002 + e)
    runs (.waitj e) s fun t =>
      (w % 16 ≠ 1 ∨ s.p e b.toNat ≤ s.now → t.p e d.toNat = w % 2 ^ 64 ∧ s.retired t e (s.pc e + 1) [d.toNat] [] [])
      ∧ (w % 16 = 1 ∧ s.now < s.p e b.toNat → t.engState e = 2 ∧ t.pc e = s.pc e ∧ s.frame t [R.PRB_STAT e] [] [.prb]))
  ∧ (∀ (e : Nat) (d a : BitVec 4) (ch : BitVec 6) (s : State), s.issues e (.waitch d a ch) = true →
    runs (.waitch e) s fun t =>
      (s.p e a.toNat ≤ s.now → t.p e d.toNat = 0 ∧ s.retired t e (s.pc e + 1) [d.toNat] [] [])
      ∧ (s.now < s.p e a.toNat → t.engState e = 2 ∧ (t.eng e).wait = some (.chan ch.toNat (s.p e a.toNat) d.toNat) ∧ (t.eng e).chSeen = []
        ∧ t.pc e = s.pc e ∧ s.frame t [R.PRB_STAT e] [] [.prb]))
  ∧ (∀ (e x : Nat) (s : State), s.rst.on = true → e < 4 → s.engState e = 2 → (s.eng e).wait = some (.time x) → x ≤ s.now →
    runs (.waitEnd e) s fun t => t.engState e = 1 ∧ (t.eng e).wait = none ∧ s.retired t e (s.pc e + 1) [] [R.PRB_STAT e, R.PRB_STALL e] [.prb])
  ∧ (∀ (e ch x d : Nat) (s : State), s.rst.on = true → e < 4 → s.engState e = 2 → (s.eng e).wait = some (.chan ch x d) → d < 16 →
    (s.eng e).chSeen ≠ [] ∨ x ≤ s.now →
    runs (.waitEnd e) s fun t =>
      t.engState e = 1 ∧ t.p e d = (if (s.eng e).chSeen = [] then 0 else 1)
      ∧ s.retired t e (s.pc e + 1) [d] [R.PRB_STAT e, R.PRB_STALL e] [.prb])
  ∧ (∀ (e x : Nat) (s : State), s.rst.on = true → e < 4 → s.engState e = 2 → (s.eng e).wait = some (.time x) → s.now < x →
    runs (.waitEnd e) s fun t => t = s)
  ∧ (∀ (e : Nat) (d a : BitVec 4) (off : BitVec 10) (s : State), off.toNat % 4 = 0 → (∀ w ∈ (s.eng e).wins, w.fate = none) →
    let w : WinAcc := ⟨some d.toNat, s.p e a.toNat % 4096, false, 0, off.toNat, false, 0, s.clk, 0, 0, none, false⟩
    s.issues e (.crd d a off) = true → s.winCode e w = none →
    runs (.crd e) s fun t =>
      (t.eng e).wins = (s.eng e).wins ++ [s.winSent e w] ∧ s.retired t e (s.pc e + 1) [] mirrorRegs [.prb, .access, .tree])
  ∧ (∀ (e : Nat) (d a : BitVec 4) (off : BitVec 10) (s : State), off.toNat % 4 = 0 → (∀ w ∈ (s.eng e).wins, w.fate = none) →
    let w : WinAcc := ⟨none, s.p e a.toNat % 4096, false, 0, off.toNat, false, s.p e d.toNat % 2 ^ 32, s.clk, 0, 0, none, false⟩
    s.issues e (.cwr d a off) = true → s.winCode e w = none →
    runs (.cwr e) s fun t =>
      (t.eng e).wins = (s.eng e).wins ++ [s.winSent e w] ∧ s.retired t e (s.pc e + 1) [] mirrorRegs [.prb, .access, .tree])
  ∧ (∀ (e : Nat) (d a b sp : BitVec 4) (wide : BitVec 1) (s : State), s.p e b.toNat % (if wide = 1 then 8 else 4) = 0 →
    (∀ w ∈ (s.eng e).wins, w.fate = none) →
    let w : WinAcc := ⟨some d.toNat, s.p e a.toNat % 4096, true, sp.toNat, s.p e b.toNat, wide == 1, 0, s.clk, 0, 0, none, false⟩
    s.issues e (.vrd d a b sp wide) = true → s.winCode e w = none →
    runs (.vrd e) s fun t =>
      (t.eng e).wins = (s.eng e).wins ++ [s.winSent e w] ∧ s.retired t e (s.pc e + 1) [] mirrorRegs [.prb, .access, .tree])
  ∧ (∀ (e : Nat) (d a b sp : BitVec 4) (wide : BitVec 1) (s : State), s.p e b.toNat % (if wide = 1 then 8 else 4) = 0 →
    (∀ w ∈ (s.eng e).wins, w.fate = none) →
    let w : WinAcc := ⟨none, s.p e a.toNat % 4096, true, sp.toNat, s.p e b.toNat, wide == 1, s.p e d.toNat, s.clk, 0, 0, none, false⟩
    s.issues e (.vwr d a b sp wide) = true → s.winCode e w = none →
    runs (.vwr e) s fun t =>
      (t.eng e).wins = (s.eng e).wins ++ [s.winSent e w] ∧ s.retired t e (s.pc e + 1) [] mirrorRegs [.prb, .access, .tree])
  ∧ (∀ (e c : Nat) (d a : BitVec 4) (off : BitVec 10) (s : State), off.toNat % 4 = 0 → (s.eng e).wins = [] →
    s.issues e (.crd d a off) = true → s.f (F.PRB_ACC_ERR_VALID e) = 0 →
    s.winCode e ⟨some d.toNat, s.p e a.toNat % 4096, false, 0, off.toNat, false, 0, s.clk, 0, 0, none, false⟩ = some c →
    runs (.crd e) s fun t =>
      (t.eng e).wins = [] ∧ t.p e d.toNat = 0 ∧ t.f (F.PRB_ACC_ERR_VALID e) = 1 ∧ t.f (F.PRB_ACC_ERR_CODE e) = c
      ∧ s.retired t e (s.pc e + 1) [d.toNat] (R.PRB_ACC_ERR e :: mirrorRegs) [.prb, .access, .tree])
  ∧ (∀ (e : Nat) (d : BitVec 4) (s : State), s.issues e (.errs d) = true →
    runs (.errs e) s fun t =>
      t.p e d.toNat = s.rd (R.PRB_ACC_ERR e) ∧ t.rd (R.PRB_ACC_ERR e) = 0 ∧ s.retired t e (s.pc e + 1) [d.toNat] [R.PRB_ACC_ERR e] [])
  ∧ (∀ (e : Nat) (d a : BitVec 4) (imm : BitVec 18) (r : RegRow) (s : State), s.issues e (.hrd d a imm) = true →
    let x := (s.p e a.toNat + 4 * imm.toNat) % 2 ^ 20
    x % 4 = 0 → s.inReset = false → x / 0x1000 ≠ 0x20 → s.hubCode (.eng e) x false 0 = codeOk → 0x40 ≤ x % 0x1000 → hubRow x = some r →
    r.acc ≠ .wo → s.shown (.eng e) x = none → perMaster s x = false → x ≠ R.WCH_LAG_SEL → (s.eng e).capHi = none →
    runs (.hrd e) s fun t => t.p e d.toNat = s.rd x ∧ s.retired t e (s.pc e + 1) [d.toNat] [] [.prb])
  ∧ (∀ (e : Nat) (d a : BitVec 4) (imm : BitVec 18) (r : RegRow) (s : State), s.issues e (.hwr d a imm) = true →
    let x := (s.p e a.toNat + 4 * imm.toNat) % 2 ^ 20
    x ∈ [R.RDG_EPOCH_INT, R.SCR_FLOW_EN 0, R.SCR_FLOW_EN 7] → hubRow x = some r → s.inReset = false →
    s.may (.eng e) (hubWrite (.eng e) x) = true → (s.eng e).heldLo = none →
    runs (.hwr e) s fun t =>
      Nat.land (t.rd x) r.mask = Nat.land (s.p e d.toNat % 2 ^ 32) r.mask ∧ s.retired t e (s.pc e + 1) [] [x] [.prb])
  ∧ (∀ (e : Nat) (d a : BitVec 4) (imm : BitVec 18) (s : State), s.issues e (.hwr d a imm) = true →
    let x := (s.p e a.toNat + 4 * imm.toNat) % 2 ^ 20
    x % 4 = 0 → s.inReset = false → x / 0x1000 = 0 → s.f (F.PRB_ACC_ERR_VALID e) = 0 →
    runs (.hwr e) s fun t =>
      t.f (F.PRB_ACC_ERR_VALID e) = 1 ∧ t.f (F.PRB_ACC_ERR_CODE e) = codeRights ∧ s.retired t e (s.pc e + 1) [] [R.PRB_ACC_ERR e] [.prb])

/-- PRB_START, PRB_STOP, PM_DATA_WRITE, PM_DATA_READ, WATCHDOG_EXPIRY and RF_PARITY, and what stops an engine at its fetch (R204 to R206, R208,
R210, R212, R231 to R233). -/
def Obligations.PitchEngines : Prop :=
  (∀ (m : Master) (e : Nat) (v : Word) (s : State), e < 4 → s.ready m (some rtProbe) (R.PRB_CTRL e) = true → bit v.toNat 0 = true →
    bit v.toNat 1 = false → s.engState e = 0 → s.auth.run = none →
    runs (.prbStart m e v) s fun t =>
      t.engState e = 1 ∧ t.pc e = s.f (F.PRB_ENTRY_ENTRY e) ∧ t.rd (R.PRB_RIGHTS_REC e) = s.heldSet m
      ∧ t.f (F.PRB_START_SRC_SRC e) = mSrc m ∧ t.rd (R.PRB_RETIRED e) = 0 ∧ t.rd (R.PRB_STALL e) = 0 ∧ t.rd (R.PRB_ACC_ERR e) = 0
      ∧ (∀ r, r < 32 → t.rd (R.PRB_P e r) = s.rd (R.PRB_P e r))
      ∧ t.sum.intq = s.sum.intq ++ [s.ev .engStart (0x1002 + e) [.w (mSrc m), .w (s.f (F.PRB_ENTRY_ENTRY e)), .w (s.heldSet m)]]
      ∧ s.frame t [] [3 + e, 9, 10] [.access, .intq, .prb, .cen])
  ∧ (∀ (m : Master) (e : Nat) (v : Word) (s : State), e < 4 → s.ready m (some rtProbe) (R.PRB_CTRL e) = true → bit v.toNat 0 = false →
    bit v.toNat 1 = true → s.engState e ≠ 0 →
    runs (.prbStop m e v) s fun t =>
      t.engState e = 0 ∧ t.f (F.PRB_STAT_STOP_CODE e) = 9 ∧ t.rd64 (R.PRB_STOP_T_LO e) = s.now % 2 ^ 64 ∧ t.pc e = s.pc e
      ∧ (t.eng e).wins = (s.eng e).wins
      ∧ t.sum.intq = s.sum.intq ++ [s.ev .engStop (0x1002 + e) [.w 9, .w (s.f (F.PRB_PC_PC e)), .w (s.f (F.PRB_STAT_HALT_ARG e))]]
      ∧ t.rd (R.PRB_STALL e) = s.stallOf e
      ∧ s.frame t [R.PRB_CTRL e, R.PRB_STAT e, R.PRB_STALL e, R.PRB_STOP_T_LO e, R.PRB_STOP_T_HI e, 0x3024 + 0x1000 * e] [] [.access, .intq, .prb])
  ∧ (∀ (m : Master) (e : Nat) (v : Word) (s : State), e < 4 → s.ready m (some rtProbe) (R.PRB_PM_DATA e) = true →
    let a := s.f (bkF m (F.PRB_PM_ADDR_ADDR e))
    runs (.pmDataWrite m e v) s fun t =>
      (s.inCode a = false → t.pmWord a = v.toNat) ∧ (s.inCode a = true → t.pmWord a = s.pmWord a ∧ t.f (F.PRB_PM_STAT_WR_IGN e) = 1)
      ∧ (∀ y, y ≠ a → t.pmWord y = s.pmWord y)
      ∧ t.f (bkF m (F.PRB_PM_ADDR_ADDR e)) = (if s.f (bkF m (F.PRB_PM_ADDR_AUTOINC e)) = 1 then (a + 1) % 65536 else a)
      ∧ s.frame t [bk m (R.PRB_PM_ADDR e), R.PRB_PM_STAT e] [] [.access, .prb])
  ∧ (∀ (m : Master) (e : Nat) (s : State), e < 4 → s.ready m (some rtObserve) (R.PRB_PM_DATA e) = true → (s.mst m).capHi = none →
    let a := s.f (bkF m (F.PRB_PM_ADDR_ADDR e))
    runs (.pmDataRead m e) s fun t =>
      (t.mst m).resp = ⟨codeOk, s.pmWord a⟩
      ∧ t.f (bkF m (F.PRB_PM_ADDR_ADDR e)) = (if s.f (bkF m (F.PRB_PM_ADDR_AUTOINC e)) = 1 then (a + 1) % 65536 else a)
      ∧ (s.pmBad a = false → s.frame t [bk m (R.PRB_PM_ADDR e)] [] [.access])
      ∧ (s.pmBad a = true → t.f (F.PRB_PM_STAT_UC_READ e) = 1 ∧ bit (t.rd (0x3014 + 0x1000 * e)) 1 = true))
  ∧ (∀ (e : Nat) (s : State), s.rst.on = true → e < 4 → s.engState e ≠ 0 → 0 < s.f (F.PRB_WDOG_LIM e) →
    (s.eng e).kickT + s.f (F.PRB_WDOG_LIM e) * 256 ≤ s.clk →
    runs (.watchdogExpiry e) s fun t =>
      t.engState e = 0 ∧ t.f (F.PRB_STAT_STOP_CODE e) = 6 ∧ bit (t.rd (0x3014 + 0x1000 * e)) 2 = true
      ∧ (∃ v ∈ t.sum.intq, v.name = .engStop ∧ v.src = 0x1002 + e) ∧ s.frame t [] [3 + e] [.intq, .prb])
  ∧ (∀ (e : Nat) (s : State), s.rst.on = true → e < 4 →
    runs (.rfParity e) s fun t =>
      bit (t.rd (0x3014 + 0x1000 * e)) 3 = true ∧ t.engState e = 0 ∧ (s.engState e ≠ 0 → t.f (F.PRB_STAT_STOP_CODE e) = 8)
      ∧ s.frame t [] [3 + e] [.intq, .prb])
  ∧ (∀ (e : Nat) (s : State), s.rst.on = true → e < 4 → s.engState e = 1 → s.inCodeOf e (s.pc e) = false →
    runs (.add e) s fun t => t.engState e = 0 ∧ t.f (F.PRB_STAT_STOP_CODE e) = 3 ∧ t.pc e = s.pc e ∧ s.frame t [] [3 + e] [.intq, .prb])
  ∧ (∀ (e : Nat) (s : State), s.rst.on = true → e < 4 → s.engState e = 1 → s.inCodeOf e (s.pc e) = true → s.pmBad (s.pc e) = false →
    PInstr.decode (BitVec.ofNat 32 (s.pmWord (s.pc e))) = none →
    runs (.add e) s fun t => t.engState e = 0 ∧ t.f (F.PRB_STAT_STOP_CODE e) = 2 ∧ t.pc e = s.pc e ∧ s.frame t [] [3 + e] [.intq, .prb])
  ∧ (∀ (e : Nat) (ch : BitVec 6) (s : State), s.rst.on = true → e < 4 → s.engState e = 1 → s.inCodeOf e (s.pc e) = true → s.pmBad (s.pc e) = false →
    PInstr.decode (BitVec.ofNat 32 (s.pmWord (s.pc e))) = some (.trig ch) → s.stalled e (.trig ch) = false → s.lacks e (.trig ch) = true →
    runs (.trig e) s fun t => t.engState e = 0 ∧ t.f (F.PRB_STAT_STOP_CODE e) = 5 ∧ t.pc e = s.pc e ∧ s.frame t [] [3 + e] [.intq, .prb])

/-- Every Pitch instruction that R213 and R225 allow has a word that decodes to it, with every field at every value (R211, R212). -/
def Obligations.PitchDecodesWhatItEncodes : Prop := ∀ i : PInstr, i.wf = true → PInstr.decode i.encode = some i

/-! ### Couloir (08) -/

/-- COU_ENABLE, COU_INIT_DONE, AUTO_ARM, ABORT and CC_INTRUDE (R241 to R243, R251, R282): enabling zeroes the metadata area and frees every slot;
ENABLE stays 1 while a slot is not FREE; an intruding write is discarded and reported.
DUMP_GO (R249, R250): a request that nothing stands against takes the lowest FREE slot and the next dump ID, reserves its space and schedules its
cut, or its shadow load; any other is refused with the first code that applies, and takes nothing. -/
def Obligations.CrashCacheAndDumpRequests : Prop :=
  (∀ (m : Master) (v : Word) (s : State), s.ready m (some rtDump) R.COU_CTRL = true → bit v.toNat 0 = true → s.ccOn = false →
    runs (.couEnable m v) s fun t =>
      t.ccOn = true ∧ t.f F.COU_STAT_INIT_BUSY = 1 ∧ (∀ n, n < 4 → (t.slot n).st = 0) ∧ t.rd R.COU_FREE = s.ccGranules / 64
      ∧ (∀ a, smGet 0 t.mem a = if s.f F.COU_CC_BASE_BASE ≤ s.localOf a / 4096 ∧ s.localOf a / 4096 < s.f F.COU_CC_BASE_BASE + 64 then 0
        else smGet 0 s.mem a)
      ∧ s.frame t [] [8] [.access, .cou, .mem])
  ∧ (∀ (m : Master) (v : Word) (s : State), s.ready m (some rtDump) R.COU_CTRL = true → bit v.toNat 0 = false → bit v.toNat 11 = false →
    s.ccOn = true →
    runs (.couEnable m v) s fun t =>
      t.ccOn = !s.cou.allFree ∧ t.cou = s.cou ∧ (s.cou.allFree = false → s.frame t [] [] [.access]) ∧ s.frame t [] [8] [.access])
  ∧ (∀ s : State, s.rst.on = true → runs .couInitDone s fun t => t.f F.COU_STAT_INIT_BUSY = 0 ∧ s.frame t [R.COU_STAT] [] [])
  ∧ (∀ (m : Master) (v : Word) (s : State), s.ready m (some rtDump) R.COU_CTRL = true → bit v.toNat 0 = s.ccOn → bit v.toNat 9 = true →
    bit v.toNat 11 = false →
    runs (.autoArm m v) s fun t =>
      t.rd R.COU_AUTO_RIGHTS = s.heldSet m ∧ t.f F.COU_CTRL_AUTO_PROF = v.toNat / 32 % 16 ∧ s.frame t [R.COU_CTRL, R.COU_AUTO_RIGHTS] [] [.access])
  ∧ (∀ (m : Master) (v : Word) (n : Nat) (s : State), s.ready m (some rtDump) R.COU_CTRL = true → bit v.toNat 0 = true → s.ccOn = true →
    bit v.toNat 11 = true → s.cou.cur = some n → s.cut.cap = true → s.cut.capAband = false → (s.couSync.slot n).st = 2 →
    runs (.abort m v) s fun t =>
      bit (t.slot n).flags 2 = true ∧ bit (t.slot n).flags 0 = true ∧ t.cut.pages = [] ∧ t.f F.SUM_CUT_STAT_PARTIAL = 1
      ∧ (∃ e ∈ t.sum.intq, e.name = .cutPartial ∧ e.data = [.w s.cut.capId, .w s.cut.pages.length]) ∧ t.otp = s.otp)
  ∧ (∀ (addr : Nat) (s : State), s.rst.on = true → addr < memTop → s.inCc addr = true →
    runs (.ccIntrude addr) s fun t => bit (t.rd 0x8014) 3 = true ∧ t.mem = s.mem ∧ s.frame t [0x8010, 0x8014] [] [.intq])
  ∧ (∀ (addr : Nat) (s : State), s.inCc addr = false → runs (.ccIntrude addr) s fun t => t = s)
  ∧ (∀ (m : Master) (v : Word) (n : Nat) (s : State), s.ready m (some rtDump) R.COU_CMD = true → bit v.toNat 4 = true →
    let w := s.rd (R.COU_PROF (v.toNat % 16))
    s.dumpCode w true = 0 → s.cou.freeSlot = some n → pfCut w < 2 → s.cutState = 0 → s.hasJob .cutStop = false → s.hasJob .resume = false →
    s.schedFull = false → s.stp.active = false →
    let id := (s.f F.SUM_CUT_STAT_CUT_ID + 1) % 2 ^ 16
    runs (.dumpGo m v) s fun t =>
      (t.slot n).st = 1 ∧ (t.slot n).id = s.cou.nextId ∧ (t.slot n).kind = pfCut w ∧ (t.slot n).cutId = id ∧ (t.slot n).prof = v.toNat % 16
      ∧ t.cou.cur = some n ∧ t.cou.nextId = s.cou.nextId + 1 ∧ t.cou.resBytes = imageBytes w ∧ t.cutState = 1 ∧ t.cut.cap = true ∧ t.cut.capId = id
      ∧ t.rd64 R.SUM_CUT_T_LO = (s.now + max (s.f F.SUM_CUT_LEAD_LEAD) 100) % 2 ^ 64
      ∧ (∃ e ∈ t.sum.intq, e.name = .cut)
      ∧ (∃ e ∈ t.sum.intq, e.name = .dumpOpen ∧ e.data = [.w n, .w s.cou.nextId, .w (v.toNat % 16), .w (mSrc m), .w id])
      ∧ s.frame t [R.SUM_CUT_STAT, R.SUM_CUT_T_LO, R.SUM_CUT_T_HI, R.SUM_CUT_SRC, 0x2024] [8]
        [.access, .intq, .tree, .cut, .cou, .mem])
  ∧ (∀ (m : Master) (v : Word) (n : Nat) (s : State), s.ready m (some rtDump) R.COU_CMD = true → bit v.toNat 4 = true →
    let w := s.rd (R.COU_PROF (v.toNat % 16))
    s.dumpCode w true = 0 → s.cou.freeSlot = some n → pfCut w = 2 → s.schedFull = false →
    let T := s.now + max (s.f F.SUM_CUT_LEAD_LEAD) 100
    runs (.dumpGo m v) s fun t =>
      (t.slot n).st = 1 ∧ (t.slot n).id = s.cou.nextId ∧ (t.slot n).kind = 2 ∧ (t.slot n).t = s.rd64 R.SUM_CUT_T_LO
      ∧ t.cou.capT = T ∧ t.cut.cap = true ∧ t.cutState = s.cutState
      ∧ smGet none t.sum.msgs s.sum.msgNo = some ⟨.shadowLoad, T, s.f F.SUM_CUT_STAT_CUT_ID, 0⟩
      ∧ (∀ j, (s.cairn j).rxMsgs.contains s.sum.msgNo = false → t.cairn j = s.cairn j)
      ∧ s.frame t [] [8] [.access, .intq, .tree, .cut, .cou, .mem, .cairns])
  ∧ (∀ (m : Master) (v : Word) (s : State), s.ready m (some rtDump) R.COU_CMD = true → bit v.toNat 4 = true →
    let code := s.dumpCode (s.rd (R.COU_PROF (v.toNat % 16))) true
    code ≠ 0 →
    runs (.dumpGo m v) s fun t =>
      t.f F.COU_LAST_REFUSAL_CODE = code ∧ t.f F.COU_LAST_REFUSAL_SRC = mSrc m
      ∧ t.sum.intq = s.sum.intq ++ [s.ev .dumpRefused 0x100E [.w code, .w 0, .w (mSrc m)]]
      ∧ s.frame t [R.COU_LAST_REFUSAL, 0x8024] [] [.access, .intq])
  ∧ (∀ (w : Nat) (s : State), s.ccOn = false → s.dumpCode w true = 1)
  ∧ (∀ (w n : Nat) (s : State), s.ccOn = true → s.f F.COU_STAT_INIT_BUSY = 0 → s.cou.cur = some n → s.dumpCode w true = 2)

/-- SHADOW_LOAD, BMU_PAGE_WRITE, CHUNK_TIMER, CHUNK_COMMIT_STEP_ACK, LINK_RECORD and LINK_TIMEOUT (R252 to R264): a shadow that loads is held; a page's bytes
go to the head of the log with its disposition, a page of zeros takes no space and a redacted page leaves no data; a chunk closes in its time and commits in four steps, the
last of which moves the header.
DRAIN_START, DRAIN_STOP, DRAIN_ACK, DUMP_DRAIN_SEND, COU_RELEASE and SLOT_FREE (R273, R274, R277). -/
def Obligations.DumpPagesAndDrains : Prop :=
  (∀ (a : EdgeRep) (rest : List EdgeRep) (act : PendAct) (n : Nat) (s : State), s.rst.on = true → s.domainOk (a :: rest) = true →
    ((a :: rest).map fun r => r.cairn).Nodup → s.reachedAct a.cairn [.shadowLoad] a.leaf = some act → s.cou.cur = some n →
    runs (.shadowLoad (a :: rest)) s fun t =>
      (∀ r ∈ a :: rest, t.cou.loadSeen.contains r.cairn = true ∧ (smGet none t.cou.shots r.cairn).isSome = true
        ∧ (t.shot r.cairn).f CF.U_OWNER_SEC = (s.cairn r.cairn).f CF.U_OWNER_SEC
        ∧ (∀ b ∈ (t.cairn r.cairn).acts, ¬(b.kind = act.kind ∧ b.arg = act.arg)))
      ∧ (∀ r ∈ a :: rest, selects (s.slot n).profW r.cairn = true →
        (t.cairn r.cairn).f CF.SHADOW_HELD = 1 ∧ t.cut.heldIds.contains r.cairn = true ∧ t.cou.loaded.contains r.cairn = true)
      ∧ (∀ i, (∀ r ∈ a :: rest, r.cairn ≠ i) → t.cairn i = s.cairn i) ∧ t.mem = s.mem)
  ∧ (∀ (ord n : Nat) (uc ce : List Nat) (s : State), s.rst.on = true → s.softPending = false → s.cou.cur = some n → (s.slot n).st = 2 →
    s.pageReady n ord = true → s.pageTurn n ord = true →
    let q := s.pageOf (s.slot n) ord
    let raw := s.bmuBytes n ord uc
    (s.secure q.1 q.2.1 q.2.2 = false ∨ bit (s.slot n).rights rtDumpSecure = true) →
    pfLz4 (s.slot n).profW = false → pfDedup (s.slot n).profW = false → pfCensus (s.slot n).profW = false → raw.all (· == 0) = false →
    (q.2.1 = 0 ∨ s.pageRoom ((raw.length + 63) / 64) = true) →
    runs (.bmuPageWrite (halfOf q.1) ord uc ce) s fun t =>
      t.cou.written.contains ord = true ∧ (∀ o ∈ s.cou.written, t.cou.written.contains o = true)
      ∧ t.cou.head = s.cou.head + (raw.length + 63) / 64
      ∧ (∃ c ∈ t.cou.openCh.toList ++ t.cou.closing, ∃ e ∈ c.pages, e.ord = ord ∧ e.disp = 1 ∧ e.memUc = !(s.bmuBad n ord uc).isEmpty)
      ∧ (∀ i (h : i < raw.length), smGet 0 t.mem (s.granAddr (s.cou.head + i / 64) (i % 64)) = raw[i])
      ∧ (∀ o ∈ ce, o < raw.length → (s.bmuBad n ord uc).contains (o / 64 * 64) = false → ∀ w ∈ s.pageWord (s.slot n) ord o,
        ∀ b ∈ ceBit (kindOf w.1) w.2.1, bit ((t.cairn w.1).rd 0x14) b = true)
      ∧ (q.2.1 = 0 → (t.staged (s.server (halfOf q.1))).contains ord = false))
  ∧ (∀ (ord n : Nat) (uc ce : List Nat) (s : State), s.rst.on = true → s.softPending = false → s.cou.cur = some n → (s.slot n).st = 2 →
    s.pageReady n ord = true → s.pageTurn n ord = true →
    let q := s.pageOf (s.slot n) ord
    (s.secure q.1 q.2.1 q.2.2 = false ∨ bit (s.slot n).rights rtDumpSecure = true) → pfCensus (s.slot n).profW = false →
    (s.bmuBytes n ord uc).all (· == 0) = true → (q.2.1 = 0 ∨ s.pageRoom 0 = true) →
    runs (.bmuPageWrite (halfOf q.1) ord uc ce) s fun t =>
      t.cou.written.contains ord = true ∧ t.cou.head = s.cou.head
      ∧ (∃ c ∈ t.cou.openCh.toList ++ t.cou.closing, ∃ e ∈ c.pages, e.ord = ord ∧ e.disp = 4) ∧ t.mem = s.mem)
  ∧ (∀ (ord n : Nat) (uc ce : List Nat) (s : State), s.rst.on = true → s.softPending = false → s.cou.cur = some n → (s.slot n).st = 2 →
    s.pageReady n ord = true → s.pageTurn n ord = true →
    let q := s.pageOf (s.slot n) ord
    s.secure q.1 q.2.1 q.2.2 = true → bit (s.slot n).rights rtDumpSecure = false →
    runs (.bmuPageWrite (halfOf q.1) ord uc ce) s fun t =>
      t.cou.written.contains ord = true ∧ t.cou.head = s.cou.head
      ∧ (∃ c ∈ t.cou.openCh.toList ++ t.cou.closing, ∃ e ∈ c.pages, e.ord = ord ∧ e.disp = 6) ∧ t.mem = s.mem)
  ∧ (∀ (half ord n : Nat) (uc ce : List Nat) (s : State), s.rst.on = true → s.cou.cur = some n → (s.slot n).st ≠ 1 →
    s.cou.written.contains ord = true →
    runs (.bmuPageWrite half ord uc ce) s fun t => t = s)
  ∧ (∀ (c : Chunk) (s : State), s.rst.on = true → s.cou.openCh = some c → 16 ≤ c.pages.length → c.first + 25000 ≤ s.clk →
    runs .chunkTimer s fun t =>
      t.cou.openCh = none ∧ t.cou.closing = s.cou.closing ++ [{ c with fin := s.cou.head }] ∧ s.frame t [] [] [.cou])
  ∧ (∀ (n : Nat) (c : Chunk) (rest : List Chunk) (s : State), s.rst.on = true → s.softPending = false → s.cou.cur = some n →
    s.cou.closing = c :: rest → c.step < 3 →
    runs .chunkCommitStepAck s fun t =>
      t.cou.closing = { c with step := c.step + 1 } :: rest ∧ t.slot n = s.slot n ∧ (c.step = 0 → t.mem = s.mem) ∧ s.frame t [] [] [.cou, .mem])
  ∧ (∀ (n : Nat) (c : Chunk) (rest : List Chunk) (s : State), s.rst.on = true → n < 4 → s.cou.cur = some n → s.cou.closing = c :: rest →
    c.step = 3 → s.cou.lastClosed = false ∨ rest ≠ [] →
    runs .chunkCommitStepAck s fun t =>
      t.cou.closing = rest ∧ (t.slot n).committed = c.n ∧ (t.slot n).fin = c.fin ∧ (t.slot n).gen = (s.slot n).gen + 1
      ∧ (t.slot n).copy = 1 - (s.slot n).copy ∧ (t.slot n).st = (s.slot n).st ∧ t.cou.cur = some n
      ∧ (t.slot n).stored = (s.slot n).stored + (c.pages.filter fun e => e.disp == 1 || e.disp == 2).length
      ∧ (t.slot n).same = (s.slot n).same + (c.pages.filter fun e => e.disp == 3).length
      ∧ (t.slot n).zero = (s.slot n).zero + (c.pages.filter fun e => e.disp == 4).length
      ∧ (t.slot n).lost = (s.slot n).lost + (c.pages.filter fun e => e.disp == 5).length
      ∧ (t.slot n).redacted = (s.slot n).redacted + (c.pages.filter fun e => e.disp == 6).length
      ∧ s.frame t [] [8] [.cou, .mem])
  ∧ (∀ (n : Nat) (c : Chunk) (s : State), s.rst.on = true → n < 4 → s.cou.cur = some n → s.cou.closing = [c] →
    c.step = 3 → s.cou.lastClosed = true → pfSetRef (s.slot n).profW = false → pfResume (s.slot n).profW = false →
    pfAutoDrain (s.slot n).profW = false →
    runs .chunkCommitStepAck s fun t =>
      t.cou.cur = none ∧ (t.slot n).st = 3 ∧ (t.slot n).committed = c.n ∧ (t.slot n).closeT = s.now ∧ t.cou.resBytes = 0
      ∧ (∃ e ∈ t.sum.intq, e.name = .dumpClosed) ∧ s.frame t [] [8] [.intq, .cou, .mem])
  ∧ (∀ (blk dev peer rx : Nat) (s : State), s.rst.on = true → kindOf blk = 6 → s.cou.linkWait.contains blk = true →
    let tx := (s.shot blk).rd (C.CUT_KIND 0)
    let ack := (s.shot blk).rd (C.CUT_KIND 1)
    let span := (tx + 2 ^ 32 - ack) % 2 ^ 32
    runs (.linkRecord blk dev peer rx) s fun t =>
      t.cou.linkWait.contains blk = false
      ∧ (∃ r, smGet none t.cou.linkRecs blk = some r ∧ r.peerDev = dev % 2 ^ 12 ∧ r.peerCairn = peer % 2 ^ 16 ∧ r.rx = rx % 2 ^ 32 ∧ r.tx = tx
        ∧ r.ack = ack ∧ r.status = (if span < 2 ^ 31 ∧ (rx % 2 ^ 32 + 2 ^ 32 - ack) % 2 ^ 32 ≤ span then 1 else 3))
      ∧ (s.cou.capEnd = false → s.frame t [] [] [.cou]) ∧ s.frame t [] [8] [.cou])
  ∧ (∀ (blk : Nat) (s : State), s.rst.on = true → kindOf blk = 6 → s.cou.linkWait.contains blk = true →
    s.cou.linkT + 256 * max (s.f F.COU_LINK_TMO_TMO) 1 ≤ s.clk →
    runs (.linkTimeout blk) s fun t =>
      t.cou.linkWait.contains blk = false ∧ t.cou.linkRecs = s.cou.linkRecs ∧ (s.cou.capEnd = false → s.frame t [] [] [.cou])
      ∧ s.frame t [] [8] [.cou])
  ∧ (∀ (m : Master) (v : Word) (s : State), s.ready m (some rtDump) R.COU_DRAIN_CTRL = true → bit v.toNat 0 = true → bit v.toNat 1 = false →
    s.cou.drain = none →
    let n := v.toNat / 4 % 4
    (s.slot n).st ≠ 0 →
    runs (.drainStart m v) s fun t =>
      t.cou.drain = some ⟨n, (s.slot n).ack, false, false, false⟩ ∧ t.f F.COU_DRAIN_STAT_ACTIVE = 1 ∧ t.f F.COU_STAT_DRAINING = 1
      ∧ t.sum.intq = s.sum.intq ++ [s.ev .drainStart 0x100E [.w n, .w ((s.slot n).ack + 1)]]
      ∧ s.frame t [R.COU_DRAIN_CTRL, R.COU_DRAIN_STAT, R.COU_STAT, 0x8024] [] [.access, .intq, .cou])
  ∧ (∀ (m : Master) (v : Word) (d : Drain) (s : State), s.ready m (some rtDump) R.COU_DRAIN_CTRL = true → bit v.toNat 0 = false →
    bit v.toNat 1 = true → s.cou.drain = some d →
    runs (.drainStop m v) s fun t =>
      t.cou.drain = none ∧ t.f F.COU_DRAIN_STAT_ACTIVE = 0 ∧ t.f F.COU_DRAIN_STAT_END = 1 ∧ t.f F.COU_STAT_DRAINING = 0
      ∧ t.sum.intq = s.sum.intq ++ [s.ev .drainEnd 0x100E [.w d.slot, .w (s.slot d.slot).ack, .w 1]]
      ∧ s.frame t [R.COU_DRAIN_CTRL, R.COU_DRAIN_STAT, R.COU_STAT, 0x8024] [] [.access, .intq, .cou])
  ∧ (∀ (m : Master) (v : Word) (d : Drain) (s : State), s.ready m (some rtDump) R.COU_DRAIN_ACK = true → s.cou.drain = some d → d.slot < 4 →
    let k := v.toNat % 2 ^ 19
    (s.slot d.slot).ack ≤ k → k ≤ d.sent → s.f F.COU_CTRL_DRAIN_FREE = 0 →
    ¬(d.tail = true ∧ (s.slot d.slot).st = 3 ∧ k = (s.slot d.slot).committed) →
    runs (.drainAck m v) s fun t =>
      (t.slot d.slot).ack = k ∧ (t.slot d.slot).gen = (s.slot d.slot).gen + 1 ∧ t.cou.drain = some d
      ∧ s.frame t [] [8] [.access, .cou, .mem])
  ∧ (∀ (m : Master) (v : Word) (d : Drain) (s : State), s.ready m (some rtDump) R.COU_DRAIN_ACK = true → s.cou.drain = some d → d.slot < 4 →
    let k := v.toNat % 2 ^ 19
    (s.slot d.slot).ack ≤ k → k ≤ d.sent → d.tail = true → (s.slot d.slot).st = 3 → k = (s.slot d.slot).committed →
    runs (.drainAck m v) s fun t =>
      (t.slot d.slot).ack = k ∧ bit (t.slot d.slot).flags 5 = true ∧ t.cou.drain = none ∧ t.f F.COU_DRAIN_STAT_END = 2
      ∧ (∃ e ∈ t.sum.intq, e.name = .drainEnd ∧ e.data = [.w d.slot, .w k, .w 2])
      ∧ s.frame t [] [8] [.access, .intq, .cou, .mem])
  ∧ (∀ (m : Master) (v : Word) (d : Drain) (s : State), s.ready m (some rtDump) R.COU_DRAIN_ACK = true → s.cou.drain = some d →
    (v.toNat % 2 ^ 19 < (s.slot d.slot).ack ∨ d.sent < v.toNat % 2 ^ 19) →
    runs (.drainAck m v) s fun t => s.frame t [] [] [.access])
  ∧ (∀ (d : Drain) (uc : List Nat) (s : State), s.rst.on = true → s.cou.drain = some d → d.paused = false → s.passUp = true → d.head = false →
    (s.hdrBest d.slot).isSome = true →
    runs (.dumpDrainSend uc) s fun t => t.cou.drain = some { d with head := true } ∧ s.frame t [] [] [.cou, .pass])
  ∧ (∀ (d : Drain) (c : Chunk) (uc : List Nat) (s : State), s.rst.on = true → s.cou.drain = some d → d.paused = false → s.passUp = true →
    d.head = true → (s.hdrBest d.slot).isSome = true → d.sent < (s.slot d.slot).committed →
    d.sent < (s.slot d.slot).ack + min (max (s.f F.COU_DRAIN_CTRL_WINDOW) 1) 8 →
    (s.slot d.slot).chunks.find? (fun c => c.n == d.sent + 1) = some c →
    runs (.dumpDrainSend uc) s fun t =>
      t.cou.drain = some { d with sent := c.n } ∧ t.f F.COU_DRAIN_STAT_SENT = c.n % 2 ^ 19
      ∧ (uc = [] → s.frame t [R.COU_DRAIN_STAT] [] [.cou, .pass]) ∧ (uc ≠ [] → bit (t.rd 0x8014) 1 = true))
  ∧ (∀ (d : Drain) (uc : List Nat) (s : State), s.rst.on = true → s.cou.drain = some d → d.slot < 4 → d.paused = false → s.passUp = true →
    (s.hdrBest d.slot).isSome = false →
    runs (.dumpDrainSend uc) s fun t => t.cou.drain = none ∧ (t.slot d.slot).st = 0 ∧ bit (t.rd 0x8014) 2 = true)
  ∧ (∀ (m : Master) (v : Word) (s : State), s.ready m (some rtDump) R.COU_RELEASE = true →
    let n := v.toNat % 4
    bit v.toNat 31 = true → (s.slot n).st = 3 → (s.slot n).released ≤ (s.slot n).committed → s.cou.drain = none →
    runs (.couRelease m v) s fun t =>
      (t.slot n).released = (s.slot n).committed
      ∧ (∃ b, t.sum.intq = s.sum.intq ++ [s.ev .release 0x100E [.w n, .w (s.slot n).committed, .w b]])
      ∧ s.frame t [] [8] [.access, .intq, .cou, .mem])
  ∧ (∀ (m : Master) (v : Word) (s : State), s.ready m (some rtDump) R.COU_RELEASE = true →
    let n := v.toNat % 4
    bit v.toNat 31 = true → (s.slot n).st = 1 ∨ (s.slot n).st = 2 →
    runs (.couRelease m v) s fun t =>
      t.sum.intq = s.sum.intq ++ [s.ev .releaseRefused 0x100E [.w n, .w (s.slot n).committed, .w (mNum m)]]
      ∧ s.frame t [0x8024] [] [.access, .intq])
  ∧ (∀ (n : Nat) (s : State), s.rst.on = true → n < 4 → (s.slot n).st = 3 → (s.slot n).committed ≤ (s.slot n).released →
    runs (.slotFree n) s fun t =>
      let blk := fun a => (s.localOf a / 4096 - s.f F.COU_CC_BASE_BASE) * 256 + s.chanOf a
      let in_ := fun a => s.f F.COU_CC_BASE_BASE ≤ s.localOf a / 4096
      (t.slot n).st = 0 ∧ (t.slot n).gen = (s.slot n).gen + 1 ∧ (t.slot n).id = (s.slot n).id
      ∧ (∀ a, (in_ a ∧ 3088 + 3316 * n ≤ blk a ∧ blk a < 3088 + 3316 * (n + 1)) → smGet 0 t.mem a = 0)
      ∧ (∀ a, (¬(in_ a ∧ (3088 + 3316 * n ≤ blk a ∧ blk a < 3088 + 3316 * (n + 1) ∨ blk a = 1 ∧ s.localOf a % 4096 / 512 = n))) →
        smGet 0 t.mem a = smGet 0 s.mem a)
      ∧ s.frame t [] [8] [.cou, .mem])

/-! ### Census and Echo (09) -/

/-- CEN_SUBMIT and CEN_ABORT (R297 to R300, R318, R319): an accepted job takes the next ID, its header is written NOT_DONE and CEN_SUBMIT_STAT names it; any
other request is refused with the first code that applies, and takes nothing; an abort ends the Census job of the ID named, and no other.
CENSUS_JOB_DONE and JOB_PARITY (R301, R318, R323): the records lie after the header, which says DONE with the job's SUMMARY, and CEN_DONE is raised
where the first byte of region 0 lies, in the order in which Census jobs were accepted; a parity error aborts every job in flight. -/
def Obligations.CensusJobs : Prop :=
  (∀ (m : Master) (v : Word) (s : State), s.ready m (some rtCensus) R.CEN_SUBMIT = true →
    let d := s.descAt false (v.toNat % 65536)
    s.jobCode false (mSrc m) (v.toNat % 65536) d = 0 → s.cen.jobs.length < 8 →
    let id := s.cen.nextId
    let a := dw d 1 % 65536
    runs (.cenSubmit m v) s fun t =>
      t.cen.jobs = s.cen.jobs ++ [⟨id, mSrc m, s.heldSet m, s.now, d, false, 1, 0, none⟩]
      ∧ t.cen.nextId = (if id = 0xFFFF then 1 else id + 1)
      ∧ t.f (bkF m F.CEN_SUBMIT_STAT_JOB_ID) = id % 65536 ∧ t.f (bkF m F.CEN_SUBMIT_STAT_REFUSAL) = 0
      ∧ t.pmWord a = id % 65536 + 2 ^ 24 ∧ t.pmWord (a + 1) = 0 ∧ t.pmWord (a + 2) = s.now % 2 ^ 32
      ∧ t.pmWord (a + 3) = s.now / 2 ^ 32 % 2 ^ 32
      ∧ (∀ i, ¬(a ≤ i ∧ i < a + 8) → t.pmWord i = s.pmWord i)
      ∧ s.frame t (bk m R.CEN_SUBMIT_STAT :: tableRegs) [] [.access, .cen, .prb])
  ∧ (∀ (m : Master) (v : Word) (s : State), s.ready m (some rtCensus) R.CEN_SUBMIT = true →
    let code := s.jobCode false (mSrc m) (v.toNat % 65536) (s.descAt false (v.toNat % 65536))
    code ≠ 0 →
    runs (.cenSubmit m v) s fun t =>
      t.f (bkF m F.CEN_SUBMIT_STAT_JOB_ID) = 0 ∧ t.f (bkF m F.CEN_SUBMIT_STAT_REFUSAL) = code
      ∧ s.frame t [bk m R.CEN_SUBMIT_STAT] [] [.access])
  ∧ (∀ (a src : Nat) (s : State), let d := s.descAt false a
    (dw d 0 % 4 = 0 ∨ dw d 0 % 4 = 3 ∨ dw d 1 % 2 = 1) → s.jobCode false src a d = 1)
  ∧ (∀ (a src r : Nat) (s : State), let d := s.descAt false a
    s.censusDesc a d = true → r < dw d 0 / 256 % 32 → regAddr d r % 64 ≠ 0 → s.jobCode false src a d = 2)
  ∧ (∀ (a : Nat) (m : Master) (s : State), let d := s.descAt false a
    s.censusDesc a d = true → (∀ r, r < dw d 0 / 256 % 32 → s.regionOk d r = true) → s.masterJobs = 8 → s.jobCode false (mSrc m) a d = 3)
  ∧ (∀ (a src : Nat) (s : State), s.f F.LCY_STAT_IN_TRANSITION = 1 → s.jobCode false src a (s.descAt false a) ≠ 0)
  ∧ (∀ (m : Master) (v : Word) (j : Job) (s : State), s.ready m (some rtCensus) R.CEN_ABORT = true → j.id = v.toNat % 65536 →
    s.cen.jobs.filter (fun k => k.id == j.id) = [j] → j.done = false → j.echo = none → s.room (s.jobCairn j) = true →
    runs (.cenAbort m v) s fun t =>
      t.cen.jobs = endedJobs s.cen.jobs j 3 0
      ∧ t.pmWord j.result = j.id % 65536 + 3 * 2 ^ 24 ∧ t.pmWord (j.result + 1) = 1 ∧ t.pmWord (j.result + 4) = s.now % 2 ^ 32
      ∧ (∀ i, ¬(j.result ≤ i ∧ i < j.result + 8) → t.pmWord i = s.pmWord i)
      ∧ t.rd R.CEN_DONE_CNT = (s.rd R.CEN_DONE_CNT + 1) % 2 ^ 32
      ∧ s.queued t (s.jobCairn j) .cenDone (s.leafVal (s.jobCairn j)) [.w j.id, .w (dw j.desc 0 % 4), .w 3, .w 1, .w 0] ∧ s.only t (s.jobCairn j)
      ∧ s.frame t (R.CEN_DONE_CNT :: tableRegs ++ mirrorRegs) [] [.access, .cen, .prb, .tree, .cairns])
  ∧ (∀ (m : Master) (v : Word) (s : State), s.ready m (some rtCensus) R.CEN_ABORT = true →
    (∀ j ∈ s.cen.jobs, j.id = v.toNat % 65536 → j.done = true ∨ j.echo.isSome = true) →
    runs (.cenAbort m v) s fun t => s.frame t [] [] [.access])
  ∧ (∀ (sec : List Nat) (j : Job) (s : State), s.rst.on = true → s.cen.jobs.filter (fun k => k.id == j.id) = [j] → j.done = false → j.echo = none → s.censusTurn = some j.id →
    s.room (s.jobCairn j) = true → (∀ k, k < 256 → (s.cairn (0x520 + k)).ucWords = []) →
    let r := s.censusResult j sec
    runs (.censusJobDone j.id sec) s fun t =>
      t.cen.jobs = endedJobs s.cen.jobs j 0 r.2
      ∧ t.pmWord j.result = j.id % 65536 ∧ t.pmWord (j.result + 1) = 0 ∧ t.pmWord (j.result + 6) = r.2 % 2 ^ 32
      ∧ t.pmWord (j.result + 7) = (if dw j.desc 0 % 4 = 1 then dw j.desc 0 / 256 % 32 else 1)
      ∧ (∀ i, i < r.1.length / 4 → t.pmWord (j.result + 8 + i) = ofLe ((r.1.drop (4 * i)).take 4))
      ∧ (∀ i, ¬(j.result ≤ i ∧ i < j.result + 8 + r.1.length / 4) → t.pmWord i = s.pmWord i)
      ∧ t.rd R.CEN_DONE_CNT = (s.rd R.CEN_DONE_CNT + 1) % 2 ^ 32
      ∧ s.queued t (s.jobCairn j) .cenDone (s.leafVal (s.jobCairn j)) [.w j.id, .w (dw j.desc 0 % 4), .w 0, .w 0, .w r.2] ∧ s.only t (s.jobCairn j)
      ∧ s.frame t ([R.CEN_DONE_CNT, R.CEN_BYTES_LO, R.CEN_BYTES_HI] ++ tableRegs ++ mirrorRegs) [] [.cen, .prb, .tree, .cairns])
  ∧ (∀ (job : Nat) (sec : List Nat) (s : State), (∀ j ∈ s.cen.jobs, j.id = job → j.done = true ∨ j.echo.isSome = true) ∨ s.censusTurn ≠ some job →
    runs (.censusJobDone job sec) s fun t => t = s)
  ∧ (∀ s : State, s.rst.on = true → s.lcs ≠ 2 → (s.cen.jobs.map (·.id)).Nodup →
    runs .jobParity s fun t =>
      t.cen.jobs = s.cen.jobs.map (fun j => if j.done then j else { j with done := true, status := 3, summary := 0 })
      ∧ bit (t.rd 0x9014) 0 = true
      ∧ (∃ e ∈ t.sum.intq, e.name = .fault ∧ e.src = 0x100E)
      ∧ s.frame t ([0x9010, 0x9014, R.CEN_DONE_CNT, R.ECH_RUNS, R.ECH_ABORTS, R.ECH_LAST] ++ tableRegs ++ mirrorRegs) []
        [.intq, .tree, .cen, .prb, .cairns])

/-- ECH_SUBMIT and ECHO_CAPTURE_ISSUE to ECHO_REPLAY_DONE (R306 to R310): an accepted job chooses its spares, which show ECHO_BUSY, and arms the target; the issue
it meets after SKIP others is recorded with CFG, SEED and ACC, and the staging writes that follow with it; the completed operation's output is captured and ECHO_CAPTURED raised; a replay's output is held.
ECHO_COMPARE_DONE, ECHO_TIMEOUT, TOO_LONG, ECH_ABORT and STORE_UC (R309, R312, R313, R315, R318, R323): the verdict is written, counted and raised from the target's Cairn, and
with FAULT a suspect's page takes ECHO_DIVERGE; an abort ends the job for its reason and frees the spares. -/
def Obligations.EchoJobs : Prop :=
  (∀ (m : Master) (v : Word) (a b : Nat) (s : State), s.ready m (some rtCensus) R.ECH_SUBMIT = true →
    let d := s.descAt true (v.toNat % 65536)
    s.jobCode true (mSrc m) (v.toNat % 65536) d = 0 → s.cen.jobs.length < 8 → s.pickSpares d = some (a, b) →
    let id := s.cen.nextId
    let dl := dw d 5 % 2 ^ 24
    runs (.echSubmit m v) s fun t =>
      t.cen.jobs = s.cen.jobs ++ [⟨id, mSrc m, s.heldSet m, s.now, d, false, 1, 0,
        some ⟨a, b, s.clk + 256 * (if dl = 0 then max (s.f F.ECH_TMO_TMO) 1 else dl), dw d 4 / 65536 % 65536, .armed, 0, 0, [], false, false, false, [], [],
          none, none⟩⟩]
      ∧ t.cen.nextId = (if id = 0xFFFF then 1 else id + 1)
      ∧ t.f (bkF m F.CEN_SUBMIT_STAT_JOB_ID) = id % 65536 ∧ t.f (bkF m F.CEN_SUBMIT_STAT_REFUSAL) = 0
      ∧ (t.cairn a).echoBusy = true ∧ (dw d 0 % 4 = 2 → (t.cairn b).echoBusy = true)
      ∧ t.pmWord (dw d 1 % 65536) = id % 65536 + 2 ^ 16 + 2 ^ 24
      ∧ bit (t.rd R.ECH_CORE_BUSY) (coreOf (echoTarget d)) = true
      ∧ (∀ i, i ≠ a ∧ i ≠ b → t.cairn i = s.cairn i)
      ∧ s.frame t (bk m R.CEN_SUBMIT_STAT :: tableRegs) [] [.access, .cen, .prb, .cairns])
  ∧ (∀ (m : Master) (v : Word) (s : State), s.ready m (some rtCensus) R.ECH_SUBMIT = true →
    let code := s.jobCode true (mSrc m) (v.toNat % 65536) (s.descAt true (v.toNat % 65536))
    code ≠ 0 →
    runs (.echSubmit m v) s fun t =>
      t.f (bkF m F.CEN_SUBMIT_STAT_JOB_ID) = 0 ∧ t.f (bkF m F.CEN_SUBMIT_STAT_REFUSAL) = code
      ∧ s.frame t [bk m R.CEN_SUBMIT_STAT] [] [.access])
  ∧ (∀ (a : Nat) (m : Master) (s : State), let d := s.descAt true a
    s.echoDesc a d = true → s.masterJobs < 8 →
    (s.f F.ECH_CTRL_EN = 0 → s.jobCode true (mSrc m) a d = 4)
    ∧ (s.f F.ECH_CTRL_EN ≠ 0 → s.targetOk (echoTarget d) = false → s.jobCode true (mSrc m) a d = 5)
    ∧ (s.f F.ECH_CTRL_EN ≠ 0 → s.targetOk (echoTarget d) = true → s.pickSpares d = none → s.jobCode true (mSrc m) a d = 6)
    ∧ (s.f F.ECH_CTRL_EN ≠ 0 → s.targetOk (echoTarget d) = true → s.pickSpares d ≠ none → (s.echoOf (coreOf (echoTarget d))).isSome = true →
      s.jobCode true (mSrc m) a d = 7))
  ∧ (∀ (leaf : Nat) (relaxed int32 : Bool) (j : Job) (e : EchoSt) (s : State), s.rst.on = true → s.echoJob j e = true → e.phase = .armed → e.skip = 0 →
    s.leafShows (echoTarget j.desc) leaf = true →
    (s.cairn (echoTarget j.desc)).powered = true → (s.cairn (echoTarget j.desc)).frozen = false →
    runs (.echoCaptureIssue j.id leaf relaxed int32) s fun t =>
      (∃ f, t.job j.id = some { j with echo := some f } ∧ f.phase = .capturing ∧ f.capT = leaf ∧ f.inputs.length = 4416
        ∧ f.relaxed = relaxed ∧ f.int32 = int32 ∧ f.sec = ((s.cairn (echoTarget j.desc)).f CF.U_OWNER_SEC == 1)
        ∧ f.spareA = e.spareA ∧ f.spareB = e.spareB ∧ f.deadline = e.deadline)
      ∧ s.only t (echoTarget j.desc) ∧ s.frame t tableRegs [] [.free, .cen, .cairns])
  ∧ (∀ (last : List (Nat × List Byte)) (leaf : Nat) (out : List Byte) (j : Job) (e : EchoSt) (s : State), s.rst.on = true → s.echoJob j e = true →
    e.phase = .capturing →
    s.leafShows (echoTarget j.desc) leaf = true → s.room (echoTarget j.desc) = true → (s.cairn (echoTarget j.desc)).frozen = false → out.length = 4096 →
    (∀ w ∈ last, w.1 + w.2.length ≤ 16384) →
    let f : EchoSt := { e with stream := e.stream ++ last }
    f.streamLen ≤ 2 ^ 20 →
    runs (.echoCaptureComplete j.id last leaf out) s fun t =>
      t.job j.id = some { j with echo := some { f with phase := .captured, outT := out } }
      ∧ (∀ i (h : i < out.length), (t.cairn (echoTarget j.desc)).unitByte (viewKey 0 i) = out[i])
      ∧ (∀ w ∈ last.drop (last.length - 1), ∀ i (h : i < w.2.length), (t.cairn (echoTarget j.desc)).unitByte (viewKey 1 (w.1 + i)) = w.2[i])
      ∧ s.queued t (echoTarget j.desc) .echoCaptured leaf [.w j.id, .d e.capT, .w f.streamLen]
      ∧ s.only t (echoTarget j.desc) ∧ s.frame t (tableRegs ++ mirrorRegs) [] [.cen, .tree, .cairns])
  ∧ (∀ (out : List Byte) (j : Job) (e : EchoSt) (s : State), s.rst.on = true → s.echoJob j e = true → e.phase = .captured →
    kindOf e.spareA = 1 → (s.cairn e.spareA).frozen = false → out.length = 4096 →
    runs (.echoReplayDone j.id 0 out) s fun t =>
      t.job j.id = some { j with echo := some { e with outA := some out } }
      ∧ (∀ i (h : i < out.length), (t.cairn e.spareA).unitByte (viewKey 0 i) = out[i])
      ∧ ((∀ w ∈ e.stream, w.1 + w.2.length ≤ 16384) → e.inputs.length = 4416 →
        (∀ i, i < 256 → (t.cairn e.spareA).unitByte (viewKey 2 i) = e.inputs.getD i 0)
        ∧ ∀ i, i < 64 → (t.cairn e.spareA).unitByte (viewKey 3 i) = e.inputs.getD (256 + i) 0)
      ∧ s.only t e.spareA ∧ s.frame t tableRegs [] [.free, .cen, .cairns])
  ∧ (∀ (out : List Byte) (j : Job) (e : EchoSt) (s : State), s.rst.on = true → s.echoJob j e = true → e.phase = .captured →
    kindOf e.spareB = 1 → (s.cairn e.spareB).frozen = false → out.length = 4096 →
    runs (.echoReplayDone j.id 1 out) s fun t =>
      t.job j.id = some { j with echo := some { e with outB := some out } }
      ∧ (∀ i (h : i < out.length), (t.cairn e.spareB).unitByte (viewKey 0 i) = out[i])
      ∧ ((∀ w ∈ e.stream, w.1 + w.2.length ≤ 16384) → e.inputs.length = 4416 →
        (∀ i, i < 256 → (t.cairn e.spareB).unitByte (viewKey 2 i) = e.inputs.getD i 0)
        ∧ ∀ i, i < 64 → (t.cairn e.spareB).unitByte (viewKey 3 i) = e.inputs.getD (256 + i) 0)
      ∧ s.only t e.spareB ∧ s.frame t tableRegs [] [.free, .cen, .cairns])
  ∧ (∀ (a : List Byte) (j : Job) (e : EchoSt) (s : State), s.rst.on = true → s.echoJob j e = true → e.outA = some a → (echoVote j.desc = true → e.outB.isSome = true) →
    s.room (echoTarget j.desc) = true → bit (dw j.desc 0) 2 = false →
    let v := verdict (echoVote j.desc) e (dw j.desc 2) a (e.outB.getD [])
    runs (.echoCompareDone j.id) s fun t =>
      t.cen.jobs = endedJobs s.cen.jobs j 0 (min (echoPair e (dw j.desc 2) e.outT a).beyond (2 ^ 32 - 1))
      ∧ t.pmWord j.result = j.id % 65536 + 2 ^ 16
      ∧ t.pmWord (j.result + 6) = min (echoPair e (dw j.desc 2) e.outT a).beyond (2 ^ 32 - 1)
      ∧ t.pmWord (j.result + 7) = (if echoVote j.desc then 3 else 1)
      ∧ t.pmWord (j.result + 9) % 2 ^ 24 = e.spareB % 65536 + v * 65536
      ∧ t.rd R.ECH_RUNS = (s.rd R.ECH_RUNS + 1) % 2 ^ 32 ∧ t.f F.ECH_LAST_VERDICT = v ∧ t.f F.ECH_LAST_TARGET = echoTarget j.desc
      ∧ s.queued t (echoTarget j.desc) .echoDone (s.leafVal (echoTarget j.desc)) [.w j.id, .w 0, .w 0, .w v, .w (e.spareA + 65536 * e.spareB),
        .w (min (echoPair e (dw j.desc 2) e.outT a).beyond (2 ^ 32 - 1))]
      ∧ (∀ i, i ≠ echoTarget j.desc ∧ i ≠ e.spareA ∧ i ≠ e.spareB → t.cairn i = s.cairn i)
      ∧ s.frame t ([R.ECH_RUNS, R.ECH_LAST, R.ECH_VERD0, R.ECH_VERD1, R.ECH_VERD2] ++ tableRegs ++ mirrorRegs) [] [.cen, .prb, .tree, .cairns])
  ∧ (∀ (e : EchoSt) (tol : Nat) (x b : List Byte), e.outT = x → verdict false e tol x b = 0 ∧ (b = x → verdict true e tol x b = 0))
  ∧ (∀ (e : EchoSt) (tol : Nat) (x : List Byte),
    let near := (echoPair e tol e.outT x).beyond = 0
    verdict false e tol x [] = (if digestOf e.outT = digestOf x then 0 else if near then 1 else 2)
    ∧ verdict true e tol x x = (if digestOf e.outT = digestOf x then 0 else if near then 1 else 3))
  ∧ (∀ (a : List Byte) (j : Job) (e : EchoSt) (s : State), s.rst.on = true → s.echoJob j e = true → e.outA = some a → (echoVote j.desc = true → e.outB.isSome = true) →
    bit (dw j.desc 0) 2 = true → kindOf (echoTarget j.desc) = 1 → kindOf e.spareA = 1 → kindOf e.spareB = 1 →
    let v := verdict (echoVote j.desc) e (dw j.desc 2) a (e.outB.getD [])
    runs (.echoCompareDone j.id) s fun t =>
      t.f F.ECH_LAST_VERDICT = v ∧ (v = 3 → bit ((t.cairn (echoTarget j.desc)).rd 0x14) 11 = true)
      ∧ (v = 4 → bit ((t.cairn e.spareA).rd 0x14) 11 = true) ∧ (v = 5 → bit ((t.cairn e.spareB).rd 0x14) 11 = true))
  ∧ (∀ (j : Job) (e : EchoSt) (s : State), s.rst.on = true → s.echoJob j e = true → s.room (echoTarget j.desc) = true → kindOf e.spareA = 1 →
    e.spareA ≠ echoTarget j.desc → e.deadline ≤ s.clk →
    runs (.echoTimeout j.id) s fun t =>
      s.echoAborted t j e 3 ∧ (t.cairn e.spareA).echoBusy = ((s.cairn e.spareA).echoBusy && !(s.cairn e.spareA).powered)
      ∧ s.queued t (echoTarget j.desc) .echoDone (s.leafVal (echoTarget j.desc)) [.w j.id, .w 3, .w 3, .w 7, .w (e.spareA + 65536 * e.spareB), .w 0]
      ∧ (∀ i, i ≠ echoTarget j.desc ∧ i ≠ e.spareA ∧ i ≠ e.spareB → t.cairn i = s.cairn i)
      ∧ s.frame t ([R.ECH_RUNS, R.ECH_LAST, R.ECH_ABORTS] ++ tableRegs ++ mirrorRegs) [] [.cen, .prb, .tree, .cairns])
  ∧ (∀ (j : Job) (e : EchoSt) (s : State), s.echoJob j e = true → s.clk < e.deadline → runs (.echoTimeout j.id) s fun t => t = s)
  ∧ (∀ (off : Nat) (bytes : List Byte) (j : Job) (e : EchoSt) (s : State), s.rst.on = true → s.echoJob j e = true → s.room (echoTarget j.desc) = true →
    e.phase = .capturing → (s.cairn (echoTarget j.desc)).frozen = false → off + bytes.length ≤ 16384 → 2 ^ 20 < e.streamLen + bytes.length →
    runs (.tooLong ⟨j.id, off, bytes⟩) s fun t =>
      s.echoAborted t j e 5
      ∧ (∀ i (h : i < bytes.length), (t.cairn (echoTarget j.desc)).unitByte (viewKey 1 (off + i)) = bytes[i])
      ∧ s.queued t (echoTarget j.desc) .echoDone (s.leafVal (echoTarget j.desc)) [.w j.id, .w 3, .w 5, .w 7, .w (e.spareA + 65536 * e.spareB), .w 0]
      ∧ (∀ i, i ≠ echoTarget j.desc ∧ i ≠ e.spareA ∧ i ≠ e.spareB → t.cairn i = s.cairn i)
      ∧ s.frame t ([R.ECH_RUNS, R.ECH_LAST, R.ECH_ABORTS] ++ tableRegs ++ mirrorRegs) [] [.cen, .prb, .tree, .cairns])
  ∧ (∀ (off leaf : Nat) (bytes out : List Byte) (rest : List (Nat × List Byte)) (j : Job) (e : EchoSt) (s : State), s.rst.on = true →
    s.echoJob j e = true → s.room (echoTarget j.desc) = true → s.leafShows (echoTarget j.desc) leaf = true →
    e.phase = .capturing → (s.cairn (echoTarget j.desc)).frozen = false → off + bytes.length ≤ 16384 → 2 ^ 20 < e.streamLen + bytes.length →
    runs (.echoCaptureComplete j.id ((off, bytes) :: rest) leaf out) s fun t =>
      s.echoAborted t j e 5
      ∧ s.queued t (echoTarget j.desc) .echoDone (s.leafVal (echoTarget j.desc)) [.w j.id, .w 3, .w 5, .w 7, .w (e.spareA + 65536 * e.spareB), .w 0]
      ∧ (∀ i, i ≠ echoTarget j.desc ∧ i ≠ e.spareA ∧ i ≠ e.spareB → t.cairn i = s.cairn i)
      ∧ s.frame t ([R.ECH_RUNS, R.ECH_LAST, R.ECH_ABORTS] ++ tableRegs ++ mirrorRegs) [] [.cen, .prb, .tree, .cairns])
  ∧ (∀ (m : Master) (v : Word) (j : Job) (e : EchoSt) (s : State), s.ready m (some rtCensus) R.ECH_ABORT = true → s.echoJob j e = true →
    j.id = v.toNat % 65536 → s.room (echoTarget j.desc) = true →
    runs (.echAbort m v) s fun t =>
      s.echoAborted t j e 1
      ∧ s.queued t (echoTarget j.desc) .echoDone (s.leafVal (echoTarget j.desc)) [.w j.id, .w 3, .w 1, .w 7, .w (e.spareA + 65536 * e.spareB), .w 0]
      ∧ (∀ i, i ≠ echoTarget j.desc ∧ i ≠ e.spareA ∧ i ≠ e.spareB → t.cairn i = s.cairn i)
      ∧ s.frame t ([R.ECH_RUNS, R.ECH_LAST, R.ECH_ABORTS] ++ tableRegs ++ mirrorRegs) [] [.access, .cen, .prb, .tree, .cairns])
  ∧ (∀ (core : Nat) (j : Job) (e : EchoSt) (s : State), s.rst.on = true → core < 8 → s.lcs ≠ 2 → s.echoOf core = some j → s.echoJob j e = true →
    s.room (echoTarget j.desc) = true →
    runs (.storeUc core) s fun t =>
      s.echoAborted t j e 9 ∧ bit (t.rd 0xA014) 1 = true
      ∧ s.queued t (echoTarget j.desc) .echoDone (s.leafVal (echoTarget j.desc)) [.w j.id, .w 3, .w 9, .w 7, .w (e.spareA + 65536 * e.spareB), .w 0]
      ∧ s.frame t ([R.ECH_RUNS, R.ECH_LAST, R.ECH_ABORTS, 0xA010, 0xA014] ++ tableRegs ++ mirrorRegs) [] [.free, .intq, .cen, .prb, .tree, .cairns])
  ∧ (∀ (leaf : Nat) (relaxed int32 : Bool) (j : Job) (e : EchoSt) (s : State), s.rst.on = true → s.echoJob j e = true → e.phase = .armed → e.skip ≠ 0 →
    s.leafShows (echoTarget j.desc) leaf = true → (s.cairn (echoTarget j.desc)).frozen = false →
    runs (.echoCaptureIssue j.id leaf relaxed int32) s fun t =>
      t.job j.id = some { j with echo := some { e with skip := e.skip - 1 } } ∧ s.only t (echoTarget j.desc) ∧ s.frame t tableRegs [] [.free, .cen, .cairns])
  ∧ (∀ (off : Nat) (bytes : List Byte) (j : Job) (e : EchoSt) (s : State), s.rst.on = true → s.echoJob j e = true → e.phase = .capturing →
    (s.cairn (echoTarget j.desc)).frozen = false → off + bytes.length ≤ 16384 → e.streamLen + bytes.length ≤ 2 ^ 20 →
    runs (.tooLong ⟨j.id, off, bytes⟩) s fun t =>
      t.job j.id = some { j with echo := some { e with stream := e.stream ++ [(off, bytes)] } }
      ∧ (∀ i (h : i < bytes.length), (t.cairn (echoTarget j.desc)).unitByte (viewKey 1 (off + i)) = bytes[i])
      ∧ s.only t (echoTarget j.desc) ∧ s.frame t tableRegs [] [.cen, .cairns])
  ∧ (∀ (core : Nat) (s : State), s.rst.on = true → core < 8 → s.lcs ≠ 2 → s.echoOf core = none →
    runs (.storeUc core) s fun t =>
      bit (t.rd 0xA014) 1 = true ∧ (∃ e ∈ t.sum.intq, e.name = .fault ∧ e.src = fltSrc 0x0A) ∧ s.frame t [0xA010, 0xA014] [] [.free, .intq])

/-- The counting record's sums (R291, R303): every element of a region is counted in one class or left out, an integer format has only ZERO and NORMAL, and the
histogram holds the SUBNORMAL and NORMAL ones. -/
def Obligations.CensusCountsEveryElement : Prop :=
  ∀ (r : Region) (hbase : Int) (len : Nat),
    let t := r.count hbase len
    t.zero + t.subn + t.norm + t.inf + t.nan = t.n ∧ t.n + t.uc + t.red = len ∧ t.sat ≤ t.norm
    ∧ ((List.range 64).map (smGet 0 t.hist)).sum = t.subn + t.norm
    ∧ (r.fmt.top = .int → r.fmt.mx = false → t.subn = 0 ∧ t.inf = 0 ∧ t.nan = 0)

/-! ### Scree (10) -/

/-- SCR_CMD_START, SCR_CMD_STOP and TRACE_ACTION_EFFECT (R325 to R328, R331, R341, R347): a request schedules at T what it carries, or has no effect; at T a start
sets its source bits and the rights, with STATE and SYNC; a stop clears its bits and, at mask 0, begins the flush.
PACKET_WRITE, SYNC_TIMER, SCR_MARK, BLOCK_PAD_TIMEOUT, SPILL_BLOCK_WRITE, SPILL_INTRUDE, BUF_UC and CLEAR (R326, R329 to R332, R335, R341, R342, R348, R349): the earliest
packet whose 256 tk have passed is written with its delta, behind LATE where its stamp has passed; a completed block goes to its slot of the ring. -/
def Obligations.TraceRequestsAndBlocks : Prop :=
  (∀ (m : Master) (v : Word) (s : State), s.ready m (some rtTrace) R.SCR_CMD = true → v.toNat % 8 = 1 →
    let k := v.toNat / 65536 % 4096
    k ≠ 0 → bit k sbFlow = false → s.f F.SCR_STAT_RING_FULL = 0 →
    runs (.scrCmdStart m v) s fun t =>
      t.scr.acts = s.scr.acts ++ [⟨true, s.now + max (s.f F.SUM_CUT_LEAD_LEAD) 100, k, s.heldSet m, [], mSrc m⟩]
      ∧ t.f (bkF m F.SCR_CMD_STAT_OUTCOME) = 0 ∧ t.f (bkF m F.SCR_CMD_STAT_CLAMPED) = 0
      ∧ s.frame t [bk m R.SCR_CMD_STAT] [] [.access, .scr])
  ∧ (∀ (m : Master) (v : Word) (s : State), s.ready m (some rtTrace) R.SCR_CMD = true → v.toNat % 8 = 2 →
    let k := v.toNat / 65536 % 4096
    k ≠ 0 → bit k sbFlow = false →
    runs (.scrCmdStop m v) s fun t =>
      t.scr.acts = s.scr.acts ++ [⟨false, s.now + max (s.f F.SUM_CUT_LEAD_LEAD) 100, k, s.heldSet m, [], mSrc m⟩]
      ∧ t.f (bkF m F.SCR_CMD_STAT_OUTCOME) = 0 ∧ s.frame t [bk m R.SCR_CMD_STAT] [] [.access, .scr])
  ∧ (∀ (m : Master) (v : Word) (s : State), s.ready m (some rtTrace) R.SCR_CMD = true → v.toNat % 8 = 5 →
    let k := v.toNat / 65536 % 4096
    k ≠ 0 → s.f F.SCR_STAT_RING_FULL = 0 → bit k sbFlow = true → s.flowSel.any (· ≠ 0) = true → s.flowFull s.flowSel = false →
    let T := max (s.rd64 R.SCR_REQ_T_LO) s.minT
    runs (.scrCmdStart m v) s fun t =>
      t.scr.acts = s.scr.acts ++ [⟨true, T, k, s.heldSet m, s.flowSel, mSrc m⟩]
      ∧ t.f (bkF m F.SCR_CMD_STAT_OUTCOME) = 0 ∧ t.f (bkF m F.SCR_CMD_STAT_CLAMPED) = b2n (decide (s.rd64 R.SCR_REQ_T_LO < s.minT))
      ∧ smGet none t.sum.msgs s.sum.msgNo = some ⟨.traceStart, T, k, 0⟩
      ∧ (∀ j, (s.cairn j).rxMsgs.contains s.sum.msgNo = false → t.cairn j = s.cairn j)
      ∧ s.frame t [bk m R.SCR_CMD_STAT] [] [.access, .tree, .scr, .cairns])
  ∧ (∀ (m : Master) (v : Word) (s : State), s.ready m (some rtTrace) R.SCR_CMD = true → v.toNat % 4 = 1 →
    (v.toNat / 65536 % 4096 = 0 ∨ s.f F.SCR_STAT_RING_FULL = 1) →
    runs (.scrCmdStart m v) s fun t => t.f (bkF m F.SCR_CMD_STAT_OUTCOME) = 2 ∧ s.frame t [bk m R.SCR_CMD_STAT] [] [.access])
  ∧ (∀ (a : TrAct) (s : State), s.rst.on = true → firstAct (s.scr.acts.filter fun a => decide (a.t ≤ s.now)) = some a → a.start = true →
    s.f F.SCR_STAT_RING_FULL = 0 → s.trMask = 0 → a.mask ≠ 0 → a.mask < 4096 → s.scr.stage.length < 4095 → s.f F.SCR_STAT_LEVEL = 0 →
    runs .traceActionEffect s fun t =>
      t.trMask = a.mask ∧ t.rd R.SCR_RIGHTS = a.rights % 2 ^ 32 ∧ t.scr.acts = s.scr.acts.erase a ∧ t.f F.SCR_STAT_RUNNING = 1
      ∧ (∀ b, b < 12 → bit a.mask b = true → t.spanAt b a.t = true)
      ∧ t.scr.stage = s.scr.stage ++ [⟨a.t, 1, 0, pkState, none, false, 0, 0, le 2 a.mask ++ le 1 0 ++ le 1 0 ++ le 1 (s.f F.SCR_CTRL_SAMPLE) ++ le 1 0⟩,
        ⟨a.t, 0, 1, pkSync, none, false, 0, 0, []⟩]
      ∧ t.sum.intq = s.sum.intq ++ [s.ev .traceState 0x100F [.d a.t, .w a.mask, .w 0, .w a.src]]
      ∧ (∀ g, g < 256 → t.cairn (0x420 + g) =
        if bit a.mask sbFlow && flowBit a.flow g then (s.cairn (0x420 + g)).flowNew else s.cairn (0x420 + g))
      ∧ (∀ j, kindOf j ≠ 2 → t.cairn j = s.cairn j) ∧ s.frame t [] [0xB] [.intq, .scr, .cairns])
  ∧ (∀ (a : TrAct) (s : State), s.rst.on = true → firstAct (s.scr.acts.filter fun a => decide (a.t ≤ s.now)) = some a → a.start = true →
    s.f F.SCR_STAT_RING_FULL = 0 → s.trMask ≠ 0 →
    runs .traceActionEffect s fun t =>
      t.trMask = Nat.lor s.trMask a.mask % 4096 ∧ t.rd R.SCR_RIGHTS = Nat.land (s.rd R.SCR_RIGHTS) a.rights % 2 ^ 32
      ∧ t.scr.acts = s.scr.acts.erase a ∧ (∀ j, kindOf j ≠ 2 → t.cairn j = s.cairn j) ∧ s.frame t [] [0xB] [.intq, .scr, .cairns])
  ∧ (∀ (a : TrAct) (s : State), s.rst.on = true → firstAct (s.scr.acts.filter fun a => decide (a.t ≤ s.now)) = some a → a.start = false →
    s.trMask ≠ 0 → Nat.land s.trMask a.mask = s.trMask → s.secOk = true → s.scr.stage.length < 4096 →
    runs .traceActionEffect s fun t =>
      t.trMask = 0 ∧ t.scr.flush = some a.t ∧ t.scr.acts = s.scr.acts.erase a ∧ t.f F.SCR_STAT_RUNNING = 1
      ∧ t.scr.spans.all (fun x => x.2.2.isSome) = true
      ∧ t.scr.stage = s.scr.stage ++ [⟨a.t, 1, 0, pkState, none, false, 0, 0, le 2 0 ++ le 1 1 ++ le 1 (s.f F.SCR_STAT_LEVEL) ++ le 1 (s.f F.SCR_CTRL_SAMPLE) ++ le 1 0⟩]
      ∧ t.sum.intq = s.sum.intq ++ [s.ev .traceState 0x100F [.d a.t, .w 0, .w 1, .w a.src]]
      ∧ s.frame t [] [0xB] [.intq, .scr])
  ∧ (∀ s : State, s.scr.acts.all (fun a => decide (s.now < a.t)) = true → runs .traceActionEffect s fun t => t = s)
  ∧ (∀ (p : Pkt) (b : Blk) (s : State), s.rst.on = true → firstPkt s.scr.stage = some p → p.stamp + 256 ≤ s.now → s.bitAt p.bit p.stamp = true →
    s.f F.SCR_STAT_LEVEL = 0 → s.f F.SCR_CTRL_MIN_LEVEL = 0 → s.trMode = 0 → s.scr.flush = none → s.scr.cur = some b → ¬(b.no % 64 = 0 ∧ b.first = 0) →
    b.body.length + 2 + p.body.length < 4088 → s.scr.runT ≤ p.stamp → p.stamp ≤ s.scr.runT + 4095 →
    p.typ ≠ pkFlow → p.typ ≠ pkLoss → p.typ ≠ pkSync →
    runs .packetWrite s fun t =>
      t.scr.cur = some ⟨b.no, b.body ++ [BitVec.ofNat 8 (p.typ * 16 + (p.stamp - s.scr.runT) / 256), BitVec.ofNat 8 ((p.stamp - s.scr.runT) % 256)] ++ p.body,
        if b.first = 0 then 8 + b.body.length else b.first, b.sync, b.sec || p.sec, b.dam, b.t⟩
      ∧ t.scr.runT = p.stamp ∧ t.scr.stage = s.scr.stage.erase p ∧ t.scr.buf = s.scr.buf ∧ s.frame t [] [0xB] [.scr])
  ∧ (∀ (p : Pkt) (b : Blk) (s : State), s.rst.on = true → firstPkt s.scr.stage = some p → p.stamp + 256 ≤ s.now → s.bitAt p.bit p.stamp = true →
    s.f F.SCR_STAT_LEVEL = 0 → s.f F.SCR_CTRL_MIN_LEVEL = 0 → s.trMode = 0 → s.scr.flush = none → s.scr.cur = some b → ¬(b.no % 64 = 0 ∧ b.first = 0) →
    b.body.length + 11 + p.body.length < 4088 → p.stamp < s.scr.runT → p.typ ≠ pkFlow → p.typ ≠ pkLoss → p.typ ≠ pkSync →
    runs .packetWrite s fun t =>
      (∃ c, t.scr.cur = some c ∧ c.body = b.body ++ le 1 3 ++ le 8 p.stamp ++ [BitVec.ofNat 8 (p.typ * 16), 0] ++ p.body)
      ∧ t.scr.runT = s.scr.runT ∧ t.f F.SCR_LATE_CNT = min (s.f F.SCR_LATE_CNT + 1) 65535 ∧ s.frame t [] [0xB] [.scr])
  ∧ (∀ (p : Pkt) (s : State), s.rst.on = true → firstPkt s.scr.stage = some p → p.stamp + 256 ≤ s.now → s.bitAt p.bit p.stamp = false →
    s.f F.SCR_STAT_LEVEL = 0 → s.f F.SCR_CTRL_MIN_LEVEL = 0 → s.trMode = 0 → s.scr.flush = none →
    runs .packetWrite s fun t => t.scr = { s.scr with stage := s.scr.stage.erase p } ∧ s.frame t [] [0xB] [.scr])
  ∧ (∀ s : State, s.scr.stage.all (fun p => decide (s.now < p.stamp + 256)) = true → s.scr.flush = none → runs .packetWrite s fun t => t = s)
  ∧ (∀ s : State, s.rst.on = true → s.trMask ≠ 0 → s.scr.lastSync < s.now / 65536 → s.scr.stage.length + (s.now / 65536 - s.scr.lastSync) ≤ 4096 →
    runs .syncTimer s fun t =>
      t.scr = { s.scr with
        lastSync := s.now / 65536,
        stage := s.scr.stage ++ (List.range (s.now / 65536 - s.scr.lastSync)).map fun i =>
          ⟨(s.scr.lastSync + 1 + i) * 65536, 0, 0, pkSync, none, false, 0, 0, []⟩ }
      ∧ s.frame t [] [] [.scr])
  ∧ (∀ (m : Master) (v : Word) (s : State), s.ready m (some rtTrace) R.SCR_MARK = true → s.scr.stage.length < 4096 → bit s.trMask sbMark = true →
    runs (.scrMark m v) s fun t =>
      t.scr = { s.scr with stage := s.scr.stage ++ [⟨s.now, 5, 0, pkMark, some sbMark, false, 0, 0, le 2 (mNum m) ++ le 4 v.toNat⟩] }
      ∧ s.frame t [] [] [.access, .scr])
  ∧ (∀ (m : Master) (v : Word) (s : State), s.ready m (some rtTrace) R.SCR_MARK = true → bit s.trMask sbMark = false →
    runs (.scrMark m v) s fun t => s.frame t [] [] [.access])
  ∧ (∀ (b : Blk) (s : State), s.rst.on = true → s.scr.cur = some b → s.trMode = 2 → b.body ≠ [] → b.t + 250000 ≤ s.clk →
    s.f F.SCR_STAT_LEVEL = 0 → s.f F.SCR_CTRL_MIN_LEVEL = 0 → s.f F.SCR_CTRL_AUTO_THR = 0 →
    runs .blockPadTimeout s fun t => t.scr = { s.scr with cur := none, buf := s.scr.buf ++ [b] } ∧ s.frame t [] [0xB] [.scr])
  ∧ (∀ (b : Blk) (s : State), s.scr.cur = some b → s.clk < b.t + 250000 → runs .blockPadTimeout s fun t => t = s)
  ∧ (∀ (b : Blk) (rest : List Blk) (s : State), s.rst.on = true → s.scr.paused = false → s.ringLen ≠ 0 → s.trMode = 1 → s.scr.buf = b :: rest →
    s.f F.SCR_CTRL_RING_STOP = 0 → b.body.length ≤ 4088 → s.f F.SCR_STAT_LEVEL = 0 → s.f F.SCR_CTRL_MIN_LEVEL = 0 → s.f F.SCR_CTRL_AUTO_THR = 0 →
    runs .spillBlockWrite s fun t =>
      t.scr.buf = rest ∧ (b.no, true) ∈ t.scr.ring ∧ t.rd R.SCR_SPILL_WR = b.no % 2 ^ 32
      ∧ (∀ i (h : i < b.bytes.length), smGet 0 t.mem (s.slotAddr b.no + i) = b.bytes[i])
      ∧ (∀ a, ¬(s.slotAddr b.no ≤ a ∧ a < s.slotAddr b.no + 4096) → smGet 0 t.mem a = smGet 0 s.mem a)
      ∧ s.frame t [] [0xB] [.scr, .mem])
  ∧ (∀ (b : Blk) (rest : List Blk) (s : State), s.rst.on = true → s.scr.paused = false → s.ringLen ≠ 0 → s.trMode = 1 → s.scr.buf = b :: rest →
    s.f F.SCR_CTRL_RING_STOP = 1 → s.scr.ring.any (fun r => r.1 % s.ringLen == b.no % s.ringLen && r.2) = true → s.f F.SCR_STAT_RING_FULL = 0 → s.trMask ≠ 0 →
    s.scr.stage.length + s.scr.secure.length < 4096 →
    runs .spillBlockWrite s fun t =>
      t.f F.SCR_STAT_RING_FULL = 1 ∧ t.trMask = 0 ∧ t.scr.buf = b :: rest ∧ (∃ e ∈ t.sum.intq, e.name = .spillFull ∧ e.data = [.w b.no])
      ∧ s.frame t [] [0xB] [.intq, .scr])
  ∧ (∀ (addr : Nat) (s : State), s.rst.on = true → addr < memTop → s.inRing addr = true →
    runs (.spillIntrude addr) s fun t => bit (t.rd 0xB014) 2 = true ∧ t.mem = s.mem ∧ s.frame t [0xB010, 0xB014] [] [.intq])
  ∧ (∀ (addr : Nat) (s : State), s.inRing addr = false → runs (.spillIntrude addr) s fun t => t = s)
  ∧ (∀ (b : Blk) (s : State), s.rst.on = true → b ∈ s.scr.buf →
    runs (.bufUc b.no) s fun t =>
      { b with dam := true } ∈ t.scr.buf ∧ bit (t.rd 0xB014) 1 = true ∧ s.frame t [0xB010, 0xB014] [] [.free, .intq, .scr])
  ∧ (∀ (m : Master) (v : Word) (s : State), s.ready m (some rtTrace) R.SCR_CTRL = true → bit v.toNat 3 = true → s.trMask = 0 → s.scr.flush = none →
    s.f F.WCH_CTRL_TFIT_EN = 0 →
    runs (.clear m v) s fun t =>
      t.scr.cur = none ∧ t.scr.buf = [] ∧ t.scr.ring = [] ∧ t.f F.SCR_STAT_RING_FULL = 0 ∧ t.f F.SCR_CTRL_MODE = v.toNat % 4
      ∧ t.f F.SCR_CTRL_SAMPLE = v.toNat / 256 % 16 ∧ s.frame t [] [0xB] [.access, .intq, .scr])

/-- FLOW_PACKET and LOSS (R337, R338, R343): a taken transfer in range adds one FLOW to its Cairn's queue of 16, at level 1 only each 2^SAMPLE-th; a FLOW that
finds the queue full is dropped and counted; one LOSS packet reports the count.
SCR_DRAIN_START, SCR_DRAIN_STOP, SCR_DRAIN_ACK and TRACE_DRAIN_SEND (R344): a drain begins unless one is active, sends blocks within its window, and in PORT mode an
acknowledgement frees the blocks up to the one named. -/
def Obligations.TraceFlowAndDrains : Prop :=
  (∀ (id pc n target leaf : Nat) (exc : Bool) (s : State), kindOf id = 2 → s.rst.on = true → (s.cairn id).powered = true → (s.cairn id).frozen = false → s.leafShows id leaf = true →
    s.spanAt sbFlow leaf = true → flowBit s.scr.flowOn (id - 0x420) = true → (s.cairn id).flowRange pc = true → (s.cairn id).flowRun = true →
    s.f F.SCR_STAT_LEVEL ≠ 1 → (s.cairn id).flow.length < 16 →
    runs (.flowPacket id pc n true target exc leaf) s fun t =>
      (t.cairn id).flow = (s.cairn id).flow ++ [[leaf, id + (if exc then 8192 else 0), ((s.cairn id).icount + n) % 2 ^ 32, target, (s.cairn id).f CF.U_OWNER_SEC]]
      ∧ (t.cairn id).icount = 0 ∧ s.only t id ∧ s.frame t [] [] [.free, .cairns])
  ∧ (∀ (id pc n target leaf : Nat) (exc : Bool) (s : State), kindOf id = 2 → s.rst.on = true → (s.cairn id).powered = true → (s.cairn id).frozen = false → s.leafShows id leaf = true →
    s.spanAt sbFlow leaf = true → flowBit s.scr.flowOn (id - 0x420) = true → (s.cairn id).flowRange pc = true → (s.cairn id).flowRun = true →
    s.f F.SCR_STAT_LEVEL ≠ 1 → (s.cairn id).flow.length = 16 →
    runs (.flowPacket id pc n true target exc leaf) s fun t =>
      (t.cairn id).flow = (s.cairn id).flow ∧ (t.cairn id).flowLost = min ((s.cairn id).flowLost + 1) (2 ^ 32 - 1) ∧ s.only t id
      ∧ s.frame t [] [] [.free, .cairns])
  ∧ (∀ (id pc n target leaf : Nat) (exc : Bool) (s : State), kindOf id = 2 → s.rst.on = true → (s.cairn id).powered = true → (s.cairn id).frozen = false → s.leafShows id leaf = true →
    s.spanAt sbFlow leaf = true → flowBit s.scr.flowOn (id - 0x420) = true → (s.cairn id).flowRange pc = true → (s.cairn id).flowRun = true →
    s.f F.SCR_STAT_LEVEL = 1 → (s.cairn id).flowLast + 1 < 2 ^ s.f F.SCR_CTRL_SAMPLE →
    runs (.flowPacket id pc n true target exc leaf) s fun t =>
      (t.cairn id).flow = (s.cairn id).flow ∧ (t.cairn id).flowLast = (s.cairn id).flowLast + 1 ∧ s.only t id ∧ s.frame t [R.SCR_DROP] [] [.free, .cairns])
  ∧ (∀ (id pc n leaf : Nat) (s : State), kindOf id = 2 → s.rst.on = true → (s.cairn id).powered = true → (s.cairn id).frozen = false → s.leafShows id leaf = true →
    s.spanAt sbFlow leaf = true → flowBit s.scr.flowOn (id - 0x420) = true → (s.cairn id).flowRange pc = false →
    runs (.flowPacket id pc n false 0 false leaf) s fun t =>
      (t.cairn id).flowRun = false ∧ (t.cairn id).flow = (s.cairn id).flow ∧ (t.cairn id).icount = (s.cairn id).icount + n ∧ s.only t id
      ∧ s.frame t [] [] [.free, .cairns])
  ∧ (∀ (id leaf : Nat) (s : State), kindOf id = 2 → s.rst.on = true → (s.cairn id).powered = true → s.leafShows id leaf = true → (s.cairn id).flowLost ≠ 0 →
    (s.cairn id).flow.length < 16 → s.scr.stage.length < 4096 → s.tracing = true →
    runs (.loss id leaf) s fun t =>
      (t.cairn id).flowLost = 0 ∧ t.rd R.SCR_LOST = min (s.rd R.SCR_LOST + (s.cairn id).flowLost) (2 ^ 32 - 1) % 2 ^ 32
      ∧ t.scr = { s.scr with stage := s.scr.stage ++ [⟨leaf, 4, id, pkLoss, some sbFlow, false, id, 0, le 2 id ++ le 4 (s.cairn id).flowLost⟩] }
      ∧ s.only t id ∧ s.frame t [R.SCR_LOST] [] [.scr, .cairns])
  ∧ (∀ (id leaf : Nat) (s : State), kindOf id = 2 → (s.cairn id).flowLost = 0 → runs (.loss id leaf) s fun t => t = s)
  ∧ (∀ (m : Master) (v : Word) (s : State), s.ready m (some rtTrace) R.SCR_DRAIN_CTRL = true → bit v.toNat 0 = true → bit v.toNat 1 = false →
    s.scr.drain = none → (s.trMode = 2 ∨ s.scr.ring ≠ [] ∨ s.scr.buf ≠ []) →
    runs (.scrDrainStart m v) s fun t =>
      t.scr.drain = some ⟨s.trMode != 2, if s.trMode = 2 then [] else s.scr.ring.map (·.1) ++ s.scr.buf.map (·.no), [], none⟩
      ∧ t.f F.SCR_DRAIN_CTRL_WINDOW = v.toNat / 256 % 64 ∧ t.f F.SCR_STAT_DRAINING = 1 ∧ t.f F.SCR_DRAIN_STAT_ACTIVE = 1
      ∧ s.frame t [] [0xB] [.access, .scr])
  ∧ (∀ (m : Master) (v : Word) (d : TrDrain) (s : State), s.ready m (some rtTrace) R.SCR_DRAIN_CTRL = true → bit v.toNat 1 = true → s.scr.drain = some d →
    runs (.scrDrainStop m v) s fun t =>
      t.scr = { s.scr with drain := none } ∧ t.f F.SCR_DRAIN_STAT_ACTIVE = 0 ∧ t.f F.SCR_DRAIN_STAT_END = 1
      ∧ t.sum.intq = s.sum.intq ++ [s.ev .traceDrainEnd 0x100F [.w 1, .w (d.acked.getD 0)]]
      ∧ s.frame t [] [0xB] [.access, .intq, .scr])
  ∧ (∀ (m : Master) (v : Word) (d : TrDrain) (s : State), s.ready m (some rtTrace) R.SCR_DRAIN_ACK = true → s.scr.drain = some d →
    d.sent.contains v.toNat = true → d.copy = false → s.f F.SCR_STAT_LEVEL = 0 → s.f F.SCR_CTRL_MIN_LEVEL = 0 → s.f F.SCR_CTRL_AUTO_THR = 0 →
    s.trMode = 2 →
    runs (.scrDrainAck m v) s fun t =>
      t.scr.drain = some { d with sent := d.sent.filter (fun n => !(upTo v.toNat d.sent).contains n), acked := some v.toNat }
      ∧ t.scr.buf = s.scr.buf.filter (fun b => !(upTo v.toNat d.sent).contains b.no)
      ∧ t.scr.ring = s.scr.ring.filter (fun r => !(upTo v.toNat d.sent).contains r.1)
      ∧ (∀ b ∈ t.scr.buf, b.no ≠ v.toNat) ∧ s.frame t [] [0xB] [.access, .scr])
  ∧ (∀ (m : Master) (v : Word) (d : TrDrain) (s : State), s.ready m (some rtTrace) R.SCR_DRAIN_ACK = true → s.scr.drain = some d →
    d.sent.contains v.toNat = false →
    runs (.scrDrainAck m v) s fun t => s.frame t [] [] [.access])
  ∧ (∀ (no : Nat) (held : Bool) (bs : List Byte) (d : TrDrain) (s : State), s.rst.on = true → s.passUp = true → s.scr.paused = false →
    s.scr.drain = some d → s.trNext = some no → s.blkSend no (s.has .pass rtTraceSecure) = some (held, bs) → d.copy = false →
    runs .traceDrainSend s fun t =>
      t.scr.drain = some { d with todo := d.todo.drop 1, sent := d.sent ++ [no] } ∧ t.rd R.SCR_DRAIN_SENT = no % 2 ^ 32
      ∧ (∃ f, t.pass.sendq = s.pass.sendq ++ [f] ∧ f.words.length = 1 + (wordsOf bs).length ∧ f.words.head? = some (no + 2 ^ 32 * b2n held + 2 ^ 34 * b2n (s.scr.buf.any fun b => b.no == no && b.dam)))
      ∧ s.frame t [R.SCR_DRAIN_SENT] [] [.scr, .pass])
  ∧ (∀ s : State, s.trNext = none → runs .traceDrainSend s fun t => t = s)
  ∧ (∀ (d : TrDrain) (s : State), s.scr.drain = some d → max (s.f F.SCR_DRAIN_CTRL_WINDOW) 1 ≤ d.sent.length → s.trNext = none)
  ∧ (∀ (id pc n leaf : Nat) (s : State), kindOf id = 2 → s.rst.on = true → (s.cairn id).powered = true → (s.cairn id).frozen = false → s.leafShows id leaf = true →
    s.spanAt sbFlow leaf = true → flowBit s.scr.flowOn (id - 0x420) = true → (s.cairn id).flowRange pc = true → (s.cairn id).flowRun = false →
    (s.cairn id).flow.length < 16 →
    runs (.flowPacket id pc n false 0 false leaf) s fun t =>
      (t.cairn id).flow = (s.cairn id).flow ++ [[leaf, id + 4096, 0, pc, (s.cairn id).f CF.U_OWNER_SEC]]
      ∧ (t.cairn id).flowRun = true ∧ (t.cairn id).icount = 1 ∧ s.only t id ∧ s.frame t [] [] [.free, .cairns])

/-! ### Faults and fences (11) -/

/-- FAULT_DETECT, CE_COALESCE_TIMER, FLT_FORCE and FLT_PAGE_ACK (02 R55; R354 to R360): a detection always sets its page's registers; it is reported unless masked, a CE at
most once an interval; a forced fault is reported as FORCED; an acknowledgement clears the bits written and, with the first fault's, its VALID. -/
def Obligations.FaultReports : Prop :=
  (∀ (id b tenant ctx d d2 : Nat) (s : State), kindOf id ≠ 0 → s.rst.on = true → s.room id = true → ownCairnFlt (kindOf id) b = false →
    let cr := cairnFlt (kindOf id) b
    cr.1 = 2 ∨ cr.1 = 3 → s.masked ((s.cairn id).rd 0x1C) b cr.1 = false →
    runs (.faultDetect true id b tenant ctx d d2) s fun t =>
      bit ((t.cairn id).rd 0x14) b = true
      ∧ (bit ((s.cairn id).rd 0x10) 31 = false → (t.cairn id).rd 0x10 = 2 ^ 31 + cr.1 * 256 + b)
      ∧ (∃ q, (t.cairn id).queue = (s.cairn id).queue ++ [q] ∧ q.ev.name = .fault ∧ q.ev.src = id ∧ q.ev.stamp = s.leafVal id ∧ q.sent = false
        ∧ (∃ i, q.ev.flt = some i ∧ i.page = 0xFF ∧ i.bit = b ∧ i.cls = cr.1 ∧ i.react = cr.2 ∧ i.count = 1
          ∧ i.tenant = (if cr.2 = 2 then (s.cairn id).f CF.U_OWNER_TENANT else tenant % 2 ^ 16)
          ∧ i.ctx = (if cr.2 = 2 then (s.cairn id).f CF.U_CTX_CTX else ctx % 2 ^ 20) ∧ i.detail = (if memFlt (kindOf id) b then d / 64 * 64 else 0)
          ∧ i.detail2 = (if memFlt (kindOf id) b then d2 % 2 ^ 17 else 0)))
      ∧ (ucLatent (kindOf id) b ≠ none → latentBit (kindOf id) (d2 / 2 ^ 24 % 16) = ucLatent (kindOf id) b →
        ∀ i, i < 16 → (t.cairn id).ucWords.contains (viewKey (d2 / 2 ^ 24 % 16) (d / 64 * 64 + 4 * i)) = true)
      ∧ s.only t id ∧ s.frame t mirrorRegs [] [.tree, .cairns])
  ∧ (∀ (id b tenant ctx d d2 : Nat) (s : State), kindOf id ≠ 0 → s.rst.on = true → s.room id = true → ownCairnFlt (kindOf id) b = false →
    (cairnFlt (kindOf id) b).1 = 1 → bit ((s.cairn id).rd 0x1C) b = false →
    runs (.faultDetect true id b tenant ctx d d2) s fun t =>
      bit ((t.cairn id).rd 0x14) b = true
      ∧ ((s.cairn id).ceCoal.any (fun q => q.bit == b) = false →
        (t.cairn id).queue.length = (s.cairn id).queue.length + 1 ∧ (∃ q ∈ (t.cairn id).ceCoal, q.bit = b ∧ q.start = s.clk ∧ q.count = 0))
      ∧ ((s.cairn id).ceCoal.any (fun q => q.bit == b) = true →
        (t.cairn id).queue = (s.cairn id).queue ∧ (t.cairn id).ceCoal.map (·.count) = (s.cairn id).ceCoal.map (fun q => if q.bit = b then q.count + 1 else q.count))
      ∧ s.only t id ∧ s.frame t mirrorRegs [] [.tree, .cairns])
  ∧ (∀ (id b tenant ctx d d2 : Nat) (s : State), kindOf id ≠ 0 → s.rst.on = true → (s.cairn id).powered = true → ownCairnFlt (kindOf id) b = false →
    let cr := cairnFlt (kindOf id) b
    cr.1 ≠ 0 → s.masked ((s.cairn id).rd 0x1C) b cr.1 = true →
    runs (.faultDetect true id b tenant ctx d d2) s fun t =>
      bit ((t.cairn id).rd 0x14) b = true ∧ (t.cairn id).queue = (s.cairn id).queue ∧ (t.cairn id).pendFlt = (s.cairn id).pendFlt ∧ s.only t id
      ∧ s.frame t mirrorRegs [] [.tree, .cairns])
  ∧ (∀ (id b tenant ctx d d2 : Nat) (s : State), kindOf id ≠ 0 → s.rst.on = true → (s.cairn id).powered = true → ownCairnFlt (kindOf id) b = false →
    let cr := cairnFlt (kindOf id) b
    cr.1 = 2 → s.masked ((s.cairn id).rd 0x1C) b cr.1 = false → evQueueLen ≤ (s.cairn id).queue.length → (s.cairn id).pendFlt = [] →
    runs (.faultDetect true id b tenant ctx d d2) s fun t =>
      (t.cairn id).queue = (s.cairn id).queue ∧ (∃ p, (t.cairn id).pendFlt = [] ++ [p] ∧ p.info.bit = b ∧ p.info.rflags = 2 ∧ p.stamp = s.leafVal id) ∧ s.only t id
      ∧ s.frame t mirrorRegs [] [.tree, .cairns])
  ∧ (∀ (p b tenant ctx d d2 : Nat) (s : State), s.rst.on = true →
    (p, b) ∈ [(0x12, 1), (0x13, 1), (0x0C, 3), (0x08, 0), (0x08, 1), (0x0A, 0), (0x0B, 0), (0x0E, 0), (0x0E, 1), (0x0F, 0)] →
    s.masked (s.rd (p * 0x1000 + 0x1C)) b (hubFlt p b) = false → (p = 8 → b = 1 → (copyAt d && s.ccOn) = false) →
    runs (.faultDetect false p b tenant ctx d d2) s fun t =>
      bit (t.rd (p * 0x1000 + 0x14)) b = true
      ∧ (∃ e, t.sum.intq = s.sum.intq ++ [e] ∧ e.name = .fault ∧ e.src = fltSrc p ∧ e.stamp = s.now
        ∧ (∃ i, e.flt = some i ∧ i.page = p ∧ i.bit = b ∧ i.cls = hubFlt p b ∧ i.react = 0 ∧ i.rflags = 0 ∧ i.count = 1 ∧ i.tenant = 0 ∧ i.ctx = 0
          ∧ i.causeSeq = 0 ∧ i.detail % 64 = 0 ∧ (hubWord p d ≠ none → i.detail = (hubWord p d).getD 0 / 64 * 64)
          ∧ (hubMem p b = true → i.detail2 / 2 ^ 16 = d2 / 2 ^ 16 % 2) ∧ (hubMem p b = false → i.detail = 0 ∧ i.detail2 = 0)))
      ∧ s.frame t [p * 0x1000 + 0x10, p * 0x1000 + 0x14] [] [.free, .intq])
  ∧ (∀ (id b : Nat) (q : CeCoal) (s : State), kindOf id ≠ 0 → s.rst.on = true → s.room id = true →
    (s.cairn id).ceCoal.find? (fun q => q.bit == b) = some q → q.start + 2500 ≤ s.clk → q.count ≠ 0 →
    runs (.ceCoalesceTimer id b) s fun t =>
      (∃ e, (t.cairn id).queue = (s.cairn id).queue ++ [e] ∧ e.ev.name = .fault ∧ e.ev.stamp = s.leafVal id ∧ e.ev.flt = some { q.info with count := q.count })
      ∧ s.only t id ∧ s.frame t mirrorRegs [] [.tree, .cairns])
  ∧ (∀ (id b : Nat) (q : CeCoal) (s : State), kindOf id ≠ 0 → s.rst.on = true → (s.cairn id).powered = true →
    (s.cairn id).ceCoal.find? (fun q => q.bit == b) = some q → q.start + 2500 ≤ s.clk → q.count = 0 →
    runs (.ceCoalesceTimer id b) s fun t =>
      t.cairn id = { s.cairn id with ceCoal := (s.cairn id).ceCoal.filter fun r => r.bit != b } ∧ s.only t id ∧ s.frame t [] [] [.cairns])
  ∧ (∀ (m : Master) (v : Word) (p b : Nat) (s : State), s.ready m (some rtFaultInject) (p * 0x1000 + 0x18) = true →
    (p, b) ∈ [(0x01, 0), (0x01, 2), (0x0C, 3), (0x08, 0), (0x08, 1), (0x0A, 0), (0x0B, 0), (0x0E, 0), (0x0F, 0)] → v.toNat % 2 ^ 31 = 2 ^ b →
    bit (s.rd (p * 0x1000 + 0x1C)) b = false →
    runs (.fltForce m (p * 0x1000 + 0x18) v) s fun t =>
      bit (t.rd (p * 0x1000 + 0x14)) b = true
      ∧ (∃ e, t.sum.intq = s.sum.intq ++ [e] ∧ e.name = .fault ∧ e.src = fltSrc p ∧ (∃ i, e.flt = some i ∧ i.bit = b ∧ bit i.rflags 0 = true))
      ∧ s.frame t [p * 0x1000 + 0x10, p * 0x1000 + 0x14] [] [.access, .intq])
  ∧ (∀ (m : Master) (v : Word) (p : Nat) (s : State), s.ready m (some rtFault) (p * 0x1000 + 0x20) = true → hasFlt p = true → p < 0x20 →
    runs (.fltPageAck m (p * 0x1000 + 0x20) v) s fun t =>
      (∀ i, i < 31 → bit (t.rd (p * 0x1000 + 0x14)) i = (bit (s.rd (p * 0x1000 + 0x14)) i && !bit v.toNat i))
      ∧ (bit (s.rd (p * 0x1000 + 0x10)) 31 = true → bit v.toNat (s.rd (p * 0x1000 + 0x10) % 32) = true →
        bit (t.rd (p * 0x1000 + 0x10)) 31 = false ∧ bit (t.rd (p * 0x1000 + 0x14)) 31 = false)
      ∧ (bit (s.rd (p * 0x1000 + 0x10)) 31 = true → bit v.toNat (s.rd (p * 0x1000 + 0x10) % 32) = false →
        t.rd (p * 0x1000 + 0x10) = s.rd (p * 0x1000 + 0x10))
      ∧ s.frame t [p * 0x1000 + 0x10, p * 0x1000 + 0x14] [] [.access])
  ∧ (∀ (v : Word) (id : Nat) (s : State), s.ready .host (some rtFault) 0x20420 = true → s.rd (bk .host (R.CWIN_SEL0)) % 4096 = id → kindOf id ≠ 0 →
    (s.cairn id).powered = true → (s.cairn id).noAnswer = false → s.reachable id = true →
    runs (.fltPageAck .host 0x20420 v) s fun t =>
      (∀ i, i < 31 → bit ((t.cairn id).rd 0x14) i = (bit ((s.cairn id).rd 0x14) i && !bit v.toNat i)) ∧ s.only t id
      ∧ t.pending = s.pending ∧ t.mem = s.mem ∧ t.flt = s.flt)
  ∧ (∀ (m : Master) (v : Word) (p : Nat) (s : State), s.ready m (some rtFaultInject) (p * 0x1000 + 0x18) = true → hasFlt p = true → p < 0x20 →
    (∀ b, b < 31 → bit v.toNat b = true → hubFlt p b = 0) →
    runs (.fltForce m (p * 0x1000 + 0x18) v) s fun t => s.frame t [] [] [.access])

/-- ARBITER_NUMBER of a fault report (R361 to R367): CE, UC and FATAL each enter their records once numbered; a second UC while one is latched escalates;
a FATAL drives FATAL_N and holds HEARTBEAT. -/
def Obligations.FaultRecords : Prop :=
  (∀ (k : Nat) (e : Ev) (i : FltInfo) (s : State), s.rst.on = true → s.heads = [(k, e)] → e.name = .fault → e.flt = some i → i.cls = 1 →
    e.src ≥ 0x1000 → s.ringOcc < 4096 → s.f F.FLT_CLASS_FLAGS_CE_VALID = 0 → s.rst.chainCur ≠ some e →
    let r : FltRec := ⟨s.rd R.SUM_SEQ_NEXT, s.rd R.SUM_SEQ_EPOCH, e.stamp, e.src, { i with react := 0 }⟩
    s.rd R.SUM_SEQ_NEXT + 1 < 2 ^ 32 →
    runs .arbiterNumber s fun t =>
      t.flt.ce = some r ∧ t.f F.FLT_CLASS_FLAGS_CE_VALID = 1 ∧ t.rd R.FLT_CE_CNT = (s.rd R.FLT_CE_CNT + i.count) % 2 ^ 32
      ∧ smGet none t.flt.ring (s.f F.FLT_CE_WR_WR % 4096) = some r ∧ t.f F.FLT_CE_WR_WR = (s.f F.FLT_CE_WR_WR + 1) % 65536
      ∧ t.flt.uc = s.flt.uc ∧ t.flt.fatal = s.flt.fatal ∧ t.mem = s.mem)
  ∧ (∀ (k : Nat) (e : Ev) (i : FltInfo) (s : State), s.rst.on = true → s.heads = [(k, e)] → e.name = .fault → e.flt = some i → i.cls = 2 →
    i.react = 0 → e.src ≥ 0x1000 → i.count = 1 → s.f F.FLT_CLASS_FLAGS_UC_VALID = 0 → s.f F.FLT_CLASS_FLAGS_FATAL_VALID = 0 →
    s.rd R.SUM_SEQ_NEXT + 1 < 2 ^ 32 → (i.page = 0x12 ∨ i.page = 0x13 → i.bit ≠ 0) → s.rst.chainCur ≠ some e →
    let r : FltRec := ⟨s.rd R.SUM_SEQ_NEXT, s.rd R.SUM_SEQ_EPOCH, e.stamp, e.src, i⟩
    runs .arbiterNumber s fun t =>
      t.flt.uc = some r ∧ t.f F.FLT_CLASS_FLAGS_UC_VALID = 1 ∧ t.f F.FLT_STAT_ESC_STATE = 1 ∧ t.rd R.FLT_UC_CNT = (s.rd R.FLT_UC_CNT + 1) % 2 ^ 32
      ∧ smGet none t.flt.hist (s.f F.FLT_HIST_HEAD_CNT % 16) = some r ∧ t.flt.ce = s.flt.ce ∧ t.flt.fatal = s.flt.fatal ∧ t.mem = s.mem)
  ∧ (∀ (k : Nat) (e : Ev) (i : FltInfo) (u : FltRec) (s : State), s.rst.on = true → s.heads = [(k, e)] → e.name = .fault → e.flt = some i → i.cls = 2 →
    i.react = 0 → e.src ≥ 0x1000 → s.f F.FLT_CLASS_FLAGS_UC_VALID = 1 → s.flt.uc = some u → s.f F.FLT_CLASS_FLAGS_FATAL_VALID = 0 →
    s.rd R.SUM_SEQ_NEXT + 1 < 2 ^ 32 → (i.page = 0x12 ∨ i.page = 0x13 → i.bit ≠ 0) → s.rst.chainCur ≠ some e → bit (s.rd 0xC01C) 1 = false →
    runs .arbiterNumber s fun t =>
      t.flt.uc = some u ∧ t.f F.FLT_CLASS_FLAGS_UC_OVF = 1 ∧ bit (t.rd 0xC014) 1 = true
      ∧ (∃ f ∈ t.sum.intq, f.name = .fault ∧ f.src = 0x1006 ∧ (∃ j, f.flt = some j ∧ j.page = 0x0C ∧ j.bit = 1 ∧ j.cls = 3 ∧ j.causeSeq = s.rd R.SUM_SEQ_NEXT)))
  ∧ (∀ (k : Nat) (e : Ev) (i : FltInfo) (s : State), s.rst.on = true → s.heads = [(k, e)] → e.name = .fault → e.flt = some i → i.cls = 3 →
    e.src ≥ 0x1000 → s.flt.fatal = none → s.f F.FLT_CLASS_FLAGS_FATAL_VALID = 0 → s.rd R.SUM_SEQ_NEXT + 1 < 2 ^ 32 →
    (i.page = 0x12 ∨ i.page = 0x13 → i.bit ≠ 0) → s.rst.chainCur ≠ some e → s.f F.FLT_CTRL_FATAL_DUMP = 0 →
    runs .arbiterNumber s fun t =>
      t.flt.fatal = some ⟨s.rd R.SUM_SEQ_NEXT, s.rd R.SUM_SEQ_EPOCH, e.stamp, e.src, { i with react := 0 }⟩
      ∧ t.f F.FLT_STAT_FATAL_N = 1 ∧ t.f F.FLT_STAT_HB_RUN = 0 ∧ t.f F.FLT_STAT_ESC_STATE = 2 ∧ t.f F.FLT_CLASS_FLAGS_FATAL_VALID = 1
      ∧ t.rd R.FLT_FATAL_CNT = (s.rd R.FLT_FATAL_CNT + i.count) % 2 ^ 32 ∧ t.flt.ce = s.flt.ce)

/-- FENCE_CMD, FENCE_ORDER, FENCE_DONE, FENCE_STUCK and UNFENCE (R370 to R373, R382): a request decides a fence and raises FENCE; the order reaches the Cairn or
waits for its wake; the drained port raises FENCE_DONE; 25,000 tk without it is FENCE_STUCK; UNFENCE undoes it in TEST_OPEN and RMA only. -/
def Obligations.Fences : Prop :=
  (∀ (m : Master) (v : Word) (s : State), s.ready m (some rtFault) R.FLT_FENCE_CMD = true →
    let id := v.toNat % 4096
    s.fenceOutcome id false = 0 →
    runs (.fenceCmd m v) s fun t =>
      t.fence id = ⟨false, true, false, false, id, 1, 0, 0, 0, false, false, false, false⟩ ∧ (∀ j, j ≠ id → t.fence j = s.fence j)
      ∧ t.f (bkF m F.FLT_FENCE_STAT_LAST_OUTCOME) = 0
      ∧ t.sum.intq = s.sum.intq ++ [s.ev .fence 0x1006 [.w id, .w 0, .w 1, .w 0]]
      ∧ s.frame t [bk m R.FLT_FENCE_STAT, 0xC024] [] [.access, .intq, .flt])
  ∧ (∀ (m : Master) (v : Word) (s : State), s.ready m (some rtFault) R.FLT_FENCE_CMD = true →
    let id := v.toNat % 4096
    kindOf id = 7 ∨ (s.posOf id).isSome = true ∨ s.meshFull id = true → kindOf id ≠ 0 → s.fenceDecided id = false →
    runs (.fenceCmd m v) s fun t =>
      t.f (bkF m F.FLT_FENCE_STAT_LAST_OUTCOME) = 3 ∧ t.sum.intq = s.sum.intq ++ [s.ev .fenceRefused 0x1006 [.w id, .w (mSrc m)]]
      ∧ s.frame t [bk m R.FLT_FENCE_STAT, 0xC024] [] [.access, .intq])
  ∧ (∀ (m : Master) (v : Word) (s : State), s.ready m (some rtFault) R.FLT_FENCE_CMD = true →
    (kindOf (v.toNat % 4096) = 0 ∨ kindOf (v.toNat % 4096) ≠ 0 ∧ s.fenceDecided (v.toNat % 4096) = true) →
    runs (.fenceCmd m v) s fun t =>
      t.f (bkF m F.FLT_FENCE_STAT_LAST_OUTCOME) = (if kindOf (v.toNat % 4096) = 0 then 2 else 1)
      ∧ s.frame t [bk m R.FLT_FENCE_STAT] [] [.access])
  ∧ (∀ (id : Nat) (s : State), kindOf id ≠ 0 → s.rst.on = true → (s.fence id).fenced = true → (s.fence id).pending = true → (s.fence id).ordered = false →
    (s.fence id).awaitWake = false → (s.fence id).engine = false → (s.fence id).lead = id → s.reachable id = true → (s.cairn id).powered = true →
    runs (.fenceOrder id) s fun t =>
      (t.cairn id).fencedHere = true ∧ t.fence id = { s.fence id with ordered := true }
      ∧ (s.stp.active = true → (s.stp.units.any fun u => u.cairn == id && u.mode != 1) = true → (t.cairn id).f CF.STEP_STAT_FENCED_IN_STEP = 1)
      ∧ s.only t id ∧ s.frame t [] [] [.flt, .cairns])
  ∧ (∀ (id drain : Nat) (s : State), kindOf id ≠ 0 → s.rst.on = true → (s.fence id).fenced = true → (s.fence id).pending = true → (s.fence id).ordered = true →
    (s.fence id).drained = false → (s.fence id).awaitWake = false → (s.fence id).lead = id → s.room id = true → (s.cairn id).noAnswer = false →
    runs (.fenceDone id drain) s fun t =>
      t.fence id = { s.fence id with drained := true } ∧ s.queued t id .fenceDone (s.leafVal id) [.w id, .w drain] ∧ s.only t id
      ∧ s.frame t mirrorRegs [] [.flt, .tree, .cairns])
  ∧ (∀ (id : Nat) (s : State), kindOf id ≠ 0 → s.rst.on = true → (s.fence id).fenced = true → (s.fence id).pending = true →
    (s.fence id).awaitWake = false → (s.fence id).stuck = false → (s.fence id).lead = id → (s.fence id).since + 25000 ≤ s.clk →
    runs (.fenceStuck id) s fun t =>
      (t.fence id).stuck = true ∧ bit (t.rd 0xC014) 5 = true ∧ (∃ e ∈ t.sum.intq, e.name = .fault ∧ e.src = 0x1006)
      ∧ s.frame t [0xC010, 0xC014] [] [.intq, .flt])
  ∧ (∀ (id : Nat) (s : State), kindOf id ≠ 0 → s.clk < (s.fence id).since + 25000 → runs (.fenceStuck id) s fun t => t = s)
  ∧ (∀ (m : Master) (v : Word) (s : State), s.ready m (some rtFault) R.FLT_UNFENCE = true →
    let id := v.toNat % 4096
    s.lcs = 2 ∨ s.lcs = 5 → s.fenceDecided id = true → kindOf id ≠ 1 → kindOf id ≠ 0 → (s.cairn id).powered = true →
    runs (.unfence m v) s fun t =>
      t.fence id = FenceRec.none ∧ (∀ j, j ≠ id → t.fence j = s.fence j) ∧ (t.cairn id).fencedHere = false ∧ s.only t id
      ∧ (∃ e ∈ t.sum.intq, e.name = .unfence ∧ e.data = [.w id, .w (mNum m)])
      ∧ s.frame t mirrorRegs [0xC] [.access, .intq, .flt, .tree, .cairns])
  ∧ (∀ (m : Master) (v : Word) (s : State), s.ready m (some rtFault) R.FLT_UNFENCE = true → s.lcs ≠ 2 → s.lcs ≠ 5 →
    runs (.unfence m v) s fun t => s.frame t [] [] [.access])

/-- FLT_ACK_UC, FLT_ACK_CE, CE_RD, SIG_MON_CHECK, SIG_MON_TIMEOUT and HEARTBEAT_TOGGLE (R362 to R364, R366 to R369). -/
def Obligations.CollectorAndHeartbeat : Prop :=
  (∀ (m : Master) (v : Word) (u : FltRec) (s : State), s.ready m (some rtFault) R.FLT_ACK = true → bit v.toNat 0 = false → bit v.toNat 1 = true →
    s.flt.uc = some u → s.f F.FLT_CLASS_FLAGS_UC_VALID = 1 → v.toNat / 65536 = u.seq % 65536 →
    runs (.fltAckUc m v) s fun t =>
      t.f F.FLT_CLASS_FLAGS_UC_VALID = 0 ∧ t.f F.FLT_CLASS_FLAGS_UC_OVF = 0 ∧ t.flt = s.flt
      ∧ t.f F.FLT_STAT_ESC_STATE = (if s.f F.FLT_CLASS_FLAGS_FATAL_VALID = 1 then 2 else 0)
      ∧ t.sum.intq = s.sum.intq ++ [s.ev .ucAcked 0x1006 [.w u.seq, .w (mSrc m)]]
      ∧ s.frame t [R.FLT_STAT, R.FLT_CLASS_FLAGS, 0xC024] [] [.access, .intq])
  ∧ (∀ (m : Master) (v : Word) (u : FltRec) (s : State), s.ready m (some rtFault) R.FLT_ACK = true → bit v.toNat 0 = false →
    s.flt.uc = some u → v.toNat / 65536 ≠ u.seq % 65536 →
    runs (.fltAckUc m v) s fun t => s.frame t [] [] [.access])
  ∧ (∀ (m : Master) (v : Word) (s : State), s.ready m (some rtFault) R.FLT_ACK = true → bit v.toNat 0 = true → bit v.toNat 1 = false →
    runs (.fltAckCe m v) s fun t =>
      t.f F.FLT_CLASS_FLAGS_CE_VALID = 0 ∧ t.f F.FLT_CLASS_FLAGS_CE_OVF = 0 ∧ t.f F.FLT_CLASS_FLAGS_UC_VALID = s.f F.FLT_CLASS_FLAGS_UC_VALID
      ∧ t.f F.FLT_CLASS_FLAGS_FATAL_VALID = s.f F.FLT_CLASS_FLAGS_FATAL_VALID ∧ s.frame t [R.FLT_CLASS_FLAGS] [] [.access])
  ∧ (∀ (m : Master) (v : Word) (s : State), s.ready m (some rtFault) R.FLT_CE_RD = true →
    let occ := (s.f F.FLT_CE_WR_WR + 65536 - v.toNat % 65536) % 65536
    occ ≤ 4096 →
    runs (.ceRd m v) s fun t =>
      t.f F.FLT_CE_RD_RD = v.toNat % 65536 ∧ t.f F.FLT_STAT_RING_FULL = (if occ = 4096 then 1 else 0)
      ∧ t.f F.FLT_STAT_STORM_ARMED = (if occ ≤ 2048 then 1 else s.f F.FLT_STAT_STORM_ARMED)
      ∧ (s.f F.FLT_STAT_STORM_ARMED = 0 → occ ≤ 2048 → t.sum.intq = s.sum.intq ++ [s.ev .stormRearm 0x1006 [.w occ]])
      ∧ s.frame t [R.FLT_CE_RD, R.FLT_STAT, 0xC024] [] [.access, .intq])
  ∧ (∀ (m : Master) (v : Word) (s : State), s.ready m (some rtFault) R.FLT_CE_RD = true →
    4096 < (s.f F.FLT_CE_WR_WR + 65536 - v.toNat % 65536) % 65536 →
    runs (.ceRd m v) s fun t => s.frame t [] [] [.access])
  ∧ (∀ (q : Nat) (s : State), q < 6 → s.rst.on = true → s.rdg.running = true →
    runs (.sigMonCheck q true) s fun t =>
      t.flt.checked.contains q = true ∧ smGet 0 t.flt.checkT q = s.clk ∧ (∀ p, p ≠ q → smGet 0 t.flt.checkT p = smGet 0 s.flt.checkT p)
      ∧ s.frame t [] [] [.flt])
  ∧ (∀ (q : Nat) (s : State), q < 6 → s.rst.on = true → s.rdg.running = true → bit (s.rd 0x1C) 1 = false →
    runs (.sigMonCheck q false) s fun t =>
      t.f F.FLT_STAT_FATAL_N = 1 ∧ t.f F.FLT_STAT_HB_RUN = 0 ∧ bit (t.rd 0x14) 1 = true ∧ t.flt.fatal.isSome = true
      ∧ s.frame t [0x10, 0x14, R.FLT_STAT, R.FLT_CLASS_FLAGS] [] [.intq, .flt])
  ∧ (∀ (q : Nat) (s : State), q < 6 → s.rst.on = true → s.rdg.running = true → s.heldSeq q = false → smGet 0 s.flt.checkT q + 1250000 ≤ s.clk →
    runs (.sigMonTimeout q) s fun t =>
      t.f F.FLT_STAT_FATAL_N = 1 ∧ t.f F.FLT_STAT_HB_RUN = 0 ∧ bit (t.rd 0x14) 1 = true
      ∧ s.frame t [0x10, 0x14, R.FLT_STAT, R.FLT_CLASS_FLAGS] [] [.intq, .flt])
  ∧ (∀ (q : Nat) (s : State), q < 6 → s.clk < smGet 0 s.flt.checkT q + 1250000 → runs (.sigMonTimeout q) s fun t => t = s)
  ∧ (∀ s : State, s.rst.on = true → s.started = true → s.flt.hbNext ≤ s.clk → s.f F.FLT_STAT_HB_RUN = 1 → (∀ q, q < 6 → s.flt.checked.contains q = true) →
    runs .heartbeatToggle s fun t =>
      t.flt = { s.flt with heartbeat := !s.flt.heartbeat, hbNext := s.clk + 1250000, checked := [] } ∧ s.frame t [] [] [.flt])
  ∧ (∀ (q : Nat) (s : State), q < 6 → (s.flt.checked.contains q = false ∨ s.f F.FLT_STAT_HB_RUN = 0) →
    runs .heartbeatToggle s fun t => t.flt.heartbeat = s.flt.heartbeat ∧ s.frame t [] [] [.flt])

/-! ### The watch function (12) -/

/-- LAG_BLOCK, REMAP_CMD, REMAP_BOUNDARY, REMAP_GATE_OPEN and UNMAP (07 R230; R385 to R392, R404): a block's lags take their entries; a remap takes the spare the rule
names, moves ACC, CFG and SEED and the map at the operation boundary, and raises REMAP when the gate opens. -/
def Obligations.LagAndRemaps : Prop :=
  (∀ (core : Nat) (issues : List Nat) (writes : List (List Nat)) (mixed : List Nat) (s : State), core < 8 → s.rst.on = true →
    s.engineFenced core = false → s.reachable (arrayId core 0) = true →
    let times := arrayTimes issues writes
    runs (.lagBlock core issues writes mixed) s fun t =>
      (∀ p, p < 128 → smGet 0 t.wch.lag (128 * core + p) = min (blockLag times p) 65535 + (if mixed.contains p ∨ s.wch.moved.contains (128 * core + p) then 0 else 65536))
      ∧ smGet 0 t.wch.opTk core = blockBase times % 2 ^ 24 ∧ smGet 0 t.wch.blocks core = (smGet 0 s.wch.blocks core + 1) % 2 ^ 32
      ∧ bit (t.f F.WCH_STAT_FLAGGED) core = (List.range 128).any (fun p => !mixed.contains p && !s.wch.moved.contains (128 * core + p)
        && decide (blockBase times % 2 ^ 24 * max (s.f F.WCH_LAG_THR_THR) 1 < min (blockLag times p) 65535 * 100))
      ∧ t.wch.map = s.wch.map ∧ s.frame t [] [0xD, 0xE] [.intq, .wch, .tal])
  ∧ (∀ (m : Master) (v : Word) (pos i : Nat) (s : State), s.ready m (some rtWatch) R.WCH_REMAP_CMD = true →
    let id := v.toNat % 4096
    v.toNat / 65536 % 4096 = 0xFFF → s.posOf id = some pos → s.remapping (coreOf id) = false → s.flt.engFenced.contains (coreOf id) = false →
    s.anySpare (coreOf id) = some i → s.cen.jobs = [] →
    runs (.remapCmd m v) s fun t =>
      t.wch = { s.wch with pend := s.wch.pend ++ [⟨coreOf id, pos, id, i, 1, 0, false, false⟩] }
      ∧ t.f (bkF m F.WCH_REMAP_RES_OUTCOME) = 0 ∧ t.f (bkF m F.WCH_REMAP_RES_SPARE) = i % 4096
      ∧ bit (t.f F.WCH_STAT_REMAP_PENDING) (coreOf id) = true
      ∧ s.frame t [bk m R.WCH_REMAP_RES, R.WCH_STAT] [] [.access, .wch])
  ∧ (∀ (m : Master) (v : Word) (s : State), s.ready m (some rtWatch) R.WCH_REMAP_CMD = true →
    let id := v.toNat % 4096
    let field := v.toNat / 65536 % 4096
    s.posOf id = none ∨ s.remapping (coreOf id) = true ∨ (s.flt.engFenced.contains (coreOf id) = false ∧ field ≠ 0xFFF ∧ s.freeSpare field = false)
      ∨ (field = 0xFFF ∧ s.anySpare (coreOf id) = none) →
    runs (.remapCmd m v) s fun t =>
      t.f (bkF m F.WCH_REMAP_RES_OUTCOME) = (if s.posOf id = none then 2 else if s.remapping (coreOf id) = true then 4 else if field = 0xFFF then 1 else 3)
      ∧ s.frame t [bk m R.WCH_REMAP_RES] [] [.access])
  ∧ (∀ (core : Nat) (r : Remap) (s : State), core < 8 → s.rst.on = true → s.wch.pend.find? (fun r => r.core == core) = some r → r.core = core → r.pos < 128 →
    r.gated = false → (s.cairn r.from_).powered = true → (s.cairn r.to_).powered = true → s.inStop r.from_ = false → r.from_ ≠ r.to_ →
    r.cause ≠ 3 → s.cen.jobs = [] →
    runs (.remapBoundary core) s fun t =>
      t.serving core r.pos = r.to_ ∧ t.wch.retired.contains r.from_ = true
      ∧ (∀ p, p < 128 → p ≠ r.pos → t.serving core p = s.serving core p)
      ∧ smGet 0 t.wch.lag (128 * core + r.pos) = smGet 0 s.wch.lag (128 * core + r.pos) % 65536
      ∧ (∀ i, i < 4096 → t.viewByte r.to_ 0 i = s.viewByte r.from_ 0 i)
      ∧ (∀ x ∈ t.wch.pend, x.core = core → x.gated = true)
      ∧ (∀ j, j ≠ r.from_ ∧ j ≠ r.to_ → t.cairn j = s.cairn j) ∧ s.frame t tableRegs [] [.wch, .cairns])
  ∧ (∀ (core : Nat) (r : Remap) (s : State), core < 8 → s.rst.on = true → s.wch.pend.find? (fun r => r.core == core) = some r → r.core = core →
    r.gated = true → r.synth = false → r.cause ≠ 2 → r.cause ≠ 3 → (s.cairn r.to_).frozen = false → s.room r.to_ = true → s.wch.waiting = [] → s.wch.fenceAfter = [] →
    runs (.remapGateOpen core) s fun t =>
      t.wch = { s.wch with pend := s.wch.pend.filter fun r => r.core != core }
      ∧ bit (t.f F.WCH_STAT_REMAP_PENDING) core = false ∧ t.f F.WCH_REMAP_CNT_REMAPS = min (s.f F.WCH_REMAP_CNT_REMAPS + 1) 65535
      ∧ s.queued t r.to_ .remap (s.leafVal r.to_) [.w r.from_, .w r.to_, .w r.pos, .w r.cause, .w 64, .w 0]
      ∧ s.only t r.to_ ∧ s.frame t ([R.WCH_STAT, R.WCH_REMAP_CNT] ++ mirrorRegs) [] [.wch, .tree, .cairns])
  ∧ (∀ (core : Nat) (s : State), core < 8 → s.wch.pend.find? (fun r => r.core == core) = none → s.wch.waiting = [] → s.wch.fenceAfter = [] →
    (runs (.remapBoundary core) s fun t => t = s) ∧ runs (.remapGateOpen core) s fun t => t = s)
  ∧ (∀ (m : Master) (v : Word) (pos : Nat) (s : State), s.ready m (some rtWatch) R.WCH_UNMAP = true →
    let id := v.toNat % 4096
    s.lcs = 2 ∨ s.lcs = 5 → s.posOf id = some pos → 128 ≤ id % 132 → s.fenceDecided (arrayId (coreOf id) pos) = false → s.remapping (coreOf id) = false →
    s.cen.jobs = [] →
    runs (.unmap m v) s fun t =>
      t.wch = { s.wch with pend := s.wch.pend ++ [⟨coreOf id, pos, id, arrayId (coreOf id) pos, 3, 0, false, false⟩] }
      ∧ t.f (bkF m F.WCH_REMAP_RES_OUTCOME) = 0 ∧ bit (t.f F.WCH_STAT_REMAP_PENDING) (coreOf id) = true
      ∧ s.frame t ([bk m R.WCH_REMAP_RES, R.WCH_STAT, R.WCH_UNMAP]) [] [.access, .wch])
  ∧ (∀ (m : Master) (v : Word) (s : State), s.ready m (some rtWatch) R.WCH_UNMAP = true → s.lcs ≠ 2 → s.lcs ≠ 5 →
    runs (.unmap m v) s fun t => s.frame t [] [] [.access])
  ∧ (∀ (k : Nat) (l : List Nat), 1 ≤ k → k ≤ l.length →
    (l.filter fun n => decide (n < kthSmallest k l)).length < k ∧ k ≤ (l.filter fun n => decide (n ≤ kthSmallest k l)).length)
  ∧ (∀ (core : Nat) (r : Remap) (s : State), core < 8 → s.rst.on = true → s.wch.pend.find? (fun r => r.core == core) = some r → r.gated = false →
    s.inStop r.from_ = true →
    runs (.remapBoundary core) s fun t => t = s)

/-- DROOP_ENTER, DROOP_EXIT, VF_REQ, VF_CHANGE_START, VF_DONE and PM_INTERVAL (R397 to R400, R404): a response holds changes back until 5,000 tk after its end; of deferred
requests the latest stands; a fourth interval beyond the limit is PM_MEASURE_ONLY.
DISPATCH_CASE, DISPATCH_SUMMARY, BATCH_CANCEL and TFIT_WINDOW (R394 to R396, R401 to R403). -/
def Obligations.PowerDispatchAndGovernor : Prop :=
  (∀ (id kind mv mhz : Nat) (s : State), kindOf id = 7 → s.rst.on = true → s.room id = true →
    (s.vfOf id).droop = false → s.vfDown id (s.vfOf id) = false →
    runs (.droopEnter id kind mv mhz) s fun t =>
      t.vfOf id = { s.vfOf id with droop := true, droopT := s.clk, droopIn := true }
      ∧ s.queued t id .droopEnter (s.leafVal id) [.w kind, .w mv, .w mhz] ∧ s.only t id ∧ s.frame t mirrorRegs [] [.wch, .tree, .cairns])
  ∧ (∀ (id stretched bubbles : Nat) (s : State), kindOf id = 7 → s.rst.on = true → s.room id = true →
    (s.vfOf id).droop = true →
    runs (.droopExit id stretched bubbles) s fun t =>
      t.vfOf id = { s.vfOf id with droop := false, lastExit := some s.clk }
      ∧ s.queued t id .droopExit (s.leafVal id) [.w (s.clk - (s.vfOf id).droopT), .w stretched, .w bubbles] ∧ s.only t id ∧ s.frame t mirrorRegs [] [.wch, .tree, .cairns])
  ∧ (∀ (id kind target : Nat) (s : State), kindOf id = 7 → s.rst.on = true → s.room id = true → (s.cairn id).frozen = false →
    (s.vfOf id).defer = none → (s.vfOf id).droop = false → (∀ e, (s.vfOf id).lastExit = some e → e + 5000 ≤ s.clk) →
    runs (.vfReq id kind target) s fun t =>
      t.vfOf id = { s.vfOf id with change := some (kind % 2, target, s.clk) }
      ∧ s.queued t id .vfReq (s.leafVal id) [.w (kind % 2), .w target] ∧ s.only t id ∧ s.frame t mirrorRegs [] [.wch, .tree, .cairns])
  ∧ (∀ (id kind target : Nat) (s : State), kindOf id = 7 → s.rst.on = true → (s.cairn id).powered = true → (s.cairn id).frozen = false →
    ((s.vfOf id).droop = true ∨ (s.vfOf id).defer.isSome = true ∨ s.clk < (s.vfOf id).lastExit.getD 0 + 5000 ∧ (s.vfOf id).lastExit.isSome = true) →
    runs (.vfReq id kind target) s fun t =>
      t.vfOf id = { s.vfOf id with defer := some (kind % 2, target, s.clk) } ∧ s.only t id ∧ s.frame t mirrorRegs [] [.wch, .tree, .cairns])
  ∧ (∀ (id : Nat) (c : Nat × Nat × Nat) (s : State), kindOf id = 7 → s.rst.on = true → (s.cairn id).powered = true → (s.cairn id).frozen = false →
    (s.vfOf id).defer = some c → (s.vfOf id).droop = false → (∀ e, (s.vfOf id).lastExit = some e → e + 5000 ≤ s.clk) →
    runs (.vfChangeStart id) s fun t => t.vfOf id = { s.vfOf id with defer := none, change := some c } ∧ s.frame t [] [] [.wch])
  ∧ (∀ (id e : Nat) (s : State), kindOf id = 7 → (s.vfOf id).lastExit = some e → s.clk < e + 5000 → runs (.vfChangeStart id) s fun t => t = s)
  ∧ (∀ (id target since : Nat) (s : State), kindOf id = 7 → s.rst.on = true → s.room id = true →
    (s.vfOf id).change = some (0, target, since) →
    runs (.vfDone id) s fun t =>
      t.vfOf id = { s.vfOf id with change := none } ∧ (t.cairn id).f CF.P_VF_MV = target % 65536 ∧ (t.cairn id).f CF.P_VF_MHZ = (s.cairn id).f CF.P_VF_MHZ
      ∧ s.queued t id .vfDone (s.leafVal id) [.w 0, .w ((s.cairn id).f CF.P_VF_MV), .w target, .w (s.clk - since)] ∧ s.only t id
      ∧ s.frame t mirrorRegs [] [.wch, .tree, .cairns])
  ∧ (∀ (id est meas limit : Nat) (s : State), kindOf id = 7 → s.rst.on = true → (s.cairn id).powered = true → (s.cairn id).frozen = false →
    (s.vfOf id).droopIn = false → (s.vfOf id).droop = false → (s.vfOf id).measure = false →
    limit * meas < 1000 * (max est meas - min est meas) → (s.vfOf id).run < 3 →
    runs (.pmInterval id est meas limit) s fun t => t.vfOf id = { s.vfOf id with run := (s.vfOf id).run + 1 } ∧ s.frame t [] [] [.wch])
  ∧ (∀ (id est meas limit : Nat) (s : State), kindOf id = 7 → s.rst.on = true → (s.cairn id).powered = true → (s.cairn id).frozen = false →
    (s.vfOf id).droopIn = false → (s.vfOf id).droop = false → (s.vfOf id).measure = false →
    1000 * (max est meas - min est meas) ≤ limit * meas →
    runs (.pmInterval id est meas limit) s fun t => t.vfOf id = { s.vfOf id with run := 0 } ∧ s.frame t [] [] [.wch])
  ∧ (∀ (id est meas limit : Nat) (s : State), kindOf id = 7 → s.rst.on = true → (s.cairn id).powered = true → (s.cairn id).frozen = false →
    (s.vfOf id).droopIn = false → (s.vfOf id).droop = false → (s.vfOf id).measure = false → (s.cairn id).queue.length < 7 →
    limit * meas < 1000 * (max est meas - min est meas) → (s.vfOf id).run = 3 →
    runs (.pmInterval id est meas limit) s fun t =>
      (t.vfOf id).measure = true ∧ bit (t.rd R.WCH_PMD_MAP) (id - 0xBA0) = true ∧ bit ((t.cairn id).rd 0x14) 9 = true
      ∧ (∃ q ∈ (t.cairn id).queue, q.ev.name = .pmMeasureOnly ∧ q.ev.data = [.w est, .w meas, .w limit])
      ∧ s.only t id ∧ s.frame t (R.WCH_PMD_MAP :: mirrorRegs) [] [.wch, .tree, .cairns])
  ∧ (∀ (id what tag expert : Nat) (s : State), kindOf id = 3 → s.rst.on = true → (s.cairn id).powered = true → (s.cairn id).frozen = false → what < 4 →
    runs (.dispatchCase id what tag expert) s fun t =>
      t.dispOf id = { s.dispOf id with
        tie := (s.dispOf id).tie + (if what = 0 then 1 else 0), ovf := (s.dispOf id).ovf + (if what = 1 then 1 else 0),
        skip := (s.dispOf id).skip + (if what = 2 then 1 else 0), dup := (s.dispOf id).dup + (if what = 3 then 1 else 0) }
      ∧ s.frame t [] [] [.wch])
  ∧ (∀ (id tag tenant ctx expert : Nat) (s : State), kindOf id = 3 → s.rst.on = true → s.room id = true → (s.cairn id).frozen = false →
    (s.dispOf id).tags.find? (fun x => x.1 == tag) = some (tag, tenant, ctx) →
    runs (.dispatchCase id 4 tag expert) s fun t =>
      t.dispOf id = { s.dispOf id with stale := (s.dispOf id).stale + 1, tags := (s.dispOf id).tags.filter (· ≠ (tag, tenant, ctx)) }
      ∧ s.queued t id .staleFirst (s.leafVal id) [.w tag, .w tenant, .w ctx, .w expert] ∧ s.only t id ∧ s.frame t mirrorRegs [] [.wch, .tree, .cairns])
  ∧ (∀ (id : Nat) (s : State), kindOf id = 3 → s.rst.on = true → s.room id = true → (s.cairn id).frozen = false → s.f F.WCH_CTRL_DISP_EN = 1 →
    let d := s.dispOf id
    d.start + 256 * max (s.f F.WCH_DISP_INT_INT) 1 ≤ s.clk → d.tie + d.ovf + d.skip + d.dup + d.stale ≠ 0 →
    runs (.dispatchSummary id) s fun t =>
      t.dispOf id = ⟨0, 0, 0, 0, 0, s.clk, d.tags⟩
      ∧ s.queued t id .dispatchSummary (s.leafVal id) [.w d.tie, .w d.ovf, .w d.skip, .w d.dup, .w d.stale, .w (256 * max (s.f F.WCH_DISP_INT_INT) 1)]
      ∧ s.only t id ∧ s.frame t mirrorRegs [] [.wch, .tree, .cairns])
  ∧ (∀ (id : Nat) (s : State), kindOf id = 3 → s.rst.on = true → (s.cairn id).powered = true → (s.cairn id).frozen = false → s.f F.WCH_CTRL_DISP_EN = 1 →
    let d := s.dispOf id
    d.start + 256 * max (s.f F.WCH_DISP_INT_INT) 1 ≤ s.clk → d.tie + d.ovf + d.skip + d.dup + d.stale = 0 →
    runs (.dispatchSummary id) s fun t => t.dispOf id = { d with start := s.clk } ∧ s.frame t [] [] [.wch])
  ∧ (∀ (id old new tenant ctx : Nat) (s : State), kindOf id = 3 → s.rst.on = true → s.room id = true → (s.cairn id).frozen = false →
    runs (.batchCancel id old new tenant ctx) s fun t =>
      (old, tenant, ctx) ∈ (t.dispOf id).tags ∧ s.queued t id .batchCancel (s.leafVal id) [.w old, .w new, .w tenant, .w ctx]
      ∧ s.only t id ∧ s.frame t mirrorRegs [] [.wch, .tree, .cairns])
  ∧ (∀ s : State, s.rst.on = true → s.wch.winT + 250000 ≤ s.clk → s.tfActs = false →
    runs .tfitWindow s fun t => t.wch = { s.wch with winT := s.clk, winBlocks := s.blksDone } ∧ s.frame t [] [] [.wch])
  ∧ (∀ s : State, s.rst.on = true → s.wch.winT + 250000 ≤ s.clk → s.tfActs = true →
    let i := 8 * 4096 * ((s.blksDone + 2 ^ 32 - s.wch.winBlocks) % 2 ^ 32)
    s.tfTarget * s.f F.PASS_RATE_MBPS < i → s.f F.WCH_TFIT_STAT_STEP = 0 → s.f F.SCR_STAT_LEVEL < 3 →
    runs .tfitWindow s fun t =>
      t.f F.WCH_TFIT_STAT_STEP = 1 ∧ t.f F.SCR_CTRL_MIN_LEVEL = max s.wch.baseMin 1 % 4 ∧ t.f F.SCR_CTRL_SAMPLE = min s.wch.baseSample s.tfMax % 16
      ∧ t.f F.WCH_TFIT_STAT_MOVES = (s.f F.WCH_TFIT_STAT_MOVES + 1) % 65536 ∧ t.wch.winT = s.clk ∧ t.wch.lowRun = 0
      ∧ s.frame t [R.WCH_TFIT_STAT] [0xB] [.intq, .wch, .scr])
  ∧ (∀ s : State, s.rst.on = true → s.wch.winT + 250000 ≤ s.clk → s.tfActs = true →
    let i := 8 * 4096 * ((s.blksDone + 2 ^ 32 - s.wch.winBlocks) % 2 ^ 32)
    i < s.tfLow * s.f F.PASS_RATE_MBPS → s.wch.lowRun = 7 → s.f F.WCH_TFIT_STAT_STEP = 1 → 1 ≤ s.tfLast → s.f F.SCR_STAT_LEVEL < 3 →
    runs .tfitWindow s fun t =>
      t.f F.WCH_TFIT_STAT_STEP = 0 ∧ t.f F.SCR_CTRL_MIN_LEVEL = s.wch.baseMin % 4
      ∧ t.f F.WCH_TFIT_STAT_MOVES = (s.f F.WCH_TFIT_STAT_MOVES + 1) % 65536 ∧ t.wch.lowRun = 0
      ∧ s.frame t [R.WCH_TFIT_STAT] [0xB] [.intq, .wch, .scr])
  ∧ (∀ s : State, s.clk < s.wch.winT + 250000 → runs .tfitWindow s fun t => t = s)
  ∧ (∀ (id tag expert : Nat) (s : State), kindOf id = 3 → s.rst.on = true → (s.cairn id).powered = true → (s.cairn id).frozen = false →
    (s.dispOf id).tags.find? (fun x => x.1 == tag) = none →
    runs (.dispatchCase id 4 tag expert) s fun t => t.dispOf id = { s.dispOf id with stale := (s.dispOf id).stale + 1 } ∧ s.frame t [] [] [.wch])

/-! ### Talus (13) -/

/-- TALUS_SAMPLE, TALUS_COUNT, TAL_TRACK and TAL_CLEAR (R411 to R414, R416, R423): a numbered event counts in its row; a millisecond of uptime and of each region's bins
is kept at each sample; a unit is tracked while there is room; a clear empties the ledger in RAW and TEST_OPEN only.
TALUS_SCHEDULE, TAL_COMMIT, TALUS_COMMIT_START, TALUS_COMMIT_VERIFY and TAL_SNAP (R408, R409, R417, R418, R424): a commit takes the next generation's slot, past bad
ones, and the cause of highest priority; a failed read-back marks the slot and repeats in the next; at eight bad slots the store is spent. -/
def Obligations.Ledger : Prop :=
  (∀ (regs : List RegionRd) (s : State), s.rst.on = true → s.tal.sampleT + 2500000 ≤ s.clk → (∀ r, r < 32 → (s.cairn (0xBA0 + r)).powered = false) →
    s.tal.ms.all (fun e => decide (e.2 < 999)) = true →
    runs (.talusSample regs) s fun t =>
      t.tal.sampleT = s.tal.sampleT + 2500000 ∧ smGet 0 t.tal.ms 0x288 = smGet 0 s.tal.ms 0x288 + 1
      ∧ (∀ r, r < 32 → smGet 0 t.tal.ms (0x400 + 256 * r + 0xAC) = smGet 0 s.tal.ms (0x400 + 256 * r + 0xAC) + 1)
      ∧ t.tal.work = s.tal.work ∧ s.frame t [] [] [.tal])
  ∧ (∀ (regs : List RegionRd) (s : State), s.rst.on = true → s.tal.sampleT + 2500000 ≤ s.clk → smGet 0 s.tal.ms 0x288 = 999 →
    runs (.talusSample regs) s fun t =>
      smGet 0 t.tal.ms 0x288 = 0 ∧ smGet 0 t.tal.work.cnt 0x288 = min (smGet 0 s.tal.work.cnt 0x288 + 1) (2 ^ 64 - 1) ∧ s.frame t [] [] [.tal])
  ∧ (∀ (regs : List RegionRd) (s : State), s.clk < s.tal.sampleT + 2500000 → runs (.talusSample regs) s fun t => t = s)
  ∧ (∀ (n : NumEv) (rest : List NumEv) (i : FltInfo) (s : State), s.rst.on = true → s.f F.TAL_STAT_READY = 1 → s.tal.queue = n :: rest → n.ev.name = .fault → n.ev.flt = some i →
    0xBC0 ≤ n.ev.src → 1 ≤ i.cls → i.cls ≤ 3 → bit i.rflags 0 = false → i.page ≠ 0x12 → i.page ≠ 0x13 → i.page ≠ 0x14 →
    runs .talusCount s fun t =>
      t.tal = { s.tal with queue := rest, work := { s.tal.work with
        cnt := smSet 0 s.tal.work.cnt (0x100 + 4 * (i.cls - 1)) (min (smGet 0 s.tal.work.cnt (0x100 + 4 * (i.cls - 1)) + i.count) (2 ^ 32 - 1)) } }
      ∧ s.frame t [] [0xE] [.tal])
  ∧ (∀ (n : NumEv) (rest : List NumEv) (i : FltInfo) (s : State), s.rst.on = true → s.f F.TAL_STAT_READY = 1 → s.tal.queue = n :: rest → n.ev.name = .fault → n.ev.flt = some i →
    bit i.rflags 0 = true →
    runs .talusCount s fun t => t.tal = { s.tal with queue := rest } ∧ s.frame t [] [0xE] [.tal])
  ∧ (∀ (n : NumEv) (rest : List NumEv) (i : FltInfo) (s : State), s.rst.on = true → s.f F.TAL_STAT_READY = 1 → s.tal.queue = n :: rest → n.ev.name = .fault → n.ev.flt = some i →
    kindOf n.ev.src ≠ 0 → n.ev.src < 0xBC0 → i.cls = 2 → bit i.rflags 0 = false → i.page = 0xFF → s.tal.work.trk = [] →
    runs .talusCount s fun t =>
      smGet 0 t.tal.work.cnt (0x100 + 16 * kindOf n.ev.src + 4) = min (smGet 0 s.tal.work.cnt (0x100 + 16 * kindOf n.ev.src + 4) + i.count) (2 ^ 32 - 1)
      ∧ (∃ x ∈ t.tal.work.trk, x.id = n.ev.src ∧ x.uc = min i.count (2 ^ 32 - 1) ∧ x.ucBoots = 1 ∧ x.firstBoot = s.tal.work.boot
        ∧ x.lastSrc = i.bit + 256 * 0xFF ∧ x.lastStamp = n.ev.stamp)
      ∧ t.tal.queue = rest ∧ s.frame t [R.FLT_SVC_STAT, R.FLT_STAT, 0xC024] [0xE] [.intq, .tal])
  ∧ (∀ (m : Master) (v : Word) (s : State), s.ready m (some rtLedgerRead) R.TAL_TRACK = true → kindOf (v.toNat % 4096) ≠ 0 → s.tal.work.trk.length < 256 →
    (∀ x ∈ s.tal.work.trk, x.id ≠ v.toNat % 4096) →
    runs (.talTrack m v) s fun t =>
      (t.tal.work.trk.map (·.id)) = (s.tal.work.trk.map (·.id)) ++ [v.toNat % 4096] ∧ (∃ x ∈ t.tal.work.trk, x.id = v.toNat % 4096 ∧ x.pinned = true)
      ∧ s.frame t [R.FLT_SVC_STAT, R.FLT_STAT, 0xC024] [0xE] [.access, .intq, .tal])
  ∧ (∀ (m : Master) (v : Word) (s : State), s.ready m (some rtLedgerRead) R.TAL_CLEAR = true → v.toNat = 0xC1EA → s.lcs = 0 ∨ s.lcs = 2 →
    s.f F.TAL_STAT_SPENT = 0 →
    runs (.talClear m v) s fun t =>
      t.tal.work = { s.tal.work with cnt := [], trk := [], fences := [], watch := [], clearCnt := min (s.tal.work.clearCnt + 1) (2 ^ 32 - 1), clearBoot := s.tal.work.boot }
      ∧ t.tal.gen = s.tal.gen ∧ t.tal.held.contains 4 = true ∧ t.mram = s.mram
      ∧ (∃ e ∈ t.sum.intq, e.name = .ledgerClear ∧ e.src = 0x1008)
      ∧ s.frame t [R.FLT_SVC_STAT, R.FLT_STAT, 0xC024] [0xE] [.access, .intq, .tal])
  ∧ (∀ (m : Master) (v : Word) (s : State), s.ready m (some rtLedgerRead) R.TAL_CLEAR = true → v.toNat ≠ 0xC1EA ∨ (s.lcs ≠ 0 ∧ s.lcs ≠ 2) →
    runs (.talClear m v) s fun t => s.frame t [] [] [.access])
  ∧ (∀ s : State, s.rst.on = true → s.tal.nextDue ≤ s.clk → s.tal.nextDue ≠ 0 → s.f F.TAL_STAT_SPENT = 0 →
    runs .talusSchedule s fun t =>
      t.tal = { s.tal with nextDue := s.tal.nextDue + 2250000000000, held := if s.tal.held.contains 0 then s.tal.held else s.tal.held ++ [0] }
      ∧ s.frame t [] [0xE] [.tal])
  ∧ (∀ s : State, s.clk < s.tal.nextDue → runs .talusSchedule s fun t => t = s)
  ∧ (∀ (m : Master) (v : Word) (s : State), s.ready m (some rtLedgerRead) R.TAL_CTRL = true → bit v.toNat 0 = false → bit v.toNat 1 = true →
    s.f F.TAL_STAT_SPENT = 0 →
    runs (.talCommit m v) s fun t =>
      t.tal = { s.tal with held := if s.tal.held.contains 3 then s.tal.held else s.tal.held ++ [3] } ∧ t.f F.TAL_STAT_COMMIT_PEND = 1
      ∧ s.frame t [] [0xE] [.access, .tal])
  ∧ (∀ (m : Master) (v : Word) (s : State), s.ready m (some rtLedgerRead) R.TAL_CTRL = true → bit v.toNat 0 = true → bit v.toNat 1 = false →
    runs (.talSnap m v) s fun t =>
      (∃ i, t.tal.snap = some i ∧ i.gen = s.tal.gen ∧ i.led.cnt = s.tal.work.cnt ∧ i.led.trk = s.tal.work.trk ∧ i.led.boot = s.tal.work.boot ∧ i.led.bad = s.tal.work.bad)
      ∧ t.f F.TAL_STAT_SNAP_VALID = 1 ∧ t.tal.work = s.tal.work ∧ t.mram = s.mram ∧ s.frame t [] [0xE] [.access, .tal])
  ∧ (∀ (slot : Nat) (s : State), s.rst.on = true → s.softPending = false → s.tal.held ≠ [] → s.tal.commit = none →
    commitSlot (s.tal.gen + 1) s.tal.work.bad = some slot →
    let cause := if s.tal.held.contains 1 then 1 else if s.tal.held.contains 4 then 4 else if s.tal.held.contains 2 then 2 else if s.tal.held.contains 3 then 3 else 0
    runs .talusCommitStart s fun t =>
      (∃ c, t.tal.commit = some c ∧ c.numbered = false ∧ c.img.gen = s.tal.gen + 1 ∧ c.img.slot = slot ∧ c.img.cause = cause ∧ c.img.led.cnt = s.tal.work.cnt)
      ∧ t.tal.held = [] ∧ smGet none t.mram slot = none ∧ (∀ k, k < 8 → k ≠ slot → smGet none t.mram k = smGet none s.mram k)
      ∧ t.sum.intq = s.sum.intq ++ [s.ev .talusCommit 0x1008 [.w cause, .d (s.tal.gen + 1), .w slot, .w s.tal.work.boot]]
      ∧ s.frame t [] [0xE] [.intq, .tal, .mram])
  ∧ (∀ (gen bad : Nat), (bit bad (gen % 8) = false → commitSlot gen bad = some (gen % 8))
    ∧ (bad % 256 = 255 → commitSlot gen bad = none) ∧ (∀ k, commitSlot gen bad = some k → k < 8 ∧ bit bad k = false))
  ∧ (∀ (c : Commit) (s : State), s.rst.on = true → s.tal.commit = some c → c.numbered = true →
    runs (.talusCommitVerify true) s fun t =>
      smGet none t.mram c.img.slot = some c.img ∧ t.tal.commit = none ∧ t.tal.gen = c.img.gen ∧ t.rd64 R.TAL_COMMIT_T_LO = s.now % 2 ^ 64
      ∧ (s.tal.nextDue ≠ 0 → c.img.led.boot = s.tal.work.boot → s.f F.TAL_STAT_LOST = 0 → t.f F.TAL_STAT_BOOT_OK = 1) ∧ t.tal.work = s.tal.work
      ∧ s.frame t [] [0xE, 0x10, 0x110] [.tal, .mram])
  ∧ (∀ (c : Commit) (slot : Nat) (s : State), s.rst.on = true → s.tal.commit = some c → c.numbered = true →
    commitSlot (s.tal.gen + 1) (setBit s.tal.work.bad c.img.slot) = some slot →
    runs (.talusCommitVerify false) s fun t =>
      bit t.tal.work.bad c.img.slot = true ∧ (∃ d, t.tal.commit = some d ∧ d.numbered = false ∧ d.img.slot = slot ∧ d.img.cause = c.img.cause)
      ∧ bit (t.rd 0xE014) 2 = true ∧ t.tal.gen = s.tal.gen)
  ∧ (∀ (c : Commit) (s : State), s.rst.on = true → s.tal.commit = some c → c.numbered = true →
    commitSlot (s.tal.gen + 1) (setBit s.tal.work.bad c.img.slot) = none →
    runs (.talusCommitVerify false) s fun t =>
      t.tal.commit = none ∧ t.tal.held = [] ∧ t.f F.TAL_STAT_SPENT = 1 ∧ bit (t.rd 0xE014) 4 = true ∧ t.f F.TAL_STAT_PERSIST = 1)


/-! ### The life cycle and authorisation (14) -/

/-- OTP bits can only be set (R431): no step of the machine clears one, power failures and resumed transitions included. -/
def Obligations.OtpBitsAreOnlySet : Prop :=
  ∀ s t : State, step s = .next t → s.otp.kept t.otp ∧ bitsKept s.uid t.uid

/-- LCY_TRANSITION, LCY_PROVISION, CERT, RESPOND, CHALLENGE, DROP and AUTH_BUF_DATA (R434, R435, R437, R442, R447 to R450, R453): an object of the right form
is taken for verification; any other is refused with a code; a challenge is issued with its REQ; a drop ends the master's grants; the buffer holds what is written. -/
def Obligations.AuthRequests : Prop :=
  (∀ (m : Master) (v : Word) (s : State), s.ready m none R.LCY_CMD = true → v.toNat % 16 = 1 → obFormat (s.bufObj m) 1 = true → s.scrapped = false →
    s.auth.job = none → s.lcyBusy = false →
    runs (.lcyTransition m v) s fun t =>
      t.auth = { s.auth with job := some ⟨m, true, 1, s.bufObj m⟩ } ∧ t.f (resF true m F.AUTH_RESULT_STATUS) = 1 ∧ t.f (resF true m F.AUTH_RESULT_OP) = 1
      ∧ s.frame t [bk m R.LCY_RESULT] [] [.access, .auth])
  ∧ (∀ (m : Master) (v : Word) (s : State), s.ready m none R.LCY_CMD = true → v.toNat % 16 = 2 → obFormat (s.bufObj m) 4 = true → s.scrapped = false →
    s.auth.job = none → s.lcyBusy = false →
    runs (.lcyProvision m v) s fun t =>
      t.auth = { s.auth with job := some ⟨m, true, 2, s.bufObj m⟩ } ∧ t.f (resF true m F.AUTH_RESULT_STATUS) = 1
      ∧ s.frame t [bk m R.LCY_RESULT] [] [.access, .auth])
  ∧ (∀ (m : Master) (v : Word) (s : State), s.ready m none R.AUTH_CMD = true → v.toNat % 16 = 1 → obFormat (s.bufObj m) 2 = true → s.scrapped = false →
    s.auth.job = none → s.lcyBusy = false →
    runs (.cert m v) s fun t =>
      t.auth = { s.auth with job := some ⟨m, false, 1, s.bufObj m⟩ } ∧ t.f (resF false m F.AUTH_RESULT_STATUS) = 1
      ∧ s.frame t [bk m R.AUTH_RESULT] [] [.access, .auth])
  ∧ (∀ (m : Master) (v : Word) (s : State), s.ready m none R.AUTH_CMD = true → v.toNat % 16 = 3 → obFormat (s.bufObj m) 3 = true → s.scrapped = false →
    s.auth.job = none → s.lcyBusy = false →
    runs (.respond m v) s fun t =>
      t.auth = { s.auth with job := some ⟨m, false, 3, s.bufObj m⟩ } ∧ t.f (resF false m F.AUTH_RESULT_STATUS) = 1
      ∧ s.frame t [bk m R.AUTH_RESULT] [] [.access, .auth])
  ∧ (∀ (m : Master) (v : Word) (s : State), s.ready m none R.LCY_CMD = true → v.toNat % 16 = 1 →
    let f := obFormat (s.bufObj m) 1
    let code := if f = false then 1 else if s.scrapped = true then 14 else 11
    f = false ∨ s.scrapped = true ∨ s.auth.job.isSome = true ∨ s.lcyBusy = true →
    runs (.lcyTransition m v) s fun t =>
      t.f (resF true m F.AUTH_RESULT_STATUS) = 3 ∧ t.f (resF true m F.AUTH_RESULT_CODE) = code ∧ t.auth = s.auth
      ∧ t.f F.AUTH_REFUSE_CNT_CNT = min (s.f F.AUTH_REFUSE_CNT_CNT + 1) 65535
      ∧ (∃ e ∈ t.sum.intq, e.name = .authRefused ∧ e.src = 0x1007)
      ∧ s.frame t [bk m R.LCY_RESULT, R.AUTH_REFUSE_CNT, 0x10024] [] [.access, .intq])
  ∧ (∀ (m : Master) (v : Word) (s : State), s.ready m none R.AUTH_CMD = true → v.toNat % 16 = 2 → v.toNat / 2 ^ 24 % 8 ≠ 0 → s.lcyBusy = false →
    s.auth.trngOk = true → s.f F.LCY_STAT_STATE = 3 ∨ s.f F.LCY_STAT_STATE = 4 ∨ s.f F.LCY_STAT_STATE = 5 → s.f F.TAL_STAT_BOOT_OK = 1 → s.has m rtObserve = true →
    runs (.challenge m v) s fun t =>
      t.f (bkF m F.AUTH_CHAL_REQ_OUTSTANDING) = 1 ∧ t.f (bkF m F.AUTH_CHAL_REQ_REQ) = v.toNat / 2 ^ 24 % 8
      ∧ (match m with | .pass => t.auth.chalP | .host => t.auth.chalH) = s.clk ∧ t.f (resF false m F.AUTH_RESULT_STATUS) = 2
      ∧ t.sum.intq = s.sum.intq ++ [s.ev .challengeIssued 0x1007 [.w (mNum m), .w (v.toNat / 2 ^ 24 % 8 * 2 ^ 24)]]
      ∧ s.frame t ([bk m R.AUTH_RESULT, 0x10024] ++ chalRegs m) [] [.free, .access, .intq, .auth])
  ∧ (∀ (m : Master) (v : Word) (s : State), s.ready m none R.AUTH_CMD = true → v.toNat % 16 = 2 → v.toNat / 2 ^ 24 % 8 ≠ 0 → s.lcyBusy = false →
    s.auth.trngOk = true → s.f F.LCY_STAT_STATE < 3 →
    runs (.challenge m v) s fun t =>
      t.f (resF false m F.AUTH_RESULT_STATUS) = 3 ∧ t.f (resF false m F.AUTH_RESULT_CODE) = 6
      ∧ s.frame t [bk m R.AUTH_RESULT, R.AUTH_REFUSE_CNT, 0x10024] [] [.access, .intq])
  ∧ (∀ (m : Master) (v : Word) (s : State), s.ready m none R.AUTH_CMD = true → v.toNat % 16 = 4 → s.lcyBusy = false → s.scrapped = false →
    runs (.drop m v) s fun t =>
      t.rd (bk m R.AUTH_CERT) = 0 ∧ t.rd (bk m R.AUTH_JEX) = 0 ∧ t.f (bkF m F.AUTH_CHAL_REQ_OUTSTANDING) = 0
      ∧ (t.heldSet m = if s.heldOpen then s.baseOf (s.f F.LCY_STAT_STATE) m % 2 ^ 32 else 0)
      ∧ t.f (resF false m F.AUTH_RESULT_STATUS) = 2
      ∧ (∃ e, t.sum.intq = s.sum.intq ++ [e] ∧ e.name = .grantsEnded ∧ e.src = 0x1007)
      ∧ s.frame t ([bk m R.AUTH_RESULT, 0x10024] ++ grantRegs m ++ chalRegs m) [] [.access, .intq])
  ∧ (∀ (m : Master) (v : Word) (s : State), s.ready m none R.AUTH_BUF_DATA = true →
    runs (.authBufData m true v) s fun t =>
      smGet 0 (t.authBuf m) (s.f (bkF m F.AUTH_BUF_ADDR_ADDR)) = v
      ∧ t.f (bkF m F.AUTH_BUF_ADDR_ADDR) = (s.f (bkF m F.AUTH_BUF_ADDR_ADDR) + s.f (bkF m F.AUTH_BUF_ADDR_AUTOINC)) % 2048
      ∧ s.frame t [bk m R.AUTH_BUF_ADDR] [] [.access, .auth])
  ∧ (∀ (m : Master) (v : Word) (s : State), s.ready m none R.AUTH_BUF_DATA = true →
    runs (.authBufData m false v) s fun t =>
      (t.mst m).resp = ⟨codeOk, (smGet 0 (s.authBuf m) (s.f (bkF m F.AUTH_BUF_ADDR_ADDR))).toNat⟩ ∧ t.auth = s.auth
      ∧ t.f (bkF m F.AUTH_BUF_ADDR_ADDR) = (s.f (bkF m F.AUTH_BUF_ADDR_ADDR) + s.f (bkF m F.AUTH_BUF_ADDR_AUTOINC)) % 2048
      ∧ s.frame t [bk m R.AUTH_BUF_ADDR] [] [.access])

/-- AUTH_VERIFY_DONE, LCY_STEP_DONE, CHALLENGE_EXPIRY, TRNG_FAIL and TRNG_HEALTH_PASS (R435, R438 to R442, R447 to R449, R456): a sound object has its effect and any other is
refused; a step's fuses are written, its PM bit last, COMMIT is step 4 and the transition ends after step 8; a write that fails for good stalls it. -/
def Obligations.AuthEnds : Prop :=
  (∀ (j : AuthJob) (s : State), s.rst.on = true → s.heldSeq 3 = false → s.auth.job = some j → obKind j.obj = 4 → s.provCode j.obj = 0 → s.f F.LCY_STAT_STATE = 0 →
    obSigner j.obj = 0xFF →
    runs .authVerifyDone s fun t =>
      t.auth = { s.auth with job := none } ∧ t.otp.isWritten (provKey j.obj) = true
      ∧ t.fieldVal (provKey j.obj) = Nat.lor (s.fieldVal (provKey j.obj)) (provValue j.obj) ∧ t.f (resF j.lcy j.master F.AUTH_RESULT_STATUS) = 2
      ∧ t.otp.log = s.otp.log ∧ t.otp.consumed = s.otp.consumed
      ∧ t.sum.intq = s.sum.intq ++ [s.ev .provisioned 0x1007 [.w (obNat j.obj 0x30 1), .w (obNat j.obj 0x31 1)]]
      ∧ s.frame t [] [0xF, 0x10F, 0x10, 0x110] [.intq, .auth, .otp])
  ∧ (∀ (j : AuthJob) (s : State), s.rst.on = true → s.heldSeq 3 = false → s.auth.job = some j → obKind j.obj = 1 → s.transCode j.obj = 0 →
    runs .authVerifyDone s fun t =>
      t.auth.job = none ∧ t.otp = s.otp ∧ t.mem = s.mem ∧ t.mram = s.mram
      ∧ (s.sigCode j.obj = 0 → t.f F.LCY_STAT_IN_TRANSITION = 1 ∧ t.f F.LCY_STAT_TARGET = obNat j.obj 0x31 1 % 8
        ∧ t.auth.run = some ⟨s.f F.LCY_STAT_STATE, obNat j.obj 0x31 1, s.otp.counter, obNat j.obj 0x33 1, 1, false⟩
        ∧ t.heldSet .pass = 0 ∧ t.heldSet .host = 0 ∧ (∃ e ∈ t.sum.intq, e.name = .lcyStart ∧ e.src = 0x1007)
        ∧ (∀ x ∈ t.cen.jobs, x.done = true))
      ∧ (s.sigCode j.obj ≠ 0 → t.auth.run = s.auth.run ∧ t.f (resF j.lcy j.master F.AUTH_RESULT_STATUS) = 3
        ∧ t.f (resF j.lcy j.master F.AUTH_RESULT_CODE) = s.sigCode j.obj))
  ∧ (∀ (j : AuthJob) (s : State), s.rst.on = true → s.heldSeq 3 = false → s.auth.job = some j → obKind j.obj = 2 → s.certCode j.master j.obj = 0 →
    s.heldOpen = true →
    runs .authVerifyDone s fun t =>
      t.auth = { s.auth with job := none } ∧ t.otp = s.otp
      ∧ (s.sigCode j.obj = 0 → t.rd (bk j.master R.AUTH_CERT) = obNat j.obj 0x38 4 ∧ Nat.land (t.heldSet j.master) (obNat j.obj 0x38 4) = obNat j.obj 0x38 4
        ∧ t.rd64 (bk j.master R.AUTH_CERT_SER_LO) = obNat j.obj 0x30 8 ∧ (∃ e ∈ t.sum.intq, e.name = .certAccepted))
      ∧ (s.sigCode j.obj ≠ 0 → t.rd (bk j.master R.AUTH_CERT) = s.rd (bk j.master R.AUTH_CERT) ∧ t.f (resF j.lcy j.master F.AUTH_RESULT_STATUS) = 3)
      ∧ s.frame t ([R.AUTH_REFUSE_CNT, 0x10024, bk j.master R.AUTH_RESULT, bk j.master R.LCY_RESULT] ++ grantRegs j.master ++ chalRegs j.master) [] [.intq, .auth])
  ∧ (∀ (j : AuthJob) (s : State), s.rst.on = true → s.heldSeq 3 = false → s.auth.job = some j → obKind j.obj = 3 → s.jexCode j.master j.obj = 0 →
    runs .authVerifyDone s fun t =>
      t.auth = { s.auth with job := none } ∧ t.otp = s.otp
      ∧ (s.sigCode j.obj = 0 → t.rd (bk j.master R.AUTH_JEX) = Nat.lor (s.rd (bk j.master R.AUTH_JEX)) (obNat j.obj 0x50 4) % 2 ^ 32
        ∧ t.f (bkF j.master F.AUTH_CHAL_REQ_OUTSTANDING) = 0 ∧ (∃ e ∈ t.sum.intq, e.name = .jexGranted))
      ∧ (s.sigCode j.obj ≠ 0 → t.rd (bk j.master R.AUTH_JEX) = s.rd (bk j.master R.AUTH_JEX) ∧ t.f (resF j.lcy j.master F.AUTH_RESULT_STATUS) = 3)
      ∧ s.frame t ([R.AUTH_REFUSE_CNT, 0x10024, bk j.master R.AUTH_RESULT, bk j.master R.LCY_RESULT] ++ grantRegs j.master ++ chalRegs j.master) [] [.intq, .auth])
  ∧ (∀ (j : AuthJob) (s : State), s.rst.on = true → s.heldSeq 3 = false → s.auth.job = some j → s.objCode j ≠ 0 →
    runs .authVerifyDone s fun t =>
      t.f (resF j.lcy j.master F.AUTH_RESULT_STATUS) = 3 ∧ t.f (resF j.lcy j.master F.AUTH_RESULT_CODE) = s.objCode j % 256 ∧ t.otp = s.otp ∧ t.uid = s.uid
      ∧ t.auth = { s.auth with job := none } ∧ t.heldSet j.master = s.heldSet j.master)
  ∧ (∀ (r : LcyRun) (s : State), s.rst.on = true → s.heldSeq 3 = false → s.auth.run = some r → s.f F.LCY_STAT_STALLED = 0 → r.step < 7 → 1 ≤ r.step → r.to_ < 8 →
    runs (.lcyStepDone true) s fun t =>
      t.otp = s.otp.puts r r.writes ∧ bit (t.otp.slot r.slot).pm.vote (r.step - 1) = true
      ∧ t.auth.run = some { r with step := r.step + 1 } ∧ t.f F.LCY_STAT_STATE = t.otp.decide % 8
      ∧ (r.step = 4 → ∃ e ∈ t.sum.intq, e.name = .lcyCommit ∧ e.data = [.w r.slot, .w r.to_])
      ∧ (r.step = 2 → r.zeroes = true → t.auth.keysGone = true) ∧ (r.step = 2 → r.burns = true → t.otp.isConsumed r.token = true)
      ∧ t.mem = s.mem ∧ t.mram = s.mram)
  ∧ (∀ (r : LcyRun) (s : State), s.rst.on = true → s.heldSeq 3 = false → s.auth.run = some r → s.f F.LCY_STAT_STALLED = 0 → r.step = 8 →
    runs (.lcyStepDone true) s fun t =>
      t.auth.run = none ∧ t.f F.LCY_STAT_IN_TRANSITION = 0 ∧ (t.otp.slot r.slot).finished = true ∧ t.rd64 R.LCY_TIME_LO = s.now % 2 ^ 64
      ∧ (∃ e ∈ t.sum.intq, e.name = .lcyDone ∧ e.data = [.w r.from_, .w r.to_, .w t.otp.counter, .w (b2n r.resumed)]))
  ∧ (∀ (r : LcyRun) (s : State), s.rst.on = true → s.heldSeq 3 = false → s.auth.run = some r → s.f F.LCY_STAT_STALLED = 0 →
    runs (.lcyStepDone false) s fun t =>
      t.f F.LCY_STAT_STALLED = 1 ∧ bit (t.rd 0xF014) 1 = true ∧ t.otp = s.otp ∧ t.auth = s.auth ∧ s.frame t [R.LCY_STAT, 0xF010, 0xF014] [] [.intq])
  ∧ (∀ (m : Master) (s : State), s.rst.on = true → s.f (bkF m F.AUTH_CHAL_REQ_OUTSTANDING) = 1 →
    (match m with | .pass => s.auth.chalP | .host => s.auth.chalH) + 150000000000 ≤ s.clk →
    runs .challengeExpiry s fun t =>
      t.f (bkF m F.AUTH_CHAL_REQ_OUTSTANDING) = 0 ∧ (∀ k, k < 8 → t.rd (bk m (R.AUTH_CHAL k)) = 0) ∧ s.frame t (chalRegs .pass ++ chalRegs .host) [] [])
  ∧ (∀ s : State, s.rst.on = true → s.masked (s.rd 0x1001C) 0 2 = false →
    runs .trngFail s fun t =>
      t.auth = { s.auth with trngOk := false } ∧ bit (t.rd 0x10014) 0 = true ∧ (∃ e ∈ t.sum.intq, e.name = .fault ∧ e.src = 0x1007)
      ∧ s.frame t [0x10010, 0x10014] [] [.intq, .auth])
  ∧ (∀ s : State, s.rst.on = true → runs .trngHealthPass s fun t => t.auth = { s.auth with trngOk := true } ∧ s.frame t [] [] [.auth])

/-! ### Pass (15) -/

/-- KEEPALIVE, RESERVED_FRAME, ACK, FRAME_BAD, REG_REQ and TRIGGER_IN (R464 to R466, R468, R469): a frame with the FSEQ expected is accepted, any other is
answered with NAK and has no effect; an ACK frame takes no FSEQ; a REG_REQ carries its accesses out and answers each, or says BUSY or NO_RELAY; a port trigger
is a cut request of the Pass master, counted and raised with its outcome; a frame for a relayed hub is carried to it (R485). -/
def Obligations.PassFramesIn : Prop :=
  (∀ (x : Trailer) (n : Nat) (c : Instr) (s : State), s.hears x = true → c = .keepalive x ∨ c = .reservedFrame n x →
    runs c s fun t => s.accepted t x ∧ t.pass.sendq = s.pass.sendq ∧ t.sess = s.sess ∧ s.frame t [R.PASS_FRM_RX] [] [.pass])
  ∧ (∀ (x : Trailer) (s : State), s.rst.on = true → s.heldSeq 5 = false → s.sess = sessLanes → x.fseq ≠ s.pass.rxNext →
    runs (.keepalive x) s fun t => t.pass = { s.pass with nakDue := true } ∧ s.frame t [] [] [.pass])
  ∧ (∀ (x : Trailer) (s : State), s.rst.on = true → s.heldSeq 5 = false → s.sess = sessLanes →
    runs (.ack x) s fun t =>
      t.pass.unacked = (if x.ackOk then ackDrop x.ack s.pass.unacked else s.pass.unacked) ∧ (x.nak = true → t.pass.resend = 0)
      ∧ t.pass.rxNext = s.pass.rxNext ∧ t.pass.ackDue = s.pass.ackDue ∧ s.frame t [] [] [.pass])
  ∧ (∀ s : State, s.rst.on = true → s.heldSeq 5 = false → s.sess = sessLanes →
    (runs (.frameBad true) s fun t =>
      t.f F.PASS_CRC_ERR_CNT = min (s.f F.PASS_CRC_ERR_CNT + 1) 65535 ∧ bit (t.rd 0x11014) 0 = true ∧ t.pass = { s.pass with nakDue := true }
      ∧ s.frame t [R.PASS_CRC_ERR, 0x11010, 0x11014] [] [.intq, .pass])
    ∧ runs (.frameBad false) s fun t => t.pass = { s.pass with nakDue := true } ∧ s.frame t [] [] [.pass])
  ∧ (∀ (x : Trailer) (tag : Nat) (stop : Bool) (a v : Nat) (r : RegRow) (s : State),
    a ∈ [R.SUM_CWIN_TMO, R.RDG_EPOCH_INT, R.SCR_FLOW_EN 0, R.SCR_FLOW_EN 7, R.PASS_KA_TMO] → hubRow a = some r → r.banked = false → v < 2 ^ 32 →
    s.hears x = true → s.ready .pass (hubWrite (.mst .pass) a) a = true → s.pass.reqs = [] → s.pass.accWait = false →
    runs (.regReq tag stop [a + 2 ^ 20 + 2 ^ 32 * v] true 0 x) s fun t =>
      s.accepted t x ∧ Nat.land (t.rd a) r.mask = Nat.land v r.mask ∧ t.pass.reqs = []
      ∧ t.pass.sendq = s.pass.sendq ++ [⟨0x11, 3, s.ownDev, [tag % 256 + 256, 2 ^ 32 * codeOk], 0, 0⟩]
      ∧ s.frame t [a, R.PASS_FRM_RX] [] [.access, .pass])
  ∧ (∀ (x : Trailer) (tag dev : Nat) (stop : Bool) (ops : List Nat) (s : State), s.hears x = true →
    (4 ≤ s.pass.reqs.length → runs (.regReq tag stop ops true dev x) s fun t =>
      s.accepted t x ∧ t.pass.reqs = s.pass.reqs ∧ t.pass.sendq = s.pass.sendq ++ [⟨0x11, 3, s.ownDev, [tag % 256 + 2 ^ 16], 0, 0⟩]
      ∧ s.frame t [R.PASS_FRM_RX] [] [.pass])
    ∧ (dev ≠ s.ownDev → s.isLead = false → runs (.regReq tag stop ops false dev x) s fun t =>
      s.accepted t x ∧ t.pass.reqs = s.pass.reqs ∧ t.pass.sendq = s.pass.sendq ++ [⟨0x11, 3, dev, [tag % 256 + 2 ^ 17], 0, 0⟩]
      ∧ s.frame t [R.PASS_FRM_RX] [] [.pass]))
  ∧ (∀ (x : Trailer) (s : State), s.hears x = true → s.inReset = false → s.may (.mst .pass) (some rtHalt) = true →
    s.f F.SUM_CUT_CTRL_PORT_KIND = 0 → s.cutState = 0 → s.hasJob .resume = false → s.schedFull = false → s.stp.active = false →
    runs (.triggerIn false true 0 x) s fun t =>
      s.accepted t x ∧ t.f F.PASS_TRIG_IN_ACCEPTED = (s.f F.PASS_TRIG_IN_ACCEPTED + 1) % 65536 ∧ t.f F.PASS_TRIG_IN_REFUSED = s.f F.PASS_TRIG_IN_REFUSED
      ∧ t.cutState = 1 ∧ t.rd R.SUM_CUT_SRC = mSrc .pass ∧ s.ev .trigIn 0x1009 [.w 0, .w 0, .w 0] ∈ t.sum.intq
      ∧ s.frame t [R.PASS_FRM_RX, R.PASS_TRIG_IN, R.SUM_CUT_STAT, R.SUM_CUT_T_LO, R.SUM_CUT_T_HI, R.SUM_CUT_SRC, R.SUM_CUT_ACKS, 0x2024, 0x11024] []
        [.access, .intq, .tree, .cut, .pass])
  ∧ (∀ (x : Trailer) (s : State), s.hears x = true → s.inReset = false → s.may (.mst .pass) (some rtHalt) = false → s.f F.SUM_CUT_CTRL_PORT_KIND = 0 →
    runs (.triggerIn false true 0 x) s fun t =>
      s.accepted t x ∧ t.f F.PASS_TRIG_IN_REFUSED = (s.f F.PASS_TRIG_IN_REFUSED + 1) % 65536 ∧ t.f F.PASS_TRIG_IN_ACCEPTED = s.f F.PASS_TRIG_IN_ACCEPTED
      ∧ t.cutState = s.cutState ∧ t.cut = s.cut ∧ s.ev .trigIn 0x1009 [.w 0, .w 0, .w 2] ∈ t.sum.intq)
  ∧ (∀ (n : Nat) (x : Trailer) (s : State), s.hears x = true →
    (runs (.keepalive x) s fun t => s.accepted t x ∧ t.sess = s.sess ∧ s.frame t [R.PASS_FRM_RX] [] [.pass])
    ∧ runs (.reservedFrame n x) s fun t => s.accepted t x ∧ t.sess = s.sess ∧ s.frame t [R.PASS_FRM_RX] [] [.pass])
  ∧ (∀ (x : Trailer) (tag dev : Nat) (stop xdev : Bool) (ops : List Nat) (s : State), s.hears x = true → dev ≠ s.ownDev →
    (s.relays dev = true → runs (.regReq tag stop ops false dev x) s fun t =>
      s.accepted t x ∧ t.pass.reqs = s.pass.reqs ∧ t.pass.sendq = s.pass.sendq
      ∧ t.pass.carried = ⟨dev, 0x10, (tag % 256 + 256 * ops.length + 2 ^ 16 * b2n stop) :: ops⟩ :: s.pass.carried
      ∧ s.frame t [R.PASS_FRM_RX] [] [.pass])
    ∧ (s.relays dev = true → runs (.triggerIn xdev false dev x) s fun t =>
      s.accepted t x ∧ t.pass.carried = ⟨dev, 0x20, [b2n xdev]⟩ :: s.pass.carried ∧ s.frame t [R.PASS_FRM_RX] [] [.pass])
    ∧ (s.relays dev = false → runs (.triggerIn xdev false dev x) s fun t =>
      s.accepted t x ∧ t.pass.carried = s.pass.carried ∧ t.cut = s.cut ∧ s.frame t [R.PASS_FRM_RX] [] [.pass]))

/-- FRAME_SEND and RETRANSMIT_TIMEOUT (R466, R467): a frame to be sent again goes first, then the first of the new frames in the order of
R467 under the next FSEQ, then an acknowledgement that is due; the 16th retransmission of a frame ends the session. While the lanes train no frame leaves after
the HELLO_ACK (R474). -/
def Obligations.PassFramesOut : Prop :=
  (∀ s : State, s.rst.on = true → s.heldSeq 5 = false → s.sess = sessLanes → s.pass.train = none ∨ s.helloDue = true →
    s.pass.idle0 = false ∨ s.pass.idle1 = false →
    (∀ i f, s.sending = .again i f → f.retx < 15 →
      runs .frameSend s fun t =>
        t.f F.PASS_RETX_CNT = min (s.f F.PASS_RETX_CNT + 1) 65535 ∧ t.rd R.PASS_FRM_TX = (s.rd R.PASS_FRM_TX + 1) % 2 ^ 32
        ∧ t.pass = { s.pass with
          unacked := s.pass.unacked.set i { f with retx := f.retx + 1 }, resend := i + 1, lastTx := some { f with retx := f.retx + 1 }, ackDue := false,
          nakDue := false }
        ∧ s.frame t [R.PASS_RETX, R.PASS_FRM_TX] [] [.pass])
    ∧ (∀ i f, s.sending = .again i f → f.retx = 15 →
      runs .frameSend s fun t =>
        s.sessOver t 2 ∧ t.rd R.PASS_FRM_TX = (s.rd R.PASS_FRM_TX + 1) % 2 ^ 32
        ∧ s.frame t (sessRegs ++ [R.PASS_RETX, R.PASS_FRM_TX]) [8, 0xB] [.intq, .pass, .cou, .scr])
    ∧ (∀ f, s.sending = .fresh f →
      runs .frameSend s fun t =>
        t.rd R.PASS_FRM_TX = (s.rd R.PASS_FRM_TX + 1) % 2 ^ 32 ∧ t.pass.sendq = s.pass.sendq.erase f
        ∧ t.pass.unacked = s.pass.unacked ++ [{ f with fseq := s.pass.txNext }] ∧ t.pass.txNext = (s.pass.txNext + 1) % 65536
        ∧ t.pass.lastTx = some { f with fseq := s.pass.txNext } ∧ t.pass.ackDue = false ∧ t.pass.nakDue = false
        ∧ s.frame t [R.PASS_FRM_TX] [] [.pass])
    ∧ (s.sending = .ackOnly →
      runs .frameSend s fun t =>
        t.rd R.PASS_FRM_TX = (s.rd R.PASS_FRM_TX + 1) % 2 ^ 32 ∧ t.pass.ackDue = false ∧ t.pass.nakDue = false ∧ t.pass.txNext = s.pass.txNext
        ∧ t.pass.sendq = s.pass.sendq ∧ t.pass.unacked = s.pass.unacked ∧ s.frame t [R.PASS_FRM_TX] [] [.pass])
    ∧ (s.sending = .nothing → runs .frameSend s fun t => t = s))
  ∧ (∀ (s : State), s.pass.resend < s.pass.unacked.length → ∃ f, s.sending = .again s.pass.resend f ∧ s.pass.unacked[s.pass.resend]? = some f)
  ∧ (∀ (s : State) (f : Frame), s.sending = .fresh f → f ∈ s.pass.sendq ∧ s.pass.unacked.length < 64 ∧ ∀ g ∈ s.pass.sendq, f.cls ≤ g.cls)
  ∧ (∀ s : State, s.rst.on = true → s.heldSeq 5 = false → s.sess = sessLanes → s.pass.unacked ≠ [] → s.pass.progT + 250000 ≤ s.clk → s.pass.train = none →
    runs .retransmitTimeout s fun t => t.pass = { s.pass with resend := 0, progT := s.clk } ∧ s.frame t [] [] [.pass])
  ∧ (∀ s : State, s.clk < s.pass.progT + 250000 → runs .retransmitTimeout s fun t => t = s)
  ∧ (∀ (x : Nat × Nat × Nat) (s : State), s.pass.train = some x → s.helloDue = false → runs .frameSend s fun t => t = s)

/-- KEEPALIVE_SEND and KEEPALIVE_TIMEOUT (R476; R481): while no other frame is due, a quarter of PASS_KA_TMO after the last the hub sends KEEPALIVE; when
PASS_KA_TMO ms pass without an accepted frame, or PASS_ACC scan, the session ends with cause KEEPALIVE. -/
def Obligations.Keepalives : Prop :=
  (∀ s : State, s.rst.on = true → s.heldSeq 5 = false → s.sess = sessLanes → s.pass.sendq = [] → s.pass.kaT + s.kaTk / 4 ≤ s.clk →
    runs .keepaliveSend s fun t =>
      t.pass = { s.pass with
        kaT := s.clk,
        sendq := [⟨0x03, 2, s.ownDev,
          [b2n s.flt.fatal.isSome + 2 * b2n (s.rd R.FLT_SVC_STAT != 0) + 4 * s.f F.FLT_STAT_HB_RUN + 8 * s.lcs], 0, 0⟩] }
      ∧ s.frame t [] [] [.pass])
  ∧ (∀ s : State, s.clk < s.pass.kaT + s.kaTk / 4 ∨ s.pass.sendq ≠ [] → runs .keepaliveSend s fun t => t = s)
  ∧ (∀ s : State, s.rst.on = true → s.heldSeq 5 = false → s.sess = sessLanes ∨ s.sess = sessTap → s.pass.lastRx + s.kaTk ≤ s.clk →
    runs .keepaliveTimeout s fun t => s.sessOver t 1 ∧ s.frame t sessRegs [8, 0xB] [.intq, .pass, .cou, .scr])
  ∧ (∀ s : State, s.clk < s.pass.lastRx + s.kaTk → runs .keepaliveTimeout s fun t => t = s)
  ∧ (∀ s : State, 0 < s.f F.PASS_KA_TMO_MS → s.kaTk = 2500000 * s.f F.PASS_KA_TMO_MS)

/-- HELLO, BYE, LINK_LOSS, PORT_BUF_UC, RATE_TRAIN, LANE_LOST, BLOCK_LOCK_GAINED and TX_IDLE (R461, R466, R472 to R475, R477, R482, R490): a HELLO
opens a session, ending one that exists, or is refused with its reason; a session ends with its cause; training settles a rate and lanes. -/
def Obligations.PassSessions : Prop :=
  (∀ (rate lanes tool : Nat) (x : Trailer) (s : State), s.rst.on = true → s.heldSeq 5 = false → s.started = true → s.sess = sessNone ∨ s.sess = sessLanes →
    tool < 2 ^ 32 →
    let r := min (rate % 4) s.maxRate
    let l := Nat.land (lanes % 4) s.lanesOn
    runs (.hello 1 rate lanes tool x) s fun t =>
      t.sess = sessLanes ∧ t.f F.SUM_ARB_STAT_PASS_UP = 1 ∧ t.rd R.PASS_PEER = tool ∧ t.f F.PASS_STAT_SESSION_ID = s.pass.nextId % 65536
      ∧ t.rd64 R.PASS_SESSION_T_LO = s.now % 2 ^ 64 ∧ t.f F.PASS_STAT_RATE = 0 ∧ t.f F.PASS_STAT_LANES = 3 ∧ t.pass.rxNext = (x.fseq + 1) % 65536
      ∧ (r = 0 ∧ l = 3 → s.sess = sessLanes → t.f F.PASS_STAT_TRAINING = 0 ∧ t.pass.train = none)
      ∧ (r ≠ 0 ∨ l ≠ 3 → t.f F.PASS_STAT_TRAINING = 1 ∧ t.pass.train = some (r, l, 0))
      ∧ (∃ f, t.pass.sendq = [f] ∧ f.ftype = 0x02 ∧ (f.words.getD 0 0) / 2 ^ 16 % 64 = r % 4 + 4 * (l % 4))
      ∧ s.ev .sessionUp 0x1009 [.w sessLanes, .w s.pass.nextId, .w r, .w l, .w tool] ∈ t.sum.intq
      ∧ (s.sess = sessLanes → s.ev .sessionEnd 0x1009 [.w sessLanes, .w (s.f F.PASS_STAT_SESSION_ID), .w 3] ∈ t.sum.intq)
      ∧ s.frame t (sessRegs ++ [R.PASS_FRM_RX, R.PASS_PEER, R.PASS_SESSION_T_LO, R.PASS_SESSION_T_HI]) [8, 0xB] [.intq, .pass, .cou, .scr])
  ∧ (∀ (proto rate lanes tool : Nat) (x : Trailer) (s : State), s.rst.on = true → s.heldSeq 5 = false → tool < 2 ^ 32 →
    s.started = false ∨ s.sess = sessTap ∨ s.sess = sessRelay ∨ proto % 2 ^ 16 ≠ 1 →
    let st := if s.started = false ∨ s.sess = sessTap ∨ s.sess = sessRelay then 1 else 2
    runs (.hello proto rate lanes tool x) s fun t =>
      t.sess = s.sess ∧ (∃ f, t.pass.sendq = s.pass.sendq ++ [f] ∧ f.ftype = 0x02 ∧ (f.words.getD 0 0) / 2 ^ 20 % 4 = st)
      ∧ s.frame t [R.PASS_FRM_RX, R.PASS_PEER] [] [.pass])
  ∧ (∀ (x : Trailer) (s : State), s.hears x = true →
    runs (.bye x) s fun t => s.sessOver t 0 ∧ s.frame t (sessRegs ++ [R.PASS_FRM_RX]) [8, 0xB] [.intq, .pass, .cou, .scr])
  ∧ (∀ s : State, s.rst.on = true → s.heldSeq 5 = false → s.sess = sessLanes ∨ s.sess = sessTap →
    runs .portBufUc s fun t =>
      s.sessOver t 5 ∧ bit (t.rd 0x11014) 2 = true ∧ s.frame t (sessRegs ++ [0x11010, 0x11014]) [8, 0xB] [.intq, .pass, .cou, .scr, .free])
  ∧ (∀ s : State, s.rst.on = true → s.heldSeq 5 = false → s.sess = sessLanes → s.pass.train = none →
    runs .linkLoss s fun t =>
      s.sessOver t 2 ∧ t.pass.lock0 = false ∧ t.pass.lock1 = false ∧ s.frame t sessRegs [8, 0xB] [.intq, .pass, .cou, .scr])
  ∧ (∀ (r l st : Nat) (s : State), s.rst.on = true → s.heldSeq 5 = false → s.pass.train = some (r, l, st) → s.helloDue = false →
    (runs (.rateTrain true) s fun t =>
      t.f F.PASS_STAT_RATE = r % 4 ∧ t.f F.PASS_STAT_LANES = l % 4 ∧ t.f F.PASS_RATE_MBPS = payRate r l ∧ t.f F.PASS_STAT_TRAINING = 0
      ∧ t.pass.train = none ∧ t.pass.resend = 0 ∧ t.pass.idle0 = (!bit l 0) ∧ t.pass.idle1 = (!bit l 1) ∧ t.pass.lock0 = bit l 0 ∧ t.pass.lock1 = bit l 1
      ∧ t.sum.intq = s.sum.intq ++ [s.ev .rateChange 0x1009 [.w r, .w l, .w (if st = 0 then 0 else 1)]]
      ∧ s.frame t [R.PASS_STAT, R.PASS_RATE, 0x11024] [] [.intq, .pass])
    ∧ (st = 0 → runs (.rateTrain false) s fun t =>
        t.pass = { s.pass with train := some (0, 3, 1), idle0 := false, idle1 := false } ∧ s.frame t [] [] [.pass])
    ∧ (st ≠ 0 → runs (.rateTrain false) s fun t =>
        t.f F.PASS_STAT_RATE = 0 ∧ t.f F.PASS_STAT_LANES = 1 ∧ t.f F.PASS_STAT_TRAINING = 0 ∧ t.pass.train = none
        ∧ t.sum.intq = s.sum.intq ++ [s.ev .rateChange 0x1009 [.w 0, .w 1, .w 1]] ∧ s.frame t [R.PASS_STAT, R.PASS_RATE, 0x11024] [] [.intq, .pass]))
  ∧ (∀ (n : Nat) (s : State), s.rst.on = true → s.heldSeq 5 = false → n < 2 → s.sess = sessLanes → s.f F.PASS_STAT_LANES = 3 → s.pass.train = none →
    runs (.laneLost n) s fun t =>
      t.f F.PASS_STAT_LANES = 2 - n ∧ t.f F.PASS_STAT_RATE = s.f F.PASS_STAT_RATE ∧ t.f F.PASS_RATE_MBPS = payRate (s.f F.PASS_STAT_RATE) (2 - n)
      ∧ t.pass.resend = 0 ∧ bit (t.rd 0x11014) 1 = true ∧ (if n = 0 then t.pass.lock0 else t.pass.lock1) = false
      ∧ s.ev .rateChange 0x1009 [.w (s.f F.PASS_STAT_RATE), .w (2 - n), .w 2] ∈ t.sum.intq
      ∧ s.frame t [R.PASS_STAT, R.PASS_RATE, 0x11010, 0x11014, 0x11024] [] [.intq, .pass])
  ∧ (∀ (n : Nat) (s : State), s.rst.on = true → s.heldSeq 5 = false → n < 2 →
    (runs (.blockLockGained n) s fun t =>
      t.pass = (if n = 0 then { s.pass with lock0 := true } else { s.pass with lock1 := true }) ∧ s.frame t [] [] [.pass])
    ∧ (s.sess = sessNone → s.f F.PASS_CTRL_TX_IDLE_OFF = 1 → (if n = 0 then s.pass.lock0 else s.pass.lock1) = false →
      runs (.txIdle n true) s fun t =>
        t.pass = (if n = 0 then { s.pass with idle0 := true } else { s.pass with idle1 := true }) ∧ s.frame t [] [] [.pass])
    ∧ (s.sess ≠ sessNone → runs (.txIdle n true) s fun t => t = s)
    ∧ (s.sess = sessNone → runs (.txIdle n false) s fun t =>
        t.pass = (if n = 0 then { s.pass with idle0 := false } else { s.pass with idle1 := false }) ∧ s.frame t [] [] [.pass]))

/-- TAP_RESET, EXTEST, SAMPLE_PRELOAD, IDCODE, HIGHZ, CLAMP, BYPASS and PASS_ACC (R479 to R481; 16 R501): the instruction loaded acts, or BYPASS where the life cycle or
start-up holds it back; a scan with GO opens a TAP session and carries one access out; a scan that may not is refused and shows BUSY. -/
def Obligations.TapInstructions : Prop :=
  (∀ (c : Instr) (code : Nat) (s : State),
    (c, code) ∈ [(Instr.extest, 0x00), (.samplePreload, 0x01), (.idcode, 0x02), (.highz, 0x08), (.clamp, 0x09), (.bypass, 0x1F)] → s.rst.on = true →
    runs c s fun t =>
      t.pass = { s.pass with
        ir := if code = 0x02 ∨ (s.rdg.running = true ∧ (code = 0x01 ∨ code = 0x1F ∨ s.lcs = 0 ∨ s.lcs = 2 ∨ s.lcs = 5)) then code else 0x1F }
      ∧ (code = 0x02 → t.tapCapture = 0x10E3156D) ∧ s.frame t [] [] [.pass])
  ∧ (∀ s : State, s.rst.on = true →
    (s.sess ≠ sessTap → runs .tapReset s fun t => t.pass = { s.pass with ir := 0x02 } ∧ s.frame t [] [] [.pass])
    ∧ (s.sess = sessTap → runs .tapReset s fun t =>
      t.pass.ir = 0x02 ∧ s.sessOver t 6 ∧ s.frame t sessRegs [8, 0xB] [.intq, .pass, .cou, .scr]))
  ∧ (∀ (a v : Nat) (r : RegRow) (s : State), a ∈ [R.SUM_CWIN_TMO, R.RDG_EPOCH_INT, R.SCR_FLOW_EN 0, R.SCR_FLOW_EN 7, R.PASS_KA_TMO] → hubRow a = some r →
    r.banked = false → v < 2 ^ 32 → s.ready .pass (hubWrite (.mst .pass) a) a = true → s.heldSeq 5 = false → s.pass.reqs = [] →
    s.pass.accWait = false → s.sess = sessTap →
    runs (.passAcc (a + 2 ^ 20 + 2 ^ 21 + 2 ^ 32 * v)) s fun t =>
      Nat.land (t.rd a) r.mask = Nat.land v r.mask ∧ t.pass.accDone = true ∧ t.pass.accBusy = false ∧ t.pass.accCode = codeOk ∧ t.pass.lastRx = s.clk
      ∧ t.tapCapture = 2 ^ 36 ∧ s.frame t [a] [] [.access, .pass])
  ∧ (∀ (a v : Nat) (s : State), a ∈ [R.SUM_CWIN_TMO, R.RDG_EPOCH_INT, R.SCR_FLOW_EN 0, R.SCR_FLOW_EN 7, R.PASS_KA_TMO] → v < 2 ^ 32 → s.rst.on = true →
    s.started = true → s.heldSeq 5 = false → s.pass.accWait = false → s.sess = sessNone →
    (s.f F.PASS_CTRL_TAP_ACC_EN = 1 → runs (.passAcc (a + 2 ^ 20 + 2 ^ 21 + 2 ^ 32 * v)) s fun t =>
      t.sess = sessTap ∧ t.f F.SUM_ARB_STAT_PASS_UP = 1
      ∧ s.ev .sessionUp 0x1009 [.w sessTap, .w s.pass.nextId, .w 0, .w 0, .w (s.rd R.PASS_PEER)] ∈ t.sum.intq)
    ∧ (s.f F.PASS_CTRL_TAP_ACC_EN = 0 → runs (.passAcc (a + 2 ^ 20 + 2 ^ 21 + 2 ^ 32 * v)) s fun t =>
      t.pass = { s.pass with ir := 0x10, accBusy := true } ∧ s.frame t [] [] [.pass]))
  ∧ (∀ (v : Nat) (s : State), s.rst.on = true → s.sess = sessLanes → bit v 21 = true →
    runs (.passAcc v) s fun t => t.pass = { s.pass with ir := 0x10, accBusy := true } ∧ s.frame t [] [] [.pass])
  ∧ (∀ s : State, s.rst.on = true → s.rdg.running = true →
    let open3 : Bool := s.lcs == 0 || s.lcs == 2 || s.lcs == 5
    (runs .idcode s fun t => t.pass = { s.pass with ir := 0x02 } ∧ t.tapCapture = 0x10E3156D ∧ s.frame t [] [] [.pass])
    ∧ (runs .samplePreload s fun t => t.pass = { s.pass with ir := 0x01 } ∧ t.tapCapture = 0 ∧ s.frame t [] [] [.pass])
    ∧ (runs .bypass s fun t => t.pass = { s.pass with ir := 0x1F } ∧ t.tapCapture = 0 ∧ s.frame t [] [] [.pass])
    ∧ (runs .extest s fun t => t.pass = { s.pass with ir := if open3 then 0x00 else 0x1F } ∧ s.frame t [] [] [.pass])
    ∧ (runs .highz s fun t => t.pass = { s.pass with ir := if open3 then 0x08 else 0x1F } ∧ s.frame t [] [] [.pass])
    ∧ runs .clamp s fun t => t.pass = { s.pass with ir := if open3 then 0x09 else 0x1F } ∧ s.frame t [] [] [.pass])
  ∧ (∀ (v : Nat) (s : State), s.rst.on = true → bit v 21 = false → s.sess ≠ sessTap →
    runs (.passAcc v) s fun t => t.pass = { s.pass with ir := 0x10, accBusy := !s.started } ∧ s.frame t [] [] [.pass])

/-- LEAD_CLAIM, LEAD_DROP, DISCOVER, HUB_ANNOUNCE, DISCOVERY_TIMEOUT, MEMBER_TIMEOUT, HOKUING_LINKS_DOWN and _UP (R483, R484, R489): one hub is lead; the lead gives the
lowest free IDs, keeps the table, and says who joins and who leaves.
RELAY_OPEN, RELAY_CLOSE, RELAY_SESSION_OPEN, RELAY_KEEPALIVE and LEAD_LOST (R485, R486). -/
def Obligations.Fabric : Prop :=
  (∀ (m : Master) (v : Word) (lead : Bool) (rival : Nat) (s : State), s.ready m (some rtPort) R.PASS_FAB_CTRL = true → bit v.toNat 0 = true →
    bit v.toNat 1 = false → s.isLead = false →
    (s.sess = sessLanes → lead = false → rival = 0 ∨ s.uid ≤ rival → runs (.leadClaim m v lead rival) s fun t =>
      t.isLead = true ∧ t.f F.PASS_FAB_STAT_DISC_BUSY = 1 ∧ t.f F.PASS_FAB_STAT_CLAIM_REFUSED = 0 ∧ t.f F.SUM_DEV_ID_DEV_ID = 0 ∧ t.f F.SUM_DEV_ID_VALID = 1
      ∧ t.pass.discT = some s.clk
      ∧ t.sum.intq = s.sum.intq ++ [s.ev .leadChange 0x1009 [.w 0, .w (rival % 2 ^ 32)]]
      ∧ s.frame t [R.PASS_STAT, R.PASS_FAB_STAT, R.SUM_DEV_ID, 0x11024] [] [.access, .intq, .pass])
    ∧ (s.sess ≠ sessLanes ∨ lead = true ∨ (rival ≠ 0 ∧ rival < s.uid) → runs (.leadClaim m v lead rival) s fun t =>
      t.isLead = false ∧ t.f F.PASS_FAB_STAT_CLAIM_REFUSED = 1
      ∧ t.sum.intq = s.sum.intq ++ [s.ev .leadChange 0x1009 [.w 2, .w (rival % 2 ^ 32)]]
      ∧ s.frame t [R.PASS_FAB_STAT, 0x11024] [] [.access, .intq]))
  ∧ (∀ (m : Master) (v : Word) (s : State), s.ready m (some rtPort) R.PASS_FAB_CTRL = true → s.isLead = true →
    (v = 2 → runs (.leadDrop m v) s fun t =>
      t.isLead = false ∧ t.f F.PASS_FAB_STAT_DISC_BUSY = 0 ∧ t.f F.PASS_FAB_STAT_MEMBERS = 0 ∧ t.pass.members = [] ∧ t.pass.heldX = []
      ∧ t.sum.intq = s.sum.intq ++ [s.ev .leadChange 0x1009 [.w 1, .w 0]]
      ∧ s.frame t [R.PASS_STAT, R.PASS_FAB_STAT, 0x11024] [] [.access, .intq, .pass])
    ∧ (v = 4 → runs (.discover m v) s fun t =>
      t.f F.PASS_FAB_STAT_DISC_BUSY = 1 ∧ t.pass.discT = some s.clk ∧ t.pass.members = s.pass.members
      ∧ s.frame t [R.PASS_FAB_STAT] [] [.access, .pass]))
  ∧ (∀ (m : Master) (s : State), s.ready m (some rtPort) R.PASS_FAB_CTRL = true → s.isLead = false →
    (runs (.leadDrop m 2) s fun t => s.frame t [] [] [.access]) ∧ runs (.discover m 4) s fun t => s.frame t [] [] [.access])
  ∧ (∀ (uid dev status d : Nat) (s : State), s.rst.on = true → s.heldSeq 5 = false → s.isLead = true → uid ≠ s.uid → s.pass.first = false →
    s.devOf uid = none → s.freeDev = some d → s.member d = none →
    runs (.hubAnnounce uid dev status) s fun t =>
      t.member d = some ⟨uid, true, false, status, s.clk⟩ ∧ (∀ j, j ≠ d → t.member j = s.member j)
      ∧ t.sum.intq = s.sum.intq ++ [s.ev .hubJoined 0x1009 [.w d, .w (uid % 2 ^ 32)]]
      ∧ s.frame t [R.PASS_FAB_STAT, 0x11024] [] [.intq, .pass])
  ∧ (∀ (uid dev status : Nat) (s : State), s.rst.on = true → s.heldSeq 5 = false → s.isLead = false → dev < 4096 →
    (uid = s.uid → runs (.hubAnnounce uid dev status) s fun t =>
      t.f F.SUM_DEV_ID_DEV_ID = dev ∧ t.f F.SUM_DEV_ID_VALID = 1 ∧ s.frame t [R.SUM_DEV_ID] [] [])
    ∧ (uid ≠ s.uid → runs (.hubAnnounce uid dev status) s fun t => t = s))
  ∧ (∀ (c0 : Nat) (s : State), s.rst.on = true → s.heldSeq 5 = false → s.isLead = true → s.pass.discT = some c0 → c0 + 25000000 ≤ s.clk → s.pass.found = [] →
    runs .discoveryTimeout s fun t =>
      t.f F.PASS_FAB_STAT_DISC_BUSY = 0 ∧ t.pass = { s.pass with first := false, found := [], fresh := 0, discT := none }
      ∧ (∃ e, t.sum.intq = s.sum.intq ++ [e] ∧ e.name = .discoveryDone ∧ e.src = 0x1009 ∧ e.stamp = s.now)
      ∧ s.frame t [R.PASS_FAB_STAT, 0x11024] [] [.intq, .pass])
  ∧ (∀ (c0 uid status d : Nat) (s : State), s.rst.on = true → s.heldSeq 5 = false → s.isLead = true → s.pass.discT = some c0 → c0 + 25000000 ≤ s.clk → s.pass.found = [(uid, status)] →
    s.devOf uid = none → s.freeDev = some d → s.member d = none →
    runs .discoveryTimeout s fun t =>
      t.member d = some ⟨uid, true, false, status, s.clk⟩ ∧ t.pass.first = false ∧ s.ev .hubJoined 0x1009 [.w d, .w (uid % 2 ^ 32)] ∈ t.sum.intq
      ∧ s.frame t [R.PASS_FAB_STAT, 0x11024] [] [.intq, .pass])
  ∧ (∀ (c0 : Nat) (s : State), s.pass.discT = some c0 → s.clk < c0 + 25000000 → runs .discoveryTimeout s fun t => t = s)
  ∧ (∀ (dev : Nat) (m : Member) (s : State), s.rst.on = true → s.heldSeq 5 = false → s.isLead = true → dev ≠ 0 → s.member dev = some m → m.present = true →
    (m.lastT + s.kaTk ≤ s.clk → runs (.memberTimeout dev) s fun t =>
      t.member dev = some { m with present := false, relay := false } ∧ (∀ j, j ≠ dev → t.member j = s.member j)
      ∧ t.sum.intq = s.sum.intq ++ [s.ev .hubLeft 0x1009 [.w dev, .w 0]] ∧ s.frame t [R.PASS_FAB_STAT, 0x11024] [] [.intq, .pass])
    ∧ (s.clk < m.lastT + s.kaTk → runs (.memberTimeout dev) s fun t => t = s)
    ∧ runs (.hokuingLinksDown dev) s fun t =>
      t.member dev = some { m with present := false, relay := false } ∧ (∀ j, j ≠ dev → t.member j = s.member j)
      ∧ t.sum.intq = s.sum.intq ++ [s.ev .hubLeft 0x1009 [.w dev, .w 1]] ∧ s.frame t [R.PASS_FAB_STAT, 0x11024] [] [.intq, .pass])
  ∧ (∀ s : State, s.rst.on = true → s.heldSeq 5 = false → s.isLead = true → s.f F.SUM_DEV_ID_VALID = 0 → s.pass.heldX = [] →
    runs .hokuingLinksUp s fun t =>
      t.f F.SUM_DEV_ID_VALID = 1 ∧ t.f F.SUM_DEV_ID_DEV_ID = 0 ∧ t.f F.PASS_FAB_STAT_DISC_BUSY = 1 ∧ t.pass.discT = some s.clk
      ∧ t.sum.intq = s.sum.intq ∧ s.frame t [R.PASS_FAB_STAT, R.SUM_DEV_ID] [] [.pass])
  ∧ (∀ s : State, s.isLead = false ∨ s.f F.SUM_DEV_ID_VALID = 1 → runs .hokuingLinksUp s fun t => t = s)
  ∧ (∀ (x : Trailer) (dev share : Nat) (m : Member) (ok busy : List Nat) (s : State), s.hears x = true → s.isLead = true → 0 < dev → dev < 4096 →
    s.member dev = some m → m.present = true → busy.contains dev = false →
    runs (.relayOpen dev false share ok busy x) s fun t =>
      s.accepted t x
      ∧ t.pass.sendq = s.pass.sendq ++ [⟨0x41, 2, s.ownDev, [dev + 2 ^ 12 * (if ok.contains dev then 0 else 3)], 0, 0⟩]
      ∧ t.member dev = some (if ok.contains dev then { m with relay := true } else m) ∧ (∀ j, j ≠ dev → t.member j = s.member j)
      ∧ t.pass.carried = ⟨dev, 0x40, [dev + 2 ^ 32 * (share % 2 ^ 32)]⟩ :: s.pass.carried
      ∧ s.frame t [R.PASS_FRM_RX, R.PASS_FAB_STAT] [] [.pass])
  ∧ (∀ (x : Trailer) (dev share : Nat) (ok busy : List Nat) (s : State), s.hears x = true → dev < 4096 → s.isLead = false ∨ s.member dev = none ∨ dev = 0 →
    runs (.relayOpen dev false share ok busy x) s fun t =>
      s.accepted t x ∧ t.pass.sendq = s.pass.sendq ++ [⟨0x41, 2, s.ownDev, [dev + 2 ^ 12 * 2], 0, 0⟩]
      ∧ t.pass.members = s.pass.members ∧ t.pass.carried = s.pass.carried ∧ s.frame t [R.PASS_FRM_RX] [] [.pass])
  ∧ (∀ (x : Trailer) (dev : Nat) (m : Member) (s : State), s.hears x = true → dev < 4096 → s.member dev = some m →
    runs (.relayClose dev false x) s fun t =>
      s.accepted t x ∧ t.member dev = some { m with relay := false } ∧ (∀ j, j ≠ dev → t.member j = s.member j)
      ∧ t.pass.carried = (if s.relays dev then [⟨dev, 0x42, [dev]⟩] else []) ++ s.pass.carried
      ∧ s.frame t [R.PASS_FRM_RX, R.PASS_FAB_STAT] [] [.pass])
  ∧ (∀ (x : Trailer) (dev : Nat) (s : State), s.rst.on = true → s.heldSeq 5 = false → s.sess = sessRelay →
    runs (.relayClose dev true x) s fun t => s.sessOver t 7 ∧ s.frame t (sessRegs ++ [R.PASS_FRM_RX]) [8, 0xB] [.intq, .pass, .cou, .scr])
  ∧ (∀ (share : Nat) (s : State), s.rst.on = true → s.heldSeq 5 = false → s.started = true →
    (s.sess = sessNone → runs (.relaySessionOpen share) s fun t =>
      t.sess = sessRelay ∧ t.f F.SUM_ARB_STAT_PASS_UP = 1 ∧ t.f F.PASS_RATE_MBPS = share % 2 ^ 24 ∧ t.f F.PASS_STAT_SESSION_ID = s.pass.nextId % 65536
      ∧ t.sum.intq = s.sum.intq ++ [s.ev .sessionUp 0x1009 [.w sessRelay, .w s.pass.nextId, .w 0, .w 0, .w (s.rd R.PASS_PEER)]]
      ∧ s.frame t ([R.PASS_STAT, R.PASS_RATE, R.PASS_SESSION_T_LO, R.PASS_SESSION_T_HI, R.SUM_ARB_STAT, 0x11024] ++ heldRegs) [] [.intq, .pass])
    ∧ (s.sess ≠ sessNone → runs (.relaySessionOpen share) s fun t => t = s))
  ∧ (∀ s : State, s.rst.on = true → s.heldSeq 5 = false → s.sess = sessRelay →
    (runs .relayKeepalive s fun t => t.pass = { s.pass with lastRx := s.clk } ∧ s.frame t [] [] [.pass])
    ∧ (s.pass.lastRx + s.kaTk ≤ s.clk → runs .leadLost s fun t => s.sessOver t 8 ∧ s.frame t sessRegs [8, 0xB] [.intq, .pass, .cou, .scr])
    ∧ (s.clk < s.pass.lastRx + s.kaTk → runs .leadLost s fun t => t = s))
  ∧ (∀ (uid dev status : Nat) (c0 : Nat) (s : State), s.rst.on = true → s.heldSeq 5 = false → s.isLead = true → uid ≠ s.uid → s.pass.first = true →
    s.pass.discT = some c0 → s.devOf uid = none →
    runs (.hubAnnounce uid dev status) s fun t =>
      t.pass = { s.pass with found := (s.pass.found.filter fun e => e.1 != uid) ++ [(uid, status)] } ∧ s.frame t [] [] [.pass])


/-! ### Power, start-up and resets (16) -/

/-- VDD_HUB_POWER_UP, VDD_HUB_LOSS, PLL_LOCK and STARTUP_PHASE_DONE (R491, R492, R501, R502, R505): power-up leaves the reset state but for what outlasts it; the PLL
starts the counter at 0; the phases follow one another, each when what it waits for has come, and HUB_READY ends them. -/
def Obligations.PowerAndStartUp : Prop :=
  (∀ s : State,
    (s.rst.on = false → runs .vddHubPowerUp s fun t =>
      t = { State.reset with pending := s.pending, free := s.free, otp := s.otp, uid := s.uid, mram := s.mram, gran := s.gran, doms := s.doms })
    ∧ (s.rst.on = true → runs .vddHubPowerUp s fun t => t = s))
  ∧ (∀ (d k : Nat) (s : State),
    (s.rst.on = true → runs (.vddHubLoss d k) s fun t =>
      t.rst.on = false ∧ t.mram = s.mram ∧ t.gran = s.gran ∧ t.doms = s.doms ∧ t.regs = resetRegs ∧ t.cairns = [] ∧ t.mem = []
      ∧ (s.auth.run = none ∧ s.auth.job = none ∨ s.auth.run.isSome = true ∧ s.f F.LCY_STAT_STALLED = 1 → t.otp = s.otp)
      ∧ (s.auth.run.isSome = true ∨ s.auth.job = none → t.uid = s.uid) ∧ bitsKept s.uid t.uid ∧ s.otp.kept t.otp)
    ∧ (s.rst.on = false → runs (.vddHubLoss d k) s fun t => t = s))
  ∧ (∀ s : State, s.rst.on = true →
    (s.f F.SUM_START_STAT_PHASE = 0 → runs .pllLock s fun t =>
      t.rdg = { s.rdg with running := true, now := 0, raw := 0 } ∧ t.f F.RDG_STAT_LOCKED = 1 ∧ t.f F.SUM_START_STAT_PHASE = 1
      ∧ s.frame t [R.SUM_START_STAT, R.RDG_STAT] [] [.rdg])
    ∧ (s.f F.SUM_START_STAT_PHASE ≠ 0 → runs .pllLock s fun t => t = s))
  ∧ (∀ (a b : Bool) (uc : List Nat) (s : State), s.rst.on = true →
    (s.f F.SUM_START_STAT_PHASE = 0 ∨ s.f F.SUM_START_STAT_PHASE = 6 → runs (.startupPhaseDone a b uc) s fun t => t = s)
    ∧ (s.f F.SUM_START_STAT_PHASE = 1 → runs (.startupPhaseDone a b uc) s fun t =>
      t.f F.SUM_START_STAT_PHASE = 2 ∧ t.pass = { s.pass with idle0 := false, idle1 := false } ∧ s.frame t [R.SUM_START_STAT] [] [.pass])
    ∧ (s.f F.SUM_START_STAT_PHASE = 2 → runs (.startupPhaseDone a b uc) s fun t =>
      t.f F.SUM_START_STAT_PHASE = 3 ∧ t.f F.LCY_STAT_STATE = s.otp.decide % 8 ∧ (s.otp.decide % 8 = 7 → t.f F.SUM_START_STAT_LCY_INVALID = 1)
      ∧ (s.otp.decide % 8 = 7 → t.f F.LCY_STAT_DECIDED = 1) ∧ s.frame t [R.SUM_START_STAT] [0xF, 0x10, 0x110] [.intq, .auth])
    ∧ (s.f F.SUM_START_STAT_PHASE = 3 → runs (.startupPhaseDone a b uc) s fun t =>
      t.f F.SUM_START_STAT_PHASE = 4 ∧ t.f F.RDG_STAT_CAL_DONE = 1 ∧ t.f F.SUM_ENUM_HALF0_CNT = s.upIn 0 % 4096 ∧ t.f F.SUM_ENUM_HALF1_CNT = s.upIn 1 % 4096
      ∧ (a = false → t.spur 0 = 2 ∧ t.f F.SUM_START_STAT_SPUR0_FAIL = 1) ∧ (b = false → t.spur 1 = 2 ∧ t.f F.SUM_START_STAT_SPUR1_FAIL = 1)
      ∧ t.f F.TAL_STAT_READY = 1 ∧ t.uid = s.uid ∧ s.otp.kept t.otp)
    ∧ (s.f F.SUM_START_STAT_PHASE = 4 → s.auth.run = none ∨ s.f F.LCY_STAT_STALLED = 1 → runs (.startupPhaseDone a b uc) s fun t =>
      t.f F.SUM_START_STAT_PHASE = 5 ∧ t.tal.work.boot = min (s.tal.work.boot + 1) (2 ^ 32 - 1) ∧ t.otp = s.otp ∧ t.mram = s.mram)
    ∧ (s.f F.SUM_START_STAT_PHASE = 4 → s.auth.run.isSome = true → s.f F.LCY_STAT_STALLED ≠ 1 → runs (.startupPhaseDone a b uc) s fun t => t = s)
    ∧ (s.f F.SUM_START_STAT_PHASE = 5 → s.tal.commit = none → s.tal.held = [] → runs (.startupPhaseDone a b uc) s fun t =>
      t.f F.SUM_START_STAT_PHASE = 6 ∧ t.rd R.SUM_START_T = s.now % 2 ^ 32 ∧ t.f F.SUM_PSTATE_STATE = 1
      ∧ (s.f F.FLT_STAT_FATAL_N = 0 → t.f F.FLT_STAT_HB_RUN = 1) ∧ t.flt.hbNext = s.clk + 1250000
      ∧ t.sum.intq = s.sum.intq ++ [s.ev .hubReady 0x1000 [.w (s.now % 2 ^ 32), .w (t.rd R.SUM_START_STAT)]]
      ∧ s.frame t ([R.SUM_START_STAT, R.SUM_START_T, R.SUM_PSTATE, R.FLT_STAT, 0x24] ++ heldRegs) [] [.intq, .flt])
    ∧ (s.f F.SUM_START_STAT_PHASE = 5 → s.tal.commit.isSome = true ∨ s.tal.held ≠ [] → runs (.startupPhaseDone a b uc) s fun t => t = s))

/-- SOFT_RESET_REQUEST (R493): SOFT with the KEY requests it, under HALT; the write completes OK, and so does any other, which is ignored; from then on every access
of either master completes with RESET, and a further request is ignored; the Pass session has ended (R477). -/
def Obligations.SoftResetRequests : Prop :=
  (∀ (m : Master) (v : Word) (s : State), s.ready m (some rtHalt) R.SUM_RST_CMD = true → bit v.toNat 0 = true → v.toNat / 65536 = 0x51A5 →
    s.softPending = false → s.sess = sessNone → s.sum.aps = [] → s.sum.held = [] →
    runs (.softResetRequest m v) s fun t =>
      t.softPending = true ∧ t.f F.SUM_RST_STAT_SOFT_MASTER = mNum m ∧ t.rst = { s.rst with soft := some ⟨m, s.clk, s.otpStep, false⟩ }
      ∧ (t.mst m).resp = ⟨codeOk, 0⟩ ∧ s.frame t [R.SUM_RST_STAT] [] [.access, .rst])
  ∧ (∀ (m : Master) (v : Word) (s : State), s.ready m (some rtHalt) R.SUM_RST_CMD = true → bit v.toNat 0 = true → v.toNat / 65536 = 0x51A5 →
    s.softPending = false → s.sess ≠ sessNone → s.sum.aps = [] → s.sum.held = [] →
    runs (.softResetRequest m v) s fun t =>
      t.softPending = true ∧ s.sessOver t 4 ∧ (t.mst m).resp = ⟨codeOk, 0⟩
      ∧ s.frame t (R.SUM_RST_STAT :: sessRegs) [8, 0xB] [.intq, .access, .pass, .cou, .scr, .rst])
  ∧ (∀ (m : Master) (v : Word) (s : State), s.ready m (some rtHalt) R.SUM_RST_CMD = true → bit v.toNat 0 = false ∨ v.toNat / 65536 ≠ 0x51A5 →
    runs (.softResetRequest m v) s fun t => (t.mst m).resp = ⟨codeOk, 0⟩ ∧ s.frame t [] [] [.access])
  ∧ (∀ (m : Master) (v : Word) (s : State), s.ready m none R.SUM_RST_CMD = true → s.may (.mst m) (some rtHalt) = false →
    runs (.softResetRequest m v) s fun t =>
      (t.mst m).resp = ⟨codeRights, 0⟩ ∧ s.frame t [bk m R.SUM_ERR, bk m R.SUM_ERR_ADDR, 0x10024] [] [.access, .intq])
  ∧ (∀ (m : Master) (a v : Nat) (s : State), s.rst.on = true → s.softPending = true → s.apsOf m = [] → s.sum.held.any (fun y => y.master == m) = false →
    a < 2 ^ 20 → a % 4 = 0 →
    (runs (.registerRead m a 4) s fun t => (t.mst m).resp = ⟨codeReset, 0⟩)
    ∧ runs (.registerWrite m a 4 v) s fun t => (t.mst m).resp = ⟨codeReset, 0⟩)
  ∧ (∀ (m : Master) (v : Word) (s : State), s.rst.on = true → s.softPending = true → s.apsOf m = [] → s.sum.held.any (fun y => y.master == m) = false →
    runs (.softResetRequest m v) s fun t => t.rst = s.rst ∧ t.softPending = true ∧ (t.mst m).resp = ⟨codeReset, 0⟩)
  ∧ (∀ (m : Master) (v : Word) (s : State), s.ready m (some rtHalt) R.SUM_RST_CMD = true → bit v.toNat 0 = true → v.toNat / 65536 = 0x51A5 →
    s.softPending = false → s.sess = sessNone →
    runs (.softResetRequest m v) s fun t =>
      t.softPending = true ∧ (t.mst m).resp = ⟨codeOk, 0⟩ ∧ t.sum.held = [] ∧ t.sum.aps = []
      ∧ (s.apsOf (otherMst m) ≠ [] ∨ s.sum.held ≠ [] → (t.mst (otherMst m)).resp = ⟨codeReset, 0⟩))

/-- SOFT_RESET_APPLY and SOFT_RESET_DONE (R495 to R498): at W, once no commit, fuse write or header write is under way, the parts of R495 are at reset and every unit
runs; what R495 keeps stands; after the re-check of the Spurs SOFT_PENDING clears. -/
def Obligations.SoftReset : Prop :=
  (∀ (r : SoftRun) (s : State), s.rst.on = true → s.rst.soft = some r → r.applied = false → s.softReady r = true →
    runs .softResetApply s fun t =>
      t.f F.SUM_RST_STAT_LAST = 2 ∧ t.f F.SUM_SOFT_WAIT_W = (s.clk - r.t0) % 2 ^ 24
      ∧ (∃ e ∈ t.sum.intq, e.name = .softReset ∧ e.src = 0x1000 ∧ e.data = [.w (mNum r.master), .w (s.clk - r.t0), .w (s.rd R.SUM_TOPO_STAT)])
      ∧ t.sess = sessNone ∧ t.excl = false ∧ t.cutState = 0 ∧ t.f F.SUM_STEP_STAT_STATE = 0 ∧ t.cou.drain = none ∧ t.scr.drain = none
      ∧ t.f F.CRS_CTRL_RUN = 0 ∧ (∀ e, e < 4 → t.engState e = 0) ∧ t.cen.jobs = [] ∧ t.trMask = 0 ∧ t.auth.job = none ∧ t.auth.run = none
      ∧ (∀ id, (s.cairn id).powered = true → (t.cairn id).f CF.CUT_STAT_STATE = 0 ∧ (t.cairn id).acts = [])
      ∧ t.rst = { s.rst with soft := some { r with applied := true } }
      ∧ t.scr.nextNo = s.scr.nextNo ∧ t.prb.pm = s.prb.pm ∧ (s.cut.held = [] → t.mem = s.mem) ∧ t.retain = s.retain ∧ t.otp = s.otp ∧ t.uid = s.uid ∧ t.mram = s.mram
      ∧ t.rdg.now = s.rdg.now ∧ t.rd R.SUM_SEQ_NEXT = s.rd R.SUM_SEQ_NEXT)
  ∧ (∀ s : State, (∀ r, s.rst.soft = some r → r.applied = true ∨ s.softReady r = false) → runs .softResetApply s fun t => t = s)
  ∧ (∀ (a b : Bool) (r : SoftRun) (s : State), s.rst.on = true → s.rst.soft = some r → r.applied = true →
    runs (.softResetDone a b) s fun t =>
      t.softPending = false ∧ t.rst = { s.rst with soft := none } ∧ (a = true → b = true → t.spur 0 = 0 ∧ t.spur 1 = 0)
      ∧ (a = false → t.spur 0 = 2) ∧ (b = false → t.spur 1 = 2) ∧ t.f F.LCY_STAT_STATE = s.otp.decide % 8
      ∧ t.cou.cur = none ∧ t.otp = s.otp ∧ t.mram = s.mram)
  ∧ (∀ (a b : Bool) (s : State), (∀ r, s.rst.soft = some r → r.applied = false) → runs (.softResetDone a b) s fun t => t = s)

/-- CHIP_WARM_RESET, BMU_READY and HUB_IDLE (R494, R499, R500, R504, R513): every unit is down, its jobs and the cut end, WARM_RESET leads the events, and what
the hub holds of its own stands; WARM_DONE follows when the BMUs and the last unit are back; the hub idles 250,000 tk after nothing keeps it. -/
def Obligations.WarmResetAndIdle : Prop :=
  (∀ s : State, s.rst.on = true →
    runs .chipWarmReset s fun t =>
      t.f F.SUM_RST_STAT_LAST = 1 ∧ t.f F.SUM_RST_STAT_WARM_ACTIVE = 1 ∧ t.f F.SUM_RST_STAT_BOTH = s.f F.SUM_RST_STAT_SOFT_PENDING
      ∧ t.rd64 R.SUM_WARM_T_LO = s.now % 2 ^ 64 ∧ (∀ id, (t.cairn id).powered = false)
      ∧ (∀ id, (s.cairn id).powered = true → t.rst.warmWait.contains id = true) ∧ t.rst.bmuWait = true
      ∧ t.f F.RDG_LEAF_VALID_HALF0 = 0 ∧ t.f F.RDG_LEAF_VALID_HALF1 = 0 ∧ t.cutState = 0 ∧ t.f F.SUM_STEP_STAT_STATE = 0 ∧ t.cou.cur = none
      ∧ (∀ j ∈ t.cen.jobs, j.done = true) ∧ (∀ m, t.rd (bk m R.AUTH_JEX) = 0) ∧ t.f F.CRS_STAT_SA_PENDING = 0
      ∧ (∀ e, e < 4 → s.f (F.PRB_CTRL_WRST e) = 0 → t.engState e = 0) ∧ t.scr.paused = true ∧ t.rd R.SUM_DEV_ID = 0
      ∧ (s.rst.chainCur = none → s.rst.chain = [] → t.rst.chainCur = some (s.ev .warmReset 0x1000 [.d s.now])
        ∧ s.ev .warmReset 0x1000 [.d s.now] ∈ t.sum.intq)
      ∧ t.sess = s.sess ∧ t.f F.CRS_CTRL_RUN = s.f F.CRS_CTRL_RUN ∧ t.otp = s.otp ∧ t.mram = s.mram
      ∧ (s.cen.jobs.all (·.done) = true → t.prb.pm = s.prb.pm) ∧ t.rdg = s.rdg ∧ t.retain = s.retain ∧ t.tal = s.tal)
  ∧ (∀ s : State, s.rst.on = true → s.rst.bmuWait = true → s.cen.defer = [] →
    (s.rst.warmWait ≠ [] → runs .bmuReady s fun t =>
      t.rst = { s.rst with bmuWait := false } ∧ t.scr = { s.scr with paused := false } ∧ (∀ d, t.cou.drain = some d → d.paused = false)
      ∧ s.frame t [] [] [.cou, .scr, .rst])
    ∧ (s.rst.warmWait = [] → s.f F.SUM_RST_STAT_WARM_ACTIVE = 1 → s.cairns.all (fun e => !e.2.powered || e.2.leafValid) = true → runs .bmuReady s fun t =>
      t.rst = { s.rst with bmuWait := false } ∧ t.f F.SUM_RST_STAT_WARM_ACTIVE = 0
      ∧ (∃ e, t.sum.intq = s.sum.intq ++ [e] ∧ e.name = .warmDone ∧ e.src = 0x1000 ∧ e.stamp = s.now)
      ∧ s.frame t [R.SUM_RST_STAT, 0x24] [] [.intq, .cou, .scr, .rst]))
  ∧ (∀ s : State, s.rst.bmuWait = false → runs .bmuReady s fun t => t = s)
  ∧ (∀ (c0 : Nat) (s : State), s.rst.on = true → s.rst.idleT = some c0 →
    (s.started = true → s.idleOk = true → c0 + 250000 ≤ s.clk → runs .hubIdle s fun t => t.f F.SUM_PSTATE_STATE = 2 ∧ s.frame t [R.SUM_PSTATE] [] [])
    ∧ (s.started = false ∨ s.idleOk = false ∨ s.clk < c0 + 250000 → runs .hubIdle s fun t => t = s))
  ∧ (∀ s : State, s.rst.idleT = none → runs .hubIdle s fun t => t = s)

/-! ### Actions of Pitch (07) -/

/-- T of a CUT with ABS, raised to the least T the hub issues, and of one without (R94, R225). -/
def pitchT (s : State) (e : Nat) (a : BitVec 4) (abs : BitVec 1) : Nat :=
  if abs = 1 then max (s.p e a.toNat) (s.now + 100) else s.now + max (s.f F.SUM_CUT_LEAD_LEAD) 100

/-- TRIG, CUT_STOP, CUT_GLANCE, CUT_RESUME, CUT_ABANDON, CUT_STEP, CUT_STEP_TRIG_CLOSE, TRC_START, TRC_STOP and DUMP (R224 to R226): each makes the request its
master command would make, with the engine's source number and its recorded rights, writes the outcome to pd and goes on to the next word. -/
def Obligations.PitchRequests : Prop :=
  (∀ (e : Nat) (ch : BitVec 6) (s : State), s.issues e (.trig ch) = true →
    runs (.trig e) s fun t =>
      bit (t.rd64 R.CRS_CH_SEEN_LO) ch.toNat = true ∧ t.rd R.CRS_RAISE_CNT = min (s.rd R.CRS_RAISE_CNT + 1) (2 ^ 32 - 1)
      ∧ (s.f F.CRS_CTRL_RUN = 1 → t.crs.wait = s.crs.wait ++ [(ch.toNat, 0x1002 + e)])
      ∧ s.retired t e (s.pc e + 1) [] [R.CRS_CH_SEEN_LO, R.CRS_CH_SEEN_HI, R.CRS_RAISE_CNT, R.CRS_CH_PEND_LO, R.CRS_CH_PEND_HI] [.crs, .prb])
  ∧ (∀ (e : Nat) (d a : BitVec 4) (abs : BitVec 1) (s : State), s.issues e (.cut d a 0 abs 0) = true →
    (s.cutState = 0 ∨ s.cutState = 3 ∨ s.cutState = 1 ∧ s.hasJob .cutStop = false) → s.hasJob .resume = false → s.schedFull = false → s.stp.active = false →
    let id := (s.f F.SUM_CUT_STAT_CUT_ID + 1) % 2 ^ 16
    let T := pitchT s e a abs
    runs (.cutStop e) s fun t =>
      t.cutState = 1 ∧ t.f F.SUM_CUT_STAT_CUT_ID = id ∧ t.rd64 R.SUM_CUT_T_LO = T % 2 ^ 64 ∧ t.rd R.SUM_CUT_SRC = 0x1002 + e
      ∧ (∃ j ∈ t.cut.jobs, j.kind = .cutStop ∧ j.id = id ∧ j.t = T ∧ j.issued = false)
      ∧ (∃ v ∈ t.sum.intq, v.name = .cut ∧ v.src = 0x1001)
      ∧ t.p e d.toNat = 4096 * b2n (abs = 1 ∧ s.p e a.toNat < T) + 65536 * id
      ∧ s.retired t e (s.pc e + 1) [d.toNat] [R.SUM_CUT_STAT, R.SUM_CUT_T_LO, R.SUM_CUT_T_HI, R.SUM_CUT_SRC, 0x2024]
        [.intq, .tree, .cut])
  ∧ (∀ (e : Nat) (d a : BitVec 4) (abs : BitVec 1) (n : Nat) (s : State), s.issues e (.cut d a 1 abs 0) = true → s.cutState = 0 → s.schedFull = false →
    s.stp.active = false → s.dumpCode (s.rd (R.COU_PROF (s.f F.COU_CTRL_GLANCE_PROF))) false = couNone → s.cou.freeSlot = some n →
    let id := (s.f F.SUM_CUT_STAT_CUT_ID + 1) % 2 ^ 16
    let T := pitchT s e a abs
    runs (.cutGlance e) s fun t =>
      t.cutState = 1 ∧ t.f F.SUM_CUT_STAT_CUT_ID = id ∧ t.f F.SUM_CUT_STAT_KIND = 1 ∧ t.rd64 R.SUM_CUT_T_LO = T % 2 ^ 64 ∧ (t.slot n).st = 1
      ∧ t.p e d.toNat = 4096 * b2n (abs = 1 ∧ s.p e a.toNat < T) + 65536 * id
      ∧ t.pc e = (s.pc e + 1) % 65536 ∧ t.engState e = 1)
  ∧ (∀ (e : Nat) (d a : BitVec 4) (abs : BitVec 1) (s : State), s.issues e (.cut d a 2 abs 0) = true → s.cutState = 2 → s.schedFull = false →
    s.stp.active = false →
    let id := s.f F.SUM_CUT_STAT_CUT_ID
    let T := pitchT s e a abs
    runs (.cutResume e) s fun t =>
      t.cutState = 5 ∧ t.rd64 R.SUM_CUT_T_LO = T % 2 ^ 64 ∧ (∃ j ∈ t.cut.jobs, j.kind = .resume ∧ j.t = T)
      ∧ t.p e d.toNat = 4096 * b2n (abs = 1 ∧ s.p e a.toNat < T) + 65536 * id
      ∧ s.retired t e (s.pc e + 1) [d.toNat] [R.SUM_CUT_STAT, R.SUM_CUT_T_LO, R.SUM_CUT_T_HI, 0x2024] [.intq, .tree, .cut])
  ∧ (∀ (e : Nat) (d a : BitVec 4) (abs : BitVec 1) (s : State), s.issues e (.cut d a 3 abs 0) = true → s.cut.cap = true → s.cut.capAband = false →
    (s.cutState = 3 ∨ s.cutState = 4) →
    runs (.cutAbandon e) s fun t =>
      t.f F.SUM_CUT_STAT_PARTIAL = 1 ∧ t.cut.pages = [] ∧ t.rd R.SUM_CUT_UNCAPT = 0
      ∧ t.p e d.toNat = 65536 * s.f F.SUM_CUT_STAT_CUT_ID ∧ t.pc e = (s.pc e + 1) % 65536 ∧ t.engState e = 1)
  ∧ (∀ (e : Nat) (d a : BitVec 4) (kind : BitVec 3) (s : State), kind.toNat < 3 → s.issues e (.cut d a kind 0 1) = true → s.isLead = false →
    (s.f F.SUM_DEV_ID_VALID = 1 → s.f F.RDG_STAT_ALIGNED = 1 →
      runs (if kind = 0 then .cutStop e else if kind = 1 then .cutGlance e else .cutResume e) s fun t =>
        t.p e d.toNat = 4 ∧ t.cut = { s.cut with xFwd := s.cut.xFwd ++ [⟨kind.toNat, 0x1002 + e⟩] } ∧ s.retired t e (s.pc e + 1) [d.toNat] [] [.cut])
    ∧ (s.f F.SUM_DEV_ID_VALID = 0 ∨ s.f F.RDG_STAT_ALIGNED = 0 → runs (if kind = 0 then .cutStop e else if kind = 1 then .cutGlance e else .cutResume e) s fun t =>
      t.p e d.toNat = 2 + 256 * 5 ∧ t.cutState = s.cutState ∧ t.cut = s.cut
      ∧ t.sum.intq = s.sum.intq ++ [s.ev .cutRefused 0x1001 [.w (s.f F.SUM_CUT_STAT_CUT_ID), .w 5, .w (0x1002 + e)]]
      ∧ s.retired t e (s.pc e + 1) [d.toNat] [R.SUM_CUT_STAT, 0x2024] [.intq]))
  ∧ (∀ (e : Nat) (d a : BitVec 4) (abs trig : BitVec 1) (s : State), s.issues e (.cut d a (if trig = 1 then 5 else 4) abs 0) = true →
    s.f F.SUM_STEP_STAT_STATE = 0 → s.cutState = 2 → s.schedFull = false →
    let no := (s.f F.SUM_STEP_STAT_STEP_NO + 1) % 2 ^ 16
    let T := pitchT s e a abs
    let tD := T + max (s.f F.SUM_STEP_TMO_TMO) 400
    runs (if trig = 1 then .cutStepTrigClose e else .cutStep e) s fun t =>
      t.f F.SUM_STEP_STAT_STATE = 1 ∧ t.f F.SUM_STEP_STAT_STEP_NO = no ∧ t.stp.active = true ∧ t.stp.tS = T ∧ t.stp.tD = tD
      ∧ (t.stp.trigClose = true ↔ trig = 1)
      ∧ t.sum.intq = s.sum.intq ++ [s.ev .step 0x1001 [.w no, .d T, .d tD, .w (0x1002 + e)]]
      ∧ t.p e d.toNat = 4096 * b2n (abs = 1 ∧ s.p e a.toNat < T) + 65536 * no
      ∧ s.retired t e (s.pc e + 1) [d.toNat]
        [R.SUM_STEP_STAT, R.SUM_STEP_T_LO, R.SUM_STEP_T_LO + 4, R.SUM_STEP_UNITS, R.SUM_STEP_FOLLOW, R.SUM_STEP_ENGST, 0x2024] [.intq, .tree, .stp])
  ∧ (∀ (e : Nat) (d a : BitVec 4) (stop : BitVec 1) (s : State), s.issues e (.trc d a stop) = true →
    let k := s.p e a.toNat % 4096
    let c : Instr := if stop = 0 then .trcStart e else .trcStop e
    (k ≠ 0 → bit k sbFlow = false → stop = 1 ∨ s.f F.SCR_STAT_RING_FULL = 0 →
      runs c s fun t =>
        t.scr.acts = s.scr.acts
          ++ [⟨decide (stop = 0), s.now + max (s.f F.SUM_CUT_LEAD_LEAD) 100, k, s.rd (R.PRB_RIGHTS_REC e), [], 0x1002 + e⟩]
        ∧ t.p e d.toNat = 0 ∧ s.retired t e (s.pc e + 1) [d.toNat] [] [.scr])
    ∧ (k = 0 → runs c s fun t => t.scr = s.scr ∧ s.retired t e (s.pc e + 1) [d.toNat] [] [.free]))
  ∧ (∀ (e n : Nat) (d prof : BitVec 4) (s : State), s.issues e (.dump d prof) = true →
    let w := s.rd (R.COU_PROF prof.toNat)
    s.dumpCode w true = 0 → s.cou.freeSlot = some n → pfCut w = 2 → s.schedFull = false →
    runs (.dump e) s fun t =>
      (t.slot n).st = 1 ∧ (t.slot n).id = s.cou.nextId ∧ (t.slot n).kind = 2 ∧ (t.slot n).prof = prof.toNat ∧ t.cut.cap = true
      ∧ t.p e d.toNat = 0 ∧ t.pc e = (s.pc e + 1) % 65536 ∧ t.engState e = 1)
  ∧ (∀ (e : Nat) (d prof : BitVec 4) (s : State), s.issues e (.dump d prof) = true →
    let code := s.dumpCode (s.rd (R.COU_PROF prof.toNat)) true
    code ≠ 0 →
    runs (.dump e) s fun t =>
      t.p e d.toNat = code ∧ t.f F.COU_LAST_REFUSAL_CODE = code ∧ t.f F.COU_LAST_REFUSAL_SRC = 0x1002 + e
      ∧ t.sum.intq = s.sum.intq ++ [s.ev .dumpRefused 0x100E [.w code, .w 0, .w (0x1002 + e)]]
      ∧ s.retired t e (s.pc e + 1) [d.toNat] [R.COU_LAST_REFUSAL, 0x8024] [.intq])
  ∧ (∀ (e n : Nat) (d prof : BitVec 4) (s : State), s.issues e (.dump d prof) = true →
    let w := s.rd (R.COU_PROF prof.toNat)
    s.dumpCode w true = 0 → s.cou.freeSlot = some n → pfCut w < 2 → s.cutState = 0 → s.schedFull = true → s.stp.active = false →
    runs (.dump e) s fun t =>
      t.p e d.toNat = 7 + 256 * 1 ∧ t.f F.COU_LAST_REFUSAL_CODE = 7 ∧ t.f F.COU_LAST_REFUSAL_CUT_CODE = 1 ∧ t.cutState = 0
      ∧ s.ev .dumpRefused 0x100E [.w 7, .w 1, .w (0x1002 + e)] ∈ t.sum.intq ∧ t.pc e = (s.pc e + 1) % 65536 ∧ t.engState e = 1)

/-- JOB_CENSUS, JOB_ECHO, LOG, FENCE, REMAP, KICK and HALT (R206, R227 to R230, R232): a job is accepted or refused into pd; LOG raises PITCH_LOG; FENCE and REMAP
decide at once, raise FENCE_REQ or REMAP_REQ, and write the outcome to pd; KICK restarts the watchdog; HALT stops the engine with its argument, and retires. -/
def Obligations.PitchActions : Prop :=
  (∀ (e : Nat) (d a : BitVec 4) (s : State), s.issues e (.job d a 0) = true →
    let x := s.p e a.toNat
    let w0 := s.pmWord x
    let ds := s.descAt false x
    let r := dw ds 1 % 65536
    (s.cen.jobs.filter fun j => j.src == 0x1002 + e).length < 4 → x ≤ 0xFFFF → s.inData e x = true → s.dataArea e x (descLen false w0) = true →
    s.prb.pmUc = [] → s.dataArea e (s.pmWord (x + 1) % 65536) (resultLen false w0) = true →
    s.jobCode false (0x1002 + e) x ds = 0 →
    runs (.jobCensus e) s fun t =>
      t.cen.jobs = s.cen.jobs ++ [⟨s.cen.nextId, 0x1002 + e, s.rd (R.PRB_RIGHTS_REC e), s.now, ds, false, 1, 0, none⟩]
      ∧ t.p e d.toNat = s.cen.nextId % 2 ^ 64 ∧ t.pmWord r = s.cen.nextId % 65536 + 2 ^ 24
      ∧ (∀ i, ¬(r ≤ i ∧ i < r + 8) → t.pmWord i = s.pmWord i) ∧ t.pc e = (s.pc e + 1) % 65536)
  ∧ (∀ (e sa sb : Nat) (d a : BitVec 4) (s : State), s.issues e (.job d a 1) = true →
    let x := s.p e a.toNat
    let w0 := s.pmWord x
    let ds := s.descAt true x
    (s.cen.jobs.filter fun j => j.src == 0x1002 + e).length < 4 → x ≤ 0xFFFF → s.inData e x = true → s.dataArea e x (descLen true w0) = true →
    s.prb.pmUc = [] → s.dataArea e (s.pmWord (x + 1) % 65536) (resultLen true w0) = true →
    s.jobCode true (0x1002 + e) x ds = 0 → s.pickSpares ds = some (sa, sb) →
    runs (.jobEcho e) s fun t =>
      (∃ j f, t.cen.jobs = s.cen.jobs ++ [j] ∧ j.id = s.cen.nextId ∧ j.src = 0x1002 + e ∧ j.desc = ds ∧ j.done = false ∧ j.echo = some f ∧ f.spareA = sa ∧ f.spareB = sb)
      ∧ t.p e d.toNat = s.cen.nextId % 2 ^ 64 ∧ bit (t.rd R.ECH_CORE_BUSY) (coreOf (echoTarget ds)) = true ∧ t.pc e = (s.pc e + 1) % 65536)
  ∧ (∀ (e : Nat) (d a : BitVec 4) (echo : BitVec 1) (s : State), s.issues e (.job d a echo) = true →
    let x := s.p e a.toNat
    let w0 := s.pmWord x
    (4 ≤ s.jobsOut (0x1002 + e) → x ≤ 0xFFFF → s.inData e x = true → s.dataArea e x (descLen (echo = 1) w0) = true → s.prb.pmUc = [] →
      s.dataArea e (s.pmWord (x + 1) % 65536) (resultLen (echo = 1) w0) = true →
      runs (if echo = 0 then .jobCensus e else .jobEcho e) s fun t => t.p e d.toNat = 0xFF * 65536 ∧ s.retired t e (s.pc e + 1) [d.toNat] [] [])
    ∧ (x ≤ 0xFFFF → s.inData e x = false → runs (if echo = 0 then .jobCensus e else .jobEcho e) s fun t =>
      t.engState e = 0 ∧ t.f (F.PRB_STAT_STOP_CODE e) = 4 ∧ t.pc e = s.pc e ∧ t.cen.jobs = s.cen.jobs))
  ∧ (∀ (e : Nat) (a b : BitVec 4) (talus : BitVec 1) (tag : BitVec 12) (s : State), s.issues e (.log a b talus tag) = true →
    runs (.log e) s fun t =>
      t.sum.intq = s.sum.intq ++ [s.ev .pitchLog (0x1002 + e) [.w tag.toNat, .w (s.pc e), .d (s.p e a.toNat), .d (s.p e b.toNat), .w talus.toNat]]
      ∧ s.retired t e (s.pc e + 1) [] [0x3024 + 0x1000 * e] [.intq])
  ∧ (∀ (e : Nat) (d a : BitVec 4) (s : State), s.issues e (.fence d a) = true →
    let id := s.p e a.toNat % 4096
    let req := s.ev .fenceReq (0x1002 + e) [.w id, .w (s.fenceOutcome id false)]
    (s.fenceOutcome id false = 0 → runs (.fence e) s fun t =>
      t.fenceDecided id = true ∧ (∀ j, j ≠ id → t.fence j = s.fence j) ∧ t.p e d.toNat = 0 ∧ t.sum.intq = s.sum.intq ++ [req]
      ∧ s.retired t e (s.pc e + 1) [d.toNat] [0x3024 + 0x1000 * e] [.intq, .flt])
    ∧ (s.fenceOutcome id false = 1 ∨ s.fenceOutcome id false = 2 → runs (.fence e) s fun t =>
      t.flt = s.flt ∧ t.p e d.toNat = s.fenceOutcome id false ∧ t.sum.intq = s.sum.intq ++ [req]
      ∧ s.retired t e (s.pc e + 1) [d.toNat] [0x3024 + 0x1000 * e] [.intq])
    ∧ (s.fenceOutcome id false = 3 → runs (.fence e) s fun t =>
      t.flt = s.flt ∧ t.p e d.toNat = 3 ∧ (∃ v ∈ t.sum.intq, v.name = .fenceRefused) ∧ req ∈ t.sum.intq
      ∧ s.retired t e (s.pc e + 1) [d.toNat] [0x3024 + 0x1000 * e, 0xC024] [.intq]))
  ∧ (∀ (e pos i : Nat) (d a b : BitVec 4) (s : State), s.issues e (.remap d a b) = true →
    let id := s.p e a.toNat % 4096
    let sp := s.p e b.toNat % 4096
    (sp = 0xFFF → s.posOf id = some pos → s.remapping (coreOf id) = false → s.flt.engFenced.contains (coreOf id) = false → s.anySpare (coreOf id) = some i →
      s.cen.jobs = [] →
      runs (.remap e) s fun t =>
        t.wch = { s.wch with pend := s.wch.pend ++ [⟨coreOf id, pos, id, i, 0, 0, false, false⟩] } ∧ t.p e d.toNat = 65536 * i
        ∧ t.sum.intq = s.sum.intq ++ [s.ev .remapReq (0x1002 + e) [.w id, .w sp, .w 0, .w i]]
        ∧ s.retired t e (s.pc e + 1) [d.toNat] [R.WCH_STAT, 0x3024 + 0x1000 * e] [.intq, .wch])
    ∧ (s.posOf id = none → runs (.remap e) s fun t =>
        t.p e d.toNat = 2 ∧ t.sum.intq = s.sum.intq ++ [s.ev .remapReq (0x1002 + e) [.w id, .w sp, .w 2, .w 0]]
        ∧ s.retired t e (s.pc e + 1) [d.toNat] [0x3024 + 0x1000 * e] [.intq])
    ∧ (s.posOf id = some pos → s.remapping (coreOf id) = true → runs (.remap e) s fun t =>
        t.p e d.toNat = 4 ∧ t.sum.intq = s.sum.intq ++ [s.ev .remapReq (0x1002 + e) [.w id, .w sp, .w 4, .w 0]]
        ∧ s.retired t e (s.pc e + 1) [d.toNat] [0x3024 + 0x1000 * e] [.intq])
    ∧ (s.posOf id = some pos → s.remapping (coreOf id) = false → s.flt.engFenced.contains (coreOf id) = true → runs (.remap e) s fun t =>
        t.p e d.toNat = 1 ∧ t.sum.intq = s.sum.intq ++ [s.ev .remapReq (0x1002 + e) [.w id, .w sp, .w 1, .w 0]]
        ∧ s.retired t e (s.pc e + 1) [d.toNat] [0x3024 + 0x1000 * e] [.intq])
    ∧ (s.posOf id = some pos → s.remapping (coreOf id) = false → s.flt.engFenced.contains (coreOf id) = false → sp ≠ 0xFFF →
      kindOf sp ≠ 1 ∨ coreOf sp ≠ coreOf id ∨ s.freeSpare sp = false → runs (.remap e) s fun t =>
        t.p e d.toNat = 3 ∧ t.sum.intq = s.sum.intq ++ [s.ev .remapReq (0x1002 + e) [.w id, .w sp, .w 3, .w 0]]
        ∧ s.retired t e (s.pc e + 1) [d.toNat] [0x3024 + 0x1000 * e] [.intq]))
  ∧ (∀ (e : Nat) (s : State), s.issues e .kick = true →
    runs (.kick e) s fun t => t.eng e = { s.eng e with kickT := s.clk } ∧ s.retired t e (s.pc e + 1) [] [] [.prb])
  ∧ (∀ (e : Nat) (arg : BitVec 16) (s : State), s.issues e (.halt arg) = true →
    runs (.halt e) s fun t =>
      t.engState e = 0 ∧ t.f (F.PRB_STAT_STOP_CODE e) = 1 ∧ t.f (F.PRB_STAT_HALT_ARG e) = arg.toNat ∧ t.pc e = s.pc e
      ∧ t.rd (R.PRB_RETIRED e) = (s.rd (R.PRB_RETIRED e) + 1) % 2 ^ 32 ∧ t.rd64 (R.PRB_STOP_T_LO e) = s.now % 2 ^ 64
      ∧ (∃ v ∈ t.sum.intq, v.name = .engStop ∧ v.src = 0x1002 + e) ∧ s.frame t [] [3 + e] [.intq, .prb])
end

