-- ==== Sys2Proof/Laws/Access.lean ====
section
/-! SUPPORT. Laws/Access.lean: a master's write to a hub register that nothing holds up: the register's own effect, then its completion. -/

namespace Sys2Proof.Machine

/-- An access of `m` has won arbitration: it counts in its turn, and one of Pass restarts the lease (02 R70, R75). -/
def State.atTurn (s : State) (m : Master) : State :=
  let s := s.arbTurn m
  if m = .pass then { s with sum := { s.sum with lastPass := s.clk } } else s

/-- The state in which an access of `m` takes effect: what the pairs of R46 held goes with it. -/
def State.granted (s : State) (m : Master) : State := (s.atTurn m).setHolding (.mst m) none none

@[simp] theorem arbTurn_regs (s : State) (m : Master) : (s.arbTurn m).regs = s.regs := by
  unfold State.arbTurn; split <;> rfl

@[simp] theorem atTurn_regs (s : State) (m : Master) : (s.atTurn m).regs = s.regs := by
  cases m <;> simp [State.atTurn]

@[simp] theorem arbTurn_passM (s : State) (m : Master) : (s.arbTurn m).sum.passM = s.sum.passM := by
  unfold State.arbTurn; split <;> rfl

@[simp] theorem atTurn_passM (s : State) (m : Master) : (s.atTurn m).sum.passM = s.sum.passM := by
  cases m <;> simp [State.atTurn]

@[simp] theorem arbTurn_hostM (s : State) (m : Master) : (s.arbTurn m).sum.hostM = s.sum.hostM := by
  unfold State.arbTurn; split <;> rfl

@[simp] theorem atTurn_hostM (s : State) (m : Master) : (s.atTurn m).sum.hostM = s.sum.hostM := by
  cases m <;> simp [State.atTurn]

@[simp] theorem arbTurn_rst (s : State) (m : Master) : (s.arbTurn m).rst = s.rst := by
  unfold State.arbTurn; split <;> rfl

@[simp] theorem atTurn_rst (s : State) (m : Master) : (s.atTurn m).rst = s.rst := by
  cases m <;> simp [State.atTurn]

theorem grant_hub (s : State) (x : ApAcc) (h : apAddr x.addr = false) : s.grant x = (s.atTurn x.master).hubGrant x := by
  simp only [State.grant, State.atTurn, h, Bool.false_eq_true, if_false]

theorem pump_idle (s : State) (h : s.nextGrant.isNone = true) : s.pump = s := by
  simp only [Option.isNone_iff_eq_none] at h
  simp [State.pump, State.pumpN, h]

/-- A write that has won arbitration and passes every check takes effect and completes (02 R46 to R48). -/
theorem hubGrant_write (s : State) (m : Master) (r : Option Nat) (a v : Nat) (x : ApAcc)
    (hx : x.master = m ∧ x.addr = a ∧ x.write = true ∧ x.val = v ∧ x.fate = none) (hrst : s.inReset = false)
    (hp : pageThere (a / 0x1000) = true) (hex : (m == .host && s.excl) = false) (hd : deniedWrite (.mst m) a v = false)
    (hr : hubWrite (.mst m) a = r) (hmay : s.may (.mst m) r = true) (hlo : hubLo a = false)
    (hl : ∀ h, (s.mst m).heldLo = some h → h.1 + 4 ≠ a) :
    s.hubGrant x = ((s.setHolding (.mst m) none none).regWrite (.mst m) a v).complete m a codeOk 0 := by
  obtain ⟨h1, h2, h3, h4, h5⟩ := hx
  have hc : s.hubCode (.mst m) a true v = codeOk := by
    cases m <;> simp_all [State.hubCode]
  simp only [State.hubGrant, h1, h2, h3, h4, h5, hrst, hc, Bool.false_eq_true, if_false, if_true, State.hubDo, hlo, Bool.false_and]
  cases hh : (s.mst m).heldLo with
  | none => simp [State.holding, hh]
  | some q => simp [State.holding, hh, hl q hh]

theorem masterWrite_ready (s : State) (m : Master) (r : Option Nat) (a v : Nat) (h : s.ready m r a = true)
    (ha4 : a % 4 = 0) (ha : a < 2 ^ 20) (hap : apAddr a = false) (hp : pageThere (a / 0x1000) = true)
    (hd : deniedWrite (.mst m) a v = false) (hr : hubWrite (.mst m) a = r) (hlo : hubLo a = false) (hv : v < 2 ^ 32) :
    s.masterWrite m a v = ((s.granted m).regWrite (.mst m) a v).complete m a codeOk 0 := by
  simp only [State.ready, Bool.and_eq_true, Bool.not_eq_true', List.isEmpty_iff] at h
  obtain ⟨⟨⟨⟨⟨⟨⟨_, hrst⟩, hng⟩, haps⟩, hheld⟩, hex⟩, hmay⟩, hl⟩ := h
  have hw : s.mustWait m a = false := by simp [State.mustWait, hap, haps]
  simp only [State.masterWrite, State.masterAccess, Nat.mod_eq_of_lt ha, Nat.mod_eq_of_lt hv, ha4, and_self, if_true, State.issue,
    pump_idle s hng, hheld, hw, Bool.or_self, Bool.false_eq_true, if_false]
  rw [grant_hub _ _ hap]
  refine hubGrant_write (s.atTurn m) m r a v _ ⟨rfl, rfl, rfl, rfl, rfl⟩ ?_ hp ?_ hd hr ?_ hlo ?_
  · simpa [State.inReset, State.softPending, State.started, State.f] using hrst
  · simpa [State.excl, State.f] using hex
  · cases m <;> cases r <;> simpa [State.may, State.rightsIn, State.heldSet, State.rd] using hmay
  · intro q hq
    have : (s.mst m).heldLo = some q := by cases m <;> simpa [State.mst] using hq
    simpa [this] using hl

end Sys2Proof.Machine
end

