-- ==== Sys2Proof/Laws/Memory.lean ====
section
/-! SUPPORT. Laws/Memory.lean: sparse storage and stack memory: a read after a write, and that every operation keeps the canonical
form. -/

namespace Sys2Proof.Machine

variable {α : Type} [DecidableEq α] {d : α}

/-- A weaker bound. -/
theorem smWfFrom_mono {lo lo' : Nat} {m : SMap α} (h : smWfFrom d lo m = true) (hl : lo' ≤ lo) : smWfFrom d lo' m = true := by
  cases m with
  | nil => rfl
  | cons e m =>
    obtain ⟨k, w⟩ := e
    simp only [smWfFrom, Bool.and_eq_true, decide_eq_true_eq] at h ⊢
    exact ⟨⟨by omega, h.1.2⟩, h.2⟩

/-- Removing an entry keeps the canonical form. -/
theorem smWfFrom_erase {lo : Nat} {m : SMap α} (i : Nat) (h : smWfFrom d lo m = true) : smWfFrom d lo (smSet d m i d) = true := by
  induction m generalizing lo with
  | nil => simp [smSet, smWfFrom]
  | cons e m ih =>
    obtain ⟨k, w⟩ := e
    simp only [smWfFrom, Bool.and_eq_true, decide_eq_true_eq] at h
    by_cases h1 : i = k
    · subst h1
      simp only [smSet, if_true]; exact smWfFrom_mono (ih h.2) (by omega)
    · simp only [smSet, h1, if_false, ne_eq, not_true_eq_false, and_false, smWfFrom, Bool.and_eq_true, decide_eq_true_eq]
      exact ⟨h.1, ih h.2⟩

/-- A write keeps the canonical form. -/
theorem smWfFrom_smSet {lo : Nat} {m : SMap α} {i : Nat} (v : α) (h : smWfFrom d lo m = true) (hi : lo ≤ i) :
    smWfFrom d lo (smSet d m i v) = true := by
  by_cases hv : v = d
  · subst hv; exact smWfFrom_erase i h
  induction m generalizing lo with
  | nil => simp [smSet, smWfFrom, hv, hi]
  | cons e m ih =>
    obtain ⟨k, w⟩ := e
    simp only [smWfFrom, Bool.and_eq_true, decide_eq_true_eq] at h
    unfold smSet
    by_cases h1 : i = k
    · subst h1
      simp only [if_true, hv, if_false, smWfFrom, Bool.and_eq_true, decide_eq_true_eq]
      exact ⟨⟨hi, hv⟩, h.2⟩
    · by_cases h2 : i < k
      · simp [h1, h2, hv, smWfFrom, hi, h.1.2, h.2] <;> omega
      · simp only [h1, h2, false_and, if_false, smWfFrom, Bool.and_eq_true, decide_eq_true_eq]
        exact ⟨h.1, ih h.2 (by omega)⟩

/-- Canonical form after a write. -/
theorem smWf_smSet {m : SMap α} (i : Nat) (v : α) (h : smWf d m = true) : smWf d (smSet d m i v) = true :=
  smWfFrom_smSet v h (Nat.zero_le _)

/-- Dropping entries keeps it. -/
theorem smWfFrom_smKeep {lo : Nat} {m : SMap α} (p : Nat → Bool) (h : smWfFrom d lo m = true) : smWfFrom d lo (smKeep p m) = true := by
  induction m generalizing lo with
  | nil => rfl
  | cons e m ih =>
    obtain ⟨k, w⟩ := e
    simp only [smWfFrom, Bool.and_eq_true, decide_eq_true_eq] at h
    obtain ⟨⟨hk, hw⟩, hm⟩ := h
    unfold smKeep at ih ⊢
    by_cases hp : p k = true
    · simp only [List.filter, hp, smWfFrom, Bool.and_eq_true, decide_eq_true_eq]
      exact ⟨⟨hk, hw⟩, ih hm⟩
    · simp only [List.filter, hp]
      exact smWfFrom_mono (ih hm) (by omega)

/-- Canonical form after dropping entries. -/
theorem smWf_smKeep {m : SMap α} (p : Nat → Bool) (h : smWf d m = true) : smWf d (smKeep p m) = true := smWfFrom_smKeep p h

/-- A read after a write. -/
theorem smGet_smSet (m : SMap α) (i j : Nat) (v : α) : smGet d (smSet d m i v) j = if j = i then v else smGet d m j := by
  induction m with
  | nil => by_cases hv : v = d <;> by_cases hj : j = i <;> simp [smSet, smGet, hv, hj]
  | cons e m ih =>
    obtain ⟨k, w⟩ := e
    rw [smSet]
    split
    · rename_i h1
      subst h1
      split
      · rw [ih]; by_cases hj : j = i <;> simp [smGet, hj]
      · by_cases hj : j = i <;> simp [smGet, hj]
    · rename_i h1
      split
      · by_cases hj : j = i <;> simp [smGet, hj]
      · by_cases hj : j = k
        · subst hj; simp [smGet, Ne.symm h1]
        · simp [smGet, hj, ih]

/-- The byte just written is read back. -/
@[simp] theorem smGet_smSet_same (m : SMap α) (i : Nat) (v : α) : smGet d (smSet d m i v) i = v := by
  rw [smGet_smSet]; simp

/-- A write leaves every other key alone. -/
theorem smGet_smSet_ne (m : SMap α) {i j : Nat} (v : α) (hj : j ≠ i) : smGet d (smSet d m i v) j = smGet d m j := by
  rw [smGet_smSet]; simp [hj]

/-! ### The operations over stack memory -/

theorem foldl_keeps {σ β : Type} (P : σ → Prop) (f : σ → β → σ) (h : ∀ s b, P s → P (f s b)) : ∀ (l : List β) (s : σ), P s → P (l.foldl f s)
  | [], _, hs => hs
  | b :: l, s, hs => foldl_keeps P f h l (f s b) (h s b hs)

/-- Bytes written one by one at the places `f` names. -/
theorem memory_putBytes (s : State) (f : Nat → Nat) (bs : List Byte) (h : Memory.wf s.mem = true) : Memory.wf (s.putBytes f bs).mem = true := by
  unfold State.putBytes
  exact foldl_keeps (fun m => Memory.wf m = true) _ (fun m b hm => smWf_smSet _ _ hm) _ _ h

/-- Metadata of the crash cache written. -/
theorem memory_putMeta (s : State) (o : Nat) (bs : List Byte) (h : Memory.wf s.mem = true) : Memory.wf (s.putMeta o bs).mem = true :=
  memory_putBytes _ _ _ h

/-- The metadata area zeroed. -/
theorem memory_zeroMeta (s : State) (h : Memory.wf s.mem = true) : Memory.wf s.zeroMeta.mem = true := by
  unfold State.zeroMeta Memory.wf
  dsimp only
  exact smWf_smKeep _ h

/-- A manifest region zeroed. -/
theorem memory_zeroManifest (s : State) (n : Nat) (h : Memory.wf s.mem = true) : Memory.wf (s.zeroManifest n).mem = true := by
  unfold State.zeroManifest Memory.wf
  dsimp only
  exact smWf_smKeep _ h

/-- A list of bytes written from one address on. -/
theorem smWf_smSetList {m : SMap α} (i : Nat) (vs : List α) (h : smWf d m = true) : smWf d (smSetList d m i vs) = true := by
  induction vs generalizing m i with
  | nil => exact h
  | cons v vs ih => exact ih _ (smWf_smSet _ _ h)

/-- A fault of a hub source. -/
theorem memory_hubFault (s : State) (p b r q d e : Nat) : (s.hubFault p b r q d e).mem = s.mem := by
  dsimp only [State.hubFault, State.fatalDirect]
  repeat' split
  all_goals rfl

/-- A write of the accelerator, discarded or done. -/
theorem memory_stackWrite (s : State) (a : Nat) (bytes : List Byte) (h : Memory.wf s.mem = true) : Memory.wf (s.stackWrite a bytes).mem = true := by
  unfold State.stackWrite
  dsimp only
  split
  · rw [memory_hubFault]; exact h
  · split
    · rw [memory_hubFault]; exact h
    · exact smWf_smSetList _ _ h

/-- A write that was held is applied. -/
theorem memory_heldApply (s : State) (w : HeldWr) (h : Memory.wf s.mem = true) : Memory.wf (s.heldApply w).mem = true := by
  unfold State.heldApply
  split
  · exact memory_stackWrite _ _ _ h
  · exact h

/-- A deposit of one byte. -/
theorem memory_setViewByte (s : State) (id sp a : Nat) (b : Byte) (h : Memory.wf s.mem = true) :
    Memory.wf (s.setViewByte id sp a b).mem = true := by
  unfold State.setViewByte
  split
  · exact smWf_smSet _ _ h
  · exact h

/-- A deposit of one word. -/
theorem memory_setViewWord (s : State) (id sp a v : Nat) (h : Memory.wf s.mem = true) :
    Memory.wf (s.setViewWord id sp a v).mem = true :=
  foldl_keeps (fun s => Memory.wf s.mem = true) _ (fun s _ hs => memory_setViewByte s _ _ _ _ hs) _ _ h

/-- Stack memory after reset is in canonical form. -/
theorem memory_reset : Memory.wf State.reset.mem = true := rfl

end Sys2Proof.Machine
end

