-- ==== Sys2Proof/Laws/Field.lean ====
section
/-! SUPPORT. Laws/Field.lean: bit fields of a register: a read after a write of the same field and of another. -/

namespace Sys2Proof.Machine

/-- A number with a field replaced. -/
theorem Fld.set_toNat (f : Fld) (w : Word) (n : Nat) (h : f.lo + f.width ≤ 32) :
    (f.set w n).toNat = w.toNat - w.toNat / 2 ^ f.lo % 2 ^ f.width * 2 ^ f.lo + n % 2 ^ f.width * 2 ^ f.lo := by
  have hw := w.isLt
  have h1 : w.toNat / 2 ^ f.lo % 2 ^ f.width * 2 ^ f.lo ≤ w.toNat :=
    le_trans (Nat.mul_le_mul_right _ (Nat.mod_le _ _)) (Nat.div_mul_le_self _ _)
  simp only [Fld.set, BitVec.toNat_ofNat]
  apply Nat.mod_eq_of_lt
  have hp : 2 ^ 32 = 2 ^ (32 - (f.lo + f.width)) * (2 ^ f.width * 2 ^ f.lo) := by
    rw [← pow_add, ← pow_add]; congr 1; omega
  set P := 2 ^ f.lo with hP
  set W := 2 ^ f.width with hW
  have hPp : 0 < P := by positivity
  have hWp : 0 < W := by positivity
  have hdm := Nat.div_add_mod w.toNat P
  have hdm2 := Nat.div_add_mod (w.toNat / P) W
  have hq : w.toNat / P / W < 2 ^ (32 - (f.lo + f.width)) := by
    rw [Nat.div_div_eq_div_mul, Nat.div_lt_iff_lt_mul (by positivity)]
    calc w.toNat < 2 ^ 32 := hw
      _ = 2 ^ (32 - (f.lo + f.width)) * (P * W) := by rw [hp]; ring
  have hn : n % W < W := Nat.mod_lt _ hWp
  have hr : w.toNat % P < P := Nat.mod_lt _ hPp
  generalize w.toNat / P / W = q at *
  generalize w.toNat / P % W = r at *
  generalize n % W = x at *
  generalize w.toNat % P = y at *
  generalize 2 ^ (32 - (f.lo + f.width)) = Q at *
  have e1 : w.toNat = P * (W * q + r) + y := by rw [hdm2]; omega
  have e2 : w.toNat - r * P = P * (W * q) + y := by rw [e1, Nat.mul_add, Nat.mul_comm r P]; omega
  rw [e2, hp]
  calc P * (W * q) + y + x * P < P * (W * q) + P + x * P := by omega
    _ = P * (W * q + (x + 1)) := by ring
    _ ≤ P * (W * q + W) := Nat.mul_le_mul_left _ (by omega)
    _ = (q + 1) * (W * P) := by ring
    _ ≤ Q * (W * P) := Nat.mul_le_mul_right _ hq

/-- A field just written reads as written, cut to its width. -/
theorem Fld.get_set (f : Fld) (w : Word) (n : Nat) (h : f.lo + f.width ≤ 32) : f.get (f.set w n) = n % 2 ^ f.width := by
  simp only [Fld.get, Fld.set_toNat f w n h]
  set P := 2 ^ f.lo with hP
  set W := 2 ^ f.width with hW
  have hPp : 0 < P := by positivity
  have hWp : 0 < W := by positivity
  have hdm := Nat.div_add_mod w.toNat P
  have hdm2 := Nat.div_add_mod (w.toNat / P) W
  have hr : w.toNat % P < P := Nat.mod_lt _ hPp
  have hx : n % W < W := Nat.mod_lt _ hWp
  generalize w.toNat / P / W = q at *
  generalize w.toNat / P % W = r at *
  generalize n % W = x at *
  generalize w.toNat % P = y at *
  have e1 : w.toNat = P * (W * q + r) + y := by rw [hdm2]; omega
  have e2 : w.toNat - r * P + x * P = P * (W * q + x) + y := by
    rw [e1, Nat.mul_add P (W * q) r, Nat.mul_comm r P, Nat.mul_add, Nat.mul_comm x P]; omega
  rw [e2, Nat.mul_add_div hPp, Nat.div_eq_of_lt hr, Nat.add_zero, Nat.mul_add_mod, Nat.mod_eq_of_lt hx]

/-- A field that does not overlap the one written. -/
theorem Fld.get_set_ne (f g : Fld) (w : Word) (n : Nat) (h : f.lo + f.width ≤ 32)
    (hd : f.lo + f.width ≤ g.lo ∨ g.lo + g.width ≤ f.lo) : g.get (f.set w n) = g.get w := by
  simp only [Fld.get, Fld.set_toNat f w n h]
  have hPp : 0 < 2 ^ f.lo := by positivity
  have hWp : 0 < 2 ^ f.width := by positivity
  have hdm := Nat.div_add_mod w.toNat (2 ^ f.lo)
  have hdm2 := Nat.div_add_mod (w.toNat / 2 ^ f.lo) (2 ^ f.width)
  have hr : w.toNat % 2 ^ f.lo < 2 ^ f.lo := Nat.mod_lt _ hPp
  have hr2 : w.toNat / 2 ^ f.lo % 2 ^ f.width < 2 ^ f.width := Nat.mod_lt _ hWp
  have hx : n % 2 ^ f.width < 2 ^ f.width := Nat.mod_lt _ hWp
  generalize w.toNat / 2 ^ f.lo / 2 ^ f.width = q at *
  generalize w.toNat / 2 ^ f.lo % 2 ^ f.width = r at *
  generalize n % 2 ^ f.width = x at *
  generalize w.toNat % 2 ^ f.lo = y at *
  have e1 : w.toNat = 2 ^ f.lo * (2 ^ f.width * q + r) + y := by rw [hdm2]; omega
  have e2 : w.toNat - r * 2 ^ f.lo + x * 2 ^ f.lo = 2 ^ f.lo * (2 ^ f.width * q + x) + y := by
    rw [e1, Nat.mul_add _ (2 ^ f.width * q) r, Nat.mul_comm r, Nat.mul_add, Nat.mul_comm x]; omega
  rw [e2, e1]
  rcases hd with hd | hd
  · have hg : 2 ^ g.lo = 2 ^ f.lo * 2 ^ f.width * 2 ^ (g.lo - f.lo - f.width) := by
      rw [← pow_add, ← pow_add]; congr 1; omega
    have k : ∀ z, z < 2 ^ f.width → (2 ^ f.lo * (2 ^ f.width * q + z) + y) / 2 ^ g.lo = q / 2 ^ (g.lo - f.lo - f.width) := by
      intro z hz
      rw [hg, ← Nat.div_div_eq_div_mul, ← Nat.div_div_eq_div_mul, Nat.mul_add_div hPp, Nat.div_eq_of_lt hr, Nat.add_zero,
        Nat.mul_add_div hWp, Nat.div_eq_of_lt hz, Nat.add_zero]
    rw [k x hx, k r hr2]
  · have hf : 2 ^ f.lo = 2 ^ g.lo * (2 ^ g.width * 2 ^ (f.lo - g.lo - g.width)) := by
      rw [← pow_add, ← pow_add]; congr 1; omega
    have k : ∀ z, (2 ^ f.lo * z + y) / 2 ^ g.lo % 2 ^ g.width = y / 2 ^ g.lo % 2 ^ g.width := by
      intro z
      rw [hf, Nat.mul_assoc, Nat.mul_add_div (by positivity), Nat.mul_assoc, Nat.mul_add_mod]
    rw [k, k]

end Sys2Proof.Machine
end

