-- ==== Sys2Proof/Laws/State.lean ====
section
/-! SUPPORT. Laws/State.lean: what the updates of the state leave alone, one lemma per field, and what they write. -/

namespace Sys2Proof.Machine

/-! ### wr -/

@[simp] theorem wr_pending (s : State) (a n : Nat) : (s.wr a n).pending = s.pending := rfl
@[simp] theorem wr_free (s : State) (a n : Nat) : (s.wr a n).free = s.free := rfl
@[simp] theorem wr_sum (s : State) (a n : Nat) : (s.wr a n).sum = s.sum := rfl
@[simp] theorem wr_rdg (s : State) (a n : Nat) : (s.wr a n).rdg = s.rdg := rfl
@[simp] theorem wr_cut (s : State) (a n : Nat) : (s.wr a n).cut = s.cut := rfl
@[simp] theorem wr_stp (s : State) (a n : Nat) : (s.wr a n).stp = s.stp := rfl
@[simp] theorem wr_cou (s : State) (a n : Nat) : (s.wr a n).cou = s.cou := rfl
@[simp] theorem wr_flt (s : State) (a n : Nat) : (s.wr a n).flt = s.flt := rfl
@[simp] theorem wr_wch (s : State) (a n : Nat) : (s.wr a n).wch = s.wch := rfl
@[simp] theorem wr_cen (s : State) (a n : Nat) : (s.wr a n).cen = s.cen := rfl
@[simp] theorem wr_prb (s : State) (a n : Nat) : (s.wr a n).prb = s.prb := rfl
@[simp] theorem wr_crs (s : State) (a n : Nat) : (s.wr a n).crs = s.crs := rfl
@[simp] theorem wr_scr (s : State) (a n : Nat) : (s.wr a n).scr = s.scr := rfl
@[simp] theorem wr_tal (s : State) (a n : Nat) : (s.wr a n).tal = s.tal := rfl
@[simp] theorem wr_auth (s : State) (a n : Nat) : (s.wr a n).auth = s.auth := rfl
@[simp] theorem wr_pass (s : State) (a n : Nat) : (s.wr a n).pass = s.pass := rfl
@[simp] theorem wr_rst (s : State) (a n : Nat) : (s.wr a n).rst = s.rst := rfl
@[simp] theorem wr_cairns (s : State) (a n : Nat) : (s.wr a n).cairns = s.cairns := rfl
@[simp] theorem wr_retain (s : State) (a n : Nat) : (s.wr a n).retain = s.retain := rfl
@[simp] theorem wr_mem (s : State) (a n : Nat) : (s.wr a n).mem = s.mem := rfl
@[simp] theorem wr_gran (s : State) (a n : Nat) : (s.wr a n).gran = s.gran := rfl
@[simp] theorem wr_doms (s : State) (a n : Nat) : (s.wr a n).doms = s.doms := rfl
@[simp] theorem wr_uid (s : State) (a n : Nat) : (s.wr a n).uid = s.uid := rfl
@[simp] theorem wr_otp (s : State) (a n : Nat) : (s.wr a n).otp = s.otp := rfl
@[simp] theorem wr_mram (s : State) (a n : Nat) : (s.wr a n).mram = s.mram := rfl

/-! ### setF -/

@[simp] theorem setF_pending (s : State) (f : Fld) (n : Nat) : (s.setF f n).pending = s.pending := rfl
@[simp] theorem setF_free (s : State) (f : Fld) (n : Nat) : (s.setF f n).free = s.free := rfl
@[simp] theorem setF_sum (s : State) (f : Fld) (n : Nat) : (s.setF f n).sum = s.sum := rfl
@[simp] theorem setF_rdg (s : State) (f : Fld) (n : Nat) : (s.setF f n).rdg = s.rdg := rfl
@[simp] theorem setF_cut (s : State) (f : Fld) (n : Nat) : (s.setF f n).cut = s.cut := rfl
@[simp] theorem setF_stp (s : State) (f : Fld) (n : Nat) : (s.setF f n).stp = s.stp := rfl
@[simp] theorem setF_cou (s : State) (f : Fld) (n : Nat) : (s.setF f n).cou = s.cou := rfl
@[simp] theorem setF_flt (s : State) (f : Fld) (n : Nat) : (s.setF f n).flt = s.flt := rfl
@[simp] theorem setF_wch (s : State) (f : Fld) (n : Nat) : (s.setF f n).wch = s.wch := rfl
@[simp] theorem setF_cen (s : State) (f : Fld) (n : Nat) : (s.setF f n).cen = s.cen := rfl
@[simp] theorem setF_prb (s : State) (f : Fld) (n : Nat) : (s.setF f n).prb = s.prb := rfl
@[simp] theorem setF_crs (s : State) (f : Fld) (n : Nat) : (s.setF f n).crs = s.crs := rfl
@[simp] theorem setF_scr (s : State) (f : Fld) (n : Nat) : (s.setF f n).scr = s.scr := rfl
@[simp] theorem setF_tal (s : State) (f : Fld) (n : Nat) : (s.setF f n).tal = s.tal := rfl
@[simp] theorem setF_auth (s : State) (f : Fld) (n : Nat) : (s.setF f n).auth = s.auth := rfl
@[simp] theorem setF_pass (s : State) (f : Fld) (n : Nat) : (s.setF f n).pass = s.pass := rfl
@[simp] theorem setF_rst (s : State) (f : Fld) (n : Nat) : (s.setF f n).rst = s.rst := rfl
@[simp] theorem setF_cairns (s : State) (f : Fld) (n : Nat) : (s.setF f n).cairns = s.cairns := rfl
@[simp] theorem setF_retain (s : State) (f : Fld) (n : Nat) : (s.setF f n).retain = s.retain := rfl
@[simp] theorem setF_mem (s : State) (f : Fld) (n : Nat) : (s.setF f n).mem = s.mem := rfl
@[simp] theorem setF_gran (s : State) (f : Fld) (n : Nat) : (s.setF f n).gran = s.gran := rfl
@[simp] theorem setF_doms (s : State) (f : Fld) (n : Nat) : (s.setF f n).doms = s.doms := rfl
@[simp] theorem setF_uid (s : State) (f : Fld) (n : Nat) : (s.setF f n).uid = s.uid := rfl
@[simp] theorem setF_otp (s : State) (f : Fld) (n : Nat) : (s.setF f n).otp = s.otp := rfl
@[simp] theorem setF_mram (s : State) (f : Fld) (n : Nat) : (s.setF f n).mram = s.mram := rfl

/-! ### setCairn -/

@[simp] theorem setCairn_pending (s : State) (id : Nat) (c : Cairn) : (s.setCairn id c).pending = s.pending := rfl
@[simp] theorem setCairn_free (s : State) (id : Nat) (c : Cairn) : (s.setCairn id c).free = s.free := rfl
@[simp] theorem setCairn_regs (s : State) (id : Nat) (c : Cairn) : (s.setCairn id c).regs = s.regs := rfl
@[simp] theorem setCairn_sum (s : State) (id : Nat) (c : Cairn) : (s.setCairn id c).sum = s.sum := rfl
@[simp] theorem setCairn_rdg (s : State) (id : Nat) (c : Cairn) : (s.setCairn id c).rdg = s.rdg := rfl
@[simp] theorem setCairn_cut (s : State) (id : Nat) (c : Cairn) : (s.setCairn id c).cut = s.cut := rfl
@[simp] theorem setCairn_stp (s : State) (id : Nat) (c : Cairn) : (s.setCairn id c).stp = s.stp := rfl
@[simp] theorem setCairn_cou (s : State) (id : Nat) (c : Cairn) : (s.setCairn id c).cou = s.cou := rfl
@[simp] theorem setCairn_flt (s : State) (id : Nat) (c : Cairn) : (s.setCairn id c).flt = s.flt := rfl
@[simp] theorem setCairn_wch (s : State) (id : Nat) (c : Cairn) : (s.setCairn id c).wch = s.wch := rfl
@[simp] theorem setCairn_cen (s : State) (id : Nat) (c : Cairn) : (s.setCairn id c).cen = s.cen := rfl
@[simp] theorem setCairn_prb (s : State) (id : Nat) (c : Cairn) : (s.setCairn id c).prb = s.prb := rfl
@[simp] theorem setCairn_crs (s : State) (id : Nat) (c : Cairn) : (s.setCairn id c).crs = s.crs := rfl
@[simp] theorem setCairn_scr (s : State) (id : Nat) (c : Cairn) : (s.setCairn id c).scr = s.scr := rfl
@[simp] theorem setCairn_tal (s : State) (id : Nat) (c : Cairn) : (s.setCairn id c).tal = s.tal := rfl
@[simp] theorem setCairn_auth (s : State) (id : Nat) (c : Cairn) : (s.setCairn id c).auth = s.auth := rfl
@[simp] theorem setCairn_pass (s : State) (id : Nat) (c : Cairn) : (s.setCairn id c).pass = s.pass := rfl
@[simp] theorem setCairn_rst (s : State) (id : Nat) (c : Cairn) : (s.setCairn id c).rst = s.rst := rfl
@[simp] theorem setCairn_retain (s : State) (id : Nat) (c : Cairn) : (s.setCairn id c).retain = s.retain := rfl
@[simp] theorem setCairn_mem (s : State) (id : Nat) (c : Cairn) : (s.setCairn id c).mem = s.mem := rfl
@[simp] theorem setCairn_gran (s : State) (id : Nat) (c : Cairn) : (s.setCairn id c).gran = s.gran := rfl
@[simp] theorem setCairn_doms (s : State) (id : Nat) (c : Cairn) : (s.setCairn id c).doms = s.doms := rfl
@[simp] theorem setCairn_uid (s : State) (id : Nat) (c : Cairn) : (s.setCairn id c).uid = s.uid := rfl
@[simp] theorem setCairn_otp (s : State) (id : Nat) (c : Cairn) : (s.setCairn id c).otp = s.otp := rfl
@[simp] theorem setCairn_mram (s : State) (id : Nat) (c : Cairn) : (s.setCairn id c).mram = s.mram := rfl

/-! ### modC -/

@[simp] theorem modC_pending (s : State) (id : Nat) (g : Cairn → Cairn) : (s.modC id g).pending = s.pending := rfl
@[simp] theorem modC_free (s : State) (id : Nat) (g : Cairn → Cairn) : (s.modC id g).free = s.free := rfl
@[simp] theorem modC_regs (s : State) (id : Nat) (g : Cairn → Cairn) : (s.modC id g).regs = s.regs := rfl
@[simp] theorem modC_sum (s : State) (id : Nat) (g : Cairn → Cairn) : (s.modC id g).sum = s.sum := rfl
@[simp] theorem modC_rdg (s : State) (id : Nat) (g : Cairn → Cairn) : (s.modC id g).rdg = s.rdg := rfl
@[simp] theorem modC_cut (s : State) (id : Nat) (g : Cairn → Cairn) : (s.modC id g).cut = s.cut := rfl
@[simp] theorem modC_stp (s : State) (id : Nat) (g : Cairn → Cairn) : (s.modC id g).stp = s.stp := rfl
@[simp] theorem modC_cou (s : State) (id : Nat) (g : Cairn → Cairn) : (s.modC id g).cou = s.cou := rfl
@[simp] theorem modC_flt (s : State) (id : Nat) (g : Cairn → Cairn) : (s.modC id g).flt = s.flt := rfl
@[simp] theorem modC_wch (s : State) (id : Nat) (g : Cairn → Cairn) : (s.modC id g).wch = s.wch := rfl
@[simp] theorem modC_cen (s : State) (id : Nat) (g : Cairn → Cairn) : (s.modC id g).cen = s.cen := rfl
@[simp] theorem modC_prb (s : State) (id : Nat) (g : Cairn → Cairn) : (s.modC id g).prb = s.prb := rfl
@[simp] theorem modC_crs (s : State) (id : Nat) (g : Cairn → Cairn) : (s.modC id g).crs = s.crs := rfl
@[simp] theorem modC_scr (s : State) (id : Nat) (g : Cairn → Cairn) : (s.modC id g).scr = s.scr := rfl
@[simp] theorem modC_tal (s : State) (id : Nat) (g : Cairn → Cairn) : (s.modC id g).tal = s.tal := rfl
@[simp] theorem modC_auth (s : State) (id : Nat) (g : Cairn → Cairn) : (s.modC id g).auth = s.auth := rfl
@[simp] theorem modC_pass (s : State) (id : Nat) (g : Cairn → Cairn) : (s.modC id g).pass = s.pass := rfl
@[simp] theorem modC_rst (s : State) (id : Nat) (g : Cairn → Cairn) : (s.modC id g).rst = s.rst := rfl
@[simp] theorem modC_retain (s : State) (id : Nat) (g : Cairn → Cairn) : (s.modC id g).retain = s.retain := rfl
@[simp] theorem modC_mem (s : State) (id : Nat) (g : Cairn → Cairn) : (s.modC id g).mem = s.mem := rfl
@[simp] theorem modC_gran (s : State) (id : Nat) (g : Cairn → Cairn) : (s.modC id g).gran = s.gran := rfl
@[simp] theorem modC_doms (s : State) (id : Nat) (g : Cairn → Cairn) : (s.modC id g).doms = s.doms := rfl
@[simp] theorem modC_uid (s : State) (id : Nat) (g : Cairn → Cairn) : (s.modC id g).uid = s.uid := rfl
@[simp] theorem modC_otp (s : State) (id : Nat) (g : Cairn → Cairn) : (s.modC id g).otp = s.otp := rfl
@[simp] theorem modC_mram (s : State) (id : Nat) (g : Cairn → Cairn) : (s.modC id g).mram = s.mram := rfl

/-! ### modPass -/

@[simp] theorem modPass_pending (s : State) (g : PassSt → PassSt) : (s.modPass g).pending = s.pending := rfl
@[simp] theorem modPass_free (s : State) (g : PassSt → PassSt) : (s.modPass g).free = s.free := rfl
@[simp] theorem modPass_regs (s : State) (g : PassSt → PassSt) : (s.modPass g).regs = s.regs := rfl
@[simp] theorem modPass_sum (s : State) (g : PassSt → PassSt) : (s.modPass g).sum = s.sum := rfl
@[simp] theorem modPass_rdg (s : State) (g : PassSt → PassSt) : (s.modPass g).rdg = s.rdg := rfl
@[simp] theorem modPass_cut (s : State) (g : PassSt → PassSt) : (s.modPass g).cut = s.cut := rfl
@[simp] theorem modPass_stp (s : State) (g : PassSt → PassSt) : (s.modPass g).stp = s.stp := rfl
@[simp] theorem modPass_cou (s : State) (g : PassSt → PassSt) : (s.modPass g).cou = s.cou := rfl
@[simp] theorem modPass_flt (s : State) (g : PassSt → PassSt) : (s.modPass g).flt = s.flt := rfl
@[simp] theorem modPass_wch (s : State) (g : PassSt → PassSt) : (s.modPass g).wch = s.wch := rfl
@[simp] theorem modPass_cen (s : State) (g : PassSt → PassSt) : (s.modPass g).cen = s.cen := rfl
@[simp] theorem modPass_prb (s : State) (g : PassSt → PassSt) : (s.modPass g).prb = s.prb := rfl
@[simp] theorem modPass_crs (s : State) (g : PassSt → PassSt) : (s.modPass g).crs = s.crs := rfl
@[simp] theorem modPass_scr (s : State) (g : PassSt → PassSt) : (s.modPass g).scr = s.scr := rfl
@[simp] theorem modPass_tal (s : State) (g : PassSt → PassSt) : (s.modPass g).tal = s.tal := rfl
@[simp] theorem modPass_auth (s : State) (g : PassSt → PassSt) : (s.modPass g).auth = s.auth := rfl
@[simp] theorem modPass_rst (s : State) (g : PassSt → PassSt) : (s.modPass g).rst = s.rst := rfl
@[simp] theorem modPass_cairns (s : State) (g : PassSt → PassSt) : (s.modPass g).cairns = s.cairns := rfl
@[simp] theorem modPass_retain (s : State) (g : PassSt → PassSt) : (s.modPass g).retain = s.retain := rfl
@[simp] theorem modPass_mem (s : State) (g : PassSt → PassSt) : (s.modPass g).mem = s.mem := rfl
@[simp] theorem modPass_gran (s : State) (g : PassSt → PassSt) : (s.modPass g).gran = s.gran := rfl
@[simp] theorem modPass_doms (s : State) (g : PassSt → PassSt) : (s.modPass g).doms = s.doms := rfl
@[simp] theorem modPass_uid (s : State) (g : PassSt → PassSt) : (s.modPass g).uid = s.uid := rfl
@[simp] theorem modPass_otp (s : State) (g : PassSt → PassSt) : (s.modPass g).otp = s.otp := rfl
@[simp] theorem modPass_mram (s : State) (g : PassSt → PassSt) : (s.modPass g).mram = s.mram := rfl

/-! ### putBytes -/

@[simp] theorem putBytes_pending (s : State) (f : Nat → Nat) (bs : List Byte) : (s.putBytes f bs).pending = s.pending := rfl
@[simp] theorem putBytes_free (s : State) (f : Nat → Nat) (bs : List Byte) : (s.putBytes f bs).free = s.free := rfl
@[simp] theorem putBytes_regs (s : State) (f : Nat → Nat) (bs : List Byte) : (s.putBytes f bs).regs = s.regs := rfl
@[simp] theorem putBytes_sum (s : State) (f : Nat → Nat) (bs : List Byte) : (s.putBytes f bs).sum = s.sum := rfl
@[simp] theorem putBytes_rdg (s : State) (f : Nat → Nat) (bs : List Byte) : (s.putBytes f bs).rdg = s.rdg := rfl
@[simp] theorem putBytes_cut (s : State) (f : Nat → Nat) (bs : List Byte) : (s.putBytes f bs).cut = s.cut := rfl
@[simp] theorem putBytes_stp (s : State) (f : Nat → Nat) (bs : List Byte) : (s.putBytes f bs).stp = s.stp := rfl
@[simp] theorem putBytes_cou (s : State) (f : Nat → Nat) (bs : List Byte) : (s.putBytes f bs).cou = s.cou := rfl
@[simp] theorem putBytes_flt (s : State) (f : Nat → Nat) (bs : List Byte) : (s.putBytes f bs).flt = s.flt := rfl
@[simp] theorem putBytes_wch (s : State) (f : Nat → Nat) (bs : List Byte) : (s.putBytes f bs).wch = s.wch := rfl
@[simp] theorem putBytes_cen (s : State) (f : Nat → Nat) (bs : List Byte) : (s.putBytes f bs).cen = s.cen := rfl
@[simp] theorem putBytes_prb (s : State) (f : Nat → Nat) (bs : List Byte) : (s.putBytes f bs).prb = s.prb := rfl
@[simp] theorem putBytes_crs (s : State) (f : Nat → Nat) (bs : List Byte) : (s.putBytes f bs).crs = s.crs := rfl
@[simp] theorem putBytes_scr (s : State) (f : Nat → Nat) (bs : List Byte) : (s.putBytes f bs).scr = s.scr := rfl
@[simp] theorem putBytes_tal (s : State) (f : Nat → Nat) (bs : List Byte) : (s.putBytes f bs).tal = s.tal := rfl
@[simp] theorem putBytes_auth (s : State) (f : Nat → Nat) (bs : List Byte) : (s.putBytes f bs).auth = s.auth := rfl
@[simp] theorem putBytes_pass (s : State) (f : Nat → Nat) (bs : List Byte) : (s.putBytes f bs).pass = s.pass := rfl
@[simp] theorem putBytes_rst (s : State) (f : Nat → Nat) (bs : List Byte) : (s.putBytes f bs).rst = s.rst := rfl
@[simp] theorem putBytes_cairns (s : State) (f : Nat → Nat) (bs : List Byte) : (s.putBytes f bs).cairns = s.cairns := rfl
@[simp] theorem putBytes_retain (s : State) (f : Nat → Nat) (bs : List Byte) : (s.putBytes f bs).retain = s.retain := rfl
@[simp] theorem putBytes_gran (s : State) (f : Nat → Nat) (bs : List Byte) : (s.putBytes f bs).gran = s.gran := rfl
@[simp] theorem putBytes_doms (s : State) (f : Nat → Nat) (bs : List Byte) : (s.putBytes f bs).doms = s.doms := rfl
@[simp] theorem putBytes_uid (s : State) (f : Nat → Nat) (bs : List Byte) : (s.putBytes f bs).uid = s.uid := rfl
@[simp] theorem putBytes_otp (s : State) (f : Nat → Nat) (bs : List Byte) : (s.putBytes f bs).otp = s.otp := rfl
@[simp] theorem putBytes_mram (s : State) (f : Nat → Nat) (bs : List Byte) : (s.putBytes f bs).mram = s.mram := rfl

/-! ### takeFree -/

@[simp] theorem takeFree_pending (s : State) : (s.takeFree.2).pending = s.pending := rfl
@[simp] theorem takeFree_regs (s : State) : (s.takeFree.2).regs = s.regs := rfl
@[simp] theorem takeFree_sum (s : State) : (s.takeFree.2).sum = s.sum := rfl
@[simp] theorem takeFree_rdg (s : State) : (s.takeFree.2).rdg = s.rdg := rfl
@[simp] theorem takeFree_cut (s : State) : (s.takeFree.2).cut = s.cut := rfl
@[simp] theorem takeFree_stp (s : State) : (s.takeFree.2).stp = s.stp := rfl
@[simp] theorem takeFree_cou (s : State) : (s.takeFree.2).cou = s.cou := rfl
@[simp] theorem takeFree_flt (s : State) : (s.takeFree.2).flt = s.flt := rfl
@[simp] theorem takeFree_wch (s : State) : (s.takeFree.2).wch = s.wch := rfl
@[simp] theorem takeFree_cen (s : State) : (s.takeFree.2).cen = s.cen := rfl
@[simp] theorem takeFree_prb (s : State) : (s.takeFree.2).prb = s.prb := rfl
@[simp] theorem takeFree_crs (s : State) : (s.takeFree.2).crs = s.crs := rfl
@[simp] theorem takeFree_scr (s : State) : (s.takeFree.2).scr = s.scr := rfl
@[simp] theorem takeFree_tal (s : State) : (s.takeFree.2).tal = s.tal := rfl
@[simp] theorem takeFree_auth (s : State) : (s.takeFree.2).auth = s.auth := rfl
@[simp] theorem takeFree_pass (s : State) : (s.takeFree.2).pass = s.pass := rfl
@[simp] theorem takeFree_rst (s : State) : (s.takeFree.2).rst = s.rst := rfl
@[simp] theorem takeFree_cairns (s : State) : (s.takeFree.2).cairns = s.cairns := rfl
@[simp] theorem takeFree_retain (s : State) : (s.takeFree.2).retain = s.retain := rfl
@[simp] theorem takeFree_mem (s : State) : (s.takeFree.2).mem = s.mem := rfl
@[simp] theorem takeFree_gran (s : State) : (s.takeFree.2).gran = s.gran := rfl
@[simp] theorem takeFree_doms (s : State) : (s.takeFree.2).doms = s.doms := rfl
@[simp] theorem takeFree_uid (s : State) : (s.takeFree.2).uid = s.uid := rfl
@[simp] theorem takeFree_otp (s : State) : (s.takeFree.2).otp = s.otp := rfl
@[simp] theorem takeFree_mram (s : State) : (s.takeFree.2).mram = s.mram := rfl

/-! ### setEng -/

@[simp] theorem setEng_pending (s : State) (e : Nat) (x : EngSt) : (s.setEng e x).pending = s.pending := rfl
@[simp] theorem setEng_free (s : State) (e : Nat) (x : EngSt) : (s.setEng e x).free = s.free := rfl
@[simp] theorem setEng_regs (s : State) (e : Nat) (x : EngSt) : (s.setEng e x).regs = s.regs := rfl
@[simp] theorem setEng_sum (s : State) (e : Nat) (x : EngSt) : (s.setEng e x).sum = s.sum := rfl
@[simp] theorem setEng_rdg (s : State) (e : Nat) (x : EngSt) : (s.setEng e x).rdg = s.rdg := rfl
@[simp] theorem setEng_cut (s : State) (e : Nat) (x : EngSt) : (s.setEng e x).cut = s.cut := rfl
@[simp] theorem setEng_stp (s : State) (e : Nat) (x : EngSt) : (s.setEng e x).stp = s.stp := rfl
@[simp] theorem setEng_cou (s : State) (e : Nat) (x : EngSt) : (s.setEng e x).cou = s.cou := rfl
@[simp] theorem setEng_flt (s : State) (e : Nat) (x : EngSt) : (s.setEng e x).flt = s.flt := rfl
@[simp] theorem setEng_wch (s : State) (e : Nat) (x : EngSt) : (s.setEng e x).wch = s.wch := rfl
@[simp] theorem setEng_cen (s : State) (e : Nat) (x : EngSt) : (s.setEng e x).cen = s.cen := rfl
@[simp] theorem setEng_crs (s : State) (e : Nat) (x : EngSt) : (s.setEng e x).crs = s.crs := rfl
@[simp] theorem setEng_scr (s : State) (e : Nat) (x : EngSt) : (s.setEng e x).scr = s.scr := rfl
@[simp] theorem setEng_tal (s : State) (e : Nat) (x : EngSt) : (s.setEng e x).tal = s.tal := rfl
@[simp] theorem setEng_auth (s : State) (e : Nat) (x : EngSt) : (s.setEng e x).auth = s.auth := rfl
@[simp] theorem setEng_pass (s : State) (e : Nat) (x : EngSt) : (s.setEng e x).pass = s.pass := rfl
@[simp] theorem setEng_rst (s : State) (e : Nat) (x : EngSt) : (s.setEng e x).rst = s.rst := rfl
@[simp] theorem setEng_cairns (s : State) (e : Nat) (x : EngSt) : (s.setEng e x).cairns = s.cairns := rfl
@[simp] theorem setEng_retain (s : State) (e : Nat) (x : EngSt) : (s.setEng e x).retain = s.retain := rfl
@[simp] theorem setEng_mem (s : State) (e : Nat) (x : EngSt) : (s.setEng e x).mem = s.mem := rfl
@[simp] theorem setEng_gran (s : State) (e : Nat) (x : EngSt) : (s.setEng e x).gran = s.gran := rfl
@[simp] theorem setEng_doms (s : State) (e : Nat) (x : EngSt) : (s.setEng e x).doms = s.doms := rfl
@[simp] theorem setEng_uid (s : State) (e : Nat) (x : EngSt) : (s.setEng e x).uid = s.uid := rfl
@[simp] theorem setEng_otp (s : State) (e : Nat) (x : EngSt) : (s.setEng e x).otp = s.otp := rfl
@[simp] theorem setEng_mram (s : State) (e : Nat) (x : EngSt) : (s.setEng e x).mram = s.mram := rfl

/-! ### What a write leaves -/

/-- A register after a write to one. -/
theorem rd_wr (s : State) (a b n : Nat) : (s.wr a n).rd b = if b = a then n % 2 ^ 32 else s.rd b := by
  simp only [State.rd, State.wr, smGet_smSet]; split <;> simp

/-- A register just written reads as written, cut to 32 bits. -/
@[simp] theorem rd_wr_same (s : State) (a n : Nat) : (s.wr a n).rd a = n % 2 ^ 32 := by simp [rd_wr]

/-- Every other register stands. -/
theorem rd_wr_ne (s : State) {a b : Nat} (n : Nat) (hb : b ≠ a) : (s.wr a n).rd b = s.rd b := by simp [rd_wr, hb]

/-- Every register but the field's own stands. -/
theorem rd_setF_ne (s : State) (f : Fld) {b : Nat} (n : Nat) (hb : b ≠ f.addr) : (s.setF f n).rd b = s.rd b := by
  simp only [State.rd, State.setF, smGet_smSet_ne _ _ hb]

/-- A field of another register than the one written. -/
theorem f_wr_ne (s : State) (a n : Nat) (f : Fld) (h : f.addr ≠ a) : (s.wr a n).f f = s.f f := by
  simp only [State.f, State.wr, smGet_smSet_ne _ _ h]

/-- A field just written reads as written. -/
theorem f_setF_same (s : State) (f : Fld) (n : Nat) (h : f.lo + f.width ≤ 32) : (s.setF f n).f f = n % 2 ^ f.width := by
  simp only [State.f, State.setF, smGet_smSet_same, Fld.get_set f _ n h]

/-- The registers stay in canonical form. -/
theorem wr_canonical (s : State) (a n : Nat) (h : smWf 0 s.regs = true) : smWf 0 (s.wr a n).regs = true := smWf_smSet _ _ h

/-- So they do when a field is written. -/
theorem setF_canonical (s : State) (f : Fld) (n : Nat) (h : smWf 0 s.regs = true) : smWf 0 (s.setF f n).regs = true := smWf_smSet _ _ h

/-- A field of another register stands. -/
theorem f_setF_ne (s : State) {f g : Fld} (n : Nat) (hg : g.addr ≠ f.addr) : (s.setF f n).f g = s.f g := by
  simp only [State.f, State.setF, smGet_smSet_ne _ _ hg]

/-- What a happening at the hub leaves alone. -/
@[simp] theorem keeping_pending (s t : State) : (s.keeping t).pending = s.pending := rfl
@[simp] theorem keeping_on (s t : State) : (s.keeping t).rst.on = s.rst.on := rfl

end Sys2Proof.Machine
end

