-- ==== Sys2Proof/Laws/Ops.lean ====
section
/-! SUPPORT. Laws/Ops.lean: the parts of the state that the shared operations leave alone, and what they leave in the others. -/

namespace Sys2Proof.Machine

/-! ### Parts left alone -/
@[simp] theorem bump_pending (s : State) (a : Nat) : (s.bump a).pending = s.pending := rfl
@[simp] theorem bump_free (s : State) (a : Nat) : (s.bump a).free = s.free := rfl
@[simp] theorem bump_sum (s : State) (a : Nat) : (s.bump a).sum = s.sum := rfl
@[simp] theorem bump_rdg (s : State) (a : Nat) : (s.bump a).rdg = s.rdg := rfl
@[simp] theorem bump_cut (s : State) (a : Nat) : (s.bump a).cut = s.cut := rfl
@[simp] theorem bump_stp (s : State) (a : Nat) : (s.bump a).stp = s.stp := rfl
@[simp] theorem bump_cou (s : State) (a : Nat) : (s.bump a).cou = s.cou := rfl
@[simp] theorem bump_flt (s : State) (a : Nat) : (s.bump a).flt = s.flt := rfl
@[simp] theorem bump_wch (s : State) (a : Nat) : (s.bump a).wch = s.wch := rfl
@[simp] theorem bump_cen (s : State) (a : Nat) : (s.bump a).cen = s.cen := rfl
@[simp] theorem bump_prb (s : State) (a : Nat) : (s.bump a).prb = s.prb := rfl
@[simp] theorem bump_crs (s : State) (a : Nat) : (s.bump a).crs = s.crs := rfl
@[simp] theorem bump_scr (s : State) (a : Nat) : (s.bump a).scr = s.scr := rfl
@[simp] theorem bump_tal (s : State) (a : Nat) : (s.bump a).tal = s.tal := rfl
@[simp] theorem bump_auth (s : State) (a : Nat) : (s.bump a).auth = s.auth := rfl
@[simp] theorem bump_pass (s : State) (a : Nat) : (s.bump a).pass = s.pass := rfl
@[simp] theorem bump_rst (s : State) (a : Nat) : (s.bump a).rst = s.rst := rfl
@[simp] theorem bump_cairns (s : State) (a : Nat) : (s.bump a).cairns = s.cairns := rfl
@[simp] theorem bump_retain (s : State) (a : Nat) : (s.bump a).retain = s.retain := rfl
@[simp] theorem bump_mem (s : State) (a : Nat) : (s.bump a).mem = s.mem := rfl
@[simp] theorem bump_gran (s : State) (a : Nat) : (s.bump a).gran = s.gran := rfl
@[simp] theorem bump_doms (s : State) (a : Nat) : (s.bump a).doms = s.doms := rfl
@[simp] theorem bump_uid (s : State) (a : Nat) : (s.bump a).uid = s.uid := rfl
@[simp] theorem bump_otp (s : State) (a : Nat) : (s.bump a).otp = s.otp := rfl
@[simp] theorem bump_mram (s : State) (a : Nat) : (s.bump a).mram = s.mram := rfl
@[simp] theorem satAdd_pending (s : State) (f : Fld) (n : Nat) : (s.satAdd f n).pending = s.pending := rfl
@[simp] theorem satAdd_free (s : State) (f : Fld) (n : Nat) : (s.satAdd f n).free = s.free := rfl
@[simp] theorem satAdd_sum (s : State) (f : Fld) (n : Nat) : (s.satAdd f n).sum = s.sum := rfl
@[simp] theorem satAdd_rdg (s : State) (f : Fld) (n : Nat) : (s.satAdd f n).rdg = s.rdg := rfl
@[simp] theorem satAdd_cut (s : State) (f : Fld) (n : Nat) : (s.satAdd f n).cut = s.cut := rfl
@[simp] theorem satAdd_stp (s : State) (f : Fld) (n : Nat) : (s.satAdd f n).stp = s.stp := rfl
@[simp] theorem satAdd_cou (s : State) (f : Fld) (n : Nat) : (s.satAdd f n).cou = s.cou := rfl
@[simp] theorem satAdd_flt (s : State) (f : Fld) (n : Nat) : (s.satAdd f n).flt = s.flt := rfl
@[simp] theorem satAdd_wch (s : State) (f : Fld) (n : Nat) : (s.satAdd f n).wch = s.wch := rfl
@[simp] theorem satAdd_cen (s : State) (f : Fld) (n : Nat) : (s.satAdd f n).cen = s.cen := rfl
@[simp] theorem satAdd_prb (s : State) (f : Fld) (n : Nat) : (s.satAdd f n).prb = s.prb := rfl
@[simp] theorem satAdd_crs (s : State) (f : Fld) (n : Nat) : (s.satAdd f n).crs = s.crs := rfl
@[simp] theorem satAdd_scr (s : State) (f : Fld) (n : Nat) : (s.satAdd f n).scr = s.scr := rfl
@[simp] theorem satAdd_tal (s : State) (f : Fld) (n : Nat) : (s.satAdd f n).tal = s.tal := rfl
@[simp] theorem satAdd_auth (s : State) (f : Fld) (n : Nat) : (s.satAdd f n).auth = s.auth := rfl
@[simp] theorem satAdd_pass (s : State) (f : Fld) (n : Nat) : (s.satAdd f n).pass = s.pass := rfl
@[simp] theorem satAdd_rst (s : State) (f : Fld) (n : Nat) : (s.satAdd f n).rst = s.rst := rfl
@[simp] theorem satAdd_cairns (s : State) (f : Fld) (n : Nat) : (s.satAdd f n).cairns = s.cairns := rfl
@[simp] theorem satAdd_retain (s : State) (f : Fld) (n : Nat) : (s.satAdd f n).retain = s.retain := rfl
@[simp] theorem satAdd_mem (s : State) (f : Fld) (n : Nat) : (s.satAdd f n).mem = s.mem := rfl
@[simp] theorem satAdd_gran (s : State) (f : Fld) (n : Nat) : (s.satAdd f n).gran = s.gran := rfl
@[simp] theorem satAdd_doms (s : State) (f : Fld) (n : Nat) : (s.satAdd f n).doms = s.doms := rfl
@[simp] theorem satAdd_uid (s : State) (f : Fld) (n : Nat) : (s.satAdd f n).uid = s.uid := rfl
@[simp] theorem satAdd_otp (s : State) (f : Fld) (n : Nat) : (s.satAdd f n).otp = s.otp := rfl
@[simp] theorem satAdd_mram (s : State) (f : Fld) (n : Nat) : (s.satAdd f n).mram = s.mram := rfl
@[simp] theorem wrapAdd_pending (s : State) (f : Fld) (n : Nat) : (s.wrapAdd f n).pending = s.pending := rfl
@[simp] theorem wrapAdd_free (s : State) (f : Fld) (n : Nat) : (s.wrapAdd f n).free = s.free := rfl
@[simp] theorem wrapAdd_sum (s : State) (f : Fld) (n : Nat) : (s.wrapAdd f n).sum = s.sum := rfl
@[simp] theorem wrapAdd_rdg (s : State) (f : Fld) (n : Nat) : (s.wrapAdd f n).rdg = s.rdg := rfl
@[simp] theorem wrapAdd_cut (s : State) (f : Fld) (n : Nat) : (s.wrapAdd f n).cut = s.cut := rfl
@[simp] theorem wrapAdd_stp (s : State) (f : Fld) (n : Nat) : (s.wrapAdd f n).stp = s.stp := rfl
@[simp] theorem wrapAdd_cou (s : State) (f : Fld) (n : Nat) : (s.wrapAdd f n).cou = s.cou := rfl
@[simp] theorem wrapAdd_flt (s : State) (f : Fld) (n : Nat) : (s.wrapAdd f n).flt = s.flt := rfl
@[simp] theorem wrapAdd_wch (s : State) (f : Fld) (n : Nat) : (s.wrapAdd f n).wch = s.wch := rfl
@[simp] theorem wrapAdd_cen (s : State) (f : Fld) (n : Nat) : (s.wrapAdd f n).cen = s.cen := rfl
@[simp] theorem wrapAdd_prb (s : State) (f : Fld) (n : Nat) : (s.wrapAdd f n).prb = s.prb := rfl
@[simp] theorem wrapAdd_crs (s : State) (f : Fld) (n : Nat) : (s.wrapAdd f n).crs = s.crs := rfl
@[simp] theorem wrapAdd_scr (s : State) (f : Fld) (n : Nat) : (s.wrapAdd f n).scr = s.scr := rfl
@[simp] theorem wrapAdd_tal (s : State) (f : Fld) (n : Nat) : (s.wrapAdd f n).tal = s.tal := rfl
@[simp] theorem wrapAdd_auth (s : State) (f : Fld) (n : Nat) : (s.wrapAdd f n).auth = s.auth := rfl
@[simp] theorem wrapAdd_pass (s : State) (f : Fld) (n : Nat) : (s.wrapAdd f n).pass = s.pass := rfl
@[simp] theorem wrapAdd_rst (s : State) (f : Fld) (n : Nat) : (s.wrapAdd f n).rst = s.rst := rfl
@[simp] theorem wrapAdd_cairns (s : State) (f : Fld) (n : Nat) : (s.wrapAdd f n).cairns = s.cairns := rfl
@[simp] theorem wrapAdd_retain (s : State) (f : Fld) (n : Nat) : (s.wrapAdd f n).retain = s.retain := rfl
@[simp] theorem wrapAdd_mem (s : State) (f : Fld) (n : Nat) : (s.wrapAdd f n).mem = s.mem := rfl
@[simp] theorem wrapAdd_gran (s : State) (f : Fld) (n : Nat) : (s.wrapAdd f n).gran = s.gran := rfl
@[simp] theorem wrapAdd_doms (s : State) (f : Fld) (n : Nat) : (s.wrapAdd f n).doms = s.doms := rfl
@[simp] theorem wrapAdd_uid (s : State) (f : Fld) (n : Nat) : (s.wrapAdd f n).uid = s.uid := rfl
@[simp] theorem wrapAdd_otp (s : State) (f : Fld) (n : Nat) : (s.wrapAdd f n).otp = s.otp := rfl
@[simp] theorem wrapAdd_mram (s : State) (f : Fld) (n : Nat) : (s.wrapAdd f n).mram = s.mram := rfl
@[simp] theorem satAddR_pending (s : State) (a n : Nat) : (s.satAddR a n).pending = s.pending := rfl
@[simp] theorem satAddR_free (s : State) (a n : Nat) : (s.satAddR a n).free = s.free := rfl
@[simp] theorem satAddR_sum (s : State) (a n : Nat) : (s.satAddR a n).sum = s.sum := rfl
@[simp] theorem satAddR_rdg (s : State) (a n : Nat) : (s.satAddR a n).rdg = s.rdg := rfl
@[simp] theorem satAddR_cut (s : State) (a n : Nat) : (s.satAddR a n).cut = s.cut := rfl
@[simp] theorem satAddR_stp (s : State) (a n : Nat) : (s.satAddR a n).stp = s.stp := rfl
@[simp] theorem satAddR_cou (s : State) (a n : Nat) : (s.satAddR a n).cou = s.cou := rfl
@[simp] theorem satAddR_flt (s : State) (a n : Nat) : (s.satAddR a n).flt = s.flt := rfl
@[simp] theorem satAddR_wch (s : State) (a n : Nat) : (s.satAddR a n).wch = s.wch := rfl
@[simp] theorem satAddR_cen (s : State) (a n : Nat) : (s.satAddR a n).cen = s.cen := rfl
@[simp] theorem satAddR_prb (s : State) (a n : Nat) : (s.satAddR a n).prb = s.prb := rfl
@[simp] theorem satAddR_crs (s : State) (a n : Nat) : (s.satAddR a n).crs = s.crs := rfl
@[simp] theorem satAddR_scr (s : State) (a n : Nat) : (s.satAddR a n).scr = s.scr := rfl
@[simp] theorem satAddR_tal (s : State) (a n : Nat) : (s.satAddR a n).tal = s.tal := rfl
@[simp] theorem satAddR_auth (s : State) (a n : Nat) : (s.satAddR a n).auth = s.auth := rfl
@[simp] theorem satAddR_pass (s : State) (a n : Nat) : (s.satAddR a n).pass = s.pass := rfl
@[simp] theorem satAddR_rst (s : State) (a n : Nat) : (s.satAddR a n).rst = s.rst := rfl
@[simp] theorem satAddR_cairns (s : State) (a n : Nat) : (s.satAddR a n).cairns = s.cairns := rfl
@[simp] theorem satAddR_retain (s : State) (a n : Nat) : (s.satAddR a n).retain = s.retain := rfl
@[simp] theorem satAddR_mem (s : State) (a n : Nat) : (s.satAddR a n).mem = s.mem := rfl
@[simp] theorem satAddR_gran (s : State) (a n : Nat) : (s.satAddR a n).gran = s.gran := rfl
@[simp] theorem satAddR_doms (s : State) (a n : Nat) : (s.satAddR a n).doms = s.doms := rfl
@[simp] theorem satAddR_uid (s : State) (a n : Nat) : (s.satAddR a n).uid = s.uid := rfl
@[simp] theorem satAddR_otp (s : State) (a n : Nat) : (s.satAddR a n).otp = s.otp := rfl
@[simp] theorem satAddR_mram (s : State) (a n : Nat) : (s.satAddR a n).mram = s.mram := rfl
@[simp] theorem wr64_pending (s : State) (a n : Nat) : (s.wr64 a n).pending = s.pending := rfl
@[simp] theorem wr64_free (s : State) (a n : Nat) : (s.wr64 a n).free = s.free := rfl
@[simp] theorem wr64_sum (s : State) (a n : Nat) : (s.wr64 a n).sum = s.sum := rfl
@[simp] theorem wr64_rdg (s : State) (a n : Nat) : (s.wr64 a n).rdg = s.rdg := rfl
@[simp] theorem wr64_cut (s : State) (a n : Nat) : (s.wr64 a n).cut = s.cut := rfl
@[simp] theorem wr64_stp (s : State) (a n : Nat) : (s.wr64 a n).stp = s.stp := rfl
@[simp] theorem wr64_cou (s : State) (a n : Nat) : (s.wr64 a n).cou = s.cou := rfl
@[simp] theorem wr64_flt (s : State) (a n : Nat) : (s.wr64 a n).flt = s.flt := rfl
@[simp] theorem wr64_wch (s : State) (a n : Nat) : (s.wr64 a n).wch = s.wch := rfl
@[simp] theorem wr64_cen (s : State) (a n : Nat) : (s.wr64 a n).cen = s.cen := rfl
@[simp] theorem wr64_prb (s : State) (a n : Nat) : (s.wr64 a n).prb = s.prb := rfl
@[simp] theorem wr64_crs (s : State) (a n : Nat) : (s.wr64 a n).crs = s.crs := rfl
@[simp] theorem wr64_scr (s : State) (a n : Nat) : (s.wr64 a n).scr = s.scr := rfl
@[simp] theorem wr64_tal (s : State) (a n : Nat) : (s.wr64 a n).tal = s.tal := rfl
@[simp] theorem wr64_auth (s : State) (a n : Nat) : (s.wr64 a n).auth = s.auth := rfl
@[simp] theorem wr64_pass (s : State) (a n : Nat) : (s.wr64 a n).pass = s.pass := rfl
@[simp] theorem wr64_rst (s : State) (a n : Nat) : (s.wr64 a n).rst = s.rst := rfl
@[simp] theorem wr64_cairns (s : State) (a n : Nat) : (s.wr64 a n).cairns = s.cairns := rfl
@[simp] theorem wr64_retain (s : State) (a n : Nat) : (s.wr64 a n).retain = s.retain := rfl
@[simp] theorem wr64_mem (s : State) (a n : Nat) : (s.wr64 a n).mem = s.mem := rfl
@[simp] theorem wr64_gran (s : State) (a n : Nat) : (s.wr64 a n).gran = s.gran := rfl
@[simp] theorem wr64_doms (s : State) (a n : Nat) : (s.wr64 a n).doms = s.doms := rfl
@[simp] theorem wr64_uid (s : State) (a n : Nat) : (s.wr64 a n).uid = s.uid := rfl
@[simp] theorem wr64_otp (s : State) (a n : Nat) : (s.wr64 a n).otp = s.otp := rfl
@[simp] theorem wr64_mram (s : State) (a n : Nat) : (s.wr64 a n).mram = s.mram := rfl
@[simp] theorem raise_pending (s : State) (n : EvName) (src : Nat) (d : List EvVal) (x : Bool) : (s.raise n src d x).pending = s.pending := rfl
@[simp] theorem raise_free (s : State) (n : EvName) (src : Nat) (d : List EvVal) (x : Bool) : (s.raise n src d x).free = s.free := rfl
@[simp] theorem raise_rdg (s : State) (n : EvName) (src : Nat) (d : List EvVal) (x : Bool) : (s.raise n src d x).rdg = s.rdg := rfl
@[simp] theorem raise_cut (s : State) (n : EvName) (src : Nat) (d : List EvVal) (x : Bool) : (s.raise n src d x).cut = s.cut := rfl
@[simp] theorem raise_stp (s : State) (n : EvName) (src : Nat) (d : List EvVal) (x : Bool) : (s.raise n src d x).stp = s.stp := rfl
@[simp] theorem raise_cou (s : State) (n : EvName) (src : Nat) (d : List EvVal) (x : Bool) : (s.raise n src d x).cou = s.cou := rfl
@[simp] theorem raise_flt (s : State) (n : EvName) (src : Nat) (d : List EvVal) (x : Bool) : (s.raise n src d x).flt = s.flt := rfl
@[simp] theorem raise_wch (s : State) (n : EvName) (src : Nat) (d : List EvVal) (x : Bool) : (s.raise n src d x).wch = s.wch := rfl
@[simp] theorem raise_cen (s : State) (n : EvName) (src : Nat) (d : List EvVal) (x : Bool) : (s.raise n src d x).cen = s.cen := rfl
@[simp] theorem raise_prb (s : State) (n : EvName) (src : Nat) (d : List EvVal) (x : Bool) : (s.raise n src d x).prb = s.prb := rfl
@[simp] theorem raise_crs (s : State) (n : EvName) (src : Nat) (d : List EvVal) (x : Bool) : (s.raise n src d x).crs = s.crs := rfl
@[simp] theorem raise_scr (s : State) (n : EvName) (src : Nat) (d : List EvVal) (x : Bool) : (s.raise n src d x).scr = s.scr := rfl
@[simp] theorem raise_tal (s : State) (n : EvName) (src : Nat) (d : List EvVal) (x : Bool) : (s.raise n src d x).tal = s.tal := rfl
@[simp] theorem raise_auth (s : State) (n : EvName) (src : Nat) (d : List EvVal) (x : Bool) : (s.raise n src d x).auth = s.auth := rfl
@[simp] theorem raise_pass (s : State) (n : EvName) (src : Nat) (d : List EvVal) (x : Bool) : (s.raise n src d x).pass = s.pass := rfl
@[simp] theorem raise_rst (s : State) (n : EvName) (src : Nat) (d : List EvVal) (x : Bool) : (s.raise n src d x).rst = s.rst := rfl
@[simp] theorem raise_cairns (s : State) (n : EvName) (src : Nat) (d : List EvVal) (x : Bool) : (s.raise n src d x).cairns = s.cairns := rfl
@[simp] theorem raise_retain (s : State) (n : EvName) (src : Nat) (d : List EvVal) (x : Bool) : (s.raise n src d x).retain = s.retain := rfl
@[simp] theorem raise_mem (s : State) (n : EvName) (src : Nat) (d : List EvVal) (x : Bool) : (s.raise n src d x).mem = s.mem := rfl
@[simp] theorem raise_gran (s : State) (n : EvName) (src : Nat) (d : List EvVal) (x : Bool) : (s.raise n src d x).gran = s.gran := rfl
@[simp] theorem raise_doms (s : State) (n : EvName) (src : Nat) (d : List EvVal) (x : Bool) : (s.raise n src d x).doms = s.doms := rfl
@[simp] theorem raise_uid (s : State) (n : EvName) (src : Nat) (d : List EvVal) (x : Bool) : (s.raise n src d x).uid = s.uid := rfl
@[simp] theorem raise_otp (s : State) (n : EvName) (src : Nat) (d : List EvVal) (x : Bool) : (s.raise n src d x).otp = s.otp := rfl
@[simp] theorem raise_mram (s : State) (n : EvName) (src : Nat) (d : List EvVal) (x : Bool) : (s.raise n src d x).mram = s.mram := rfl
@[simp] theorem touch_pending (s : State) (id : Nat) : (s.touch id).pending = s.pending := by
  unfold State.touch; repeat' split
  all_goals rfl
@[simp] theorem touch_free (s : State) (id : Nat) : (s.touch id).free = s.free := by
  unfold State.touch; repeat' split
  all_goals rfl
@[simp] theorem touch_rdg (s : State) (id : Nat) : (s.touch id).rdg = s.rdg := by
  unfold State.touch; repeat' split
  all_goals rfl
@[simp] theorem touch_cut (s : State) (id : Nat) : (s.touch id).cut = s.cut := by
  unfold State.touch; repeat' split
  all_goals rfl
@[simp] theorem touch_stp (s : State) (id : Nat) : (s.touch id).stp = s.stp := by
  unfold State.touch; repeat' split
  all_goals rfl
@[simp] theorem touch_cou (s : State) (id : Nat) : (s.touch id).cou = s.cou := by
  unfold State.touch; repeat' split
  all_goals rfl
@[simp] theorem touch_flt (s : State) (id : Nat) : (s.touch id).flt = s.flt := by
  unfold State.touch; repeat' split
  all_goals rfl
@[simp] theorem touch_wch (s : State) (id : Nat) : (s.touch id).wch = s.wch := by
  unfold State.touch; repeat' split
  all_goals rfl
@[simp] theorem touch_cen (s : State) (id : Nat) : (s.touch id).cen = s.cen := by
  unfold State.touch; repeat' split
  all_goals rfl
@[simp] theorem touch_prb (s : State) (id : Nat) : (s.touch id).prb = s.prb := by
  unfold State.touch; repeat' split
  all_goals rfl
@[simp] theorem touch_crs (s : State) (id : Nat) : (s.touch id).crs = s.crs := by
  unfold State.touch; repeat' split
  all_goals rfl
@[simp] theorem touch_scr (s : State) (id : Nat) : (s.touch id).scr = s.scr := by
  unfold State.touch; repeat' split
  all_goals rfl
@[simp] theorem touch_tal (s : State) (id : Nat) : (s.touch id).tal = s.tal := by
  unfold State.touch; repeat' split
  all_goals rfl
@[simp] theorem touch_auth (s : State) (id : Nat) : (s.touch id).auth = s.auth := by
  unfold State.touch; repeat' split
  all_goals rfl
@[simp] theorem touch_pass (s : State) (id : Nat) : (s.touch id).pass = s.pass := by
  unfold State.touch; repeat' split
  all_goals rfl
@[simp] theorem touch_rst (s : State) (id : Nat) : (s.touch id).rst = s.rst := by
  unfold State.touch; repeat' split
  all_goals rfl
@[simp] theorem touch_cairns (s : State) (id : Nat) : (s.touch id).cairns = s.cairns := by
  unfold State.touch; repeat' split
  all_goals rfl
@[simp] theorem touch_retain (s : State) (id : Nat) : (s.touch id).retain = s.retain := by
  unfold State.touch; repeat' split
  all_goals rfl
@[simp] theorem touch_mem (s : State) (id : Nat) : (s.touch id).mem = s.mem := by
  unfold State.touch; repeat' split
  all_goals rfl
@[simp] theorem touch_gran (s : State) (id : Nat) : (s.touch id).gran = s.gran := by
  unfold State.touch; repeat' split
  all_goals rfl
@[simp] theorem touch_doms (s : State) (id : Nat) : (s.touch id).doms = s.doms := by
  unfold State.touch; repeat' split
  all_goals rfl
@[simp] theorem touch_uid (s : State) (id : Nat) : (s.touch id).uid = s.uid := by
  unfold State.touch; repeat' split
  all_goals rfl
@[simp] theorem touch_otp (s : State) (id : Nat) : (s.touch id).otp = s.otp := by
  unfold State.touch; repeat' split
  all_goals rfl
@[simp] theorem touch_mram (s : State) (id : Nat) : (s.touch id).mram = s.mram := by
  unfold State.touch; repeat' split
  all_goals rfl
@[simp] theorem raiseC_pending (s : State) (id : Nat) (n : EvName) (t : Nat) (d : List EvVal) (x : Bool) : (s.raiseC id n t d x).pending = s.pending := by
  simp [State.raiseC]
@[simp] theorem raiseC_free (s : State) (id : Nat) (n : EvName) (t : Nat) (d : List EvVal) (x : Bool) : (s.raiseC id n t d x).free = s.free := by
  simp [State.raiseC]
@[simp] theorem raiseC_rdg (s : State) (id : Nat) (n : EvName) (t : Nat) (d : List EvVal) (x : Bool) : (s.raiseC id n t d x).rdg = s.rdg := by
  simp [State.raiseC]
@[simp] theorem raiseC_cut (s : State) (id : Nat) (n : EvName) (t : Nat) (d : List EvVal) (x : Bool) : (s.raiseC id n t d x).cut = s.cut := by
  simp [State.raiseC]
@[simp] theorem raiseC_stp (s : State) (id : Nat) (n : EvName) (t : Nat) (d : List EvVal) (x : Bool) : (s.raiseC id n t d x).stp = s.stp := by
  simp [State.raiseC]
@[simp] theorem raiseC_cou (s : State) (id : Nat) (n : EvName) (t : Nat) (d : List EvVal) (x : Bool) : (s.raiseC id n t d x).cou = s.cou := by
  simp [State.raiseC]
@[simp] theorem raiseC_flt (s : State) (id : Nat) (n : EvName) (t : Nat) (d : List EvVal) (x : Bool) : (s.raiseC id n t d x).flt = s.flt := by
  simp [State.raiseC]
@[simp] theorem raiseC_wch (s : State) (id : Nat) (n : EvName) (t : Nat) (d : List EvVal) (x : Bool) : (s.raiseC id n t d x).wch = s.wch := by
  simp [State.raiseC]
@[simp] theorem raiseC_cen (s : State) (id : Nat) (n : EvName) (t : Nat) (d : List EvVal) (x : Bool) : (s.raiseC id n t d x).cen = s.cen := by
  simp [State.raiseC]
@[simp] theorem raiseC_prb (s : State) (id : Nat) (n : EvName) (t : Nat) (d : List EvVal) (x : Bool) : (s.raiseC id n t d x).prb = s.prb := by
  simp [State.raiseC]
@[simp] theorem raiseC_crs (s : State) (id : Nat) (n : EvName) (t : Nat) (d : List EvVal) (x : Bool) : (s.raiseC id n t d x).crs = s.crs := by
  simp [State.raiseC]
@[simp] theorem raiseC_scr (s : State) (id : Nat) (n : EvName) (t : Nat) (d : List EvVal) (x : Bool) : (s.raiseC id n t d x).scr = s.scr := by
  simp [State.raiseC]
@[simp] theorem raiseC_tal (s : State) (id : Nat) (n : EvName) (t : Nat) (d : List EvVal) (x : Bool) : (s.raiseC id n t d x).tal = s.tal := by
  simp [State.raiseC]
@[simp] theorem raiseC_auth (s : State) (id : Nat) (n : EvName) (t : Nat) (d : List EvVal) (x : Bool) : (s.raiseC id n t d x).auth = s.auth := by
  simp [State.raiseC]
@[simp] theorem raiseC_pass (s : State) (id : Nat) (n : EvName) (t : Nat) (d : List EvVal) (x : Bool) : (s.raiseC id n t d x).pass = s.pass := by
  simp [State.raiseC]
@[simp] theorem raiseC_rst (s : State) (id : Nat) (n : EvName) (t : Nat) (d : List EvVal) (x : Bool) : (s.raiseC id n t d x).rst = s.rst := by
  simp [State.raiseC]
@[simp] theorem raiseC_retain (s : State) (id : Nat) (n : EvName) (t : Nat) (d : List EvVal) (x : Bool) : (s.raiseC id n t d x).retain = s.retain := by
  simp [State.raiseC]
@[simp] theorem raiseC_mem (s : State) (id : Nat) (n : EvName) (t : Nat) (d : List EvVal) (x : Bool) : (s.raiseC id n t d x).mem = s.mem := by
  simp [State.raiseC]
@[simp] theorem raiseC_gran (s : State) (id : Nat) (n : EvName) (t : Nat) (d : List EvVal) (x : Bool) : (s.raiseC id n t d x).gran = s.gran := by
  simp [State.raiseC]
@[simp] theorem raiseC_doms (s : State) (id : Nat) (n : EvName) (t : Nat) (d : List EvVal) (x : Bool) : (s.raiseC id n t d x).doms = s.doms := by
  simp [State.raiseC]
@[simp] theorem raiseC_uid (s : State) (id : Nat) (n : EvName) (t : Nat) (d : List EvVal) (x : Bool) : (s.raiseC id n t d x).uid = s.uid := by
  simp [State.raiseC]
@[simp] theorem raiseC_otp (s : State) (id : Nat) (n : EvName) (t : Nat) (d : List EvVal) (x : Bool) : (s.raiseC id n t d x).otp = s.otp := by
  simp [State.raiseC]
@[simp] theorem raiseC_mram (s : State) (id : Nat) (n : EvName) (t : Nat) (d : List EvVal) (x : Bool) : (s.raiseC id n t d x).mram = s.mram := by
  simp [State.raiseC]
@[simp] theorem fifoPut_pending (s : State) (p : Nat) (e : Ev) : (s.fifoPut p e).pending = s.pending := by
  dsimp only [State.fifoPut]; split <;> rfl
@[simp] theorem fifoPut_free (s : State) (p : Nat) (e : Ev) : (s.fifoPut p e).free = s.free := by
  dsimp only [State.fifoPut]; split <;> rfl
@[simp] theorem fifoPut_regs (s : State) (p : Nat) (e : Ev) : (s.fifoPut p e).regs = s.regs := by
  dsimp only [State.fifoPut]; split <;> rfl
@[simp] theorem fifoPut_rdg (s : State) (p : Nat) (e : Ev) : (s.fifoPut p e).rdg = s.rdg := by
  dsimp only [State.fifoPut]; split <;> rfl
@[simp] theorem fifoPut_cut (s : State) (p : Nat) (e : Ev) : (s.fifoPut p e).cut = s.cut := by
  dsimp only [State.fifoPut]; split <;> rfl
@[simp] theorem fifoPut_stp (s : State) (p : Nat) (e : Ev) : (s.fifoPut p e).stp = s.stp := by
  dsimp only [State.fifoPut]; split <;> rfl
@[simp] theorem fifoPut_cou (s : State) (p : Nat) (e : Ev) : (s.fifoPut p e).cou = s.cou := by
  dsimp only [State.fifoPut]; split <;> rfl
@[simp] theorem fifoPut_flt (s : State) (p : Nat) (e : Ev) : (s.fifoPut p e).flt = s.flt := by
  dsimp only [State.fifoPut]; split <;> rfl
@[simp] theorem fifoPut_wch (s : State) (p : Nat) (e : Ev) : (s.fifoPut p e).wch = s.wch := by
  dsimp only [State.fifoPut]; split <;> rfl
@[simp] theorem fifoPut_cen (s : State) (p : Nat) (e : Ev) : (s.fifoPut p e).cen = s.cen := by
  dsimp only [State.fifoPut]; split <;> rfl
@[simp] theorem fifoPut_prb (s : State) (p : Nat) (e : Ev) : (s.fifoPut p e).prb = s.prb := by
  dsimp only [State.fifoPut]; split <;> rfl
@[simp] theorem fifoPut_crs (s : State) (p : Nat) (e : Ev) : (s.fifoPut p e).crs = s.crs := by
  dsimp only [State.fifoPut]; split <;> rfl
@[simp] theorem fifoPut_scr (s : State) (p : Nat) (e : Ev) : (s.fifoPut p e).scr = s.scr := by
  dsimp only [State.fifoPut]; split <;> rfl
@[simp] theorem fifoPut_tal (s : State) (p : Nat) (e : Ev) : (s.fifoPut p e).tal = s.tal := by
  dsimp only [State.fifoPut]; split <;> rfl
@[simp] theorem fifoPut_auth (s : State) (p : Nat) (e : Ev) : (s.fifoPut p e).auth = s.auth := by
  dsimp only [State.fifoPut]; split <;> rfl
@[simp] theorem fifoPut_pass (s : State) (p : Nat) (e : Ev) : (s.fifoPut p e).pass = s.pass := by
  dsimp only [State.fifoPut]; split <;> rfl
@[simp] theorem fifoPut_rst (s : State) (p : Nat) (e : Ev) : (s.fifoPut p e).rst = s.rst := by
  dsimp only [State.fifoPut]; split <;> rfl
@[simp] theorem fifoPut_cairns (s : State) (p : Nat) (e : Ev) : (s.fifoPut p e).cairns = s.cairns := by
  dsimp only [State.fifoPut]; split <;> rfl
@[simp] theorem fifoPut_retain (s : State) (p : Nat) (e : Ev) : (s.fifoPut p e).retain = s.retain := by
  dsimp only [State.fifoPut]; split <;> rfl
@[simp] theorem fifoPut_mem (s : State) (p : Nat) (e : Ev) : (s.fifoPut p e).mem = s.mem := by
  dsimp only [State.fifoPut]; split <;> rfl
@[simp] theorem fifoPut_gran (s : State) (p : Nat) (e : Ev) : (s.fifoPut p e).gran = s.gran := by
  dsimp only [State.fifoPut]; split <;> rfl
@[simp] theorem fifoPut_doms (s : State) (p : Nat) (e : Ev) : (s.fifoPut p e).doms = s.doms := by
  dsimp only [State.fifoPut]; split <;> rfl
@[simp] theorem fifoPut_uid (s : State) (p : Nat) (e : Ev) : (s.fifoPut p e).uid = s.uid := by
  dsimp only [State.fifoPut]; split <;> rfl
@[simp] theorem fifoPut_otp (s : State) (p : Nat) (e : Ev) : (s.fifoPut p e).otp = s.otp := by
  dsimp only [State.fifoPut]; split <;> rfl
@[simp] theorem fifoPut_mram (s : State) (p : Nat) (e : Ev) : (s.fifoPut p e).mram = s.mram := by
  dsimp only [State.fifoPut]; split <;> rfl
@[simp] theorem spurPut_pending (s : State) (p : Nat) (e : Ev) : (s.spurPut p e).pending = s.pending := by
  unfold State.spurPut; repeat' split
  all_goals simp
@[simp] theorem spurPut_free (s : State) (p : Nat) (e : Ev) : (s.spurPut p e).free = s.free := by
  unfold State.spurPut; repeat' split
  all_goals simp
@[simp] theorem spurPut_regs (s : State) (p : Nat) (e : Ev) : (s.spurPut p e).regs = s.regs := by
  unfold State.spurPut; repeat' split
  all_goals simp
@[simp] theorem spurPut_rdg (s : State) (p : Nat) (e : Ev) : (s.spurPut p e).rdg = s.rdg := by
  unfold State.spurPut; repeat' split
  all_goals simp
@[simp] theorem spurPut_cut (s : State) (p : Nat) (e : Ev) : (s.spurPut p e).cut = s.cut := by
  unfold State.spurPut; repeat' split
  all_goals simp
@[simp] theorem spurPut_stp (s : State) (p : Nat) (e : Ev) : (s.spurPut p e).stp = s.stp := by
  unfold State.spurPut; repeat' split
  all_goals simp
@[simp] theorem spurPut_cou (s : State) (p : Nat) (e : Ev) : (s.spurPut p e).cou = s.cou := by
  unfold State.spurPut; repeat' split
  all_goals simp
@[simp] theorem spurPut_flt (s : State) (p : Nat) (e : Ev) : (s.spurPut p e).flt = s.flt := by
  unfold State.spurPut; repeat' split
  all_goals simp
@[simp] theorem spurPut_wch (s : State) (p : Nat) (e : Ev) : (s.spurPut p e).wch = s.wch := by
  unfold State.spurPut; repeat' split
  all_goals simp
@[simp] theorem spurPut_cen (s : State) (p : Nat) (e : Ev) : (s.spurPut p e).cen = s.cen := by
  unfold State.spurPut; repeat' split
  all_goals simp
@[simp] theorem spurPut_prb (s : State) (p : Nat) (e : Ev) : (s.spurPut p e).prb = s.prb := by
  unfold State.spurPut; repeat' split
  all_goals simp
@[simp] theorem spurPut_crs (s : State) (p : Nat) (e : Ev) : (s.spurPut p e).crs = s.crs := by
  unfold State.spurPut; repeat' split
  all_goals simp
@[simp] theorem spurPut_scr (s : State) (p : Nat) (e : Ev) : (s.spurPut p e).scr = s.scr := by
  unfold State.spurPut; repeat' split
  all_goals simp
@[simp] theorem spurPut_tal (s : State) (p : Nat) (e : Ev) : (s.spurPut p e).tal = s.tal := by
  unfold State.spurPut; repeat' split
  all_goals simp
@[simp] theorem spurPut_auth (s : State) (p : Nat) (e : Ev) : (s.spurPut p e).auth = s.auth := by
  unfold State.spurPut; repeat' split
  all_goals simp
@[simp] theorem spurPut_pass (s : State) (p : Nat) (e : Ev) : (s.spurPut p e).pass = s.pass := by
  unfold State.spurPut; repeat' split
  all_goals simp
@[simp] theorem spurPut_rst (s : State) (p : Nat) (e : Ev) : (s.spurPut p e).rst = s.rst := by
  unfold State.spurPut; repeat' split
  all_goals simp
@[simp] theorem spurPut_cairns (s : State) (p : Nat) (e : Ev) : (s.spurPut p e).cairns = s.cairns := by
  unfold State.spurPut; repeat' split
  all_goals simp
@[simp] theorem spurPut_retain (s : State) (p : Nat) (e : Ev) : (s.spurPut p e).retain = s.retain := by
  unfold State.spurPut; repeat' split
  all_goals simp
@[simp] theorem spurPut_mem (s : State) (p : Nat) (e : Ev) : (s.spurPut p e).mem = s.mem := by
  unfold State.spurPut; repeat' split
  all_goals simp
@[simp] theorem spurPut_gran (s : State) (p : Nat) (e : Ev) : (s.spurPut p e).gran = s.gran := by
  unfold State.spurPut; repeat' split
  all_goals simp
@[simp] theorem spurPut_doms (s : State) (p : Nat) (e : Ev) : (s.spurPut p e).doms = s.doms := by
  unfold State.spurPut; repeat' split
  all_goals simp
@[simp] theorem spurPut_uid (s : State) (p : Nat) (e : Ev) : (s.spurPut p e).uid = s.uid := by
  unfold State.spurPut; repeat' split
  all_goals simp
@[simp] theorem spurPut_otp (s : State) (p : Nat) (e : Ev) : (s.spurPut p e).otp = s.otp := by
  unfold State.spurPut; repeat' split
  all_goals simp
@[simp] theorem spurPut_mram (s : State) (p : Nat) (e : Ev) : (s.spurPut p e).mram = s.mram := by
  unfold State.spurPut; repeat' split
  all_goals simp
@[simp] theorem raiseSpur_pending (s : State) (id : Nat) (n : EvName) (d : List EvVal) (t : Nat) : (s.raiseSpur id n d t).pending = s.pending := by
  dsimp only [State.raiseSpur]; split <;> simp
@[simp] theorem raiseSpur_free (s : State) (id : Nat) (n : EvName) (d : List EvVal) (t : Nat) : (s.raiseSpur id n d t).free = s.free := by
  dsimp only [State.raiseSpur]; split <;> simp
@[simp] theorem raiseSpur_regs (s : State) (id : Nat) (n : EvName) (d : List EvVal) (t : Nat) : (s.raiseSpur id n d t).regs = s.regs := by
  dsimp only [State.raiseSpur]; split <;> simp
@[simp] theorem raiseSpur_rdg (s : State) (id : Nat) (n : EvName) (d : List EvVal) (t : Nat) : (s.raiseSpur id n d t).rdg = s.rdg := by
  dsimp only [State.raiseSpur]; split <;> simp
@[simp] theorem raiseSpur_cut (s : State) (id : Nat) (n : EvName) (d : List EvVal) (t : Nat) : (s.raiseSpur id n d t).cut = s.cut := by
  dsimp only [State.raiseSpur]; split <;> simp
@[simp] theorem raiseSpur_stp (s : State) (id : Nat) (n : EvName) (d : List EvVal) (t : Nat) : (s.raiseSpur id n d t).stp = s.stp := by
  dsimp only [State.raiseSpur]; split <;> simp
@[simp] theorem raiseSpur_cou (s : State) (id : Nat) (n : EvName) (d : List EvVal) (t : Nat) : (s.raiseSpur id n d t).cou = s.cou := by
  dsimp only [State.raiseSpur]; split <;> simp
@[simp] theorem raiseSpur_flt (s : State) (id : Nat) (n : EvName) (d : List EvVal) (t : Nat) : (s.raiseSpur id n d t).flt = s.flt := by
  dsimp only [State.raiseSpur]; split <;> simp
@[simp] theorem raiseSpur_wch (s : State) (id : Nat) (n : EvName) (d : List EvVal) (t : Nat) : (s.raiseSpur id n d t).wch = s.wch := by
  dsimp only [State.raiseSpur]; split <;> simp
@[simp] theorem raiseSpur_cen (s : State) (id : Nat) (n : EvName) (d : List EvVal) (t : Nat) : (s.raiseSpur id n d t).cen = s.cen := by
  dsimp only [State.raiseSpur]; split <;> simp
@[simp] theorem raiseSpur_prb (s : State) (id : Nat) (n : EvName) (d : List EvVal) (t : Nat) : (s.raiseSpur id n d t).prb = s.prb := by
  dsimp only [State.raiseSpur]; split <;> simp
@[simp] theorem raiseSpur_crs (s : State) (id : Nat) (n : EvName) (d : List EvVal) (t : Nat) : (s.raiseSpur id n d t).crs = s.crs := by
  dsimp only [State.raiseSpur]; split <;> simp
@[simp] theorem raiseSpur_scr (s : State) (id : Nat) (n : EvName) (d : List EvVal) (t : Nat) : (s.raiseSpur id n d t).scr = s.scr := by
  dsimp only [State.raiseSpur]; split <;> simp
@[simp] theorem raiseSpur_tal (s : State) (id : Nat) (n : EvName) (d : List EvVal) (t : Nat) : (s.raiseSpur id n d t).tal = s.tal := by
  dsimp only [State.raiseSpur]; split <;> simp
@[simp] theorem raiseSpur_auth (s : State) (id : Nat) (n : EvName) (d : List EvVal) (t : Nat) : (s.raiseSpur id n d t).auth = s.auth := by
  dsimp only [State.raiseSpur]; split <;> simp
@[simp] theorem raiseSpur_pass (s : State) (id : Nat) (n : EvName) (d : List EvVal) (t : Nat) : (s.raiseSpur id n d t).pass = s.pass := by
  dsimp only [State.raiseSpur]; split <;> simp
@[simp] theorem raiseSpur_rst (s : State) (id : Nat) (n : EvName) (d : List EvVal) (t : Nat) : (s.raiseSpur id n d t).rst = s.rst := by
  dsimp only [State.raiseSpur]; split <;> simp
@[simp] theorem raiseSpur_retain (s : State) (id : Nat) (n : EvName) (d : List EvVal) (t : Nat) : (s.raiseSpur id n d t).retain = s.retain := by
  dsimp only [State.raiseSpur]; split <;> simp
@[simp] theorem raiseSpur_mem (s : State) (id : Nat) (n : EvName) (d : List EvVal) (t : Nat) : (s.raiseSpur id n d t).mem = s.mem := by
  dsimp only [State.raiseSpur]; split <;> simp
@[simp] theorem raiseSpur_gran (s : State) (id : Nat) (n : EvName) (d : List EvVal) (t : Nat) : (s.raiseSpur id n d t).gran = s.gran := by
  dsimp only [State.raiseSpur]; split <;> simp
@[simp] theorem raiseSpur_doms (s : State) (id : Nat) (n : EvName) (d : List EvVal) (t : Nat) : (s.raiseSpur id n d t).doms = s.doms := by
  dsimp only [State.raiseSpur]; split <;> simp
@[simp] theorem raiseSpur_uid (s : State) (id : Nat) (n : EvName) (d : List EvVal) (t : Nat) : (s.raiseSpur id n d t).uid = s.uid := by
  dsimp only [State.raiseSpur]; split <;> simp
@[simp] theorem raiseSpur_otp (s : State) (id : Nat) (n : EvName) (d : List EvVal) (t : Nat) : (s.raiseSpur id n d t).otp = s.otp := by
  dsimp only [State.raiseSpur]; split <;> simp
@[simp] theorem raiseSpur_mram (s : State) (id : Nat) (n : EvName) (d : List EvVal) (t : Nat) : (s.raiseSpur id n d t).mram = s.mram := by
  dsimp only [State.raiseSpur]; split <;> simp
@[simp] theorem fatalPins_pending (s : State) : (s.fatalPins).pending = s.pending := rfl
@[simp] theorem fatalPins_free (s : State) : (s.fatalPins).free = s.free := rfl
@[simp] theorem fatalPins_sum (s : State) : (s.fatalPins).sum = s.sum := rfl
@[simp] theorem fatalPins_rdg (s : State) : (s.fatalPins).rdg = s.rdg := rfl
@[simp] theorem fatalPins_cut (s : State) : (s.fatalPins).cut = s.cut := rfl
@[simp] theorem fatalPins_stp (s : State) : (s.fatalPins).stp = s.stp := rfl
@[simp] theorem fatalPins_cou (s : State) : (s.fatalPins).cou = s.cou := rfl
@[simp] theorem fatalPins_flt (s : State) : (s.fatalPins).flt = s.flt := rfl
@[simp] theorem fatalPins_wch (s : State) : (s.fatalPins).wch = s.wch := rfl
@[simp] theorem fatalPins_cen (s : State) : (s.fatalPins).cen = s.cen := rfl
@[simp] theorem fatalPins_prb (s : State) : (s.fatalPins).prb = s.prb := rfl
@[simp] theorem fatalPins_crs (s : State) : (s.fatalPins).crs = s.crs := rfl
@[simp] theorem fatalPins_scr (s : State) : (s.fatalPins).scr = s.scr := rfl
@[simp] theorem fatalPins_tal (s : State) : (s.fatalPins).tal = s.tal := rfl
@[simp] theorem fatalPins_auth (s : State) : (s.fatalPins).auth = s.auth := rfl
@[simp] theorem fatalPins_pass (s : State) : (s.fatalPins).pass = s.pass := rfl
@[simp] theorem fatalPins_rst (s : State) : (s.fatalPins).rst = s.rst := rfl
@[simp] theorem fatalPins_cairns (s : State) : (s.fatalPins).cairns = s.cairns := rfl
@[simp] theorem fatalPins_retain (s : State) : (s.fatalPins).retain = s.retain := rfl
@[simp] theorem fatalPins_mem (s : State) : (s.fatalPins).mem = s.mem := rfl
@[simp] theorem fatalPins_gran (s : State) : (s.fatalPins).gran = s.gran := rfl
@[simp] theorem fatalPins_doms (s : State) : (s.fatalPins).doms = s.doms := rfl
@[simp] theorem fatalPins_uid (s : State) : (s.fatalPins).uid = s.uid := rfl
@[simp] theorem fatalPins_otp (s : State) : (s.fatalPins).otp = s.otp := rfl
@[simp] theorem fatalPins_mram (s : State) : (s.fatalPins).mram = s.mram := rfl
@[simp] theorem fatalDirect_pending (s : State) (i : FltInfo) (n : Nat) : (s.fatalDirect i n).pending = s.pending := by
  dsimp only [State.fatalDirect]; split <;> simp
@[simp] theorem fatalDirect_free (s : State) (i : FltInfo) (n : Nat) : (s.fatalDirect i n).free = s.free := by
  dsimp only [State.fatalDirect]; split <;> simp
@[simp] theorem fatalDirect_sum (s : State) (i : FltInfo) (n : Nat) : (s.fatalDirect i n).sum = s.sum := by
  dsimp only [State.fatalDirect]; split <;> simp
@[simp] theorem fatalDirect_rdg (s : State) (i : FltInfo) (n : Nat) : (s.fatalDirect i n).rdg = s.rdg := by
  dsimp only [State.fatalDirect]; split <;> simp
@[simp] theorem fatalDirect_cut (s : State) (i : FltInfo) (n : Nat) : (s.fatalDirect i n).cut = s.cut := by
  dsimp only [State.fatalDirect]; split <;> simp
@[simp] theorem fatalDirect_stp (s : State) (i : FltInfo) (n : Nat) : (s.fatalDirect i n).stp = s.stp := by
  dsimp only [State.fatalDirect]; split <;> simp
@[simp] theorem fatalDirect_cou (s : State) (i : FltInfo) (n : Nat) : (s.fatalDirect i n).cou = s.cou := by
  dsimp only [State.fatalDirect]; split <;> simp
@[simp] theorem fatalDirect_wch (s : State) (i : FltInfo) (n : Nat) : (s.fatalDirect i n).wch = s.wch := by
  dsimp only [State.fatalDirect]; split <;> simp
@[simp] theorem fatalDirect_cen (s : State) (i : FltInfo) (n : Nat) : (s.fatalDirect i n).cen = s.cen := by
  dsimp only [State.fatalDirect]; split <;> simp
@[simp] theorem fatalDirect_prb (s : State) (i : FltInfo) (n : Nat) : (s.fatalDirect i n).prb = s.prb := by
  dsimp only [State.fatalDirect]; split <;> simp
@[simp] theorem fatalDirect_crs (s : State) (i : FltInfo) (n : Nat) : (s.fatalDirect i n).crs = s.crs := by
  dsimp only [State.fatalDirect]; split <;> simp
@[simp] theorem fatalDirect_scr (s : State) (i : FltInfo) (n : Nat) : (s.fatalDirect i n).scr = s.scr := by
  dsimp only [State.fatalDirect]; split <;> simp
@[simp] theorem fatalDirect_tal (s : State) (i : FltInfo) (n : Nat) : (s.fatalDirect i n).tal = s.tal := by
  dsimp only [State.fatalDirect]; split <;> simp
@[simp] theorem fatalDirect_auth (s : State) (i : FltInfo) (n : Nat) : (s.fatalDirect i n).auth = s.auth := by
  dsimp only [State.fatalDirect]; split <;> simp
@[simp] theorem fatalDirect_pass (s : State) (i : FltInfo) (n : Nat) : (s.fatalDirect i n).pass = s.pass := by
  dsimp only [State.fatalDirect]; split <;> simp
@[simp] theorem fatalDirect_rst (s : State) (i : FltInfo) (n : Nat) : (s.fatalDirect i n).rst = s.rst := by
  dsimp only [State.fatalDirect]; split <;> simp
@[simp] theorem fatalDirect_cairns (s : State) (i : FltInfo) (n : Nat) : (s.fatalDirect i n).cairns = s.cairns := by
  dsimp only [State.fatalDirect]; split <;> simp
@[simp] theorem fatalDirect_retain (s : State) (i : FltInfo) (n : Nat) : (s.fatalDirect i n).retain = s.retain := by
  dsimp only [State.fatalDirect]; split <;> simp
@[simp] theorem fatalDirect_mem (s : State) (i : FltInfo) (n : Nat) : (s.fatalDirect i n).mem = s.mem := by
  dsimp only [State.fatalDirect]; split <;> simp
@[simp] theorem fatalDirect_gran (s : State) (i : FltInfo) (n : Nat) : (s.fatalDirect i n).gran = s.gran := by
  dsimp only [State.fatalDirect]; split <;> simp
@[simp] theorem fatalDirect_doms (s : State) (i : FltInfo) (n : Nat) : (s.fatalDirect i n).doms = s.doms := by
  dsimp only [State.fatalDirect]; split <;> simp
@[simp] theorem fatalDirect_uid (s : State) (i : FltInfo) (n : Nat) : (s.fatalDirect i n).uid = s.uid := by
  dsimp only [State.fatalDirect]; split <;> simp
@[simp] theorem fatalDirect_otp (s : State) (i : FltInfo) (n : Nat) : (s.fatalDirect i n).otp = s.otp := by
  dsimp only [State.fatalDirect]; split <;> simp
@[simp] theorem fatalDirect_mram (s : State) (i : FltInfo) (n : Nat) : (s.fatalDirect i n).mram = s.mram := by
  dsimp only [State.fatalDirect]; split <;> simp
@[simp] theorem hubFault_pending (s : State) (p b r q d e : Nat) : (s.hubFault p b r q d e).pending = s.pending := by
  dsimp only [State.hubFault]; repeat' split
  all_goals simp
@[simp] theorem hubFault_free (s : State) (p b r q d e : Nat) : (s.hubFault p b r q d e).free = s.free := by
  dsimp only [State.hubFault]; repeat' split
  all_goals simp
@[simp] theorem hubFault_rdg (s : State) (p b r q d e : Nat) : (s.hubFault p b r q d e).rdg = s.rdg := by
  dsimp only [State.hubFault]; repeat' split
  all_goals simp
@[simp] theorem hubFault_cut (s : State) (p b r q d e : Nat) : (s.hubFault p b r q d e).cut = s.cut := by
  dsimp only [State.hubFault]; repeat' split
  all_goals simp
@[simp] theorem hubFault_stp (s : State) (p b r q d e : Nat) : (s.hubFault p b r q d e).stp = s.stp := by
  dsimp only [State.hubFault]; repeat' split
  all_goals simp
@[simp] theorem hubFault_cou (s : State) (p b r q d e : Nat) : (s.hubFault p b r q d e).cou = s.cou := by
  dsimp only [State.hubFault]; repeat' split
  all_goals simp
@[simp] theorem hubFault_wch (s : State) (p b r q d e : Nat) : (s.hubFault p b r q d e).wch = s.wch := by
  dsimp only [State.hubFault]; repeat' split
  all_goals simp
@[simp] theorem hubFault_cen (s : State) (p b r q d e : Nat) : (s.hubFault p b r q d e).cen = s.cen := by
  dsimp only [State.hubFault]; repeat' split
  all_goals simp
@[simp] theorem hubFault_prb (s : State) (p b r q d e : Nat) : (s.hubFault p b r q d e).prb = s.prb := by
  dsimp only [State.hubFault]; repeat' split
  all_goals simp
@[simp] theorem hubFault_crs (s : State) (p b r q d e : Nat) : (s.hubFault p b r q d e).crs = s.crs := by
  dsimp only [State.hubFault]; repeat' split
  all_goals simp
@[simp] theorem hubFault_scr (s : State) (p b r q d e : Nat) : (s.hubFault p b r q d e).scr = s.scr := by
  dsimp only [State.hubFault]; repeat' split
  all_goals simp
@[simp] theorem hubFault_tal (s : State) (p b r q d e : Nat) : (s.hubFault p b r q d e).tal = s.tal := by
  dsimp only [State.hubFault]; repeat' split
  all_goals simp
@[simp] theorem hubFault_auth (s : State) (p b r q d e : Nat) : (s.hubFault p b r q d e).auth = s.auth := by
  dsimp only [State.hubFault]; repeat' split
  all_goals simp
@[simp] theorem hubFault_pass (s : State) (p b r q d e : Nat) : (s.hubFault p b r q d e).pass = s.pass := by
  dsimp only [State.hubFault]; repeat' split
  all_goals simp
@[simp] theorem hubFault_rst (s : State) (p b r q d e : Nat) : (s.hubFault p b r q d e).rst = s.rst := by
  dsimp only [State.hubFault]; repeat' split
  all_goals simp
@[simp] theorem hubFault_cairns (s : State) (p b r q d e : Nat) : (s.hubFault p b r q d e).cairns = s.cairns := by
  dsimp only [State.hubFault]; repeat' split
  all_goals simp
@[simp] theorem hubFault_retain (s : State) (p b r q d e : Nat) : (s.hubFault p b r q d e).retain = s.retain := by
  dsimp only [State.hubFault]; repeat' split
  all_goals simp
@[simp] theorem hubFault_mem (s : State) (p b r q d e : Nat) : (s.hubFault p b r q d e).mem = s.mem := by
  dsimp only [State.hubFault]; repeat' split
  all_goals simp
@[simp] theorem hubFault_gran (s : State) (p b r q d e : Nat) : (s.hubFault p b r q d e).gran = s.gran := by
  dsimp only [State.hubFault]; repeat' split
  all_goals simp
@[simp] theorem hubFault_doms (s : State) (p b r q d e : Nat) : (s.hubFault p b r q d e).doms = s.doms := by
  dsimp only [State.hubFault]; repeat' split
  all_goals simp
@[simp] theorem hubFault_uid (s : State) (p b r q d e : Nat) : (s.hubFault p b r q d e).uid = s.uid := by
  dsimp only [State.hubFault]; repeat' split
  all_goals simp
@[simp] theorem hubFault_otp (s : State) (p b r q d e : Nat) : (s.hubFault p b r q d e).otp = s.otp := by
  dsimp only [State.hubFault]; repeat' split
  all_goals simp
@[simp] theorem hubFault_mram (s : State) (p b r q d e : Nat) : (s.hubFault p b r q d e).mram = s.mram := by
  dsimp only [State.hubFault]; repeat' split
  all_goals simp
@[simp] theorem cairnFault_pending (s : State) (id : Nat) (i : FltInfo) : (s.cairnFault id i).pending = s.pending := by
  dsimp only [State.cairnFault]; split <;> simp
@[simp] theorem cairnFault_free (s : State) (id : Nat) (i : FltInfo) : (s.cairnFault id i).free = s.free := by
  dsimp only [State.cairnFault]; split <;> simp
@[simp] theorem cairnFault_rdg (s : State) (id : Nat) (i : FltInfo) : (s.cairnFault id i).rdg = s.rdg := by
  dsimp only [State.cairnFault]; split <;> simp
@[simp] theorem cairnFault_cut (s : State) (id : Nat) (i : FltInfo) : (s.cairnFault id i).cut = s.cut := by
  dsimp only [State.cairnFault]; split <;> simp
@[simp] theorem cairnFault_stp (s : State) (id : Nat) (i : FltInfo) : (s.cairnFault id i).stp = s.stp := by
  dsimp only [State.cairnFault]; split <;> simp
@[simp] theorem cairnFault_cou (s : State) (id : Nat) (i : FltInfo) : (s.cairnFault id i).cou = s.cou := by
  dsimp only [State.cairnFault]; split <;> simp
@[simp] theorem cairnFault_flt (s : State) (id : Nat) (i : FltInfo) : (s.cairnFault id i).flt = s.flt := by
  dsimp only [State.cairnFault]; split <;> simp
@[simp] theorem cairnFault_wch (s : State) (id : Nat) (i : FltInfo) : (s.cairnFault id i).wch = s.wch := by
  dsimp only [State.cairnFault]; split <;> simp
@[simp] theorem cairnFault_cen (s : State) (id : Nat) (i : FltInfo) : (s.cairnFault id i).cen = s.cen := by
  dsimp only [State.cairnFault]; split <;> simp
@[simp] theorem cairnFault_prb (s : State) (id : Nat) (i : FltInfo) : (s.cairnFault id i).prb = s.prb := by
  dsimp only [State.cairnFault]; split <;> simp
@[simp] theorem cairnFault_crs (s : State) (id : Nat) (i : FltInfo) : (s.cairnFault id i).crs = s.crs := by
  dsimp only [State.cairnFault]; split <;> simp
@[simp] theorem cairnFault_scr (s : State) (id : Nat) (i : FltInfo) : (s.cairnFault id i).scr = s.scr := by
  dsimp only [State.cairnFault]; split <;> simp
@[simp] theorem cairnFault_tal (s : State) (id : Nat) (i : FltInfo) : (s.cairnFault id i).tal = s.tal := by
  dsimp only [State.cairnFault]; split <;> simp
@[simp] theorem cairnFault_auth (s : State) (id : Nat) (i : FltInfo) : (s.cairnFault id i).auth = s.auth := by
  dsimp only [State.cairnFault]; split <;> simp
@[simp] theorem cairnFault_pass (s : State) (id : Nat) (i : FltInfo) : (s.cairnFault id i).pass = s.pass := by
  dsimp only [State.cairnFault]; split <;> simp
@[simp] theorem cairnFault_rst (s : State) (id : Nat) (i : FltInfo) : (s.cairnFault id i).rst = s.rst := by
  dsimp only [State.cairnFault]; split <;> simp
@[simp] theorem cairnFault_retain (s : State) (id : Nat) (i : FltInfo) : (s.cairnFault id i).retain = s.retain := by
  dsimp only [State.cairnFault]; split <;> simp
@[simp] theorem cairnFault_mem (s : State) (id : Nat) (i : FltInfo) : (s.cairnFault id i).mem = s.mem := by
  dsimp only [State.cairnFault]; split <;> simp
@[simp] theorem cairnFault_gran (s : State) (id : Nat) (i : FltInfo) : (s.cairnFault id i).gran = s.gran := by
  dsimp only [State.cairnFault]; split <;> simp
@[simp] theorem cairnFault_doms (s : State) (id : Nat) (i : FltInfo) : (s.cairnFault id i).doms = s.doms := by
  dsimp only [State.cairnFault]; split <;> simp
@[simp] theorem cairnFault_uid (s : State) (id : Nat) (i : FltInfo) : (s.cairnFault id i).uid = s.uid := by
  dsimp only [State.cairnFault]; split <;> simp
@[simp] theorem cairnFault_otp (s : State) (id : Nat) (i : FltInfo) : (s.cairnFault id i).otp = s.otp := by
  dsimp only [State.cairnFault]; split <;> simp
@[simp] theorem cairnFault_mram (s : State) (id : Nat) (i : FltInfo) : (s.cairnFault id i).mram = s.mram := by
  dsimp only [State.cairnFault]; split <;> simp
@[simp] theorem hubMemFault_pending (s : State) (p b : Nat) (a : Option Nat) (n : Nat) : (s.hubMemFault p b a n).pending = s.pending := by
  simp [State.hubMemFault]
@[simp] theorem hubMemFault_rdg (s : State) (p b : Nat) (a : Option Nat) (n : Nat) : (s.hubMemFault p b a n).rdg = s.rdg := by
  simp [State.hubMemFault]
@[simp] theorem hubMemFault_cut (s : State) (p b : Nat) (a : Option Nat) (n : Nat) : (s.hubMemFault p b a n).cut = s.cut := by
  simp [State.hubMemFault]
@[simp] theorem hubMemFault_stp (s : State) (p b : Nat) (a : Option Nat) (n : Nat) : (s.hubMemFault p b a n).stp = s.stp := by
  simp [State.hubMemFault]
@[simp] theorem hubMemFault_cou (s : State) (p b : Nat) (a : Option Nat) (n : Nat) : (s.hubMemFault p b a n).cou = s.cou := by
  simp [State.hubMemFault]
@[simp] theorem hubMemFault_wch (s : State) (p b : Nat) (a : Option Nat) (n : Nat) : (s.hubMemFault p b a n).wch = s.wch := by
  simp [State.hubMemFault]
@[simp] theorem hubMemFault_cen (s : State) (p b : Nat) (a : Option Nat) (n : Nat) : (s.hubMemFault p b a n).cen = s.cen := by
  simp [State.hubMemFault]
@[simp] theorem hubMemFault_prb (s : State) (p b : Nat) (a : Option Nat) (n : Nat) : (s.hubMemFault p b a n).prb = s.prb := by
  simp [State.hubMemFault]
@[simp] theorem hubMemFault_crs (s : State) (p b : Nat) (a : Option Nat) (n : Nat) : (s.hubMemFault p b a n).crs = s.crs := by
  simp [State.hubMemFault]
@[simp] theorem hubMemFault_scr (s : State) (p b : Nat) (a : Option Nat) (n : Nat) : (s.hubMemFault p b a n).scr = s.scr := by
  simp [State.hubMemFault]
@[simp] theorem hubMemFault_tal (s : State) (p b : Nat) (a : Option Nat) (n : Nat) : (s.hubMemFault p b a n).tal = s.tal := by
  simp [State.hubMemFault]
@[simp] theorem hubMemFault_auth (s : State) (p b : Nat) (a : Option Nat) (n : Nat) : (s.hubMemFault p b a n).auth = s.auth := by
  simp [State.hubMemFault]
@[simp] theorem hubMemFault_pass (s : State) (p b : Nat) (a : Option Nat) (n : Nat) : (s.hubMemFault p b a n).pass = s.pass := by
  simp [State.hubMemFault]
@[simp] theorem hubMemFault_rst (s : State) (p b : Nat) (a : Option Nat) (n : Nat) : (s.hubMemFault p b a n).rst = s.rst := by
  simp [State.hubMemFault]
@[simp] theorem hubMemFault_cairns (s : State) (p b : Nat) (a : Option Nat) (n : Nat) : (s.hubMemFault p b a n).cairns = s.cairns := by
  simp [State.hubMemFault]
@[simp] theorem hubMemFault_retain (s : State) (p b : Nat) (a : Option Nat) (n : Nat) : (s.hubMemFault p b a n).retain = s.retain := by
  simp [State.hubMemFault]
@[simp] theorem hubMemFault_mem (s : State) (p b : Nat) (a : Option Nat) (n : Nat) : (s.hubMemFault p b a n).mem = s.mem := by
  simp [State.hubMemFault]
@[simp] theorem hubMemFault_gran (s : State) (p b : Nat) (a : Option Nat) (n : Nat) : (s.hubMemFault p b a n).gran = s.gran := by
  simp [State.hubMemFault]
@[simp] theorem hubMemFault_doms (s : State) (p b : Nat) (a : Option Nat) (n : Nat) : (s.hubMemFault p b a n).doms = s.doms := by
  simp [State.hubMemFault]
@[simp] theorem hubMemFault_uid (s : State) (p b : Nat) (a : Option Nat) (n : Nat) : (s.hubMemFault p b a n).uid = s.uid := by
  simp [State.hubMemFault]
@[simp] theorem hubMemFault_otp (s : State) (p b : Nat) (a : Option Nat) (n : Nat) : (s.hubMemFault p b a n).otp = s.otp := by
  simp [State.hubMemFault]
@[simp] theorem hubMemFault_mram (s : State) (p b : Nat) (a : Option Nat) (n : Nat) : (s.hubMemFault p b a n).mram = s.mram := by
  simp [State.hubMemFault]
@[simp] theorem newNumber_pending (s : State) (n : Nat) : (s.newNumber n).pending = s.pending := by
  unfold State.newNumber; refine foldl_keeps (fun (t : State) => t.pending = s.pending) _ (by intro _ _ h; simpa using h) _ _ rfl
@[simp] theorem newNumber_free (s : State) (n : Nat) : (s.newNumber n).free = s.free := by
  unfold State.newNumber; refine foldl_keeps (fun (t : State) => t.free = s.free) _ (by intro _ _ h; simpa using h) _ _ rfl
@[simp] theorem newNumber_regs (s : State) (n : Nat) : (s.newNumber n).regs = s.regs := by
  unfold State.newNumber; refine foldl_keeps (fun (t : State) => t.regs = s.regs) _ (by intro _ _ h; simpa using h) _ _ rfl
@[simp] theorem newNumber_sum (s : State) (n : Nat) : (s.newNumber n).sum = s.sum := by
  unfold State.newNumber; refine foldl_keeps (fun (t : State) => t.sum = s.sum) _ (by intro _ _ h; simpa using h) _ _ rfl
@[simp] theorem newNumber_rdg (s : State) (n : Nat) : (s.newNumber n).rdg = s.rdg := by
  unfold State.newNumber; refine foldl_keeps (fun (t : State) => t.rdg = s.rdg) _ (by intro _ _ h; simpa using h) _ _ rfl
@[simp] theorem newNumber_cut (s : State) (n : Nat) : (s.newNumber n).cut = s.cut := by
  unfold State.newNumber; refine foldl_keeps (fun (t : State) => t.cut = s.cut) _ (by intro _ _ h; simpa using h) _ _ rfl
@[simp] theorem newNumber_stp (s : State) (n : Nat) : (s.newNumber n).stp = s.stp := by
  unfold State.newNumber; refine foldl_keeps (fun (t : State) => t.stp = s.stp) _ (by intro _ _ h; simpa using h) _ _ rfl
@[simp] theorem newNumber_cou (s : State) (n : Nat) : (s.newNumber n).cou = s.cou := by
  unfold State.newNumber; refine foldl_keeps (fun (t : State) => t.cou = s.cou) _ (by intro _ _ h; simpa using h) _ _ rfl
@[simp] theorem newNumber_flt (s : State) (n : Nat) : (s.newNumber n).flt = s.flt := by
  unfold State.newNumber; refine foldl_keeps (fun (t : State) => t.flt = s.flt) _ (by intro _ _ h; simpa using h) _ _ rfl
@[simp] theorem newNumber_wch (s : State) (n : Nat) : (s.newNumber n).wch = s.wch := by
  unfold State.newNumber; refine foldl_keeps (fun (t : State) => t.wch = s.wch) _ (by intro _ _ h; simpa using h) _ _ rfl
@[simp] theorem newNumber_cen (s : State) (n : Nat) : (s.newNumber n).cen = s.cen := by
  unfold State.newNumber; refine foldl_keeps (fun (t : State) => t.cen = s.cen) _ (by intro _ _ h; simpa using h) _ _ rfl
@[simp] theorem newNumber_prb (s : State) (n : Nat) : (s.newNumber n).prb = s.prb := by
  unfold State.newNumber; refine foldl_keeps (fun (t : State) => t.prb = s.prb) _ (by intro _ _ h; simpa using h) _ _ rfl
@[simp] theorem newNumber_crs (s : State) (n : Nat) : (s.newNumber n).crs = s.crs := by
  unfold State.newNumber; refine foldl_keeps (fun (t : State) => t.crs = s.crs) _ (by intro _ _ h; simpa using h) _ _ rfl
@[simp] theorem newNumber_scr (s : State) (n : Nat) : (s.newNumber n).scr = s.scr := by
  unfold State.newNumber; refine foldl_keeps (fun (t : State) => t.scr = s.scr) _ (by intro _ _ h; simpa using h) _ _ rfl
@[simp] theorem newNumber_tal (s : State) (n : Nat) : (s.newNumber n).tal = s.tal := by
  unfold State.newNumber; refine foldl_keeps (fun (t : State) => t.tal = s.tal) _ (by intro _ _ h; simpa using h) _ _ rfl
@[simp] theorem newNumber_auth (s : State) (n : Nat) : (s.newNumber n).auth = s.auth := by
  unfold State.newNumber; refine foldl_keeps (fun (t : State) => t.auth = s.auth) _ (by intro _ _ h; simpa using h) _ _ rfl
@[simp] theorem newNumber_pass (s : State) (n : Nat) : (s.newNumber n).pass = s.pass := by
  unfold State.newNumber; refine foldl_keeps (fun (t : State) => t.pass = s.pass) _ (by intro _ _ h; simpa using h) _ _ rfl
@[simp] theorem newNumber_rst (s : State) (n : Nat) : (s.newNumber n).rst = s.rst := by
  unfold State.newNumber; refine foldl_keeps (fun (t : State) => t.rst = s.rst) _ (by intro _ _ h; simpa using h) _ _ rfl
@[simp] theorem newNumber_retain (s : State) (n : Nat) : (s.newNumber n).retain = s.retain := by
  unfold State.newNumber; refine foldl_keeps (fun (t : State) => t.retain = s.retain) _ (by intro _ _ h; simpa using h) _ _ rfl
@[simp] theorem newNumber_mem (s : State) (n : Nat) : (s.newNumber n).mem = s.mem := by
  unfold State.newNumber; refine foldl_keeps (fun (t : State) => t.mem = s.mem) _ (by intro _ _ h; simpa using h) _ _ rfl
@[simp] theorem newNumber_gran (s : State) (n : Nat) : (s.newNumber n).gran = s.gran := by
  unfold State.newNumber; refine foldl_keeps (fun (t : State) => t.gran = s.gran) _ (by intro _ _ h; simpa using h) _ _ rfl
@[simp] theorem newNumber_doms (s : State) (n : Nat) : (s.newNumber n).doms = s.doms := by
  unfold State.newNumber; refine foldl_keeps (fun (t : State) => t.doms = s.doms) _ (by intro _ _ h; simpa using h) _ _ rfl
@[simp] theorem newNumber_uid (s : State) (n : Nat) : (s.newNumber n).uid = s.uid := by
  unfold State.newNumber; refine foldl_keeps (fun (t : State) => t.uid = s.uid) _ (by intro _ _ h; simpa using h) _ _ rfl
@[simp] theorem newNumber_otp (s : State) (n : Nat) : (s.newNumber n).otp = s.otp := by
  unfold State.newNumber; refine foldl_keeps (fun (t : State) => t.otp = s.otp) _ (by intro _ _ h; simpa using h) _ _ rfl
@[simp] theorem newNumber_mram (s : State) (n : Nat) : (s.newNumber n).mram = s.mram := by
  unfold State.newNumber; refine foldl_keeps (fun (t : State) => t.mram = s.mram) _ (by intro _ _ h; simpa using h) _ _ rfl
@[simp] theorem spurFault_pending (s : State) (id b : Nat) : (s.spurFault id b).pending = s.pending := by
  dsimp only [State.spurFault]; repeat' split
  all_goals simp
@[simp] theorem spurFault_free (s : State) (id b : Nat) : (s.spurFault id b).free = s.free := by
  dsimp only [State.spurFault]; repeat' split
  all_goals simp
@[simp] theorem spurFault_regs (s : State) (id b : Nat) : (s.spurFault id b).regs = s.regs := by
  dsimp only [State.spurFault]; repeat' split
  all_goals simp
@[simp] theorem spurFault_rdg (s : State) (id b : Nat) : (s.spurFault id b).rdg = s.rdg := by
  dsimp only [State.spurFault]; repeat' split
  all_goals simp
@[simp] theorem spurFault_cut (s : State) (id b : Nat) : (s.spurFault id b).cut = s.cut := by
  dsimp only [State.spurFault]; repeat' split
  all_goals simp
@[simp] theorem spurFault_stp (s : State) (id b : Nat) : (s.spurFault id b).stp = s.stp := by
  dsimp only [State.spurFault]; repeat' split
  all_goals simp
@[simp] theorem spurFault_cou (s : State) (id b : Nat) : (s.spurFault id b).cou = s.cou := by
  dsimp only [State.spurFault]; repeat' split
  all_goals simp
@[simp] theorem spurFault_flt (s : State) (id b : Nat) : (s.spurFault id b).flt = s.flt := by
  dsimp only [State.spurFault]; repeat' split
  all_goals simp
@[simp] theorem spurFault_wch (s : State) (id b : Nat) : (s.spurFault id b).wch = s.wch := by
  dsimp only [State.spurFault]; repeat' split
  all_goals simp
@[simp] theorem spurFault_cen (s : State) (id b : Nat) : (s.spurFault id b).cen = s.cen := by
  dsimp only [State.spurFault]; repeat' split
  all_goals simp
@[simp] theorem spurFault_prb (s : State) (id b : Nat) : (s.spurFault id b).prb = s.prb := by
  dsimp only [State.spurFault]; repeat' split
  all_goals simp
@[simp] theorem spurFault_crs (s : State) (id b : Nat) : (s.spurFault id b).crs = s.crs := by
  dsimp only [State.spurFault]; repeat' split
  all_goals simp
@[simp] theorem spurFault_scr (s : State) (id b : Nat) : (s.spurFault id b).scr = s.scr := by
  dsimp only [State.spurFault]; repeat' split
  all_goals simp
@[simp] theorem spurFault_tal (s : State) (id b : Nat) : (s.spurFault id b).tal = s.tal := by
  dsimp only [State.spurFault]; repeat' split
  all_goals simp
@[simp] theorem spurFault_auth (s : State) (id b : Nat) : (s.spurFault id b).auth = s.auth := by
  dsimp only [State.spurFault]; repeat' split
  all_goals simp
@[simp] theorem spurFault_pass (s : State) (id b : Nat) : (s.spurFault id b).pass = s.pass := by
  dsimp only [State.spurFault]; repeat' split
  all_goals simp
@[simp] theorem spurFault_rst (s : State) (id b : Nat) : (s.spurFault id b).rst = s.rst := by
  dsimp only [State.spurFault]; repeat' split
  all_goals simp
@[simp] theorem spurFault_retain (s : State) (id b : Nat) : (s.spurFault id b).retain = s.retain := by
  dsimp only [State.spurFault]; repeat' split
  all_goals simp
@[simp] theorem spurFault_mem (s : State) (id b : Nat) : (s.spurFault id b).mem = s.mem := by
  dsimp only [State.spurFault]; repeat' split
  all_goals simp
@[simp] theorem spurFault_gran (s : State) (id b : Nat) : (s.spurFault id b).gran = s.gran := by
  dsimp only [State.spurFault]; repeat' split
  all_goals simp
@[simp] theorem spurFault_doms (s : State) (id b : Nat) : (s.spurFault id b).doms = s.doms := by
  dsimp only [State.spurFault]; repeat' split
  all_goals simp
@[simp] theorem spurFault_uid (s : State) (id b : Nat) : (s.spurFault id b).uid = s.uid := by
  dsimp only [State.spurFault]; repeat' split
  all_goals simp
@[simp] theorem spurFault_otp (s : State) (id b : Nat) : (s.spurFault id b).otp = s.otp := by
  dsimp only [State.spurFault]; repeat' split
  all_goals simp
@[simp] theorem spurFault_mram (s : State) (id b : Nat) : (s.spurFault id b).mram = s.mram := by
  dsimp only [State.spurFault]; repeat' split
  all_goals simp
@[simp] theorem setMst_pending (s : State) (m : Master) (x : MstSt) : (s.setMst m x).pending = s.pending := by
  cases m <;> rfl
@[simp] theorem setMst_free (s : State) (m : Master) (x : MstSt) : (s.setMst m x).free = s.free := by
  cases m <;> rfl
@[simp] theorem setMst_regs (s : State) (m : Master) (x : MstSt) : (s.setMst m x).regs = s.regs := by
  cases m <;> rfl
@[simp] theorem setMst_rdg (s : State) (m : Master) (x : MstSt) : (s.setMst m x).rdg = s.rdg := by
  cases m <;> rfl
@[simp] theorem setMst_cut (s : State) (m : Master) (x : MstSt) : (s.setMst m x).cut = s.cut := by
  cases m <;> rfl
@[simp] theorem setMst_stp (s : State) (m : Master) (x : MstSt) : (s.setMst m x).stp = s.stp := by
  cases m <;> rfl
@[simp] theorem setMst_cou (s : State) (m : Master) (x : MstSt) : (s.setMst m x).cou = s.cou := by
  cases m <;> rfl
@[simp] theorem setMst_flt (s : State) (m : Master) (x : MstSt) : (s.setMst m x).flt = s.flt := by
  cases m <;> rfl
@[simp] theorem setMst_wch (s : State) (m : Master) (x : MstSt) : (s.setMst m x).wch = s.wch := by
  cases m <;> rfl
@[simp] theorem setMst_cen (s : State) (m : Master) (x : MstSt) : (s.setMst m x).cen = s.cen := by
  cases m <;> rfl
@[simp] theorem setMst_prb (s : State) (m : Master) (x : MstSt) : (s.setMst m x).prb = s.prb := by
  cases m <;> rfl
@[simp] theorem setMst_crs (s : State) (m : Master) (x : MstSt) : (s.setMst m x).crs = s.crs := by
  cases m <;> rfl
@[simp] theorem setMst_scr (s : State) (m : Master) (x : MstSt) : (s.setMst m x).scr = s.scr := by
  cases m <;> rfl
@[simp] theorem setMst_tal (s : State) (m : Master) (x : MstSt) : (s.setMst m x).tal = s.tal := by
  cases m <;> rfl
@[simp] theorem setMst_auth (s : State) (m : Master) (x : MstSt) : (s.setMst m x).auth = s.auth := by
  cases m <;> rfl
@[simp] theorem setMst_pass (s : State) (m : Master) (x : MstSt) : (s.setMst m x).pass = s.pass := by
  cases m <;> rfl
@[simp] theorem setMst_rst (s : State) (m : Master) (x : MstSt) : (s.setMst m x).rst = s.rst := by
  cases m <;> rfl
@[simp] theorem setMst_cairns (s : State) (m : Master) (x : MstSt) : (s.setMst m x).cairns = s.cairns := by
  cases m <;> rfl
@[simp] theorem setMst_retain (s : State) (m : Master) (x : MstSt) : (s.setMst m x).retain = s.retain := by
  cases m <;> rfl
@[simp] theorem setMst_mem (s : State) (m : Master) (x : MstSt) : (s.setMst m x).mem = s.mem := by
  cases m <;> rfl
@[simp] theorem setMst_gran (s : State) (m : Master) (x : MstSt) : (s.setMst m x).gran = s.gran := by
  cases m <;> rfl
@[simp] theorem setMst_doms (s : State) (m : Master) (x : MstSt) : (s.setMst m x).doms = s.doms := by
  cases m <;> rfl
@[simp] theorem setMst_uid (s : State) (m : Master) (x : MstSt) : (s.setMst m x).uid = s.uid := by
  cases m <;> rfl
@[simp] theorem setMst_otp (s : State) (m : Master) (x : MstSt) : (s.setMst m x).otp = s.otp := by
  cases m <;> rfl
@[simp] theorem setMst_mram (s : State) (m : Master) (x : MstSt) : (s.setMst m x).mram = s.mram := by
  cases m <;> rfl
@[simp] theorem recordErr_pending (s : State) (m : Master) (c a q : Nat) : (s.recordErr m c a q).pending = s.pending := by
  dsimp only [State.recordErr]; repeat' split
  all_goals simp
@[simp] theorem recordErr_free (s : State) (m : Master) (c a q : Nat) : (s.recordErr m c a q).free = s.free := by
  dsimp only [State.recordErr]; repeat' split
  all_goals simp
@[simp] theorem recordErr_rdg (s : State) (m : Master) (c a q : Nat) : (s.recordErr m c a q).rdg = s.rdg := by
  dsimp only [State.recordErr]; repeat' split
  all_goals simp
@[simp] theorem recordErr_cut (s : State) (m : Master) (c a q : Nat) : (s.recordErr m c a q).cut = s.cut := by
  dsimp only [State.recordErr]; repeat' split
  all_goals simp
@[simp] theorem recordErr_stp (s : State) (m : Master) (c a q : Nat) : (s.recordErr m c a q).stp = s.stp := by
  dsimp only [State.recordErr]; repeat' split
  all_goals simp
@[simp] theorem recordErr_cou (s : State) (m : Master) (c a q : Nat) : (s.recordErr m c a q).cou = s.cou := by
  dsimp only [State.recordErr]; repeat' split
  all_goals simp
@[simp] theorem recordErr_flt (s : State) (m : Master) (c a q : Nat) : (s.recordErr m c a q).flt = s.flt := by
  dsimp only [State.recordErr]; repeat' split
  all_goals simp
@[simp] theorem recordErr_wch (s : State) (m : Master) (c a q : Nat) : (s.recordErr m c a q).wch = s.wch := by
  dsimp only [State.recordErr]; repeat' split
  all_goals simp
@[simp] theorem recordErr_cen (s : State) (m : Master) (c a q : Nat) : (s.recordErr m c a q).cen = s.cen := by
  dsimp only [State.recordErr]; repeat' split
  all_goals simp
@[simp] theorem recordErr_prb (s : State) (m : Master) (c a q : Nat) : (s.recordErr m c a q).prb = s.prb := by
  dsimp only [State.recordErr]; repeat' split
  all_goals simp
@[simp] theorem recordErr_crs (s : State) (m : Master) (c a q : Nat) : (s.recordErr m c a q).crs = s.crs := by
  dsimp only [State.recordErr]; repeat' split
  all_goals simp
@[simp] theorem recordErr_scr (s : State) (m : Master) (c a q : Nat) : (s.recordErr m c a q).scr = s.scr := by
  dsimp only [State.recordErr]; repeat' split
  all_goals simp
@[simp] theorem recordErr_tal (s : State) (m : Master) (c a q : Nat) : (s.recordErr m c a q).tal = s.tal := by
  dsimp only [State.recordErr]; repeat' split
  all_goals simp
@[simp] theorem recordErr_auth (s : State) (m : Master) (c a q : Nat) : (s.recordErr m c a q).auth = s.auth := by
  dsimp only [State.recordErr]; repeat' split
  all_goals simp
@[simp] theorem recordErr_pass (s : State) (m : Master) (c a q : Nat) : (s.recordErr m c a q).pass = s.pass := by
  dsimp only [State.recordErr]; repeat' split
  all_goals simp
@[simp] theorem recordErr_rst (s : State) (m : Master) (c a q : Nat) : (s.recordErr m c a q).rst = s.rst := by
  dsimp only [State.recordErr]; repeat' split
  all_goals simp
@[simp] theorem recordErr_cairns (s : State) (m : Master) (c a q : Nat) : (s.recordErr m c a q).cairns = s.cairns := by
  dsimp only [State.recordErr]; repeat' split
  all_goals simp
@[simp] theorem recordErr_retain (s : State) (m : Master) (c a q : Nat) : (s.recordErr m c a q).retain = s.retain := by
  dsimp only [State.recordErr]; repeat' split
  all_goals simp
@[simp] theorem recordErr_mem (s : State) (m : Master) (c a q : Nat) : (s.recordErr m c a q).mem = s.mem := by
  dsimp only [State.recordErr]; repeat' split
  all_goals simp
@[simp] theorem recordErr_gran (s : State) (m : Master) (c a q : Nat) : (s.recordErr m c a q).gran = s.gran := by
  dsimp only [State.recordErr]; repeat' split
  all_goals simp
@[simp] theorem recordErr_doms (s : State) (m : Master) (c a q : Nat) : (s.recordErr m c a q).doms = s.doms := by
  dsimp only [State.recordErr]; repeat' split
  all_goals simp
@[simp] theorem recordErr_uid (s : State) (m : Master) (c a q : Nat) : (s.recordErr m c a q).uid = s.uid := by
  dsimp only [State.recordErr]; repeat' split
  all_goals simp
@[simp] theorem recordErr_otp (s : State) (m : Master) (c a q : Nat) : (s.recordErr m c a q).otp = s.otp := by
  dsimp only [State.recordErr]; repeat' split
  all_goals simp
@[simp] theorem recordErr_mram (s : State) (m : Master) (c a q : Nat) : (s.recordErr m c a q).mram = s.mram := by
  dsimp only [State.recordErr]; repeat' split
  all_goals simp
@[simp] theorem complete_pending (s : State) (m : Master) (a c d : Nat) : (s.complete m a c d).pending = s.pending := by
  unfold State.complete; split <;> simp
@[simp] theorem complete_free (s : State) (m : Master) (a c d : Nat) : (s.complete m a c d).free = s.free := by
  unfold State.complete; split <;> simp
@[simp] theorem complete_rdg (s : State) (m : Master) (a c d : Nat) : (s.complete m a c d).rdg = s.rdg := by
  unfold State.complete; split <;> simp
@[simp] theorem complete_cut (s : State) (m : Master) (a c d : Nat) : (s.complete m a c d).cut = s.cut := by
  unfold State.complete; split <;> simp
@[simp] theorem complete_stp (s : State) (m : Master) (a c d : Nat) : (s.complete m a c d).stp = s.stp := by
  unfold State.complete; split <;> simp
@[simp] theorem complete_cou (s : State) (m : Master) (a c d : Nat) : (s.complete m a c d).cou = s.cou := by
  unfold State.complete; split <;> simp
@[simp] theorem complete_flt (s : State) (m : Master) (a c d : Nat) : (s.complete m a c d).flt = s.flt := by
  unfold State.complete; split <;> simp
@[simp] theorem complete_wch (s : State) (m : Master) (a c d : Nat) : (s.complete m a c d).wch = s.wch := by
  unfold State.complete; split <;> simp
@[simp] theorem complete_cen (s : State) (m : Master) (a c d : Nat) : (s.complete m a c d).cen = s.cen := by
  unfold State.complete; split <;> simp
@[simp] theorem complete_prb (s : State) (m : Master) (a c d : Nat) : (s.complete m a c d).prb = s.prb := by
  unfold State.complete; split <;> simp
@[simp] theorem complete_crs (s : State) (m : Master) (a c d : Nat) : (s.complete m a c d).crs = s.crs := by
  unfold State.complete; split <;> simp
@[simp] theorem complete_scr (s : State) (m : Master) (a c d : Nat) : (s.complete m a c d).scr = s.scr := by
  unfold State.complete; split <;> simp
@[simp] theorem complete_tal (s : State) (m : Master) (a c d : Nat) : (s.complete m a c d).tal = s.tal := by
  unfold State.complete; split <;> simp
@[simp] theorem complete_auth (s : State) (m : Master) (a c d : Nat) : (s.complete m a c d).auth = s.auth := by
  unfold State.complete; split <;> simp
@[simp] theorem complete_pass (s : State) (m : Master) (a c d : Nat) : (s.complete m a c d).pass = s.pass := by
  unfold State.complete; split <;> simp
@[simp] theorem complete_rst (s : State) (m : Master) (a c d : Nat) : (s.complete m a c d).rst = s.rst := by
  unfold State.complete; split <;> simp
@[simp] theorem complete_cairns (s : State) (m : Master) (a c d : Nat) : (s.complete m a c d).cairns = s.cairns := by
  unfold State.complete; split <;> simp
@[simp] theorem complete_retain (s : State) (m : Master) (a c d : Nat) : (s.complete m a c d).retain = s.retain := by
  unfold State.complete; split <;> simp
@[simp] theorem complete_mem (s : State) (m : Master) (a c d : Nat) : (s.complete m a c d).mem = s.mem := by
  unfold State.complete; split <;> simp
@[simp] theorem complete_gran (s : State) (m : Master) (a c d : Nat) : (s.complete m a c d).gran = s.gran := by
  unfold State.complete; split <;> simp
@[simp] theorem complete_doms (s : State) (m : Master) (a c d : Nat) : (s.complete m a c d).doms = s.doms := by
  unfold State.complete; split <;> simp
@[simp] theorem complete_uid (s : State) (m : Master) (a c d : Nat) : (s.complete m a c d).uid = s.uid := by
  unfold State.complete; split <;> simp
@[simp] theorem complete_otp (s : State) (m : Master) (a c d : Nat) : (s.complete m a c d).otp = s.otp := by
  unfold State.complete; split <;> simp
@[simp] theorem complete_mram (s : State) (m : Master) (a c d : Nat) : (s.complete m a c d).mram = s.mram := by
  unfold State.complete; split <;> simp
@[simp] theorem takePlace_pending (s : State) (a : PendAct) : (s.takePlace a).pending = s.pending := rfl
@[simp] theorem takePlace_free (s : State) (a : PendAct) : (s.takePlace a).free = s.free := rfl
@[simp] theorem takePlace_regs (s : State) (a : PendAct) : (s.takePlace a).regs = s.regs := rfl
@[simp] theorem takePlace_rdg (s : State) (a : PendAct) : (s.takePlace a).rdg = s.rdg := rfl
@[simp] theorem takePlace_cut (s : State) (a : PendAct) : (s.takePlace a).cut = s.cut := rfl
@[simp] theorem takePlace_stp (s : State) (a : PendAct) : (s.takePlace a).stp = s.stp := rfl
@[simp] theorem takePlace_cou (s : State) (a : PendAct) : (s.takePlace a).cou = s.cou := rfl
@[simp] theorem takePlace_flt (s : State) (a : PendAct) : (s.takePlace a).flt = s.flt := rfl
@[simp] theorem takePlace_wch (s : State) (a : PendAct) : (s.takePlace a).wch = s.wch := rfl
@[simp] theorem takePlace_cen (s : State) (a : PendAct) : (s.takePlace a).cen = s.cen := rfl
@[simp] theorem takePlace_prb (s : State) (a : PendAct) : (s.takePlace a).prb = s.prb := rfl
@[simp] theorem takePlace_crs (s : State) (a : PendAct) : (s.takePlace a).crs = s.crs := rfl
@[simp] theorem takePlace_scr (s : State) (a : PendAct) : (s.takePlace a).scr = s.scr := rfl
@[simp] theorem takePlace_tal (s : State) (a : PendAct) : (s.takePlace a).tal = s.tal := rfl
@[simp] theorem takePlace_auth (s : State) (a : PendAct) : (s.takePlace a).auth = s.auth := rfl
@[simp] theorem takePlace_pass (s : State) (a : PendAct) : (s.takePlace a).pass = s.pass := rfl
@[simp] theorem takePlace_rst (s : State) (a : PendAct) : (s.takePlace a).rst = s.rst := rfl
@[simp] theorem takePlace_cairns (s : State) (a : PendAct) : (s.takePlace a).cairns = s.cairns := rfl
@[simp] theorem takePlace_retain (s : State) (a : PendAct) : (s.takePlace a).retain = s.retain := rfl
@[simp] theorem takePlace_mem (s : State) (a : PendAct) : (s.takePlace a).mem = s.mem := rfl
@[simp] theorem takePlace_gran (s : State) (a : PendAct) : (s.takePlace a).gran = s.gran := rfl
@[simp] theorem takePlace_doms (s : State) (a : PendAct) : (s.takePlace a).doms = s.doms := rfl
@[simp] theorem takePlace_uid (s : State) (a : PendAct) : (s.takePlace a).uid = s.uid := rfl
@[simp] theorem takePlace_otp (s : State) (a : PendAct) : (s.takePlace a).otp = s.otp := rfl
@[simp] theorem takePlace_mram (s : State) (a : PendAct) : (s.takePlace a).mram = s.mram := rfl
@[simp] theorem dropPlace_pending (s : State) (p : PendAct → Bool) : (s.dropPlace p).pending = s.pending := rfl
@[simp] theorem dropPlace_free (s : State) (p : PendAct → Bool) : (s.dropPlace p).free = s.free := rfl
@[simp] theorem dropPlace_regs (s : State) (p : PendAct → Bool) : (s.dropPlace p).regs = s.regs := rfl
@[simp] theorem dropPlace_rdg (s : State) (p : PendAct → Bool) : (s.dropPlace p).rdg = s.rdg := rfl
@[simp] theorem dropPlace_cut (s : State) (p : PendAct → Bool) : (s.dropPlace p).cut = s.cut := rfl
@[simp] theorem dropPlace_stp (s : State) (p : PendAct → Bool) : (s.dropPlace p).stp = s.stp := rfl
@[simp] theorem dropPlace_cou (s : State) (p : PendAct → Bool) : (s.dropPlace p).cou = s.cou := rfl
@[simp] theorem dropPlace_flt (s : State) (p : PendAct → Bool) : (s.dropPlace p).flt = s.flt := rfl
@[simp] theorem dropPlace_wch (s : State) (p : PendAct → Bool) : (s.dropPlace p).wch = s.wch := rfl
@[simp] theorem dropPlace_cen (s : State) (p : PendAct → Bool) : (s.dropPlace p).cen = s.cen := rfl
@[simp] theorem dropPlace_prb (s : State) (p : PendAct → Bool) : (s.dropPlace p).prb = s.prb := rfl
@[simp] theorem dropPlace_crs (s : State) (p : PendAct → Bool) : (s.dropPlace p).crs = s.crs := rfl
@[simp] theorem dropPlace_scr (s : State) (p : PendAct → Bool) : (s.dropPlace p).scr = s.scr := rfl
@[simp] theorem dropPlace_tal (s : State) (p : PendAct → Bool) : (s.dropPlace p).tal = s.tal := rfl
@[simp] theorem dropPlace_auth (s : State) (p : PendAct → Bool) : (s.dropPlace p).auth = s.auth := rfl
@[simp] theorem dropPlace_pass (s : State) (p : PendAct → Bool) : (s.dropPlace p).pass = s.pass := rfl
@[simp] theorem dropPlace_rst (s : State) (p : PendAct → Bool) : (s.dropPlace p).rst = s.rst := rfl
@[simp] theorem dropPlace_cairns (s : State) (p : PendAct → Bool) : (s.dropPlace p).cairns = s.cairns := rfl
@[simp] theorem dropPlace_retain (s : State) (p : PendAct → Bool) : (s.dropPlace p).retain = s.retain := rfl
@[simp] theorem dropPlace_mem (s : State) (p : PendAct → Bool) : (s.dropPlace p).mem = s.mem := rfl
@[simp] theorem dropPlace_gran (s : State) (p : PendAct → Bool) : (s.dropPlace p).gran = s.gran := rfl
@[simp] theorem dropPlace_doms (s : State) (p : PendAct → Bool) : (s.dropPlace p).doms = s.doms := rfl
@[simp] theorem dropPlace_uid (s : State) (p : PendAct → Bool) : (s.dropPlace p).uid = s.uid := rfl
@[simp] theorem dropPlace_otp (s : State) (p : PendAct → Bool) : (s.dropPlace p).otp = s.otp := rfl
@[simp] theorem dropPlace_mram (s : State) (p : PendAct → Bool) : (s.dropPlace p).mram = s.mram := rfl
@[simp] theorem arbTurn_pending (s : State) (m : Master) : (s.arbTurn m).pending = s.pending := by
  unfold State.arbTurn; split <;> rfl
@[simp] theorem arbTurn_free (s : State) (m : Master) : (s.arbTurn m).free = s.free := by
  unfold State.arbTurn; split <;> rfl
@[simp] theorem arbTurn_rdg (s : State) (m : Master) : (s.arbTurn m).rdg = s.rdg := by
  unfold State.arbTurn; split <;> rfl
@[simp] theorem arbTurn_cut (s : State) (m : Master) : (s.arbTurn m).cut = s.cut := by
  unfold State.arbTurn; split <;> rfl
@[simp] theorem arbTurn_stp (s : State) (m : Master) : (s.arbTurn m).stp = s.stp := by
  unfold State.arbTurn; split <;> rfl
@[simp] theorem arbTurn_cou (s : State) (m : Master) : (s.arbTurn m).cou = s.cou := by
  unfold State.arbTurn; split <;> rfl
@[simp] theorem arbTurn_flt (s : State) (m : Master) : (s.arbTurn m).flt = s.flt := by
  unfold State.arbTurn; split <;> rfl
@[simp] theorem arbTurn_wch (s : State) (m : Master) : (s.arbTurn m).wch = s.wch := by
  unfold State.arbTurn; split <;> rfl
@[simp] theorem arbTurn_cen (s : State) (m : Master) : (s.arbTurn m).cen = s.cen := by
  unfold State.arbTurn; split <;> rfl
@[simp] theorem arbTurn_prb (s : State) (m : Master) : (s.arbTurn m).prb = s.prb := by
  unfold State.arbTurn; split <;> rfl
@[simp] theorem arbTurn_crs (s : State) (m : Master) : (s.arbTurn m).crs = s.crs := by
  unfold State.arbTurn; split <;> rfl
@[simp] theorem arbTurn_scr (s : State) (m : Master) : (s.arbTurn m).scr = s.scr := by
  unfold State.arbTurn; split <;> rfl
@[simp] theorem arbTurn_tal (s : State) (m : Master) : (s.arbTurn m).tal = s.tal := by
  unfold State.arbTurn; split <;> rfl
@[simp] theorem arbTurn_auth (s : State) (m : Master) : (s.arbTurn m).auth = s.auth := by
  unfold State.arbTurn; split <;> rfl
@[simp] theorem arbTurn_pass (s : State) (m : Master) : (s.arbTurn m).pass = s.pass := by
  unfold State.arbTurn; split <;> rfl
@[simp] theorem arbTurn_cairns (s : State) (m : Master) : (s.arbTurn m).cairns = s.cairns := by
  unfold State.arbTurn; split <;> rfl
@[simp] theorem arbTurn_retain (s : State) (m : Master) : (s.arbTurn m).retain = s.retain := by
  unfold State.arbTurn; split <;> rfl
@[simp] theorem arbTurn_mem (s : State) (m : Master) : (s.arbTurn m).mem = s.mem := by
  unfold State.arbTurn; split <;> rfl
@[simp] theorem arbTurn_gran (s : State) (m : Master) : (s.arbTurn m).gran = s.gran := by
  unfold State.arbTurn; split <;> rfl
@[simp] theorem arbTurn_doms (s : State) (m : Master) : (s.arbTurn m).doms = s.doms := by
  unfold State.arbTurn; split <;> rfl
@[simp] theorem arbTurn_uid (s : State) (m : Master) : (s.arbTurn m).uid = s.uid := by
  unfold State.arbTurn; split <;> rfl
@[simp] theorem arbTurn_otp (s : State) (m : Master) : (s.arbTurn m).otp = s.otp := by
  unfold State.arbTurn; split <;> rfl
@[simp] theorem arbTurn_mram (s : State) (m : Master) : (s.arbTurn m).mram = s.mram := by
  unfold State.arbTurn; split <;> rfl
@[simp] theorem atTurn_pending (s : State) (m : Master) : (s.atTurn m).pending = s.pending := by
  cases m <;> simp [State.atTurn]
@[simp] theorem atTurn_free (s : State) (m : Master) : (s.atTurn m).free = s.free := by
  cases m <;> simp [State.atTurn]
@[simp] theorem atTurn_rdg (s : State) (m : Master) : (s.atTurn m).rdg = s.rdg := by
  cases m <;> simp [State.atTurn]
@[simp] theorem atTurn_cut (s : State) (m : Master) : (s.atTurn m).cut = s.cut := by
  cases m <;> simp [State.atTurn]
@[simp] theorem atTurn_stp (s : State) (m : Master) : (s.atTurn m).stp = s.stp := by
  cases m <;> simp [State.atTurn]
@[simp] theorem atTurn_cou (s : State) (m : Master) : (s.atTurn m).cou = s.cou := by
  cases m <;> simp [State.atTurn]
@[simp] theorem atTurn_flt (s : State) (m : Master) : (s.atTurn m).flt = s.flt := by
  cases m <;> simp [State.atTurn]
@[simp] theorem atTurn_wch (s : State) (m : Master) : (s.atTurn m).wch = s.wch := by
  cases m <;> simp [State.atTurn]
@[simp] theorem atTurn_cen (s : State) (m : Master) : (s.atTurn m).cen = s.cen := by
  cases m <;> simp [State.atTurn]
@[simp] theorem atTurn_prb (s : State) (m : Master) : (s.atTurn m).prb = s.prb := by
  cases m <;> simp [State.atTurn]
@[simp] theorem atTurn_crs (s : State) (m : Master) : (s.atTurn m).crs = s.crs := by
  cases m <;> simp [State.atTurn]
@[simp] theorem atTurn_scr (s : State) (m : Master) : (s.atTurn m).scr = s.scr := by
  cases m <;> simp [State.atTurn]
@[simp] theorem atTurn_tal (s : State) (m : Master) : (s.atTurn m).tal = s.tal := by
  cases m <;> simp [State.atTurn]
@[simp] theorem atTurn_auth (s : State) (m : Master) : (s.atTurn m).auth = s.auth := by
  cases m <;> simp [State.atTurn]
@[simp] theorem atTurn_pass (s : State) (m : Master) : (s.atTurn m).pass = s.pass := by
  cases m <;> simp [State.atTurn]
@[simp] theorem atTurn_cairns (s : State) (m : Master) : (s.atTurn m).cairns = s.cairns := by
  cases m <;> simp [State.atTurn]
@[simp] theorem atTurn_retain (s : State) (m : Master) : (s.atTurn m).retain = s.retain := by
  cases m <;> simp [State.atTurn]
@[simp] theorem atTurn_mem (s : State) (m : Master) : (s.atTurn m).mem = s.mem := by
  cases m <;> simp [State.atTurn]
@[simp] theorem atTurn_gran (s : State) (m : Master) : (s.atTurn m).gran = s.gran := by
  cases m <;> simp [State.atTurn]
@[simp] theorem atTurn_doms (s : State) (m : Master) : (s.atTurn m).doms = s.doms := by
  cases m <;> simp [State.atTurn]
@[simp] theorem atTurn_uid (s : State) (m : Master) : (s.atTurn m).uid = s.uid := by
  cases m <;> simp [State.atTurn]
@[simp] theorem atTurn_otp (s : State) (m : Master) : (s.atTurn m).otp = s.otp := by
  cases m <;> simp [State.atTurn]
@[simp] theorem atTurn_mram (s : State) (m : Master) : (s.atTurn m).mram = s.mram := by
  cases m <;> simp [State.atTurn]
@[simp] theorem granted_pending (s : State) (m : Master) : (s.granted m).pending = s.pending := by
  simp [State.granted, State.setHolding]
@[simp] theorem granted_free (s : State) (m : Master) : (s.granted m).free = s.free := by
  simp [State.granted, State.setHolding]
@[simp] theorem granted_regs (s : State) (m : Master) : (s.granted m).regs = s.regs := by
  simp [State.granted, State.setHolding]
@[simp] theorem granted_rdg (s : State) (m : Master) : (s.granted m).rdg = s.rdg := by
  simp [State.granted, State.setHolding]
@[simp] theorem granted_cut (s : State) (m : Master) : (s.granted m).cut = s.cut := by
  simp [State.granted, State.setHolding]
@[simp] theorem granted_stp (s : State) (m : Master) : (s.granted m).stp = s.stp := by
  simp [State.granted, State.setHolding]
@[simp] theorem granted_cou (s : State) (m : Master) : (s.granted m).cou = s.cou := by
  simp [State.granted, State.setHolding]
@[simp] theorem granted_flt (s : State) (m : Master) : (s.granted m).flt = s.flt := by
  simp [State.granted, State.setHolding]
@[simp] theorem granted_wch (s : State) (m : Master) : (s.granted m).wch = s.wch := by
  simp [State.granted, State.setHolding]
@[simp] theorem granted_cen (s : State) (m : Master) : (s.granted m).cen = s.cen := by
  simp [State.granted, State.setHolding]
@[simp] theorem granted_prb (s : State) (m : Master) : (s.granted m).prb = s.prb := by
  simp [State.granted, State.setHolding]
@[simp] theorem granted_crs (s : State) (m : Master) : (s.granted m).crs = s.crs := by
  simp [State.granted, State.setHolding]
@[simp] theorem granted_scr (s : State) (m : Master) : (s.granted m).scr = s.scr := by
  simp [State.granted, State.setHolding]
@[simp] theorem granted_tal (s : State) (m : Master) : (s.granted m).tal = s.tal := by
  simp [State.granted, State.setHolding]
@[simp] theorem granted_auth (s : State) (m : Master) : (s.granted m).auth = s.auth := by
  simp [State.granted, State.setHolding]
@[simp] theorem granted_pass (s : State) (m : Master) : (s.granted m).pass = s.pass := by
  simp [State.granted, State.setHolding]
@[simp] theorem granted_rst (s : State) (m : Master) : (s.granted m).rst = s.rst := by
  simp [State.granted, State.setHolding]
@[simp] theorem granted_cairns (s : State) (m : Master) : (s.granted m).cairns = s.cairns := by
  simp [State.granted, State.setHolding]
@[simp] theorem granted_retain (s : State) (m : Master) : (s.granted m).retain = s.retain := by
  simp [State.granted, State.setHolding]
@[simp] theorem granted_mem (s : State) (m : Master) : (s.granted m).mem = s.mem := by
  simp [State.granted, State.setHolding]
@[simp] theorem granted_gran (s : State) (m : Master) : (s.granted m).gran = s.gran := by
  simp [State.granted, State.setHolding]
@[simp] theorem granted_doms (s : State) (m : Master) : (s.granted m).doms = s.doms := by
  simp [State.granted, State.setHolding]
@[simp] theorem granted_uid (s : State) (m : Master) : (s.granted m).uid = s.uid := by
  simp [State.granted, State.setHolding]
@[simp] theorem granted_otp (s : State) (m : Master) : (s.granted m).otp = s.otp := by
  simp [State.granted, State.setHolding]
@[simp] theorem granted_mram (s : State) (m : Master) : (s.granted m).mram = s.mram := by
  simp [State.granted, State.setHolding]
@[simp] theorem touchWin_pending (s : State) (id : Nat) : (s.touchWin id).pending = s.pending := by
  unfold State.touchWin; split <;> simp
@[simp] theorem touchWin_free (s : State) (id : Nat) : (s.touchWin id).free = s.free := by
  unfold State.touchWin; split <;> simp
@[simp] theorem touchWin_rdg (s : State) (id : Nat) : (s.touchWin id).rdg = s.rdg := by
  unfold State.touchWin; split <;> simp
@[simp] theorem touchWin_cut (s : State) (id : Nat) : (s.touchWin id).cut = s.cut := by
  unfold State.touchWin; split <;> simp
@[simp] theorem touchWin_stp (s : State) (id : Nat) : (s.touchWin id).stp = s.stp := by
  unfold State.touchWin; split <;> simp
@[simp] theorem touchWin_cou (s : State) (id : Nat) : (s.touchWin id).cou = s.cou := by
  unfold State.touchWin; split <;> simp
@[simp] theorem touchWin_flt (s : State) (id : Nat) : (s.touchWin id).flt = s.flt := by
  unfold State.touchWin; split <;> simp
@[simp] theorem touchWin_wch (s : State) (id : Nat) : (s.touchWin id).wch = s.wch := by
  unfold State.touchWin; split <;> simp
@[simp] theorem touchWin_cen (s : State) (id : Nat) : (s.touchWin id).cen = s.cen := by
  unfold State.touchWin; split <;> simp
@[simp] theorem touchWin_prb (s : State) (id : Nat) : (s.touchWin id).prb = s.prb := by
  unfold State.touchWin; split <;> simp
@[simp] theorem touchWin_crs (s : State) (id : Nat) : (s.touchWin id).crs = s.crs := by
  unfold State.touchWin; split <;> simp
@[simp] theorem touchWin_scr (s : State) (id : Nat) : (s.touchWin id).scr = s.scr := by
  unfold State.touchWin; split <;> simp
@[simp] theorem touchWin_tal (s : State) (id : Nat) : (s.touchWin id).tal = s.tal := by
  unfold State.touchWin; split <;> simp
@[simp] theorem touchWin_auth (s : State) (id : Nat) : (s.touchWin id).auth = s.auth := by
  unfold State.touchWin; split <;> simp
@[simp] theorem touchWin_pass (s : State) (id : Nat) : (s.touchWin id).pass = s.pass := by
  unfold State.touchWin; split <;> simp
@[simp] theorem touchWin_rst (s : State) (id : Nat) : (s.touchWin id).rst = s.rst := by
  unfold State.touchWin; split <;> simp
@[simp] theorem touchWin_cairns (s : State) (id : Nat) : (s.touchWin id).cairns = s.cairns := by
  unfold State.touchWin; split <;> simp
@[simp] theorem touchWin_retain (s : State) (id : Nat) : (s.touchWin id).retain = s.retain := by
  unfold State.touchWin; split <;> simp
@[simp] theorem touchWin_mem (s : State) (id : Nat) : (s.touchWin id).mem = s.mem := by
  unfold State.touchWin; split <;> simp
@[simp] theorem touchWin_gran (s : State) (id : Nat) : (s.touchWin id).gran = s.gran := by
  unfold State.touchWin; split <;> simp
@[simp] theorem touchWin_doms (s : State) (id : Nat) : (s.touchWin id).doms = s.doms := by
  unfold State.touchWin; split <;> simp
@[simp] theorem touchWin_uid (s : State) (id : Nat) : (s.touchWin id).uid = s.uid := by
  unfold State.touchWin; split <;> simp
@[simp] theorem touchWin_otp (s : State) (id : Nat) : (s.touchWin id).otp = s.otp := by
  unfold State.touchWin; split <;> simp
@[simp] theorem touchWin_mram (s : State) (id : Nat) : (s.touchWin id).mram = s.mram := by
  unfold State.touchWin; split <;> simp
@[simp] theorem setSpur_pending (s : State) (p n : Nat) : (s.setSpur p n).pending = s.pending := rfl
@[simp] theorem setSpur_free (s : State) (p n : Nat) : (s.setSpur p n).free = s.free := rfl
@[simp] theorem setSpur_sum (s : State) (p n : Nat) : (s.setSpur p n).sum = s.sum := rfl
@[simp] theorem setSpur_rdg (s : State) (p n : Nat) : (s.setSpur p n).rdg = s.rdg := rfl
@[simp] theorem setSpur_cut (s : State) (p n : Nat) : (s.setSpur p n).cut = s.cut := rfl
@[simp] theorem setSpur_stp (s : State) (p n : Nat) : (s.setSpur p n).stp = s.stp := rfl
@[simp] theorem setSpur_cou (s : State) (p n : Nat) : (s.setSpur p n).cou = s.cou := rfl
@[simp] theorem setSpur_flt (s : State) (p n : Nat) : (s.setSpur p n).flt = s.flt := rfl
@[simp] theorem setSpur_wch (s : State) (p n : Nat) : (s.setSpur p n).wch = s.wch := rfl
@[simp] theorem setSpur_cen (s : State) (p n : Nat) : (s.setSpur p n).cen = s.cen := rfl
@[simp] theorem setSpur_prb (s : State) (p n : Nat) : (s.setSpur p n).prb = s.prb := rfl
@[simp] theorem setSpur_crs (s : State) (p n : Nat) : (s.setSpur p n).crs = s.crs := rfl
@[simp] theorem setSpur_scr (s : State) (p n : Nat) : (s.setSpur p n).scr = s.scr := rfl
@[simp] theorem setSpur_tal (s : State) (p n : Nat) : (s.setSpur p n).tal = s.tal := rfl
@[simp] theorem setSpur_auth (s : State) (p n : Nat) : (s.setSpur p n).auth = s.auth := rfl
@[simp] theorem setSpur_pass (s : State) (p n : Nat) : (s.setSpur p n).pass = s.pass := rfl
@[simp] theorem setSpur_rst (s : State) (p n : Nat) : (s.setSpur p n).rst = s.rst := rfl
@[simp] theorem setSpur_cairns (s : State) (p n : Nat) : (s.setSpur p n).cairns = s.cairns := rfl
@[simp] theorem setSpur_retain (s : State) (p n : Nat) : (s.setSpur p n).retain = s.retain := rfl
@[simp] theorem setSpur_mem (s : State) (p n : Nat) : (s.setSpur p n).mem = s.mem := rfl
@[simp] theorem setSpur_gran (s : State) (p n : Nat) : (s.setSpur p n).gran = s.gran := rfl
@[simp] theorem setSpur_doms (s : State) (p n : Nat) : (s.setSpur p n).doms = s.doms := rfl
@[simp] theorem setSpur_uid (s : State) (p n : Nat) : (s.setSpur p n).uid = s.uid := rfl
@[simp] theorem setSpur_otp (s : State) (p n : Nat) : (s.setSpur p n).otp = s.otp := rfl
@[simp] theorem setSpur_mram (s : State) (p n : Nat) : (s.setSpur p n).mram = s.mram := rfl
@[simp] theorem realign_pending (s : State) : (s.realign).pending = s.pending := by
  dsimp only [State.realign]; split <;> simp
@[simp] theorem realign_free (s : State) : (s.realign).free = s.free := by
  dsimp only [State.realign]; split <;> simp
@[simp] theorem realign_rdg (s : State) : (s.realign).rdg = s.rdg := by
  dsimp only [State.realign]; split <;> simp
@[simp] theorem realign_cut (s : State) : (s.realign).cut = s.cut := by
  dsimp only [State.realign]; split <;> simp
@[simp] theorem realign_stp (s : State) : (s.realign).stp = s.stp := by
  dsimp only [State.realign]; split <;> simp
@[simp] theorem realign_cou (s : State) : (s.realign).cou = s.cou := by
  dsimp only [State.realign]; split <;> simp
@[simp] theorem realign_flt (s : State) : (s.realign).flt = s.flt := by
  dsimp only [State.realign]; split <;> simp
@[simp] theorem realign_wch (s : State) : (s.realign).wch = s.wch := by
  dsimp only [State.realign]; split <;> simp
@[simp] theorem realign_cen (s : State) : (s.realign).cen = s.cen := by
  dsimp only [State.realign]; split <;> simp
@[simp] theorem realign_prb (s : State) : (s.realign).prb = s.prb := by
  dsimp only [State.realign]; split <;> simp
@[simp] theorem realign_crs (s : State) : (s.realign).crs = s.crs := by
  dsimp only [State.realign]; split <;> simp
@[simp] theorem realign_scr (s : State) : (s.realign).scr = s.scr := by
  dsimp only [State.realign]; split <;> simp
@[simp] theorem realign_tal (s : State) : (s.realign).tal = s.tal := by
  dsimp only [State.realign]; split <;> simp
@[simp] theorem realign_auth (s : State) : (s.realign).auth = s.auth := by
  dsimp only [State.realign]; split <;> simp
@[simp] theorem realign_pass (s : State) : (s.realign).pass = s.pass := by
  dsimp only [State.realign]; split <;> simp
@[simp] theorem realign_rst (s : State) : (s.realign).rst = s.rst := by
  dsimp only [State.realign]; split <;> simp
@[simp] theorem realign_cairns (s : State) : (s.realign).cairns = s.cairns := by
  dsimp only [State.realign]; split <;> simp
@[simp] theorem realign_retain (s : State) : (s.realign).retain = s.retain := by
  dsimp only [State.realign]; split <;> simp
@[simp] theorem realign_mem (s : State) : (s.realign).mem = s.mem := by
  dsimp only [State.realign]; split <;> simp
@[simp] theorem realign_gran (s : State) : (s.realign).gran = s.gran := by
  dsimp only [State.realign]; split <;> simp
@[simp] theorem realign_doms (s : State) : (s.realign).doms = s.doms := by
  dsimp only [State.realign]; split <;> simp
@[simp] theorem realign_uid (s : State) : (s.realign).uid = s.uid := by
  dsimp only [State.realign]; split <;> simp
@[simp] theorem realign_otp (s : State) : (s.realign).otp = s.otp := by
  dsimp only [State.realign]; split <;> simp
@[simp] theorem realign_mram (s : State) : (s.realign).mram = s.mram := by
  dsimp only [State.realign]; split <;> simp

/-! ### What they leave -/

/-- A Cairn after one is replaced. -/
theorem cairn_setCairn (s : State) (id j : Nat) (c : Cairn) : (s.setCairn id c).cairn j = if j = id then c else s.cairn j := by
  simp only [State.cairn, State.setCairn, smGet_smSet]

@[simp] theorem cairn_setCairn_same (s : State) (id : Nat) (c : Cairn) : (s.setCairn id c).cairn id = c := by simp [cairn_setCairn]

@[simp] theorem cairn_modC_same (s : State) (id : Nat) (g : Cairn → Cairn) : (s.modC id g).cairn id = g (s.cairn id) := by
  simp [State.modC]

theorem cairn_setCairn_ne (s : State) {id j : Nat} (c : Cairn) (h : j ≠ id) : (s.setCairn id c).cairn j = s.cairn j := by
  simp [cairn_setCairn, h]

theorem cairn_modC_ne (s : State) {id j : Nat} (g : Cairn → Cairn) (h : j ≠ id) : (s.modC id g).cairn j = s.cairn j := by
  simp [State.modC, cairn_setCairn, h]

/-- A register of a Cairn after a write to one. -/
theorem Cairn.rd_wr (c : Cairn) (a b n : Nat) : (c.wr a n).rd b = if b = a then n % 2 ^ 32 else c.rd b := by
  simp only [Cairn.rd, Cairn.wr, smGet_smSet]; split <;> simp

theorem Cairn.f_wr_ne (c : Cairn) (a n : Nat) (f : Fld) (h : f.addr ≠ a) : (c.wr a n).f f = c.f f := by
  simp only [Cairn.f, Cairn.wr, smGet_smSet_ne _ _ h]

theorem Cairn.f_setF_same (c : Cairn) (f : Fld) (n : Nat) (h : f.lo + f.width ≤ 32) : (c.setF f n).f f = n % 2 ^ f.width := by
  simp only [Cairn.f, Cairn.setF, smGet_smSet_same, Fld.get_set f _ n h]

theorem Cairn.f_setF_other (c : Cairn) (f g : Fld) (n : Nat) (h : f.lo + f.width ≤ 32)
    (hd : g.addr ≠ f.addr ∨ f.lo + f.width ≤ g.lo ∨ g.lo + g.width ≤ f.lo) : (c.setF f n).f g = c.f g := by
  simp only [Cairn.f, Cairn.setF]
  by_cases ha : g.addr = f.addr
  · rw [ha, smGet_smSet_same, Fld.get_set_ne f g _ n h (hd.resolve_left (by simp [ha]))]
  · rw [smGet_smSet_ne _ _ ha]

theorem f_setF_other (s : State) (f g : Fld) (n : Nat) (h : f.lo + f.width ≤ 32)
    (hd : g.addr ≠ f.addr ∨ f.lo + f.width ≤ g.lo ∨ g.lo + g.width ≤ f.lo) : (s.setF f n).f g = s.f g := by
  simp only [State.f, State.setF]
  by_cases ha : g.addr = f.addr
  · rw [ha, smGet_smSet_same, Fld.get_set_ne f g _ n h (hd.resolve_left (by simp [ha]))]
  · rw [smGet_smSet_ne _ _ ha]

/-- What a raised event joins. -/
theorem raise_intq (s : State) (n : EvName) (src : Nat) (d : List EvVal) (x : Bool) :
    (s.raise n src d x).sum.intq = s.sum.intq ++ [{ name := n, src := src, stamp := s.now, data := d, sec := x }] := rfl

/-- A raise counts its event on its source's page and changes no other register. -/
theorem rd_raise (s : State) (n : EvName) (src b : Nat) (d : List EvVal) (x : Bool) (h : b ≠ evPage src n * 0x1000 + 0x24) :
    (s.raise n src d x).rd b = s.rd b := rd_wr_ne s _ h

theorem f_raise (s : State) (n : EvName) (src : Nat) (d : List EvVal) (x : Bool) (f : Fld) (h : f.addr ≠ evPage src n * 0x1000 + 0x24) :
    (s.raise n src d x).f f = s.f f := f_wr_ne s _ _ f h

/-- A field, a register or a Cairn of a state is read from its registers and Cairns alone. -/
theorem f_of_regs {s t : State} (h : t.regs = s.regs) (f : Fld) : t.f f = s.f f := by simp only [State.f, h]

theorem rd_of_regs {s t : State} (h : t.regs = s.regs) (a : Nat) : t.rd a = s.rd a := by simp only [State.rd, h]

theorem cairn_of_cairns {s t : State} (h : t.cairns = s.cairns) (id : Nat) : t.cairn id = s.cairn id := by simp only [State.cairn, h]

end Sys2Proof.Machine
end

