-- ==== Sys2Proof/Laws/PerInstr.lean ====
section
/-! SUPPORT. Laws/PerInstr.lean: per command, as syntax: the Cairns that a well-formed command names are units of the device (01 R13). -/

namespace Sys2Proof.Laws.Fields

open Sys2Proof.Machine

/-- Every Cairn that the command names by an operand is a unit of a kind, if the command is well-formed. -/
def Statement (i : Instr) : Prop := i.wf = true → ∀ c ∈ i.cairnIds, kindOf c ≠ 0

theorem unit_kind {c : Nat} (h : c < 0xBC0) : kindOf c ≠ 0 := by
  unfold kindOf
  repeat' split
  all_goals omega

theorem of_isUnit {c : Nat} (h : isUnit c = true) : kindOf c ≠ 0 := unit_kind (by simpa [isUnit] using h)

theorem of_isGc {c : Nat} (h : isGc c = true) : kindOf c ≠ 0 := by
  simp [isGc] at h; exact unit_kind (by omega)

theorem of_isBmu {c : Nat} (h : isBmu c = true) : kindOf c ≠ 0 := by
  simp [isBmu] at h; exact unit_kind (by omega)

theorem of_isSlice {c : Nat} (h : isSlice c = true) : kindOf c ≠ 0 := by
  simp [isSlice] at h; exact unit_kind (by omega)

theorem of_isRing {c : Nat} (h : isRing c = true) : kindOf c ≠ 0 := by
  simp [isRing] at h; exact unit_kind (by omega)

theorem of_isRegion {c : Nat} (h : isRegion c = true) : kindOf c ≠ 0 := by
  simp [isRegion] at h; exact unit_kind (by omega)

/-- A command that names no Cairn. -/
theorem none {i : Instr} (h : i.cairnIds = []) : Statement i := fun _ c hc => by rw [h] at hc; cases hc

/-- A command that names one Cairn, checked by `p`. -/
theorem one {i : Instr} {c : Nat} (h : i.cairnIds = [c]) (hp : i.wf = true → kindOf c ≠ 0) : Statement i := fun hw d hd => by
  rw [h, List.mem_singleton] at hd; exact hd ▸ hp hw

/-- A command that names several. -/
theorem all {i : Instr} {l : List Nat} (h : i.cairnIds = l) (hp : i.wf = true → l.all isUnit = true) : Statement i := fun hw c hc =>
  of_isUnit (List.all_eq_true.1 (hp hw) c (h ▸ hc))

/-- Both halves of a conjunction of checks. -/
theorem band {a b : Bool} (h : (a && b) = true) : a = true ∧ b = true := (Bool.and_eq_true a b).mp h

theorem reps_units {l : List EdgeRep} (h : repsOk l = true) : (l.map (·.cairn)).all isUnit = true := by
  simp only [repsOk, List.all_eq_true, Bool.and_eq_true] at h
  simp only [List.all_map, List.all_eq_true, Function.comp]
  exact fun r hr => (h r hr).1.1.1.1

theorem class1Report (cairn : Nat) (leaf : Nat) (u : Option UnitEvent) : Statement (.class1Report cairn leaf u) := one rfl fun h => of_isUnit (band h).1
theorem summitAck (cairn : Nat) : Statement (.summitAck cairn) := one rfl fun h => of_isUnit h
theorem mirrorUpdate (spur : Nat) : Statement (.mirrorUpdate spur) := none rfl
theorem livenessFlit (spur : Nat) : Statement (.livenessFlit spur) := none rfl
theorem spurLivenessTimeout (spur : Nat) (selfCheck : Bool) : Statement (.spurLivenessTimeout spur selfCheck) := none rfl
theorem forceSpurLoss (m : Master) (val : Word) : Statement (.forceSpurLoss m val) := none rfl
theorem colLaneFail (group : Nat) : Statement (.colLaneFail group) := none rfl
theorem registerWrite (m : Master) (addr : Nat) (width : Nat) (val : Nat) : Statement (.registerWrite m addr width val) := none rfl
theorem readClear (m : Master) (addr : Nat) : Statement (.readClear m addr) := none rfl
theorem apertureAccess (m : Master) (addr : Nat) (width : Nat) (write : Bool) (val : Nat) : Statement (.apertureAccess m addr width write val) := none rfl
theorem apertureAnswer (m : Master) : Statement (.apertureAnswer m) := none rfl
theorem apertureTimeout (m : Master) : Statement (.apertureTimeout m) := none rfl
theorem exclAcquire (m : Master) (val : Word) : Statement (.exclAcquire m val) := none rfl
theorem exclRelease (m : Master) (val : Word) : Statement (.exclRelease m val) := none rfl
theorem hostReq (m : Master) (val : Word) : Statement (.hostReq m val) := none rfl
theorem tsyncEpoch (high : Nat) (low : Nat) (edge : Nat) (lE : Nat) (start : Nat) (frame : Nat) : Statement (.tsyncEpoch high low edge lE start frame) := none rfl
theorem reload (m : Master) (val : Word) : Statement (.reload m val) := none rfl
theorem calSweep (m : Master) (val : Word) : Statement (.calSweep m val) := none rfl
theorem calSlot (spur : Nat) (trip : Option Nat) (xing : Nat) : Statement (.calSlot spur trip xing) := none rfl
theorem leafLoad (load : LeafRep) : Statement (.leafLoad load) := one rfl fun h => of_isUnit (band h).1
theorem domainPowerUp (cairns : List Nat) : Statement (.domainPowerUp cairns) := all rfl fun h => h
theorem domainPowerDown (cairns : List Nat) : Statement (.domainPowerDown cairns) := all rfl fun h => h
theorem scheduledActionEffect (cairn : Nat) (leaf : Nat) : Statement (.scheduledActionEffect cairn leaf) := one rfl fun h => of_isUnit (band h).1
theorem channelRaise (raise : Nat) : Statement (.channelRaise raise) := none rfl
theorem cutCmdStop (m : Master) (val : Word) : Statement (.cutCmdStop m val) := none rfl
theorem cutCmdGlance (m : Master) (val : Word) : Statement (.cutCmdGlance m val) := none rfl
theorem cutCmdResume (m : Master) (val : Word) : Statement (.cutCmdResume m val) := none rfl
theorem cutCmdAbandon (m : Master) (val : Word) : Statement (.cutCmdAbandon m val) := none rfl
theorem cutCmdXdev (m : Master) (val : Word) : Statement (.cutCmdXdev m val) := none rfl
theorem cutMessage (cairn : Nat) (msg : Nat) (leaf : Nat) : Statement (.cutMessage cairn msg leaf) := one rfl fun h => of_isUnit (band h).1
theorem cutEdge (reps : List EdgeRep) : Statement (.cutEdge reps) := all rfl fun h => reps_units h
theorem spurCutAggregate (spur : Nat) : Statement (.spurCutAggregate spur) := none rfl
theorem cutReportTimeout (cairn : Nat) : Statement (.cutReportTimeout cairn) := one rfl fun h => of_isUnit h
theorem resumeEdge (reps : List EdgeRep) : Statement (.resumeEdge reps) := all rfl fun h => reps_units h
theorem releaseAggregate (spur : Nat) : Statement (.releaseAggregate spur) := none rfl
theorem shadowDrain (cairn : Nat) : Statement (.shadowDrain cairn) := one rfl fun h => of_isUnit h
theorem divertedWrite (cairn : Nat) (page : Nat) (addr : Nat) (bytes : List Byte) : Statement (.divertedWrite cairn page addr bytes) := one rfl fun h => ((Bool.or_eq_true _ _).mp h).elim of_isBmu of_isSlice
theorem pageCopyDone (cairn : Nat) (page : Nat) : Statement (.pageCopyDone cairn page) := one rfl fun h => ((Bool.or_eq_true _ _).mp h).elim of_isBmu of_isSlice
theorem xcutReceive (kind : Nat) (t : Nat) : Statement (.xcutReceive kind t) := none rfl
theorem xcutAnswer (hub : Nat) (code : Nat) : Statement (.xcutAnswer hub code) := none rfl
theorem stepGo (m : Master) (val : Word) : Statement (.stepGo m val) := none rfl
theorem stepMessage (cairn : Nat) (msg : Nat) (leaf : Nat) : Statement (.stepMessage cairn msg leaf) := one rfl fun h => of_isUnit (band h).1
theorem stepReleaseEdge (reps : List EdgeRep) : Statement (.stepReleaseEdge reps) := all rfl fun h => reps_units h
theorem stepReportTimeout (cairn : Nat) : Statement (.stepReportTimeout cairn) := one rfl fun h => of_isUnit h
theorem stepUnitComplete (cairns : List Nat) (net : Nat) (leaf : Nat) : Statement (.stepUnitComplete cairns net leaf) := all rfl fun h => (band h).1
theorem stepAggregate (spur : Nat) : Statement (.stepAggregate spur) := none rfl
theorem stepFreezeEdge (reps : List EdgeRep) : Statement (.stepFreezeEdge reps) := all rfl fun h => reps_units h
theorem freezeAggregate (spur : Nat) : Statement (.freezeAggregate spur) := none rfl
theorem viewRead (m : Master) (addr : Nat) : Statement (.viewRead m addr) := none rfl
theorem viewDeposit (m : Master) (addr : Nat) (val : Word) : Statement (.viewDeposit m addr val) := none rfl
theorem cairnRaise (cairn : Nat) (out : Nat) : Statement (.cairnRaise cairn out) := one rfl fun h => of_isUnit (band h).1
theorem xtrig (m : Master) (val : Word) : Statement (.xtrig m val) := none rfl
theorem run (m : Master) (val : Word) : Statement (.run m val) := none rfl
theorem saCancel (m : Master) (val : Word) : Statement (.saCancel m val) := none rfl
theorem prbStart (m : Master) (e : Nat) (val : Word) : Statement (.prbStart m e val) := none rfl
theorem prbStop (m : Master) (e : Nat) (val : Word) : Statement (.prbStop m e val) := none rfl
theorem pmDataWrite (m : Master) (e : Nat) (val : Word) : Statement (.pmDataWrite m e val) := none rfl
theorem pmDataRead (m : Master) (e : Nat) : Statement (.pmDataRead m e) := none rfl
theorem add (e : Nat) : Statement (.add e) := none rfl
theorem sub (e : Nat) : Statement (.sub e) := none rfl
theorem iAnd (e : Nat) : Statement (.iAnd e) := none rfl
theorem iOr (e : Nat) : Statement (.iOr e) := none rfl
theorem xor (e : Nat) : Statement (.xor e) := none rfl
theorem shl (e : Nat) : Statement (.shl e) := none rfl
theorem shr (e : Nat) : Statement (.shr e) := none rfl
theorem mul (e : Nat) : Statement (.mul e) := none rfl
theorem minu (e : Nat) : Statement (.minu e) := none rfl
theorem maxu (e : Nat) : Statement (.maxu e) := none rfl
theorem addi (e : Nat) : Statement (.addi e) := none rfl
theorem andi (e : Nat) : Statement (.andi e) := none rfl
theorem movi (e : Nat) : Statement (.movi e) := none rfl
theorem ldm (e : Nat) : Statement (.ldm e) := none rfl
theorem stm (e : Nat) : Statement (.stm e) := none rfl
theorem aadd (e : Nat) : Statement (.aadd e) := none rfl
theorem beq (e : Nat) : Statement (.beq e) := none rfl
theorem bne (e : Nat) : Statement (.bne e) := none rfl
theorem bltu (e : Nat) : Statement (.bltu e) := none rfl
theorem bgeu (e : Nat) : Statement (.bgeu e) := none rfl
theorem beqi (e : Nat) : Statement (.beqi e) := none rfl
theorem bnei (e : Nat) : Statement (.bnei e) := none rfl
theorem bltui (e : Nat) : Statement (.bltui e) := none rfl
theorem jal (e : Nat) : Statement (.jal e) := none rfl
theorem jr (e : Nat) : Statement (.jr e) := none rfl
theorem time (e : Nat) : Statement (.time e) := none rfl
theorem waitt (e : Nat) : Statement (.waitt e) := none rfl
theorem waitw (e : Nat) : Statement (.waitw e) := none rfl
theorem waitj (e : Nat) : Statement (.waitj e) := none rfl
theorem waitch (e : Nat) : Statement (.waitch e) := none rfl
theorem waitEnd (e : Nat) : Statement (.waitEnd e) := none rfl
theorem crd (e : Nat) : Statement (.crd e) := none rfl
theorem cwr (e : Nat) : Statement (.cwr e) := none rfl
theorem vrd (e : Nat) : Statement (.vrd e) := none rfl
theorem vwr (e : Nat) : Statement (.vwr e) := none rfl
theorem errs (e : Nat) : Statement (.errs e) := none rfl
theorem hrd (e : Nat) : Statement (.hrd e) := none rfl
theorem hwr (e : Nat) : Statement (.hwr e) := none rfl
theorem trig (e : Nat) : Statement (.trig e) := none rfl
theorem cutStop (e : Nat) : Statement (.cutStop e) := none rfl
theorem cutGlance (e : Nat) : Statement (.cutGlance e) := none rfl
theorem cutResume (e : Nat) : Statement (.cutResume e) := none rfl
theorem cutAbandon (e : Nat) : Statement (.cutAbandon e) := none rfl
theorem cutStep (e : Nat) : Statement (.cutStep e) := none rfl
theorem cutStepTrigClose (e : Nat) : Statement (.cutStepTrigClose e) := none rfl
theorem trcStart (e : Nat) : Statement (.trcStart e) := none rfl
theorem trcStop (e : Nat) : Statement (.trcStop e) := none rfl
theorem dump (e : Nat) : Statement (.dump e) := none rfl
theorem jobCensus (e : Nat) : Statement (.jobCensus e) := none rfl
theorem jobEcho (e : Nat) : Statement (.jobEcho e) := none rfl
theorem log (e : Nat) : Statement (.log e) := none rfl
theorem fence (e : Nat) : Statement (.fence e) := none rfl
theorem remap (e : Nat) : Statement (.remap e) := none rfl
theorem kick (e : Nat) : Statement (.kick e) := none rfl
theorem halt (e : Nat) : Statement (.halt e) := none rfl
theorem watchdogExpiry (e : Nat) : Statement (.watchdogExpiry e) := none rfl
theorem rfParity (e : Nat) : Statement (.rfParity e) := none rfl
theorem couEnable (m : Master) (val : Word) : Statement (.couEnable m val) := none rfl
theorem ccIntrude (addr : Nat) : Statement (.ccIntrude addr) := none rfl
theorem dumpGo (m : Master) (val : Word) : Statement (.dumpGo m val) := none rfl
theorem shadowLoad (reps : List EdgeRep) : Statement (.shadowLoad reps) := all rfl fun h => reps_units h
theorem bmuPageWrite (half : Nat) (ord : Nat) (uc : List Nat) (ce : List Nat) : Statement (.bmuPageWrite half ord uc ce) := none rfl
theorem linkRecord (blk : Nat) (dev : Nat) (peer : Nat) (rx : Nat) : Statement (.linkRecord blk dev peer rx) := one rfl fun h => of_isRing (band h).1
theorem linkTimeout (blk : Nat) : Statement (.linkTimeout blk) := one rfl fun h => of_isRing h
theorem drainStart (m : Master) (val : Word) : Statement (.drainStart m val) := none rfl
theorem drainStop (m : Master) (val : Word) : Statement (.drainStop m val) := none rfl
theorem drainAck (m : Master) (val : Word) : Statement (.drainAck m val) := none rfl
theorem dumpDrainSend (uc : List Nat) : Statement (.dumpDrainSend uc) := none rfl
theorem couRelease (m : Master) (val : Word) : Statement (.couRelease m val) := none rfl
theorem slotFree (slot : Nat) : Statement (.slotFree slot) := none rfl
theorem autoArm (m : Master) (val : Word) : Statement (.autoArm m val) := none rfl
theorem abort (m : Master) (val : Word) : Statement (.abort m val) := none rfl
theorem cenSubmit (m : Master) (val : Word) : Statement (.cenSubmit m val) := none rfl
theorem echSubmit (m : Master) (val : Word) : Statement (.echSubmit m val) := none rfl
theorem cenAbort (m : Master) (val : Word) : Statement (.cenAbort m val) := none rfl
theorem echAbort (m : Master) (val : Word) : Statement (.echAbort m val) := none rfl
theorem censusJobDone (job : Nat) (secPages : List Nat) : Statement (.censusJobDone job secPages) := none rfl
theorem echoCaptureComplete (job : Nat) (last : List (Nat × List Byte)) (leaf : Nat) (out : List Byte) : Statement (.echoCaptureComplete job last leaf out) := none rfl
theorem echoReplayDone (job : Nat) (spare : Nat) (out : List Byte) : Statement (.echoReplayDone job spare out) := none rfl
theorem echoCompareDone (job : Nat) : Statement (.echoCompareDone job) := none rfl
theorem echoTimeout (job : Nat) : Statement (.echoTimeout job) := none rfl
theorem storeUc (core : Nat) : Statement (.storeUc core) := none rfl
theorem scrCmdStart (m : Master) (val : Word) : Statement (.scrCmdStart m val) := none rfl
theorem scrCmdStop (m : Master) (val : Word) : Statement (.scrCmdStop m val) := none rfl
theorem flowPacket (cairn : Nat) (pc : Nat) (n : Nat) (transfer : Bool) (target : Nat) (exc : Bool) (leaf : Nat) : Statement (.flowPacket cairn pc n transfer target exc leaf) := one rfl fun h => of_isGc (band h).1
theorem loss (cairn : Nat) (leaf : Nat) : Statement (.loss cairn leaf) := one rfl fun h => of_isGc (band h).1
theorem spillIntrude (addr : Nat) : Statement (.spillIntrude addr) := none rfl
theorem scrMark (m : Master) (val : Word) : Statement (.scrMark m val) := none rfl
theorem clear (m : Master) (val : Word) : Statement (.clear m val) := none rfl
theorem scrDrainStart (m : Master) (val : Word) : Statement (.scrDrainStart m val) := none rfl
theorem scrDrainStop (m : Master) (val : Word) : Statement (.scrDrainStop m val) := none rfl
theorem scrDrainAck (m : Master) (val : Word) : Statement (.scrDrainAck m val) := none rfl
theorem bufUc (block : Nat) : Statement (.bufUc block) := none rfl
theorem faultDetect (onCairn : Bool) (page : Nat) (bit : Nat) (tenant : Nat) (ctx : Nat) (detail : Nat) (detail2 : Nat) : Statement (.faultDetect onCairn page bit tenant ctx detail detail2) := none rfl
theorem ceCoalesceTimer (cairn : Nat) (bit : Nat) : Statement (.ceCoalesceTimer cairn bit) := one rfl fun h => of_isUnit h
theorem fltForce (m : Master) (addr : Nat) (val : Word) : Statement (.fltForce m addr val) := none rfl
theorem fltPageAck (m : Master) (addr : Nat) (val : Word) : Statement (.fltPageAck m addr val) := none rfl
theorem fltAckUc (m : Master) (val : Word) : Statement (.fltAckUc m val) := none rfl
theorem fltAckCe (m : Master) (val : Word) : Statement (.fltAckCe m val) := none rfl
theorem ceRd (m : Master) (val : Word) : Statement (.ceRd m val) := none rfl
theorem sigMonCheck (seqr : Nat) (ok : Bool) : Statement (.sigMonCheck seqr ok) := none rfl
theorem sigMonTimeout (seqr : Nat) : Statement (.sigMonTimeout seqr) := none rfl
theorem fenceCmd (m : Master) (val : Word) : Statement (.fenceCmd m val) := none rfl
theorem fenceOrder (cairn : Nat) : Statement (.fenceOrder cairn) := one rfl fun h => of_isUnit h
theorem fenceDone (cairn : Nat) (drain : Nat) : Statement (.fenceDone cairn drain) := one rfl fun h => of_isUnit h
theorem fenceStuck (cairn : Nat) : Statement (.fenceStuck cairn) := one rfl fun h => of_isUnit h
theorem unfence (m : Master) (val : Word) : Statement (.unfence m val) := none rfl
theorem lagBlock (core : Nat) (issues : List Nat) (writes : List (List Nat)) (mixed : List Nat) : Statement (.lagBlock core issues writes mixed) := none rfl
theorem remapCmd (m : Master) (val : Word) : Statement (.remapCmd m val) := none rfl
theorem remapBoundary (core : Nat) : Statement (.remapBoundary core) := none rfl
theorem remapGateOpen (core : Nat) : Statement (.remapGateOpen core) := none rfl
theorem unmap (m : Master) (val : Word) : Statement (.unmap m val) := none rfl
theorem droopEnter (cairn : Nat) (kind : Nat) (mv : Nat) (mhz : Nat) : Statement (.droopEnter cairn kind mv mhz) := one rfl fun h => of_isRegion (band h).1
theorem droopExit (cairn : Nat) (stretched : Nat) (bubbles : Nat) : Statement (.droopExit cairn stretched bubbles) := one rfl fun h => of_isRegion h
theorem vfReq (cairn : Nat) (kind : Nat) (target : Nat) : Statement (.vfReq cairn kind target) := one rfl fun h => of_isRegion (band h).1
theorem vfChangeStart (cairn : Nat) : Statement (.vfChangeStart cairn) := one rfl fun h => of_isRegion h
theorem vfDone (cairn : Nat) : Statement (.vfDone cairn) := one rfl fun h => of_isRegion h
theorem pmInterval (cairn : Nat) (est : Nat) (meas : Nat) (limit : Nat) : Statement (.pmInterval cairn est meas limit) := one rfl fun h => of_isRegion h
theorem dispatchCase (cairn : Nat) (what : Nat) (tag : Nat) (expert : Nat) : Statement (.dispatchCase cairn what tag expert) := one rfl fun h => of_isBmu (band h).1
theorem dispatchSummary (cairn : Nat) : Statement (.dispatchSummary cairn) := one rfl fun h => of_isBmu h
theorem batchCancel (cairn : Nat) (old : Nat) (new : Nat) (tenant : Nat) (ctx : Nat) : Statement (.batchCancel cairn old new tenant ctx) := one rfl fun h => of_isBmu h
theorem talusSample (regs : List RegionRd) : Statement (.talusSample regs) := none rfl
theorem talCommit (m : Master) (val : Word) : Statement (.talCommit m val) := none rfl
theorem talusCommitVerify (ok : Bool) : Statement (.talusCommitVerify ok) := none rfl
theorem talSnap (m : Master) (val : Word) : Statement (.talSnap m val) := none rfl
theorem talTrack (m : Master) (val : Word) : Statement (.talTrack m val) := none rfl
theorem talClear (m : Master) (val : Word) : Statement (.talClear m val) := none rfl
theorem lcyTransition (m : Master) (val : Word) : Statement (.lcyTransition m val) := none rfl
theorem lcyProvision (m : Master) (val : Word) : Statement (.lcyProvision m val) := none rfl
theorem cert (m : Master) (val : Word) : Statement (.cert m val) := none rfl
theorem challenge (m : Master) (val : Word) : Statement (.challenge m val) := none rfl
theorem respond (m : Master) (val : Word) : Statement (.respond m val) := none rfl
theorem drop (m : Master) (val : Word) : Statement (.drop m val) := none rfl
theorem authBufData (m : Master) (write : Bool) (val : Word) : Statement (.authBufData m write val) := none rfl
theorem lcyStepDone (ok : Bool) : Statement (.lcyStepDone ok) := none rfl
theorem hello (proto : Nat) (rate : Nat) (lanes : Nat) (tool : Nat) (t : Trailer) : Statement (.hello proto rate lanes tool t) := none rfl
theorem keepalive (t : Trailer) : Statement (.keepalive t) := none rfl
theorem bye (t : Trailer) : Statement (.bye t) := none rfl
theorem ack (t : Trailer) : Statement (.ack t) := none rfl
theorem regReq (tag : Nat) (stop : Bool) (ops : List Nat) (loc : Bool) (dev : Nat) (t : Trailer) : Statement (.regReq tag stop ops loc dev t) := none rfl
theorem triggerIn (xdev : Bool) (loc : Bool) (dev : Nat) (t : Trailer) : Statement (.triggerIn xdev loc dev t) := none rfl
theorem relayOpen (dev : Nat) (all : Bool) (share : Nat) (ok : List Nat) (busy : List Nat) (t : Trailer) : Statement (.relayOpen dev all share ok busy t) := none rfl
theorem relayClose (dev : Nat) (all : Bool) (t : Trailer) : Statement (.relayClose dev all t) := none rfl
theorem frameBad (crc : Bool) : Statement (.frameBad crc) := none rfl
theorem rateTrain (ok : Bool) : Statement (.rateTrain ok) := none rfl
theorem laneLost (lane : Nat) : Statement (.laneLost lane) := none rfl
theorem txIdle (lane : Nat) (on : Bool) : Statement (.txIdle lane on) := none rfl
theorem passAcc (val : Nat) : Statement (.passAcc val) := none rfl
theorem leadClaim (m : Master) (val : Word) (lead : Bool) (rival : Nat) : Statement (.leadClaim m val lead rival) := none rfl
theorem leadDrop (m : Master) (val : Word) : Statement (.leadDrop m val) := none rfl
theorem discover (m : Master) (val : Word) : Statement (.discover m val) := none rfl
theorem hubAnnounce (uid : Nat) (dev : Nat) (status : Nat) : Statement (.hubAnnounce uid dev status) := none rfl
theorem memberTimeout (dev : Nat) : Statement (.memberTimeout dev) := none rfl
theorem startupPhaseDone (self0 : Bool) (self1 : Bool) (uc : List Nat) : Statement (.startupPhaseDone self0 self1 uc) := none rfl
theorem vddHubLoss (done : Nat) (mask : Nat) : Statement (.vddHubLoss done mask) := none rfl
theorem softResetRequest (m : Master) (val : Word) : Statement (.softResetRequest m val) := none rfl
theorem softResetDone (self0 : Bool) (self1 : Bool) : Statement (.softResetDone self0 self1) := none rfl
theorem registerRead (m : Master) (addr : Nat) (width : Nat) : Statement (.registerRead m addr width) := none rfl
theorem observationPointEdge (cairn : Nat) (leaf : Nat) (upd : Bool) (accs : List ObsAcc) (evs : List Nat) : Statement (.observationPointEdge cairn leaf upd accs evs) := one rfl fun h => of_isUnit (band h).1
theorem echoCaptureIssue (job : Nat) (leaf : Nat) (relaxed : Bool) (int32 : Bool) : Statement (.echoCaptureIssue job leaf relaxed int32) := none rfl
theorem tooLong (w : StageWrite) : Statement (.tooLong w) := none rfl
theorem blockLockGained (lane : Nat) : Statement (.blockLockGained lane) := none rfl
theorem hokuingLinksDown (dev : Nat) : Statement (.hokuingLinksDown dev) := none rfl
theorem relaySessionOpen (share : Nat) : Statement (.relaySessionOpen share) := none rfl
theorem reservedFrame (ftype : Nat) (t : Trailer) : Statement (.reservedFrame ftype t) := none rfl
theorem arbiterNumber : Statement (.arbiterNumber) := none rfl
theorem takeoverComplete : Statement (.takeoverComplete) := none rfl
theorem exclLeaseExpiry : Statement (.exclLeaseExpiry) := none rfl
theorem tsyncLost : Statement (.tsyncLost) := none rfl
theorem slewPoint : Statement (.slewPoint) := none rfl
theorem refclkGlitch : Statement (.refclkGlitch) := none rfl
theorem refclkLost : Statement (.refclkLost) := none rfl
theorem pllRelock : Statement (.pllRelock) := none rfl
theorem stepCloseIssue : Statement (.stepCloseIssue) := none rfl
theorem stepDeadline : Statement (.stepDeadline) := none rfl
theorem sequencerEval : Statement (.sequencerEval) := none rfl
theorem stopAfterFire : Statement (.stopAfterFire) := none rfl
theorem pinPulseEdge : Statement (.pinPulseEdge) := none rfl
theorem cfgParity : Statement (.cfgParity) := none rfl
theorem couInitDone : Statement (.couInitDone) := none rfl
theorem chunkTimer : Statement (.chunkTimer) := none rfl
theorem chunkCommitStepAck : Statement (.chunkCommitStepAck) := none rfl
theorem jobParity : Statement (.jobParity) := none rfl
theorem traceActionEffect : Statement (.traceActionEffect) := none rfl
theorem packetWrite : Statement (.packetWrite) := none rfl
theorem syncTimer : Statement (.syncTimer) := none rfl
theorem blockPadTimeout : Statement (.blockPadTimeout) := none rfl
theorem spillBlockWrite : Statement (.spillBlockWrite) := none rfl
theorem traceDrainSend : Statement (.traceDrainSend) := none rfl
theorem heartbeatToggle : Statement (.heartbeatToggle) := none rfl
theorem tfitWindow : Statement (.tfitWindow) := none rfl
theorem talusCount : Statement (.talusCount) := none rfl
theorem talusSchedule : Statement (.talusSchedule) := none rfl
theorem talusCommitStart : Statement (.talusCommitStart) := none rfl
theorem authVerifyDone : Statement (.authVerifyDone) := none rfl
theorem challengeExpiry : Statement (.challengeExpiry) := none rfl
theorem trngFail : Statement (.trngFail) := none rfl
theorem frameSend : Statement (.frameSend) := none rfl
theorem retransmitTimeout : Statement (.retransmitTimeout) := none rfl
theorem keepaliveSend : Statement (.keepaliveSend) := none rfl
theorem keepaliveTimeout : Statement (.keepaliveTimeout) := none rfl
theorem linkLoss : Statement (.linkLoss) := none rfl
theorem tapReset : Statement (.tapReset) := none rfl
theorem extest : Statement (.extest) := none rfl
theorem samplePreload : Statement (.samplePreload) := none rfl
theorem idcode : Statement (.idcode) := none rfl
theorem highz : Statement (.highz) := none rfl
theorem clamp : Statement (.clamp) := none rfl
theorem bypass : Statement (.bypass) := none rfl
theorem discoveryTimeout : Statement (.discoveryTimeout) := none rfl
theorem relayKeepalive : Statement (.relayKeepalive) := none rfl
theorem leadLost : Statement (.leadLost) := none rfl
theorem portBufUc : Statement (.portBufUc) := none rfl
theorem vddHubPowerUp : Statement (.vddHubPowerUp) := none rfl
theorem pllLock : Statement (.pllLock) := none rfl
theorem chipWarmReset : Statement (.chipWarmReset) := none rfl
theorem bmuReady : Statement (.bmuReady) := none rfl
theorem softResetApply : Statement (.softResetApply) := none rfl
theorem hubIdle : Statement (.hubIdle) := none rfl
theorem trngHealthPass : Statement (.trngHealthPass) := none rfl
theorem hokuingLinksUp : Statement (.hokuingLinksUp) := none rfl

end Sys2Proof.Laws.Fields
end

