-- ==== Sys2Proof/Laws/Rows.lean ====
section
/-! SUPPORT. Laws/Rows.lean: what every command's meaning is: a happening at the hub, or the fault that a part named by it does not
exist. -/

namespace Sys2Proof.Machine

open Host

/-- The outcome is that of a happening at the hub, or the fault for a part that does not exist. -/
def HubShape (s : State) (o : Out) : Prop := (∃ k, o = onHub s k) ∨ o = .fault .noSuchPart

theorem hubShape_onHub (s : State) (k : State → State) : HubShape s (onHub s k) := .inl ⟨k, rfl⟩

theorem hubShape_fault (s : State) : HubShape s (.fault .noSuchPart) := .inr rfl

theorem hubShape_ite (s : State) (p : Prop) [Decidable p] (a b : Out) (ha : HubShape s a) (hb : HubShape s b) :
    HubShape s (if p then a else b) := by split <;> assumption

theorem hubShape_withCairn (s : State) (id : Nat) (o : Out) (h : HubShape s o) : HubShape s (withCairn id o) :=
  hubShape_ite _ _ _ _ (hubShape_fault s) h

theorem hubShape_atUnit (s : State) (id : Nat) (k : State → State) : HubShape s (atUnit id s k) :=
  hubShape_withCairn _ _ _ (hubShape_onHub _ _)

theorem hubShape_atKind (s : State) (ks : List Nat) (id : Nat) (k : State → State) : HubShape s (atKind ks id s k) :=
  hubShape_ite _ _ _ _ (hubShape_atUnit _ _ _) (hubShape_fault s)

theorem hubShape_atCairns (s : State) (ids : List Nat) (k : State → State) : HubShape s (atCairns ids s k) :=
  hubShape_ite _ _ _ _ (hubShape_onHub _ _) (hubShape_fault s)

set_option linter.unusedSimpArgs false in
/-- Every command but the two of VDD_HUB is a happening at the hub, or stops because it names no part of the device. -/
theorem exec_hubShape (i : Instr) (s : State) (h1 : i ≠ .vddHubPowerUp) (h2 : ∀ d m, i ≠ .vddHubLoss d m) : HubShape s (exec i s) := by
  cases i
  case vddHubPowerUp => exact absurd rfl h1
  case vddHubLoss d m => exact absurd rfl (h2 d m)
  all_goals
    simp only [exec, execCenSubmit, execEchSubmit, execCenAbort, execEchAbort, execCensusJobDone, execEchoCaptureIssue,
      execTooLong, execEchoCaptureComplete, execEchoReplayDone, execEchoCompareDone, execEchoTimeout, execJobParity,
      execStoreUc, execTsyncEpoch, execTsyncLost, execSlewPoint, execReload, execCalSweep, execCalSlot, execLeafLoad,
      execDomainPowerUp, execDomainPowerDown, execScheduledActionEffect, execRefclkGlitch, execRefclkLost,
      execPllRelock, execObservationPointEdge, execCairnRaise, execChannelRaise, execSequencerEval, execXtrig, execRun,
      execSaCancel, execStopAfterFire, execPinPulseEdge, execCfgParity, execCutCmdStop, execCutCmdGlance,
      execCutCmdResume, execCutCmdAbandon, execCutCmdXdev, execCutMessage, execCutEdge, execSpurCutAggregate,
      execCutReportTimeout, execResumeEdge, execReleaseAggregate, execShadowDrain, execDivertedWrite, execPageCopyDone,
      execXcutReceive, execXcutAnswer, execStepGo, execStepMessage, execStepReleaseEdge, execStepReportTimeout,
      execStepUnitComplete, execStepAggregate, execStepCloseIssue, execStepFreezeEdge, execStepDeadline,
      execFreezeAggregate, execViewRead, execViewDeposit, execCouEnable, execCouInitDone, execCcIntrude, execDumpGo,
      execShadowLoad, execBmuPageWrite, execChunkTimer, execChunkCommitStepAck, execLinkRecord, execLinkTimeout,
      execDrainStart, execDrainStop, execDrainAck, execDumpDrainSend, execCouRelease, execSlotFree, execAutoArm,
      execAbort, execFaultDetect, execCeCoalesceTimer, execFltForce, execFltPageAck, execFltAckUc, execFltAckCe,
      execCeRd, execSigMonCheck, execSigMonTimeout, execHeartbeatToggle, execFenceCmd, execFenceOrder, execFenceDone,
      execFenceStuck, execUnfence, execArbiterNumber, execClass1Report, execSummitAck, execMirrorUpdate,
      execLivenessFlit, execSpurLivenessTimeout, execTakeoverComplete, execForceSpurLoss, execColLaneFail,
      execRegisterWrite, execRegisterRead, execReadClear, execApertureAccess, execApertureAnswer, execApertureTimeout,
      execExclAcquire, execExclRelease, execHostReq, execExclLeaseExpiry, execTalusSample, execTalusCount,
      execTalusSchedule, execTalCommit, execTalusCommitStart, execTalusCommitVerify, execTalSnap, execTalTrack,
      execTalClear, execLcyTransition, execLcyProvision, execCert, execChallenge, execRespond, execDrop,
      execAuthBufData, execAuthVerifyDone, execChallengeExpiry, execLcyStepDone, execTrngFail, execTrngHealthPass,
      execHello, execKeepalive, execBye, execAck, execRegReq, execTriggerIn, execRelayOpen, execRelayClose,
      execReservedFrame, execFrameBad, execFrameSend, execRetransmitTimeout, execKeepaliveSend, execKeepaliveTimeout,
      execRateTrain, execLaneLost, execLinkLoss, execBlockLockGained, execTxIdle, execPortBufUc, execTapReset,
      execExtest, execSamplePreload, execIdcode, execHighz, execClamp, execBypass, execPassAcc, execLeadClaim,
      execLeadDrop, execDiscover, execHubAnnounce, execDiscoveryTimeout, execMemberTimeout, execHokuingLinksUp,
      execHokuingLinksDown, execRelaySessionOpen, execRelayKeepalive, execLeadLost, execPrbStart, execPrbStop,
      execPmDataWrite, execPmDataRead, execWatchdogExpiry, execRfParity, execAdd, execSub, execIAnd, execIOr, execXor,
      execShl, execShr, execMul, execMinu, execMaxu, execAddi, execAndi, execMovi, execLdm, execStm, execAadd, execBeq,
      execBne, execBltu, execBgeu, execBeqi, execBnei, execBltui, execJal, execJr, execTime, execWaitt, execWaitw,
      execWaitj, execWaitch, execWaitEnd, execCrd, execCwr, execVrd, execVwr, execErrs, execHrd, execHwr, execTrig,
      execCutStop, execCutGlance, execCutResume, execCutAbandon, execCutStep, execCutStepTrigClose, execTrcStart,
      execTrcStop, execDump, execJobCensus, execJobEcho, execLog, execFence, execRemap, execKick, execHalt,
      execVddHubPowerUp, execPllLock, execStartupPhaseDone, execVddHubLoss, execChipWarmReset, execBmuReady,
      execSoftResetRequest, execSoftResetApply, execSoftResetDone, execHubIdle, execScrCmdStart, execScrCmdStop,
      execTraceActionEffect, execPacketWrite, execSyncTimer, execFlowPacket, execLoss, execBlockPadTimeout,
      execSpillBlockWrite, execSpillIntrude, execScrMark, execClear, execScrDrainStart, execScrDrainStop,
      execScrDrainAck, execTraceDrainSend, execBufUc, execLagBlock, execRemapCmd, execRemapBoundary, execRemapGateOpen,
      execUnmap, execTfitWindow, execDroopEnter, execDroopExit, execVfReq, execVfChangeStart, execVfDone,
      execPmInterval, execDispatchCase, execDispatchSummary, execBatchCancel, writeRow, atCore, atRing, atLane, inPort,
      inAuth, inUnit, pitch, atSpur, withSpur, withEngine, atDomain, atCairn]
    first
    | exact hubShape_onHub _ _
    | exact hubShape_atUnit _ _ _
    | exact hubShape_atKind _ _ _ _
    | exact hubShape_atCairns _ _ _
    | exact hubShape_withCairn _ _ _ (hubShape_onHub _ _)
    | exact hubShape_ite _ _ _ _ (hubShape_onHub _ _) (hubShape_fault _)
    | exact hubShape_ite _ _ _ _ (hubShape_atUnit _ _ _) (hubShape_fault _)
    | exact hubShape_ite _ _ _ _ (hubShape_atUnit _ _ _) (hubShape_ite _ _ _ _ (hubShape_onHub _ _) (hubShape_fault _))

end Sys2Proof.Machine
end

