-- ==== Sys2Proof/Tests/Slice0.lean ====
section
/-! SUPPORT. Tests/Slice0.lean: tests of the model against the spec's worked examples, ill-formed commands that WellFormed refuses, and for
each obligation concrete states and operands that meet the hypotheses of its clauses. -/

namespace Sys2Proof.Tests

open Sys2Proof Sys2Proof.Machine Host

set_option Elab.async false

/-! ### Small states -/

/-- A hub that has started, in FIELD, both masters holding every right; the time is 1,000,000 tk. Of the registers with
a reset value other than 0 it lists those the tests read. -/
def up : State :=
  let s := { State.reset with regs := [] }
  let s := [(R.SUM_START_STAT, 6), (R.AUTH_HELD_PASS, 0xFFFFFFFF), (R.AUTH_HELD_HOST, 0xFFFFFFFF),
    (R.ECH_CTRL, 1), (R.PASS_KA_TMO, 100), (R.SCR_DRAIN_CTRL, 0x2000)].foldl (fun s x => s.wr x.1 x.2) s
  let s := ((s.setF F.RDG_STAT_LOCKED 1).setF F.LCY_STAT_DECIDED 1).setF F.LCY_STAT_STATE 4
  { s with rdg := { s.rdg with running := true, now := 1000000, raw := 1000000 } }

/-- A powered Cairn whose leaf is valid. -/
def on : Cairn := { Cairn.off with powered := true, leafValid := true }

/-- The hub of `up` with one such Cairn. -/
def upC (id : Nat) (c : Cairn) : State := up.setCairn id c

/-- A report that waits. -/
def rep (n : EvName) (sent numbered : Bool) : QEnt := ⟨{ name := n, src := 0x0A5, stamp := 999990, data := [] }, sent, numbered⟩

/-! States for the commands of chapter 03. -/

/-- A valid frame of time-of-day value `tk`, flags 0 (the start bit, the value, the flags, the check, the stop bit). -/
def frameOf (tk : Nat) : Nat := let f := 1 + 2 * tk; f + frameCrc f * 2 ^ 73
def s03a : State := { (up.wr64 R.RDG_EPOCH_TK_LO 500000).setF F.RDG_STAT_LOADED 1 with rdg := { up.rdg with lastE := some 7, interval := 100000 } }
def s03b : State := s03a.setF F.RDG_CTRL_TRACK_EN 1
def s03c : State := s03a.setF F.RDG_STAT_RELOAD_ARMED 1
def s03d : State := { s03a with rdg := { s03a.rdg with raw := 8000000 } }
def s03e (d : Int) : State := { up with rdg := { up.rdg with slewRem := d, now := 2048 } }
def s03f : State := { up with rdg := { up.rdg with glitches := (List.range 15).map (· + 980000) } }
def s03g : State := { up.setF F.RDG_STAT_HOLDOVER 1 with rdg := { up.rdg with refBad := 750000 } }
def s03h : State := up.setF F.RDG_STAT_CAL_DONE 1
def s03i (l : List Nat) (c : Cairn) : State :=
  { s03h.setF F.RDG_STAT_SWEEP_BUSY 1 with rdg := { up.rdg with failing := l, sweep0 := ⟨3, 1000000, false⟩ }, cairns := [(3, c)] }
def s03j : State := upC 0xBBF { on with leafValid := false }
def s03k : State := upC 0x420 { on with leafLag := 1, acts := [⟨.cutStop, 999999, 4⟩, ⟨.traceStop, 999998, 0⟩, ⟨.resume, 1000050, 4⟩] }
def s03l (s : State) (n : Nat) : State := { s with rdg := { s.rdg with now := n } }
def s03m (o : Option Nat) : State := { s03i [] on with rdg := { (s03i [] on).rdg with delay := [(3, o)] } }
def s03n : State := { s03m none with rdg := { (s03m none).rdg with sweep1 := ⟨3, 1000000, false⟩, delay := [(0x213, some 31)] }, cairns := [(0x213, on)] }
/-- The leaves of both halves stand one tick behind. -/
def behind (s : State) : State := { s with rdg := { s.rdg with lag0 := 1, lag1 := 1 } }

/-! States for the commands of chapter 04. -/

def s04a : State := (up.setCutState 3).setF F.SUM_CUT_STAT_CUT_ID 0xFFFF
def s04b : State := up.setCutState 2
def s04c : State := { up with sum := { up.sum with sched := [⟨.cutStop, 2000000, 1⟩, ⟨.cutStop, 2000001, 2⟩, ⟨.resume, 2000002, 3⟩, ⟨.shadowLoad, 2000003, 4⟩] } }
/-- Couloir enabled with a crash cache of 64 MiB. -/
def s04d : State := ((up.setF F.COU_CTRL_ENABLE 1).wr R.COU_CC_SIZE 0x4000).wr (R.COU_PROF 0) 0
def s04e : State := let s := (up.setCutState 3).setF F.SUM_CUT_STAT_CUT_ID 9
  { s with cut := { s.cut with cap := true, capId := 9, pages := [⟨0x760, 3⟩], held := [⟨⟨0x760, 3⟩, 12288, [1]⟩] } }
/-- A Cairn whose leaf reads the earlier value of its half. -/
def slow : Cairn := { on with leafLag := 1 }
def msg : Msg := ⟨.cutStop, 1000050, 9, 0⟩
def s04f (c : Cairn) (m : Msg) : State := let s := upC 0x3 c; { s with sum := { s.sum with msgs := [(7, some m)] } }
def s04g (k : ActKind) : State :=
  { (up.setCairn 0xA5 { on with leafLag := 1, acts := [⟨k, 999990, 9⟩] }).setCairn 0xA6 { on with acts := [⟨k, 999990, 9⟩] } with
    doms := [(0xA5, some (0xA5, 1)), (0xA6, some (0xA5, 1))], cut := { up.cut with jobs := [⟨k, 9, 999990, 0x1010, false, true, 7, [], [], [], false, false⟩] } }
def s04h : State := let s := s04g .resume
  (s.modC 0xA5 fun c => c.setF CF.CUT_STAT_STATE 2).modC 0xA6 fun c => c.setF CF.CUT_STAT_STATE 2
def job (k : ActKind) (rep miss : List Nat) (a0 : Bool) : CutJob := ⟨k, 9, 990000, 0x1010, false, true, 7, rep, miss, [], a0, false⟩
def s04i (k : ActKind) (st : Nat) (rep miss : List Nat) (a0 : Bool) : State :=
  { (upC 0xA5 on).setCutState st with cut := { up.cut with jobs := [job k rep miss a0], stop := true } }
def s04j : State := { upC 0xA5 (on.setF CF.SHADOW_HELD 1) with cut := { up.cut with heldIds := [0xA5] }, cou := { up.cou with loaded := [0xA5] } }
def s04k (pages : List PageId) : State := { (s04d.setCairn 0x520 on).setCairn 0x760 on with cut := { up.cut with pages := pages, cap := true }, mem := [(0x7FFF, 3)] }
def s04l : State := { s04k [⟨0x760, 3⟩] with cou := { up.cou with cur := some 0, written := [20099] } }
def s04m : State := ((up.setF F.PASS_STAT_LEAD 1).setF F.SUM_DEV_ID_VALID 1).setF F.RDG_STAT_ALIGNED 1
def s04n : State := { s04m with pass := { up.pass with members := [(0, some ⟨1, true, false, 0, 0⟩), (5, some ⟨2, true, false, 0, 0⟩)] } }
def s04q : State := ((s04d.setF F.PASS_STAT_LEAD 1).setF F.SUM_DEV_ID_VALID 1).setF F.RDG_STAT_ALIGNED 1
def s04r : State := s04m.setCutState 2
def s04s : State := s04m.setF F.SUM_DEV_ID_VALID 0
def s04t : State := s04m.setF F.PASS_STAT_LEAD 0
def s04u : State := s04d.setF F.RDG_STAT_ALIGNED 1
def s04w : State := (up.setF F.RDG_STAT_ALIGNED 1).setCutState 2
def s04v : State := { s04w with cut := { s04w.cut with xRefused := true } }
def s04o : State := up.setF F.RDG_STAT_ALIGNED 1
def s04p : State := { up with cut := { up.cut with xWait := [3, 5] } }
def v04a := s04f { on with rxMsgs := [7] } msg
def lost1 (s : State) : State := (s.setF F.SUM_TOPO_STAT_SPUR0_ST 1).setF F.SUM_TOPO_STAT_SPUR1_ST 2

/-! States for the commands of chapter 01. -/

def s01a : State := upC 0xA5 { on with queue := [rep .own true false, rep .ctx false false] }
def s01b : State := upC 0x420 { on with regs := [(CF.U_OWNER_TENANT.addr, 7)] }
def s01c : State := upC 0xA5 { on with queue := [rep .own true false, rep .ctx true true] }
def s01d : State := upC 0xA5 { on with queue := [rep .own true true], dropped := 3 }
def s01e : State := upC 0xA5 { on with queue := [rep .own true true], pendFlt := [⟨fltBit 9, 999000⟩] }
def s01f : State := up.raise .accessDenied 0x1007 []
def s01g : State := s01f.wr R.SUM_SEQ_NEXT (2 ^ 32 - 1)
def s01h : State := { up with sum := { up.sum with mirPend1 := [5, 6] } }
def s01i : State := { up with sum := { up.sum with live0 := 990000 } }
def s01j : State := up.setSpur 1 2
def s01k : State := { s01j with sum := { s01j.sum with takeover := some 0, lostNum := true, lostT := 999824 } }
def s01l : State := up.setF F.LCY_STAT_STATE 2
def s01m : State := up.setF F.COL_STAT_GRP_SPARED 4

/-! States for the commands of chapter 02. -/

def s02a : State := up.setF F.SUM_EXCL_EXCL 1
/-- The host's access in flight to the Cairn `id`. -/
def s02b (id : Nat) (o : Nat) (w : Bool) : State :=
  { upC 0xA5 on with sum := { up.sum with aps := [⟨.host, 0x20400 + o, id, o, w, 0, 999000, 0, none, 0⟩] } }
def s02c (id : Nat) (rights : Nat) : State := (up.wr (bk .host R.CWIN_SEL1) id).wr R.AUTH_HELD_HOST rights
def s02d : State := up.wr R.AUTH_HELD_HOST 0
def s02e : State := { s02a.setF F.SUM_EXCL_LEASE_MS 0 with rdg := { up.rdg with raw := 2500000 } }
def s02f : State := up.wr R.RDG_TSYNC_BAD 5
def s02g : State := { s02b 0xA5 0 false with rdg := { up.rdg with raw := 999399 } }
def s02h : State := { s02b 0xA6 0x104 true with rdg := { up.rdg with raw := 999399 } }
def s02i : State := { s02b 0xA6 0x104 true with rdg := { up.rdg with raw := 1009000 } }
def s02j : State := (up.setF (F.SPR_STAGE_USED_HWM 0) 7).setF (F.SPR_STAGE_USED_USED 0) 3

/-! States for the commands of chapter 05. -/

def s05a : State := (up.setCutState 2).setF F.SUM_STEP_STAT_STEP_NO 0xFFFF
def s05b : State := (up.setCutState 2).setF F.SUM_STEP_STAT_STATE 2
def s05c : State := { s04c.setCutState 2 with stp := up.stp }
def smsg : Msg := ⟨.stepRelease, 1000050, 4, 1000450⟩
def stp1 (us : List StepUnit) : StepSt := { StepSt.init with active := true, issued := true, tS := 990000, tD := 999999, units := us }
def s05d (c : Cairn) : State :=
  let s := (upC 0x425 c).setF F.SUM_STEP_STAT_STEP_NO 4
  { s with sum := { s.sum with msgs := [(7, some smsg)] }, stp := stp1 [] }
def s05e : State := { up.setF F.SUM_STEP_STAT_CAUSE 2 with stp := { stp1 [] with closeWait := true } }
def su (mode count done : Nat) (rel : Bool) : StepUnit := ⟨0x425, mode, count, 0, done, rel, false, false, false, false, false⟩
def s05f (st : Nat) (c : Cairn) (u : StepUnit) : State := { (upC 0x425 c).setF F.SUM_STEP_STAT_STATE st with stp := stp1 [u] }
def s05g : State := { s05f 2 on { su 2 1 1 true with reached := true, frozen := true } with stp := { stp1 [{ su 2 1 1 true with reached := true, frozen := true }] with done1 := true, rel1 := true } }
def s05h : State := { (upC 0x425 on).setF F.SUM_STEP_STAT_STATE 3 with stp := { stp1 [{ su 2 1 1 true with reached := true, frozen := true }] with frz1 := true } }
def s05i (c : Cairn) (sel : Nat) : State := (upC sel c).wr (bk .host R.CWIN_SEL0) sel
def frz5 : Cairn := on.setF CF.CUT_STAT_STATE 2
def v05a := s05f 3 { on with acts := [⟨.stepClose, 999999, 4⟩] } (su 2 3 1 true)
def s05y : State := { s05g with stp := { s05g.stp with rel1 := false, done1 := false } }
def s05z : State := { s05h with stp := { s05h.stp with frz1 := false } }

/-! States for the commands of chapter 06. -/

def s06c : Cairn := (((on.setF (CF.CMP_CTRL_EN 0) 1).setF CF.OUT0_EN 1).setF CF.OUT0_SEL 1).setF CF.OUT0_HOLD 1
def s06m (cnt lim : Nat) : Cairn := (((on.setF (CF.ECNT_CFG_EN 0) 1).setF (CF.ECNT_CFG_EVT 0) 4).wr (C.ECNT_VAL 0) cnt).wr (C.ECNT_LIM 0) lim
def s06r : Cairn := (on.setF CF.RNG_CTRL_EN 1).wr C.RNG_LIM_LO 0x3FFF
def s06f (first : Bool) (run : Nat) : State := { (up.setF F.CRS_CTRL_RUN run).wr R.CRS_CH_STICKY_HI 0x80000000 with crs := { up.crs with flight := [⟨7, 63, 0xA5, first⟩] } }
def s06e : State := (up.setF (F.CRS_TR_EN 5) 1).setF (F.CRS_TR_ACT_B 5) 9
def s06s (ws : List (Nat × Nat)) : State :=
  { (((up.setF F.CRS_CTRL_RUN 1).setF (F.CRS_TR_EN 1) 1).setF (F.CRS_TR_COND 1) 1).setF (F.CRS_TR_NEXT 1) 15 with crs := { up.crs with wait := ws } }
def s06t : State := { s06s [(1, 3)] with sum := { up.sum with intq := List.replicate 60 (up.ev .transition 0x1001 []) } }
def s06u : State := up.setF F.CRS_STAT_SA_PENDING 1
def s06p (b hb lane : Bool) : State := { up with crs := { up.crs with pulses := [⟨999000, 40, hb, lane, b⟩] } }
def s06v : State := up.setF F.CRS_CTRL_RUN 1
def v06a := upC 0xA5 { s06c with out0 := ⟨some 999950, false⟩ }
def v06b := upC 0xA5 { s06c with out0 := ⟨some 999950, true⟩ }
def v06c := upC 0xA5 { s06c with out1 := ⟨some 999950, true⟩ }
def v06d := upC 0xA5 { s06c with out0 := ⟨some 999935, false⟩ }
def s06w : State := { (s06v.wr R.CRS_CH_STICKY_HI 0x80000000).wr (R.CRS_CNT_VAL 1) 9 with crs := { s06v.crs with rst := 3, wait := [(63, 5)] } }
def s06x : State := { up with crs := { up.crs with actB := some (1, 0, 999998) } }

/-! States for the commands of chapter 07. -/

/-- Engine 1 runs `i` at word 0x20, its code window all of memory but the last page. -/
def eng1 (i : PInstr) : State :=
  let s := (((up.setF (F.PRB_STAT_STATE 1) 1).wr (R.PRB_PC 1) 0x20).setF (F.PRB_CODE_WIN_LIM 1) 0xEFFF).wr (R.PRB_DATA_WIN 1) 0xFFFFF000
  let s := (s.wr (R.PRB_RIGHTS_REC 1) 0xFFFFFFFF).setPm 0x20 i.encode.toNat
  ((s.setP 1 2 0xFFFFFFFFFFFFFFFE).setP 1 3 0x4000000041)
def s07a : State := (eng1 (.alu .add 1 2 3))
def iLdm : PInstr := .ldm 1 4 0x3FFFE
def iStm : PInstr := .stm 3 4 0x3FFFE
def s07b (i : PInstr) : State := (((eng1 i).setP 1 4 0xF004).setPm 0xF002 5).setPm 0xF003 6
def s07c (i : PInstr) : State := ((eng1 i).setP 1 4 0xF004)
def s07d (i : PInstr) (t : Nat) : State := (eng1 i).setP 1 4 t
def s07w (w : Option WaitFor) (seen : List Nat) : State :=
  ((eng1 .waitw).setF (F.PRB_STAT_STATE 1) 2).setEng 1 { EngSt.init with wait := w, waitT := 999000, chSeen := seen }
def s07e (i : PInstr) : State := (eng1 i).setEng 1 { EngSt.init with wins := [⟨some 7, 0xA5, false, 0, 0, false, 0, 9, 0, 0, none, false⟩] }
def s07f : State := (up.wr (bk .host (R.PRB_PM_ADDR 1)) 0x1FFFF).wr (R.PRB_ENTRY 1) 0x1234
def s07g : State := (s07f.setF (F.PRB_STAT_STATE 1) 1).setF (F.PRB_CODE_WIN_LIM 1) 0xFFFF
def s07h : State := { s07f with prb := { up.prb with pmUc := [0xFFFF] } }
def s07i : State := (eng1 .kick).setF (F.PRB_WDOG_LIM 1) 3900
def s07j : State := (eng1 .kick).wr (R.PRB_PC 1) 0xF000
def s07k : State := (eng1 .kick).setPm 0x20 0
def s07l : State := (eng1 (.trig 5)).wr (R.PRB_RIGHTS_REC 1) 0
def rowX : RegRow := ⟨0, 0, 0, .ro, 0, 0, false⟩
def s07m (i : PInstr) : State := (eng1 i).wr (R.PRB_RIGHTS_REC 1) 0

/-! States for the commands of chapter 08. -/

def s08a : State := { up with mem := [(0x1000, 3), (0x4000FFF, 4), (0x4100000, 5)] }
def s08b : State := s04d.setSlot 0 { Slot.free with st := 1 }
def s08c : State := { s04d with cou := { s04d.cou with cur := some 1 }, cut := { up.cut with cap := true, capId := 7, pages := [⟨0x760, 3⟩] } }
def s08n : State := s08c.setSlot 1 { Slot.free with st := 2 }
def s08d : State := (s04d.wr (R.COU_PROF 3) 0x801)
def s08e : State := ((s04d.wr (R.COU_PROF 3) 0x1001).setCutState 2).wr64 R.SUM_CUT_T_LO 999000
def s08f : State := let s := (s04d.setCairn 0xBA0 { on with acts := [⟨.shadowLoad, 999990, 9⟩] })
  { s with cou := { s.cou with cur := some 0, slot0 := { Slot.free with st := 1, profW := 0x7F } } }
/-- A region controller's one state page waits in Spur 0's staging buffer. -/
def s08g (rights profW : Nat) (c : Cairn) : State := let s := s04d.setCairn 0xBA0 c
  { s with cou := { s.cou with cur := some 0, stage0 := [20064], head := 100, slot0 := { Slot.free with st := 2, profW := profW, rights := rights } } }
/-- A Cairn whose unit holds one byte that is not 0. -/
def full (c : Cairn) : Cairn := c.putBytes (viewKey 0 5) [7]
/-- A page of stack memory of the divert set, and one of a slice. -/
def s08o (pl : List (Nat × Nat)) (pg : PageId) : State := let s := ((s04d.setCairn 0x520 on).setCairn 0x760 (full on))
  { s with cou := { s.cou with cur := some 0, head := 100, slot0 := { Slot.free with st := 2, profW := 0x80, plist := pl } },
           cut := { s.cut with cap := true, pages := [pg] }, mem := [(0x400000003, 9)] }
/-- A stack page of zeros. -/
def s08z : State := { s08o [(0x400000, 0)] ⟨0x520, 0x400000⟩ with mem := [] }
def s08h : State := { s08g 0 0x40 on with cou := { (s08g 0 0x40 on).cou with written := [20064] } }
def pe (o : Nat) : PageEnt := bareEntry o 0xBA0 0 4 0
def ch (step : Nat) : Chunk := ⟨3, 10, 20, 5, (List.range 16).map pe, [0xBA0], false, step⟩
def s08i : State := { s04d with cou := { s04d.cou with openCh := some (ch 0), head := 77 } }
def s08j (step : Nat) (last : Bool) : State := let s := s08g 0 0x40 on
  { s with cou := { s.cou with closing := [ch step], lastClosed := last } }
def s08k : State := let s := (s04d.setCairn 0xB60 on).wr R.COU_LINK_TMO 0
  { s with cou := { s.cou with linkWait := [0xB60], linkT := 1 } }
def dr : Drain := ⟨2, 3, true, false, false⟩
def s08l (st : Nat) (d : Option Drain) (comm ack : Nat) : State := let s := (s04d.setF F.SUM_ARB_STAT_PASS_UP 1)
  ({ s with cou := { s.cou with drain := d, slot2 := { Slot.free with st := st, committed := comm, ack := ack, chunks := [{ ch 0 with n := 4, pages := [], units := [] }] } } }).hdrWrite 2
/-- The same with no header in the region. -/
def s08p (st : Nat) (d : Option Drain) (comm ack : Nat) : State := { s08l st d comm ack with mem := [] }
def s08q : State := { s08k with cou := { s08k.cou with capEnd := true } }
def s08m : State := let s := s04d
  { s with cou := { s.cou with slot2 := { Slot.free with st := 3, committed := 2, released := 2, gen := 5 } }, mem := [(0, 1), (39780352, 9)] }
def drT : Drain := { dr with tail := true }
def drH : Drain := { dr with head := false }
def ch4 : Chunk := { ch 0 with n := 4, pages := [], units := [] }

/-! States for the commands of chapter 09. -/

/-- A started hub whose program memory holds the given words from address 0x100 on. -/
def s09a (d : List Nat) : State :=
  { up with prb := { up.prb with pm := (((List.range d.length).zip d).filter fun p => p.2 != 0).map fun p => (0x100 + p.1, BitVec.ofNat 32 p.2) } }
/-- COUNT of one region of 64 FP8 elements at 0x1000, result at 0x200. -/
def cd (addr : Nat) : List Nat := [1 + 256, 0x200, 0, 0, addr, 0, 64, 4 + 0x8000 * 256, 0, 0, 0, 0]
def cjob (id : Nat) : Job := ⟨id, 0x1010, 0, 7, cd 0x1000, false, 1, 0, none⟩
def s09b (l : List Job) : State := { (s09a (cd 0x1000)).setCairn 0x521 on with cen := { up.cen with jobs := l } }
/-- VOTE on array 37 of core 3. -/
def ed (w0 : Nat) : List Nat := [w0, 0x300, 4, 0x1B1 + 0xFFF * 65536, 0xFFF, 0, 0, 0]
def s09c (w0 : Nat) : State := (((s09a (ed w0)).setCairn 0x1B1 on).setCairn 0x20C on).setCairn 0x20D on
def e0 (p : EchoPhase) : EchoSt := ⟨0x20C, 0x20D, 900000, 0, p, 5, 6, List.replicate 4416 7, false, true, false, [(5, [3])], [], none, none⟩
def ejob (w0 : Nat) (e : EchoSt) : Job := ⟨3, 0x1011, 0, 7, ed w0, false, 1, 0, some e⟩
def s09d (w0 : Nat) (e : EchoSt) : State := { s09c w0 with cen := { up.cen with jobs := [ejob w0 e] } }
def acc0 : List Byte := List.replicate 4096 0
def acc1 : List Byte := 9 :: List.replicate 4095 0
def eC : EchoSt := { e0 .captured with outT := acc0, outA := some acc1, outB := some acc1 }
def eE : EchoSt := { e0 .captured with outT := acc0, outA := some acc0, outB := some acc0 }
def s09e : State := (s09c 2).setF F.ECH_CTRL_EN 0
def s09f : State := (s09a (ed 2)).setCairn 0x1B1 on
def reg0 : Region := ⟨⟨4, 0, 3, 0, .int, false, 0⟩, fun _ => 0x80, fun _ => 127, fun i => if i = 1 then 1 else 0⟩

def s09g : State := { s09d 2 (e0 .armed) with rdg := { up.rdg with raw := 899999 } }
def eS : EchoSt := { e0 .armed with skip := 2 }
def long : List Byte := List.replicate 16000 1
def eL : EchoSt := { e0 .capturing with stream := List.replicate 66 (0, long) }

/-! States for the commands of chapter 10. -/

def s10a : State := (up.setF F.SCR_CTRL_MIN_LEVEL 0)
/-- The trace runs with the given mask. -/
def s10b (m : Nat) : State := { (s10a.setF F.SCR_STAT_MASK m).setF F.SCR_STAT_RUNNING 1 with
  scr := { up.scr with spans := ((List.range 12).filter (bit m)).map fun b => (b, 500000, none) } }
def act (start : Bool) (m : Nat) : TrAct := ⟨start, 999000, m, 2^24 + 64, [], 0x1010⟩
def s10c (s : State) (a : TrAct) : State := { s with scr := { s.scr with acts := [a, { a with t := 1000001 }] } }
def s10d : State := (s10a.wr (R.SCR_FLOW_EN 2) 5).wr64 R.SCR_REQ_T_LO 999999
def s10e : State := s10c ((s10b 0x401).wr R.SCR_RIGHTS (2^24)) (act false 0xFFF)
def pk (t : Nat) (b : Option Nat) : Pkt := ⟨t, 2, 99, pkEvent, b, false, 0, 0, [1, 2, 3]⟩
def blk (no : Nat) (body : List Byte) : Blk := ⟨no, body, 0, 0, false, false, 700000⟩
def s10f (p : Pkt) (runT : Nat) : State := { s10b 0x400 with scr := { (s10b 0x400).scr with stage := [{ p with stamp := p.stamp + 9 }, p], cur := some (blk 65 [7]), runT := runT } }
def s10g (l : List Blk) (c : Option Blk) (mode : Nat) : State :=
  let s := ((s10b 0x400).setF F.SCR_CTRL_MODE mode).wr R.SCR_SPILL_SIZE 1
  let s := (s.wr64 R.SCR_SPILL_BASE_LO 0x100000).setF F.SCR_CTRL_AUTO_THR 0
  { s with scr := { s.scr with buf := l, cur := c, ring := [(4, true), (5, false)] } }
def s10h : State := (s10g [blk 260 [9]] none 1).setF F.SCR_CTRL_RING_STOP 1
def s10i : State := { (s10g [blk 6 [9]] none 1).setF F.SCR_STAT_MASK 0 with scr := { (s10g [blk 6 [9]] (some (blk 7 [])) 1).scr with spans := [] } }
/-- A general core in range whose flow is traced. -/
def gc (k : Nat) : Cairn := { on with regs := [(C.RNG_LIM_LO, 0x1000#32)], flowRun := true, icount := 3, flow := List.replicate k [1, 0x420, 2, 3] }
def s10j (lvl : Nat) (c : Cairn) : State := let s := ((s10b 0x20).setCairn 0x421 c).setF F.SCR_STAT_LEVEL lvl
  { s with scr := { s.scr with flowOn := [2] } }
def s10k (d : Option TrDrain) (mode : Nat) : State := let s := (s10g [blk 6 [9], blk 7 []] none mode).setF F.SUM_ARB_STAT_PASS_UP 1
  { s with scr := { s.scr with drain := d, ring := [] } }
def td (copy : Bool) (sent : List Nat) : TrDrain := ⟨copy, [], sent, none⟩
def v10a := s03l { s10g [] (some (blk 7 [1])) 2 with rdg := { up.rdg with raw := 949999 } } 7
def v10b := s10j 0 { gc 1 with flowLost := 5 }

def actF : TrAct := ⟨true, 999000, 0x20, 0, [2], 0x1010⟩
def s10l : State := s10a.setCairn 0x421 (gc 3)
def gc1n : Cairn := { gc 1 with flowRun := false }

/-! States for the commands of chapter 11. -/

def full8 : Cairn := { on with queue := List.replicate 8 (rep .own true false) }
def s11a : State := upC 0x3 (on.setF ⟨0x1C, 8, 1⟩ 1)
def s11b (n st : Nat) : State := { upC 0x3 { on with ceCoal := [⟨8, st, fltBit 8, n⟩] } with rdg := { up.rdg with raw := 5000 } }
def s11c : State := (up.wr 0xE014 0x80000003).wr 0xE010 0x80000101
def s11d : State := ((upC 0x421 ((on.wr 0x14 0x80000300).wr 0x10 0x80000208)).wr (bk .host R.CWIN_SEL0) 0x421)
/-- One fault report waits. -/
def fev (src page b cls : Nat) : Ev := { name := .fault, src := src, stamp := 999990, data := [], flt := some ⟨page, b, cls, 0, 0, 1, 0, 0, 0, 0, 0⟩ }
def s11e (e : Ev) : State := let s := { up with sum := { up.sum with intq := [e] } }; (s.setF F.FLT_CTRL_FATAL_DUMP 0).wr R.SUM_SEQ_NEXT 7
def ucr : FltRec := ⟨5, 0, 999000, 0x1008, ⟨0xE, 1, 2, 0, 0, 1, 0, 0, 0, 0, 0⟩⟩
def s11f (s : State) : State := ({ s with flt := { s.flt with uc := some ucr } }).setF F.FLT_CLASS_FLAGS_UC_VALID 1
def fr (o d : Bool) : FenceRec := ⟨true, true, false, false, 0x421, 1, 0, 9, 100, o, d, false, false⟩
def s11g (r : FenceRec) : State := { upC 0x421 on with flt := { up.flt with fences := [(0x421, r)] } }
def s11h (r : FenceRec) : State := { s11g r with rdg := { up.rdg with raw := 25100 } }
def s11i : State := (s11g (fr true false)).setF F.LCY_STAT_STATE 5
def s11j : State := { up with rdg := { up.rdg with raw := 1250000 } }
def s11k : State := { s11j.setF F.FLT_STAT_HB_RUN 1 with flt := { up.flt with hbNext := 1250000, checked := [5, 4, 3, 2, 1, 0] } }
def s11l : State := { s11g (fr true false) with rdg := { up.rdg with raw := 25099 } }
def own : Cairn := (on.setF CF.U_OWNER_TENANT 5).setF CF.U_CTX_CTX 6

/-! States for the commands of chapter 12. -/

/-- Core 0 with array 3 and spare 128 powered. -/
def s12a : State := (upC 3 on).setCairn 0x80 on
def rem (g : Bool) : Remap := ⟨0, 3, 3, 0x80, 1, 0, g, false⟩
def s12b (g : Bool) : State := { s12a with wch := { up.wch with pend := [rem g] } }
def s12c : State := { (upC 3 on) with wch := { up.wch with pend := [⟨0, 4, 4, 0x81, 1, 0, false, false⟩] } }
def s12d : State := { s12a.setF F.LCY_STAT_STATE 5 with wch := { up.wch with map := [(3, some 0x80)], retired := [3] } }
def vf0 : VfSt := VfSt.init
/-- A region controller with the given sequence, at clk 10,000. -/
def s12e (v : VfSt) : State := { upC 0xBA0 on with wch := { up.wch with vf := if v = VfSt.init then [] else [(0xBA0, v)] }, rdg := { up.rdg with raw := 10000 } }
def vfD : VfSt := { vf0 with droop := true, droopT := 8000 }
def vfW (n : Nat) : VfSt := { vf0 with lastExit := some n, defer := some (1, 900, 7000) }
def vfR (n : Nat) : VfSt := { vf0 with run := n }
def vfC : VfSt := { vf0 with change := some (0, 700, 4000) }
def dsp0 : DispSt := ⟨1, 0, 0, 2, 0, 1, [(5, 6, 7)]⟩
def s12f (d : DispSt) : State := let s := (upC 0x520 on).setF F.WCH_CTRL_DISP_EN 1
  { s.setF F.WCH_DISP_INT_INT 2 with wch := { up.wch with disp := [(0x520, d)] }, rdg := { up.rdg with raw := 10000 } }
def s12g (step blocks lowRun : Nat) : State :=
  let s := ((up.setF F.WCH_CTRL_TFIT_EN 1).setF F.SCR_CTRL_MODE 2).setF F.WCH_TFIT_STAT_STEP step
  let s := (s.wr R.PASS_RATE 100).wr R.WCH_TFIT_CTRL (50 + 256 * 20 + 65536 * 6)
  { s with scr := { s.scr with drain := some ⟨false, [], [], none⟩, nextNo := blocks }, wch := { s.wch with winT := 750000, lowRun := lowRun } }
def s12j : State := { up with wch := { up.wch with winT := 750001 } }

/-- A block in which position 0 is late in four operations and position 1 in two. -/
def iss : List Nat := (List.range 256).map fun k => 5000 * k
def tms : List (List Nat) :=
  iss.zipIdx.map fun (i, k) => (i + if k < 4 then 900 else 100) :: (i + if k < 2 then 800 else 100) :: List.replicate 126 (i + 100)
def s12k : State := { s12b false with cairns := (s12b false).cairns.map fun e => (e.1, e.2.setF CF.CUT_STAT_STATE 2) }
def s12l : State := { s12e vf0 with cairns := (s12e vf0).cairns.map fun e => (e.1, e.2.setF CF.CUT_STAT_STATE 2) }

/-! States for the commands of chapter 13. -/

def s13a (l : SMap Nat) : State := { up with tal := { up.tal with sampleT := 1, ms := l }, rdg := { up.rdg with raw := 2500001 } }
def nfe (src page b cls rf : Nat) : NumEv := ⟨4, 0, { fev src page b cls with flt := some ⟨page, b, cls, 0, rf, 1, 0, 0, 0, 0, 0⟩ }⟩
def s13b (n : NumEv) : State := { up.setF F.TAL_STAT_READY 1 with tal := { up.tal with queue := [n, n] } }
def s13c : State := { up.setF F.LCY_STAT_STATE 2 with tal := { up.tal with work := { Ledger.empty with boot := 5, clearCnt := 1, cnt := [(0x100, 3)] }, gen := 9 } }
def s13d : State := { up with tal := { up.tal with nextDue := 1000000 } }
def s13e (bad : Nat) : State := { up with tal := { up.tal with held := [3, 2], gen := 6, work := { Ledger.empty with bad := bad } }, mram := [(0, some ⟨Ledger.empty, 8, 0, 1, 2, 3, 4, 4⟩)] }
def cmt : Commit := ⟨⟨Ledger.empty, 7, 7, 2, 5, 6, 0, 4⟩, true⟩
def s13f (bad : Nat) : State := { s13e bad with tal := { (s13e bad).tal with commit := some cmt, nextDue := 1000001 } }
def s13g : State := { up with tal := { up.tal with nextDue := 1000001 } }

/-! States for the commands of chapter 14. -/

/-- The words of an object: the magic, version 1 with KIND and SIGNER, and what else is not 0. -/
def objW (kind signer : Nat) (ws : List (Nat × Nat)) : SMap Word :=
  [(0, BitVec.ofNat 32 0x4E594E31), (1, BitVec.ofNat 32 (1 + 65536 * kind + 2 ^ 24 * signer))] ++ ws.map fun w => (w.1, BitVec.ofNat 32 w.2)
def s14a (l : SMap Word) : State := { up with auth := { up.auth with bufH := l, bufP := l } }
/-- A transition from FIELD to RMA asked for by log slot 0. -/
def tObj : SMap Word := objW 1 0 [(12, 4 + 256 * 5)]
def pObj : SMap Word := objW 4 0xFF [(4, 0x1234), (12, 1)]
def cObj : SMap Word := objW 2 0 [(14, 0x40), (15, 3 + 256 * 16), (16, 0), (17, 9), (20, 0xFFFF)]
def jObj : SMap Word := objW 3 2 [(20, 2 ^ 24), (21, 1 + 256 * 4)]
def jobOf (l : SMap Word) (lcy : Bool) (op : Nat) : AuthJob := ⟨.host, lcy, op, (s14a l).bufObj .host⟩
def s14b (l : SMap Word) (lcy : Bool) (op : Nat) : State := let s := up.setF F.TAL_STAT_BOOT_OK 1
  { s with auth := { s.auth with job := some (jobOf l lcy op) } }
def s14c : State := (s14b pObj true 2).setF F.LCY_STAT_STATE 0
def s14d : State := ((s14b jObj false 3).setF (bkF .host F.AUTH_CHAL_REQ_OUTSTANDING) 1).setF (bkF .host F.AUTH_CHAL_REQ_REQ) 7
def s14e : State := let s := (up.setF F.TAL_STAT_BOOT_OK 1)
  (s.wr (bk .host R.AUTH_CERT) 0x40).wr (bk .pass R.AUTH_JEX) 0x1000000
def runR (st to_ : Nat) : LcyRun := ⟨4, to_, 0, 0, st, false⟩
def s14f (r : LcyRun) : State := let s := (up.setF F.LCY_STAT_IN_TRANSITION 1).setF F.LCY_STAT_TARGET r.to_
  { s with auth := { s.auth with run := some r } }
def s14g : State := let s := up.setF (bkF .pass F.AUTH_CHAL_REQ_OUTSTANDING) 1
  { s.wr (bk .pass (R.AUTH_CHAL 3)) 77 with auth := { s.auth with chalP := 1 }, rdg := { s.rdg with raw := 150000000001 } }
def s14h : State := ((s14a [(3, 9)]).setF (bkF .host F.AUTH_BUF_ADDR_ADDR) 3).setF (bkF .host F.AUTH_BUF_ADDR_AUTOINC) 1

/-! States for the commands of chapter 15. -/

def s15l : State := { up.setF F.PASS_STAT_SESSION 1 with pass := { PassSt.init with rxNext := 7, idle0 := false, idle1 := false, lock0 := true, lock1 := true, nextId := 3 }, rdg := { up.rdg with raw := 9000000 } }
def s15u : State := { (s15l.setF F.SUM_EXCL_EXCL 1).setF F.PASS_STAT_LEAD 1 with cou := { s15l.cou with drain := none } }
def trl (n : Nat) (nak : Bool) : Trailer := ⟨n, 4, true, nak⟩
def frm (cls retx : Nat) : Frame := ⟨if cls = 3 then 0x11 else 0x30, cls, 9, [1], 4, retx⟩
def s15p (p : PassSt → PassSt) : State := { s15l with pass := p s15l.pass }
def s15f (un : List Frame) (re : Nat) (q : List Frame) (ack : Bool) : State := s15p fun p => { p with unacked := un, resend := re, sendq := q, ackDue := ack }
def s15k (un : List Frame) (t : Nat) : State := s15p fun p => { p with unacked := un, progT := t, lastRx := t }
def s15q : State := s15p fun p => { p with reqs := List.replicate 4 ⟨1, false, [], [], true⟩ }
def rowT : RegRow := (hubRow R.SUM_CWIN_TMO).getD rowX
def rowE : RegRow := (hubRow R.RDG_EPOCH_INT).getD rowX
def s15n : State := { up with pass := { PassSt.init with nextId := 65535 }, uid := 50, rdg := { up.rdg with raw := 9000000 } }
def s15t : State := s15n.setF F.PASS_STAT_SESSION 2
def s15r : State := (s15n.setF F.PASS_STAT_SESSION 3)
def s15y : State := { s15r with rdg := { up.rdg with raw := 2600000000 } }
def s15x : State := { s15l.setF F.PASS_STAT_LANES 3 with pass := { s15l.pass with train := some (2, 1, 0) } }
def s15z : State := (s15l.setF F.PASS_STAT_LANES 3).setF F.PASS_STAT_RATE 2
def s15i : State := { s15n.setF F.PASS_CTRL_TX_IDLE_OFF 1 with pass := { PassSt.init with lock0 := true } }
def s15e : State := s15n.setF F.PASS_CTRL_TAP_ACC_EN 1
def mem1 : Member := ⟨77, true, false, 0, 6500000⟩
def s15d (c : Nat) : State := { s15l.setF F.PASS_STAT_LEAD 1 with uid := 50, pass := { s15l.pass with members := [(0, some ⟨50, true, false, 0, 0⟩), (5, some mem1)], discT := some 3, first := false }, rdg := { s15l.rdg with raw := c } }
def s15v : State := { s15d 25000003 with pass := { (s15d 0).pass with found := [(99, 5)], first := true } }
def s15w : State := (s15d 9000000).setF F.SUM_DEV_ID_VALID 1
def s15j : State := { s15l with uid := 50 }
def v15a := { s15l with rdg := s15y.rdg }
def v15b := { s15t with rdg := s15y.rdg }

def mem1r : Member := { mem1 with relay := true }
def s15ra : State := { s15d 9000000 with pass := { (s15d 0).pass with members := [(0, some ⟨50, true, false, 0, 0⟩), (5, some mem1r)], carried := [⟨4, 0x42, [4]⟩] } }
def s15o : State := s15p fun p => { p with train := some (2, 1, 0), sendq := [⟨0x02, 2, 9, [1], 0, 0⟩] }
def s15o1 : State := s15p fun p => { p with train := some (2, 1, 0), sendq := [frm 5 0] }
def s15x1 : State := { s15x with pass := { s15x.pass with train := some (0, 3, 1) } }
def s15v1 : State := { s15d 9000000 with pass := { (s15d 0).pass with found := [(99, 5), (98, 1)], first := true } }

/-! States for the commands of chapter 16. -/

def s16off : State := { State.reset with rst := { RstSt.init with on := false }, uid := 5, pending := [.hubIdle], mram := [(0, some ⟨Ledger.empty, 8, 0, 1, 2, 3, 4, 4⟩)], otp := OtpSt.blank }
def s16ph (n : Nat) : State := { State.reset.setF F.SUM_START_STAT_PHASE n with rdg := { RdgSt.init with running := true, now := 900, raw := 900 }, mram := s16off.mram }
def lrun (step : Nat) : LcyRun := ⟨0, 1, 0, 0, step, false⟩
def s16run (n : Nat) : State := { s16ph n with auth := { AuthSt.init with run := some (lrun 2) }, otp := { OtpSt.blank with log := [(0, { LogSlot.empty with tgt := ⟨1, 1, 1⟩, pm := ⟨1, 1, 1⟩ })] } }
def s16cm : State := { s16ph 5 with tal := { TalSt.init with commit := some cmt } }
def s16inv : State := { s16ph 2 with otp := { OtpSt.blank with log := [(0, { LogSlot.empty with state := ⟨0x123456, 0x123456, 0x123456⟩, tgt := ⟨1, 1, 1⟩, pm := ⟨255, 255, 255⟩ })] } }
def srun (a : Bool) : SoftRun := ⟨.host, 999000, none, a⟩
def c16 : Cairn := { on.setF CF.CUT_STAT_STATE 2 with acts := [⟨.cutStop, 2000000, 3⟩] }
def c16r : Cairn := { on with acts := [⟨.cutStop, 2000000, 3⟩] }
def s16s (a : Bool) : State :=
  let s := (((upC 0xA5 c16).setF F.SUM_RST_STAT_SOFT_PENDING 1).setCutState 2).setF F.CRS_CTRL_RUN 1
  { (s.setF (F.PRB_STAT_STATE 1) 1).setF F.SUM_EXCL_EXCL 1 with rst := { RstSt.init with soft := some (srun a) } }
def s16t : State := { s16s false with tal := { (s16s false).tal with commit := some cmt } }
def s16u : State := (s16s true).setSpur 0 2
def s16w : State := (((upC 0xA5 on).setF (F.PRB_STAT_STATE 1) 1).setF F.RDG_LEAF_VALID_HALF0 1).setCutState 2
def s16b (l : List Nat) : State := { (upC 0xA5 on).setF F.SUM_RST_STAT_WARM_ACTIVE 1 with rst := { RstSt.init with bmuWait := true, warmWait := l } }
def s16i (c : Nat) : State := { up with rst := { RstSt.init with idleT := some c }, rdg := { up.rdg with raw := 1000000 } }
def v16a := { s09b [cjob 5] with rst := { RstSt.init with soft := some (srun false) } }

def s16ap : State := { up with sum := { up.sum with aps := [⟨.pass, 0x20400, 5, 0x40, false, 0, 99, 0, none, 3⟩, ⟨.pass, 0x20400, 5, 0x44, false, 0, 99, 0, none, 4⟩], held := [⟨.pass, 0x40, 0, 0, false, 0, 99, 0, none, 0⟩] } }

/-! States for Pitch requests and actions. -/

/-- Engine 1 of a state runs `i` at word 0x20, with p4 as given. -/
def withE (s : State) (i : PInstr) (v : Nat) : State :=
  let s := (((s.setF (F.PRB_STAT_STATE 1) 1).wr (R.PRB_PC 1) 0x20).setF (F.PRB_CODE_WIN_LIM 1) 0xFF).wr (R.PRB_DATA_WIN 1) 0xFFFF0100
  (((s.wr (R.PRB_RIGHTS_REC 1) 0xFFFFFFFF).setPm 0x20 i.encode.toNat).setP 1 4 v).setP 1 5 0xFFF
def iCut (k : BitVec 3) (abs x : BitVec 1) : PInstr := .cut 14 4 k abs x
def s17a : State := { s09a (cd 0x1000) with cen := { up.cen with jobs := [⟨1, 0x1003, 0, 7, [], false, 1, 0, none⟩, ⟨2, 0x1003, 0, 7, [], false, 1, 0, none⟩, ⟨3, 0x1003, 0, 7, [], false, 1, 0, none⟩, ⟨4, 0x1003, 0, 7, [], false, 1, 0, none⟩] } }
def s17b : State := (up.setF F.SUM_DEV_ID_VALID 1).setF F.RDG_STAT_ALIGNED 1
/-- Couloir enabled with a profile of cut kind 0, and no place left at the leaves. -/
def s17c : State := { (s04d.wr (R.COU_PROF 3) 1) with sum := s04c.sum }
def s17d (g : Bool) : State := { s12a with flt := { s12a.flt with engFenced := if g then [0] else [] }, wch := { s12a.wch with pend := if g then [] else [rem true] } }

def msg1 : Msg := { kind := ActKind.cutGlance, t := 999998, arg := 9, arg2 := 0 }
def msg2 : Msg := { kind := ActKind.resume, t := 999999, arg := 9, arg2 := 0 }
def edgeRep1 : EdgeRep := { cairn := 165, leaf := 999990 }
def edgeRep2 : EdgeRep := { cairn := 166, leaf := 999991 }
def pendAct1 : PendAct := { kind := ActKind.cutStop, t := 999990, arg := 9 }
def edgeRep3 : EdgeRep := { cairn := 165, leaf := 999999 }
def edgeRep4 : EdgeRep := { cairn := 166, leaf := 1000000 }
def pendAct2 : PendAct := { kind := ActKind.cutGlance, t := 999990, arg := 9 }
def pendAct3 : PendAct := { kind := ActKind.resume, t := 999990, arg := 9 }
def pageId1 : PageId := { cairn := 1888, page := 7 }
def pageId2 : PageId := { cairn := 1312, page := 4194304 }
def pageId3 : PageId := { cairn := 1888, page := 3 }
def regRow1 : RegRow := { addr := 131144, count := 1, stride := 4, acc := Acc.rw, mask := 4095, reset := 0, banked := true }
def regRow2 : RegRow := { addr := 64, count := 1, stride := 4, acc := Acc.rw, mask := 2147487743, reset := 0, banked := false }
def regRow3 : RegRow := { addr := 76, count := 1, stride := 4, acc := Acc.ro, mask := 0, reset := 112, banked := false }
def regRow4 : RegRow := { addr := 73796, count := 1, stride := 4, acc := Acc.ro, mask := 0, reset := 0, banked := false }
def regRow5 : RegRow := { addr := 4200, count := 1, stride := 4, acc := Acc.rc, mask := 0, reset := 0, banked := false }
def apAcc1 : ApAcc := { master := Master.host, addr := 132096, cairn := 165, off := 0, write := false, val := 0, t0 := 999000, spur := 0, fate := none, no := 0 }
def apAcc2 : ApAcc := { master := Master.host, addr := 132356, cairn := 166, off := 260, write := true, val := 0, t0 := 999000, spur := 0, fate := none, no := 0 }
def edgeRep5 : EdgeRep := { cairn := 1061, leaf := 999999 }
def edgeRep6 : EdgeRep := { cairn := 1061, leaf := 1000000 }
def pendAct4 : PendAct := { kind := ActKind.stepClose, t := 999999, arg := 4 }
def pageId4 : PageId := { cairn := (s05i frz5 1061).rd (bk Master.host (R.CWIN_SEL0 + 4 * 0)) % 4096, page := ((s05i frz5 1061).cairn ((s05i frz5 1061).rd (bk Master.host (R.CWIN_SEL0 + 4 * 0)) % 4096)).viewAddr Master.host 516 / 4096 }
def pageId5 : PageId := { cairn := (s05i (frz5.setF CF.STEP_STAT_DEPOSITED 1) 1888).rd (bk Master.host (R.CWIN_SEL0 + 4 * 0)) % 4096, page := ((s05i (frz5.setF CF.STEP_STAT_DEPOSITED 1) 1888).cairn ((s05i (frz5.setF CF.STEP_STAT_DEPOSITED 1) 1888).rd (bk Master.host (R.CWIN_SEL0 + 4 * 0)) % 4096)).viewAddr Master.host 1020 / 4096 }
def obsAcc1 : ObsAcc := { obs := 0, addr := 5, val := 0, kind := 3 }
def obsAcc2 : ObsAcc := { obs := 0, addr := 16383, val := 0, kind := 2 }
def obsAcc3 : ObsAcc := { obs := 0, addr := 16384, val := 0, kind := 2 }
def raiseFl1 : RaiseFl := { num := 7, ch := 63, src := 165, first := false }
def raiseFl2 : RaiseFl := { num := 7, ch := 63, src := 165, first := true }
def pulse1 : Pulse := { tp := 999000, width := 40, hb := true, lane := false, begun := false }
def pulse2 : Pulse := { tp := 999000, width := 40, hb := false, lane := true, begun := false }
def pulse3 : Pulse := { tp := 999000, width := 40, hb := true, lane := true, begun := true }
def winAcc1 : WinAcc := { rd := some (1), cairn := (s07e (PInstr.crd (1 : BitVec 4) (3 : BitVec 4) (1020 : BitVec 10))).p 1 (3) % 4096, view := false, space := 0, off := 1020, wide := false, val := 0, t0 := (s07e (PInstr.crd (1 : BitVec 4) (3 : BitVec 4) (1020 : BitVec 10))).clk, spur := 0, no := 0, fate := none, sec := false }
def winAcc2 : WinAcc := { rd := none, cairn := (s07e (PInstr.cwr (1 : BitVec 4) (3 : BitVec 4) (1020 : BitVec 10))).p 1 (3) % 4096, view := false, space := 0, off := 1020, wide := false, val := (s07e (PInstr.cwr (1 : BitVec 4) (3 : BitVec 4) (1020 : BitVec 10))).p 1 (1) % 2 ^ 32, t0 := (s07e (PInstr.cwr (1 : BitVec 4) (3 : BitVec 4) (1020 : BitVec 10))).clk, spur := 0, no := 0, fate := none, sec := false }
def winAcc3 : WinAcc := { rd := some (1), cairn := (s07m (PInstr.crd (1 : BitVec 4) (3 : BitVec 4) (1020 : BitVec 10))).p 1 (3) % 4096, view := false, space := 0, off := 1020, wide := false, val := 0, t0 := (s07m (PInstr.crd (1 : BitVec 4) (3 : BitVec 4) (1020 : BitVec 10))).clk, spur := 0, no := 0, fate := none, sec := false }
def winAcc4 : WinAcc := { rd := some (1), cairn := (s07d (PInstr.vrd (1 : BitVec 4) (3 : BitVec 4) (4 : BitVec 4) (3 : BitVec 4) (1 : BitVec 1)) 4104).p 1 (3) % 4096, view := true, space := 3, off := (s07d (PInstr.vrd (1 : BitVec 4) (3 : BitVec 4) (4 : BitVec 4) (3 : BitVec 4) (1 : BitVec 1)) 4104).p 1 (4), wide := (1 : BitVec 1) == (1 : BitVec 1), val := 0, t0 := (s07d (PInstr.vrd (1 : BitVec 4) (3 : BitVec 4) (4 : BitVec 4) (3 : BitVec 4) (1 : BitVec 1)) 4104).clk, spur := 0, no := 0, fate := none, sec := false }
def winAcc5 : WinAcc := { rd := none, cairn := (s07d (PInstr.vwr (2 : BitVec 4) (3 : BitVec 4) (4 : BitVec 4) (3 : BitVec 4) (0 : BitVec 1)) 4100).p 1 (3) % 4096, view := true, space := 3, off := (s07d (PInstr.vwr (2 : BitVec 4) (3 : BitVec 4) (4 : BitVec 4) (3 : BitVec 4) (0 : BitVec 1)) 4100).p 1 (4), wide := (0 : BitVec 1) == (1 : BitVec 1), val := (s07d (PInstr.vwr (2 : BitVec 4) (3 : BitVec 4) (4 : BitVec 4) (3 : BitVec 4) (0 : BitVec 1)) 4100).p 1 (2), t0 := (s07d (PInstr.vwr (2 : BitVec 4) (3 : BitVec 4) (4 : BitVec 4) (3 : BitVec 4) (0 : BitVec 1)) 4100).clk, spur := 0, no := 0, fate := none, sec := false }
def edgeRep7 : EdgeRep := { cairn := 2976, leaf := 999990 }
def pendAct5 : PendAct := { kind := ActKind.shadowLoad, t := 999990, arg := 9 }
def pageId6 : PageId := { cairn := 1888, page := 0 }
def echoSt1 : EchoSt := { spareA := (e0 EchoPhase.capturing).spareA, spareB := (e0 EchoPhase.capturing).spareB, deadline := (e0 EchoPhase.capturing).deadline, skip := (e0 EchoPhase.capturing).skip, phase := (e0 EchoPhase.capturing).phase, capT := (e0 EchoPhase.capturing).capT, opcnt := (e0 EchoPhase.capturing).opcnt, inputs := (e0 EchoPhase.capturing).inputs, relaxed := (e0 EchoPhase.capturing).relaxed, int32 := (e0 EchoPhase.capturing).int32, sec := (e0 EchoPhase.capturing).sec, stream := (e0 EchoPhase.capturing).stream ++ [], outT := (e0 EchoPhase.capturing).outT, outA := (e0 EchoPhase.capturing).outA, outB := (e0 EchoPhase.capturing).outB }
def echoSt2 : EchoSt := { spareA := (e0 EchoPhase.capturing).spareA, spareB := (e0 EchoPhase.capturing).spareB, deadline := (e0 EchoPhase.capturing).deadline, skip := (e0 EchoPhase.capturing).skip, phase := (e0 EchoPhase.capturing).phase, capT := (e0 EchoPhase.capturing).capT, opcnt := (e0 EchoPhase.capturing).opcnt, inputs := (e0 EchoPhase.capturing).inputs, relaxed := (e0 EchoPhase.capturing).relaxed, int32 := (e0 EchoPhase.capturing).int32, sec := (e0 EchoPhase.capturing).sec, stream := (e0 EchoPhase.capturing).stream ++ [(7, [(1 : Byte), (2 : Byte)]), (16380, [(3 : Byte), (4 : Byte), (5 : Byte), (6 : Byte)])], outT := (e0 EchoPhase.capturing).outT, outA := (e0 EchoPhase.capturing).outA, outB := (e0 EchoPhase.capturing).outB }
def ceCoal1 : CeCoal := { bit := 8, start := 2500, info := fltBit 8, count := 2 }
def ceCoal2 : CeCoal := { bit := 8, start := 2500, info := fltBit 8, count := 0 }
def fltInfo1 : FltInfo := { page := 8, bit := 0, cls := 1, react := 0, rflags := 0, count := 1, tenant := 0, ctx := 0, causeSeq := 0, detail := 0, detail2 := 0 }
def fltInfo2 : FltInfo := { page := 8, bit := 1, cls := 2, react := 0, rflags := 0, count := 1, tenant := 0, ctx := 0, causeSeq := 0, detail := 0, detail2 := 0 }
def fltInfo3 : FltInfo := { page := 0, bit := 1, cls := 3, react := 0, rflags := 0, count := 1, tenant := 0, ctx := 0, causeSeq := 0, detail := 0, detail2 := 0 }
def dispSt1 : DispSt := { tie := 0, ovf := 0, skip := 0, dup := 0, stale := 0, start := 9488, tags := [] }
def fltInfo4 : FltInfo := { page := 8, bit := 0, cls := 1, react := 0, rflags := 1, count := 1, tenant := 0, ctx := 0, causeSeq := 0, detail := 0, detail2 := 0 }
def fltInfo5 : FltInfo := { page := 255, bit := 9, cls := 2, react := 0, rflags := 0, count := 1, tenant := 0, ctx := 0, causeSeq := 0, detail := 0, detail2 := 0 }

/-- Does an outcome go on to a state of which `p` holds? -/
def after (o : Out) (p : State → Bool) : Bool := match o with | .next t => p t | _ => false

/-- Does an outcome stop on a part that does not exist? -/
def absent (o : Out) : Bool := match o with | .fault .noSuchPart => true | _ => false

/-! ### After reset -/

/-- The invariants hold after reset: no part of a dark hub is kept, and every sparse map is canonical. -/
theorem test_reset_holds_the_invariants : State.reset.canonical = true ∧ State.reset.darkOk ∧ State.reset.sane = true ∧ Memory.wf State.reset.mem = true :=
  ⟨by decide +kernel, fun h => absurd h (by decide +kernel), by decide +kernel, by decide +kernel⟩

/-- No row of the opcode table has bits, so no word spells a command. -/
theorem test_no_word_spells_a_command : decodeTableWord 32 0x32800015 = none ∧ State.reset.withFetchWord 32 7 = State.reset := by
  constructor <;> decide +kernel

/-- Start-up waits in phase PLL (16 R501), and the first PLL_LOCK moves it to MEM; this is the first command from reset. -/
theorem test_pll_lock_starts_the_hub :
    after (step { State.reset with pending := [.pllLock] }) (fun t => t.f F.SUM_START_STAT_PHASE = 1 ∧ t.rdg.running = true ∧ t.pending = []) = true := by decide +kernel

/-! ### Ill-formed commands, one for each check of WellFormed -/

/-- A report of a Cairn that does not exist: the units end at 0xBBF (01 R13). -/
def noCairn : EdgeRep := ⟨0xBC0, 0, 0, 0, 0⟩

/-- Parts that do not exist. -/
theorem test_wf_refuses_absent_parts :
    ([.summitAck 0xBC0, .mirrorUpdate 2, .colLaneFail 3, .domainPowerUp [3, 0xBC0], .cutEdge [noCairn], .divertedWrite 0x420 0 0 [],
      .add 4, .cairnRaise 3 2, .ccIntrude 1536000000000, .linkRecord 0xBBF 0 0 0, .linkRecord 0xB60 4096 0 0, .slotFree 4, .storeUc 8,
      .flowPacket 0x520 0 1 false 0 false 0, .sigMonCheck 6 true, .droopExit 0x420 0 0, .dispatchSummary 0x420, .dispatchCase 0x520 5 0 0,
      .vfReq 0xBA0 2 0, .droopEnter 0xBA0 0 0 0, .laneLost 2, .memberTimeout 4096, .faultDetect true 0xBC0 0 0 0 0 0,
      .faultDetect false 7 0 0 0 0 0, .faultDetect false 0x15 0 0 0 0 0] : List Instr).all (fun c => !c.wf) = true := by decide +kernel

/-- Operands that do not fit their fields. -/
theorem test_wf_refuses_operands_that_do_not_fit :
    ([.registerWrite .host 0x100000 4 0, .registerWrite .host 0x40 3 0, .registerWrite .host 0x40 8 (2 ^ 64), .leafLoad ⟨0xFFF, 0, none⟩, .leafLoad ⟨3, 2 ^ 64, none⟩,
      .class1Report 3 (2 ^ 64) none, .stepUnitComplete [3] 0 (2 ^ 64), .bmuPageWrite 0 380544 [] [], .regReq 0 false [] true 0 ⟨0, 0, false, false⟩,
      .regReq 256 false [0] true 0 ⟨0, 0, false, false⟩, .keepalive ⟨65536, 0, false, false⟩, .hello 65536 0 0 0 ⟨0, 0, false, false⟩, .echoReplayDone 1 0 [], .passAcc (2 ^ 64),
      .hubAnnounce (2 ^ 256) 0 0, .faultDetect true 3 31 0 0 0 0] : List Instr).all (fun c => !c.wf) = true := by decide +kernel

/-- A command that names an engine that does not exist stops with the fault. -/
theorem test_absent_part_faults : absent (exec (.add 4) State.reset) = true ∧ absent (exec (.summitAck 0xBC0) State.reset) = true := by
  decide +kernel

/-! ### The worked examples of the spec -/

/-- Decoding Cairn addresses (01, worked example): 0x3A7 is array 11 of core 7 in half 1, 0x6B5 a router of mesh 0, half 0, and 0x9F0 a
slice of half 1. -/
theorem test_cairn_addresses : kindOf 0x3A7 = 1 ∧ coreOf 0x3A7 = 7 ∧ arrayId 7 11 = 0x3A7 ∧ halfOf 0x3A7 = 1 ∧ meshOf 0x6B5 = 0
    ∧ halfOf 0x6B5 = 0 ∧ kindOf 0x9F0 = kindOf 0x760 ∧ halfOf 0x9F0 = 1 := by decide +kernel

/-- The hub of the worked example after 01 R34: a CE, a UC and a trigger event wait at the arbiter's three inputs. -/
def threeHeads : State :=
  let u : FltInfo := { fltBit 9 with cls := 1 }
  let s := (up.wr R.SUM_SEQ_NEXT 0x00123400).raise .transition 0x1001 []
  { s with sum := { s.sum with fifo1 := [⟨.fault, 0x9F0, 7000000, [], some (fltBit 9), false, 0⟩],
                               fifo0 := [⟨.fault, 0x0A5, 7000003, [], some { u with cls := 2 }, false, 0⟩] } }

/-- The encoded words of 07: beqi, shr, bltu, cut and log. -/
theorem test_pitch_words : PInstr.decode 0x32800015 = some (.bri .beqi 10 0 21) ∧ PInstr.decode 0x072B4006 = some (.alu .shr 12 10 13)
    ∧ PInstr.decode 0x2A0BFFF4 = some (.br .bltu 8 2 (-12)) ∧ PInstr.decode 0x97800001 = some (.cut 14 0 1 0 0)
    ∧ PInstr.decode 0xB2360010 = some (.log 8 13 1 0x10) := by decide +kernel

/-- Address deltas −1, 1 and −2 code as 1, 2 and 3 (10 R333). -/
theorem test_zigzag : zigzag 6 7 = 1 ∧ zigzag 8 7 = 2 ∧ zigzag 5 7 = 3 ∧ varint 10 300 = [0xAC, 0x02] := by decide +kernel

/-- The field debugger of 02: its write to 0x2_0940 completes with RIGHTS; SUM_ERR_ADDR reads 0x3A72_0940 and SUM_ERR 0x8000_0106. -/
theorem test_field_debugger :
    after (exec (.viewDeposit .pass 0x20940 1) (((upC 0x3A7 on).wr R.AUTH_HELD_PASS 3).wr (R.CWIN_SEL0 + 4) 0x3A7)) (fun t => t.rd (R.SUM_ERR_ADDR) = 0x3A720940 ∧ t.rd R.SUM_ERR = 0x80000106) = true := by decide +kernel

/-- The eight FP8 E4M3 elements of 09. -/
def ex8 (l : List Byte) : Region := ⟨(fmtOf 4).getD ⟨0, 0, 0, 0, .int, false, 0⟩, fun i => l.getD i 0, fun _ => 127, fun _ => 0⟩

/-- Region A of the worked example of 09: N 8, ZERO 2, SUBNORMAL 1, NORMAL 4, INF 0, NAN 1, SAT 1; MAXABS 448 at index 5; the first
NaN at 6; one element in each of bins 1, 10, 11, 14 and 18; SUMSQ 201,114.0 and SUMSQ_C 2⁻¹⁸. -/
theorem test_census_example :
    (let t := (ex8 [0x00, 0x80, 0x01, 0x38, 0xC4, 0x7E, 0x7F, 0x5A]).count (-9) 8
     (t.n = 8 ∧ t.zero = 2 ∧ t.subn = 1 ∧ t.norm = 4 ∧ t.inf = 0 ∧ t.nan = 1 ∧ t.sat = 1) ∧
     (enc64 t.maxAbs = 0x407C000000000000 ∧ t.maxIdx = 5 ∧ t.nanIdx = 6 ∧ t.hist = [(1, 1), (10, 1), (11, 1), (14, 1), (18, 1)]) ∧
     enc32 t.total.s = 0x48446680 ∧ enc32 t.total.c = 0x36800000) := by decide +kernel

/-- Region B against region A with TOL_ULP 2: BEYOND 2, FIRST_IDX 6 with raws 0x7F and 0x7E; MAXDIST is 8 at index 7; bins 0, 1, 4 and 15 hold 5, 1, 1 and 1. -/
theorem test_drift_example :
    (let t := driftOf (ex8 [0x00, 0x80, 0x01, 0x38, 0xC4, 0x7E, 0x7F, 0x5A]) (ex8 [0x00, 0x80, 0x01, 0x38, 0xC5, 0x7E, 0x7E, 0x52]) 2 8
     t.n = 8 ∧ t.beyond = 2 ∧ t.first = 6 ∧ t.aRaw = 0x7F ∧ t.bRaw = 0x7E ∧ t.maxD = 8 ∧ t.maxIdx = 7
       ∧ t.hist = [(0, 5), (1, 1), (4, 1), (15, 1)]) := by decide +kernel

/-- A committed slot of the life-cycle log. -/
def logSlot (t : Nat) : LogSlot := let c := codeword t; let g := 2 ^ t; ⟨⟨c, c, c⟩, ⟨g, g, g⟩, ⟨255, 255, 255⟩⟩

/-- The log of the worked example of 14 after the power loss at tick 3,200,000: slot 5 used, not committed, copy B torn. -/
def cutLog : SMap LogSlot :=
  [(0, logSlot 1), (1, logSlot 2), (2, logSlot 1), (3, logSlot 3), (4, logSlot 4), (5, ⟨⟨0x5AA55A, 0x18A002, 0⟩, ⟨32, 32, 32⟩, ⟨7, 7, 7⟩⟩)]

/-- Phase LCY decodes that log: slot 5 is used but not committed, the state stays FIELD, and TARGET reads 5. -/
theorem test_lcy_decodes_the_cut_log :
    after (exec (.startupPhaseDone true true []) { s16ph 2 with otp := { OtpSt.blank with log := cutLog } })
      (fun t => t.rd R.LCY_STAT = 0x000607A4) = true := by decide +kernel

/-- At the end of phase LEDGER the transition resumes: LCY_STAT reads 0x0026_07B4. -/
theorem test_lcy_resumes :
    after (exec (.startupPhaseDone true true []) { (s16ph 3).wr R.LCY_STAT 0x000607A4 with otp := { OtpSt.blank with log := cutLog } })
      (fun t => t.rd R.LCY_STAT = 0x002607B4) = true := by decide +kernel

/-- IDCODE captures 0x10E3_156D (15 R479). -/
theorem test_idcode : after (exec .idcode up) (fun t => t.tapCapture = 0x10E3156D) = true := by decide +kernel

/-- The graph of the worked example of 06 as it stands in state S0, channel 1 waiting. -/
def graph : State :=
  let s := ((((up.wr (R.CRS_CNT_CFG 0) 0x00020011).wr (R.CRS_CNT_LIM 0) 3).wr (R.CRS_CNT_VAL 0) 2).wr (0x2140) 0x181).wr 0x2150 0x018032C0
  let s := ((s.setF (F.CRS_ST_ENTRY_RST 1) 1).wr (R.CRS_PARAM 0) 0x200030D4).wr (R.CRS_PARAM 1) 0x00030064
  { (s.setF F.CRS_CTRL_RUN 1).setF F.CRS_STAT_RUNNING 1 with crs := { up.crs with wait := [(1, 3)] } }

/-- TR(0, 0) is taken: S1 is entered, counter 0 is to be reset in the next cycle (R189) and TRANSITION is raised. -/
theorem test_graph_enters_s1 :
    after (exec .sequencerEval graph) (fun t => t.f F.CRS_STAT_STATE = 1 ∧ t.crs.rst = 1 ∧ t.sum.intq.map (·.name) = [.transition]) = true := by decide +kernel

/-- In S1 the third raise of channel 2 brings counter 0 to its limit: TR(1, 0) is taken, STOP_AFTER follows, and PIN_PULSE in
the next hub cycle (R194). -/
theorem test_graph_enters_s2 :
    after (exec .sequencerEval { (graph.setF F.CRS_STAT_STATE 1) with crs := { up.crs with wait := [(2, 3)], entered := some 999900 } }) (fun t =>
      t.f F.CRS_STAT_STATE = 2 ∧ t.f F.CRS_STAT_SA_PENDING = 1 ∧ t.sum.intq.map (·.name) = [.transition, .stopAfterSet]
        ∧ after (exec .sequencerEval t) (fun u => u.sum.intq.map (·.name) = [.transition, .stopAfterSet, .pinPulse])) = true := by decide +kernel

/-- The two addresses of 17: CRN_STEP_STAT through aperture 2, and WCH_LAG37. -/
theorem test_index_addresses : R.CWIN_SEL0 + 8 = 0x20048 ∧ 0x20400 + 0x400 * 2 + C.STEP_STAT = 0x20D24 ∧ R.WCH_LAG 37 = 0xD194 := by
  decide +kernel

/-- The arbiter numbers the UC of Spur 0 first, with 0x0012_3400 (01, worked example after R34). -/
theorem test_uc_numbered_first :
    after (exec .arbiterNumber threeHeads) (fun t => t.rd R.SUM_SEQ_NEXT = 0x00123401 ∧ t.sum.fifo0 = [] ∧ t.sum.fifo1.length = 1 ∧ (t.sum.intq.head?.map (·.name)) = some .transition) = true := by decide +kernel

/-- Pages there and not there: page 0x07 and the pages from 0x15 on but 0x20 answer NO_PAGE (02 R42, R43). -/
theorem test_pages : (List.range 0x100).filter pageThere =
    [0, 1, 2, 3, 4, 5, 6, 8, 9, 0xA, 0xB, 0xC, 0xD, 0xE, 0xF, 0x10, 0x11, 0x12, 0x13, 0x14, 0x20] := by decide +kernel

/-- Bytes that are all 0 stay so when words of them are taken as 0. -/
theorem zeroWords_zero (l : List Byte) (uc : List Nat) (h : ∀ b ∈ l, b = 0) : (zeroWords l uc).all (fun x => x == 0) = true := by
  rw [List.all_eq_true]
  intro b hb
  obtain ⟨i, hi, rfl⟩ := List.mem_mapIdx.mp hb
  simp only [h _ (List.getElem_mem hi), ite_self, beq_self_eq_true]

/-- The page of stack memory that `s08z` lists holds zeros, and meets the hypotheses of the clause of Obligations.DumpPagesAndDrains about a
page of zeros (clause 2). -/
theorem witness_zero_page :
    (s08z.rst.on = true ∧ s08z.softPending = false ∧ s08z.cou.cur = some 0 ∧ (s08z.slot 0).st = 2 ∧ s08z.pageReady 0 118400 = true
      ∧ s08z.pageTurn 0 118400 = true ∧ pfCensus (s08z.slot 0).profW = false ∧ s08z.pageRoom 0 = true)
    ∧ (let q := s08z.pageOf (s08z.slot 0) 118400; s08z.secure q.1 q.2.1 q.2.2 = false)
    ∧ (s08z.bmuBytes 0 118400 []).all (fun x => x == 0) = true := by
  refine ⟨by decide +kernel, by decide +kernel, zeroWords_zero _ _ ?_⟩
  have hq : s08z.pageOf (s08z.slot 0) 118400 = (0x520, 2, 0x400000) := by decide +kernel
  have hm : s08z.mem = [] := by decide +kernel
  simp only [State.pageRaw, hq, State.stackPage, smRange, hm]
  intro b hb
  obtain ⟨i, -, rfl⟩ := List.mem_map.mp hb
  rfl

/-! ### The hypotheses of the obligations are met -/

/-- Each clause of Obligations.Timekeeping that has hypotheses meets them somewhere (the clauses by number, from 0: 0, 1, 1, 1, 2,
3, 3, 4, 5, 5, 6, 6, 7, 8). -/
theorem witness_Timekeeping :
    (up.rst.on = true ∧ up.rdg.running = true ∧ 999000 ≤ up.now ∧ up.f F.RDG_STAT_HOLDOVER = 0 ∧ 8 ≤ 8 ∧ 8 ≤ 8 ∧ frameOk 1024 (frameOf
     123456789012345) = true ∧ up.rdg.lastE = none ∧ up.f F.RDG_STAT_LOADED = 0) ∧
    ((s03l s03a 3000000).rst.on = true ∧ (s03l s03a 3000000).rdg.running = true ∧ 2999998 ≤ (s03l s03a 3000000).now ∧ (s03l s03a 3000000).f
     F.RDG_STAT_HOLDOVER = 0 ∧ 8 ≤ 8 ∧ 8 ≤ 8 ∧ frameOk 16 (frameOf 3000000) = true ∧ (s03l s03a 3000000).rdg.lastE = some 7 ∧ (s03l s03a
     3000000).f F.RDG_STAT_LOADED = 1 ∧ (s03l s03a 3000000).f F.RDG_STAT_RELOAD_ARMED = 0 ∧ 100007 = 7 + (s03l s03a 3000000).rdg.interval ∧
     bits (frameOf 3000000) 1 64 = (s03l s03a 3000000).rd64 R.RDG_EPOCH_TK_LO + 25 * (s03l s03a 3000000).rdg.interval) ∧
    ((s03l s03b 3000005).rst.on = true ∧ (s03l s03b 3000005).rdg.running = true ∧ 3000002 ≤ (s03l s03b 3000005).now ∧ (s03l s03b 3000005).f
     F.RDG_STAT_HOLDOVER = 0 ∧ 8 ≤ 8 ∧ 8 ≤ 8 ∧ frameOk 16 (frameOf 3000000) = true ∧ (s03l s03b 3000005).rdg.lastE = some 7 ∧ (s03l s03b
     3000005).f F.RDG_STAT_LOADED = 1 ∧ (s03l s03b 3000005).f F.RDG_STAT_RELOAD_ARMED = 0 ∧ 100007 = 7 + (s03l s03b 3000005).rdg.interval ∧
     bits (frameOf 3000000) 1 64 = (s03l s03b 3000005).rd64 R.RDG_EPOCH_TK_LO + 25 * (s03l s03b 3000005).rdg.interval) ∧
    ((s03l s03b 3000005).rst.on = true ∧ (s03l s03b 3000005).rdg.running = true ∧ 3000001 ≤ (s03l s03b 3000005).now ∧ (s03l s03b 3000005).f
     F.RDG_STAT_HOLDOVER = 0 ∧ 8 ≤ 8 ∧ 8 ≤ 8 ∧ frameOk 16 (frameOf 3000000) = true ∧ (s03l s03b 3000005).rdg.lastE = some 7 ∧ (s03l s03b
     3000005).f F.RDG_STAT_LOADED = 1 ∧ (s03l s03b 3000005).f F.RDG_STAT_RELOAD_ARMED = 0 ∧ 100007 = 7 + (s03l s03b 3000005).rdg.interval ∧
     bits (frameOf 3000000) 1 64 = (s03l s03b 3000005).rd64 R.RDG_EPOCH_TK_LO + 25 * (s03l s03b 3000005).rdg.interval) ∧
    ((s03l s03c 3000005).rst.on = true ∧ (s03l s03c 3000005).rdg.running = true ∧ 2999999 ≤ (s03l s03c 3000005).now ∧ (s03l s03c 3000005).f
     F.RDG_STAT_HOLDOVER = 0 ∧ 8 ≤ 8 ∧ 8 ≤ 8 ∧ frameOk 16 (frameOf 3000000) = true ∧ (s03l s03c 3000005).rdg.lastE = some 7 ∧ (s03l s03c
     3000005).f F.RDG_STAT_LOADED = 1 ∧ (s03l s03c 3000005).f F.RDG_STAT_RELOAD_ARMED = 1 ∧ 2999999 < bits (frameOf 3000000) 1 64 ∧ 100007 =
     7 + (s03l s03c 3000005).rdg.interval ∧ bits (frameOf 3000000) 1 64 = (s03l s03c 3000005).rd64 R.RDG_EPOCH_TK_LO + 25 * (s03l s03c
     3000005).rdg.interval) ∧
    (s03c.rst.on = true ∧ s03c.rdg.running = true ∧ 999999 ≤ s03c.now ∧ s03c.f F.RDG_STAT_HOLDOVER = 0 ∧ (7 < 8 ∨ 8 < 8 ∨ frameOk 16
     (frameOf 3000000) = false)) ∧
    (s03c.rst.on = true ∧ s03c.rdg.running = true ∧ 999999 ≤ s03c.now ∧ s03c.f F.RDG_STAT_HOLDOVER = 0 ∧ (8 < 8 ∨ 8 < 8 ∨ frameOk 15
     (frameOf 3000000) = false)) ∧
    (s03d.rst.on = true ∧ s03d.tsyncLate = true) ∧
    ((s03e (1 : Int)).rst.on = true ∧ (s03e (1 : Int)).slewDue = true) ∧
    ((s03e (-2 : Int)).rst.on = true ∧ (s03e (-2 : Int)).slewDue = true) ∧
    (up.rst.on = true ∧ up.rdg.running = true) ∧
    (s03f.rst.on = true ∧ s03f.rdg.running = true) ∧
    (up.rst.on = true ∧ up.rdg.running = true ∧ up.f F.RDG_STAT_HOLDOVER = 0) ∧
    (s03g.rst.on = true ∧ s03g.f F.RDG_STAT_HOLDOVER = 1 ∧ s03g.rdg.refBad + 250000 ≤ s03g.clk) := by
  and_intros <;> decide +kernel

/-- Each clause of Obligations.LeavesAndDomains that has hypotheses meets them somewhere (the clauses by number, from 0: 0, 1, 2,
2, 2, 3, 3, 4, 5, 6, 6). -/
theorem witness_LeavesAndDomains :
    (up.ready Master.host (some rtTime) R.RDG_CTRL = true ∧ bit 10 3 = true ∧ bit 10 2 = false ∧ up.anyAction = false) ∧
    (s03h.ready Master.pass (some rtTime) R.RDG_CTRL = true ∧ bit 4 2 = true ∧ bit 4 3 = false ∧ s03h.f F.RDG_STAT_SWEEP_BUSY = 0 ∧ s03h.f
     F.RDG_STAT_CAL_DONE = 1) ∧
    ((s03i [] on).rst.on = true ∧ 0 < 2 ∧ (s03i [] on).slotDue 0 = true ∧ ((s03i [] on).sweep 0).pos + 1 < (s03i [] on).sweepLen 0) ∧
    ((s03i [3] on).rst.on = true ∧ 0 < 2 ∧ (s03i [3] on).slotDue 0 = true ∧ ((s03i [3] on).sweep 0).pos + 1 < (s03i [3] on).sweepLen 0) ∧
    ((s03i [3] Cairn.off).rst.on = true ∧ 0 < 2 ∧ (s03i [3] Cairn.off).slotDue 0 = true ∧ ((s03i [3] Cairn.off).sweep 0).pos + 1 < (s03i [3]
     Cairn.off).sweepLen 0) ∧
    (s03j.rst.on = true ∧ kindOf 3007 ≠ 0 ∧ (s03j.cairn 3007).powered = true ∧ (s03j.cairn 3007).leafValid = false ∧ s03j.rdg.running = true
     ∧ s03j.reachable 3007 = true ∧ 999995 % 5 = 0 ∧ 999995 ≤ s03j.now) ∧
    (s03j.rst.on = true ∧ kindOf 3007 ≠ 0 ∧ (s03j.cairn 3007).powered = true ∧ (s03j.cairn 3007).leafValid = false ∧ s03j.rdg.running = true
     ∧ s03j.reachable 3007 = true ∧ 0 % 5 = 0 ∧ 0 ≤ s03j.now) ∧
    (up.rst.on = true ∧ (∀ (id : Nat), id ∈ [3007, 3, 1056, 1312] → kindOf id ≠ 0)) ∧
    (s03j.rst.on = true ∧ (∀ (id : Nat), id ∈ [3007, 3] → kindOf id ≠ 0) ∧ s03j.mayPowerDown (s03j.domUnits [3007, 3]) = true) ∧
    ((behind s03k).rst.on = true ∧ kindOf 1056 ≠ 0 ∧ ((behind s03k).cairn 1056).powered = true ∧ ((behind s03k).cairn 1056).leafValid = true
     ∧ (behind s03k).leafOk 1056 999998 = true) ∧
    (s03k.rst.on = true ∧ kindOf 1056 ≠ 0 ∧ (s03k.cairn 1056).powered = true ∧ (s03k.cairn 1056).leafValid = true ∧ s03k.leafOk 1056 999999
     = true) := by
  and_intros <;> decide +kernel

/-- Each clause of Obligations.CutRequests that has hypotheses meets them somewhere (the clauses by number, from 0: 0, 0, 1, 2, 2,
3, 4, 5, 6). -/
theorem witness_CutRequests :
    (up.ready Master.host (some rtHalt) R.SUM_CUT_CMD = true ∧ 0 % 4 = 0 ∧ bit 0 3 = false ∧ (up.cutState = 0 ∨ up.cutState = 3 ∨
     up.cutState = 1 ∧ up.hasJob ActKind.cutStop = false) ∧ up.hasJob ActKind.resume = false ∧ up.schedFull = false) ∧
    (s04a.ready Master.pass (some rtHalt) R.SUM_CUT_CMD = true ∧ 4 % 4 = 0 ∧ bit 4 3 = false ∧ (s04a.cutState = 0 ∨ s04a.cutState = 3 ∨
     s04a.cutState = 1 ∧ s04a.hasJob ActKind.cutStop = false) ∧ s04a.hasJob ActKind.resume = false ∧ s04a.schedFull = false) ∧
    (s04b.ready Master.host (some rtHalt) R.SUM_CUT_CMD = true ∧ 0 % 4 = 0 ∧ bit 0 3 = false ∧ (s04b.cutState = 2 ∨ s04b.cutState = 4 ∨
     s04b.cutState = 1 ∧ s04b.hasJob ActKind.cutStop = true) ∧ s04b.stp.active = false) ∧
    (s04c.ready Master.host (some rtHalt) R.SUM_CUT_CMD = true ∧ 0 % 4 < 2 ∧ bit 0 3 = false ∧ s04c.cutState = 0 ∧ s04c.schedFull = true) ∧
    (s04c.ready Master.host (some rtHalt) R.SUM_CUT_CMD = true ∧ 1 % 4 < 2 ∧ bit 1 3 = false ∧ s04c.cutState = 0 ∧ s04c.schedFull = true) ∧
    (s04d.ready Master.host (some rtHalt) R.SUM_CUT_CMD = true ∧ 1 % 4 = 1 ∧ bit 1 3 = false ∧ s04d.cutState = 0 ∧ s04d.schedFull = false ∧
     s04d.dumpCode (s04d.rd (R.COU_PROF (s04d.f F.COU_CTRL_GLANCE_PROF))) false = couNone ∧ s04d.cou.freeSlot = some 0) ∧
    (s04b.ready Master.host (some rtHalt) R.SUM_CUT_CMD = true ∧ 2 % 4 = 2 ∧ bit 2 3 = false ∧ (s04b.cutState = 2 ∨ s04b.cutState = 4 ∧
     s04b.blockFree = true) ∧ s04b.schedFull = false) ∧
    (up.ready Master.host (some rtHalt) R.SUM_CUT_CMD = true ∧ 2 % 4 = 2 ∧ bit 2 3 = false ∧ (up.cutState = 0 ∨ up.cutState = 3)) ∧
    (s04e.ready Master.host (some rtHalt) R.SUM_CUT_CMD = true ∧ 3 % 4 = 3 ∧ s04e.cut.cap = true ∧ s04e.cut.capAband = false ∧
     (s04e.cutState = 3 ∨ s04e.cutState = 4)) := by
  and_intros <;> decide +kernel

/-- Each clause of Obligations.CutEdges that has hypotheses meets them somewhere (the clauses by number, from 0: 0, 0, 0, 1, 2, 2,
3). -/
theorem witness_CutEdges :
    ((s04f on msg).rst.on = true ∧ kindOf 3 ≠ 0 ∧ ((s04f on msg).cairn 3).powered = true ∧ ((s04f on msg).cairn 3).leafValid = true ∧ (s04f
     on msg).leafOk 3 1000000 = true ∧ ((s04f on msg).cairn 3).rxMsgs.contains 7 = false ∧ smGet none (s04f on msg).sum.msgs 7 = some msg ∧
     (msg.kind = ActKind.cutStop ∨ msg.kind = ActKind.cutGlance ∨ msg.kind = ActKind.resume)) ∧
    ((s04f slow msg1).rst.on = true ∧ kindOf 3 ≠ 0 ∧ ((s04f slow msg1).cairn 3).powered = true ∧ ((s04f slow msg1).cairn 3).leafValid = true
     ∧ (s04f slow msg1).leafOk 3 999999 = true ∧ ((s04f slow msg1).cairn 3).rxMsgs.contains 7 = false ∧ smGet none (s04f slow msg1).sum.msgs
     7 = some msg1 ∧ (msg1.kind = ActKind.cutStop ∨ msg1.kind = ActKind.cutGlance ∨ msg1.kind = ActKind.resume)) ∧
    ((s04f slow msg2).rst.on = true ∧ kindOf 3 ≠ 0 ∧ ((s04f slow msg2).cairn 3).powered = true ∧ ((s04f slow msg2).cairn 3).leafValid = true
     ∧ (s04f slow msg2).leafOk 3 999999 = true ∧ ((s04f slow msg2).cairn 3).rxMsgs.contains 7 = false ∧ smGet none (s04f slow msg2).sum.msgs
     7 = some msg2 ∧ (msg2.kind = ActKind.cutStop ∨ msg2.kind = ActKind.cutGlance ∨ msg2.kind = ActKind.resume)) ∧
    (v04a.rst.on = true ∧ kindOf 3 ≠ 0 ∧ (v04a.cairn 3).rxMsgs.contains 7 = true) ∧
    ((s03l (s04g ActKind.cutStop) 999991).rst.on = true ∧ (s03l (s04g ActKind.cutStop) 999991).domainOk [edgeRep1, edgeRep2] = true ∧
     (List.map (fun r => r.cairn) [edgeRep1, edgeRep2]).Nodup ∧ (∀ (r : EdgeRep), r ∈ [edgeRep1, edgeRep2] → r.leaf < 2 ^ 64) ∧ (s03l (s04g
     ActKind.cutStop) 999991).reachedAct edgeRep1.cairn [ActKind.cutStop, ActKind.cutGlance] edgeRep1.leaf = some pendAct1 ∧ (pendAct1.kind
     = ActKind.cutStop ∨ pendAct1.kind = ActKind.cutGlance)) ∧
    ((s04g ActKind.cutGlance).rst.on = true ∧ (s04g ActKind.cutGlance).domainOk [edgeRep3, edgeRep4] = true ∧ (List.map (fun r => r.cairn)
     [edgeRep3, edgeRep4]).Nodup ∧ (∀ (r : EdgeRep), r ∈ [edgeRep3, edgeRep4] → r.leaf < 2 ^ 64) ∧ (s04g ActKind.cutGlance).reachedAct
     edgeRep3.cairn [ActKind.cutStop, ActKind.cutGlance] edgeRep3.leaf = some pendAct2 ∧ (pendAct2.kind = ActKind.cutStop ∨ pendAct2.kind =
     ActKind.cutGlance)) ∧
    (s04h.rst.on = true ∧ s04h.domainOk [edgeRep3, edgeRep4] = true ∧ (List.map (fun r => r.cairn) [edgeRep3, edgeRep4]).Nodup ∧
     s04h.reachedAct edgeRep3.cairn [ActKind.resume] edgeRep3.leaf = some pendAct3 ∧ pendAct3.kind = ActKind.resume ∧ (∀ (r : EdgeRep), r ∈
     [edgeRep3, edgeRep4] → (s04h.cairn r.cairn).f CF.CUT_STAT_STATE = 2)) := by
  and_intros <;> decide +kernel

/-- Each clause of Obligations.CutReports that has hypotheses meets them somewhere (the clauses by number, from 0: 0, 0, 0, 1, 2,
3). -/
theorem witness_CutReports :
    ((s04i ActKind.cutStop 1 [165] [] true).rst.on = true ∧ 1 < 2 ∧ (s04i ActKind.cutStop 1 [165] [] true).cut.jobs = [job ActKind.cutStop
     [165] [] true] ∧ (job ActKind.cutStop [165] [] true).kind = ActKind.cutStop ∧ (s04i ActKind.cutStop 1 [165] [] true).jobReady (job
     ActKind.cutStop [165] [] true) 1 = true ∧ (s04i ActKind.cutStop 1 [165] [] true).bothIn (job ActKind.cutStop [165] [] true) 1 = true ∧
     (s04i ActKind.cutStop 1 [165] [] true).cut.cap = false) ∧
    ((s04i ActKind.cutStop 1 [] [165] true).rst.on = true ∧ 1 < 2 ∧ (s04i ActKind.cutStop 1 [] [165] true).cut.jobs = [job ActKind.cutStop
     [] [165] true] ∧ (job ActKind.cutStop [] [165] true).kind = ActKind.cutStop ∧ (s04i ActKind.cutStop 1 [] [165] true).jobReady (job
     ActKind.cutStop [] [165] true) 1 = true ∧ (s04i ActKind.cutStop 1 [] [165] true).bothIn (job ActKind.cutStop [] [165] true) 1 = true ∧
     (s04i ActKind.cutStop 1 [] [165] true).cut.cap = false) ∧
    ((lost1 (s04i ActKind.cutStop 1 [165] [] false)).rst.on = true ∧ 0 < 2 ∧ (lost1 (s04i ActKind.cutStop 1 [165] [] false)).cut.jobs = [job
     ActKind.cutStop [165] [] false] ∧ (job ActKind.cutStop [165] [] false).kind = ActKind.cutStop ∧ (lost1 (s04i ActKind.cutStop 1 [165] []
     false)).jobReady (job ActKind.cutStop [165] [] false) 0 = true ∧ (lost1 (s04i ActKind.cutStop 1 [165] [] false)).bothIn (job
     ActKind.cutStop [165] [] false) 0 = true ∧ (lost1 (s04i ActKind.cutStop 1 [165] [] false)).cut.cap = false) ∧
    ((s04i ActKind.cutStop 1 [165] [] false).rst.on = true ∧ 0 < 2 ∧ (s04i ActKind.cutStop 1 [165] [] false).cut.jobs = [job ActKind.cutStop
     [165] [] false] ∧ (job ActKind.cutStop [165] [] false).kind ≠ ActKind.resume ∧ (s04i ActKind.cutStop 1 [165] [] false).jobReady (job
     ActKind.cutStop [165] [] false) 0 = true ∧ (s04i ActKind.cutStop 1 [165] [] false).bothIn (job ActKind.cutStop [165] [] false) 0 =
     false) ∧
    ((s04i ActKind.cutStop 1 [] [] false).rst.on = true ∧ kindOf 165 ≠ 0 ∧ ((s04i ActKind.cutStop 1 [] [] false).cairn 165).powered = true ∧
     (s04i ActKind.cutStop 1 [] [] false).cut.jobs = [job ActKind.cutStop [] [] false] ∧ (job ActKind.cutStop [] [] false).kind ≠
     ActKind.resume ∧ (job ActKind.cutStop [] [] false).issued = true ∧ (job ActKind.cutStop [] [] false).t + 2000 ≤ (s04i ActKind.cutStop 1
     [] [] false).now ∧ (job ActKind.cutStop [] [] false).reported.contains 165 = false ∧ (job ActKind.cutStop [] [] false).missing.contains
     165 = false ∧ (job ActKind.cutStop [] [] false).woken.contains 165 = false) ∧
    ((s04i ActKind.resume 5 [165] [] true).rst.on = true ∧ 1 < 2 ∧ (s04i ActKind.resume 5 [165] [] true).cut.jobs = [job ActKind.resume
     [165] [] true] ∧ (job ActKind.resume [165] [] true).kind = ActKind.resume ∧ (s04i ActKind.resume 5 [165] [] true).jobReady (job
     ActKind.resume [165] [] true) 1 = true ∧ (s04i ActKind.resume 5 [165] [] true).bothIn (job ActKind.resume [165] [] true) 1 = true ∧
     (s04i ActKind.resume 5 [165] [] true).spur 1 ≠ 2 ∧ (s04i ActKind.resume 5 [165] [] true).stp.active = false) := by
  and_intros <;> decide +kernel

/-- Each clause of Obligations.WriteDivert that has hypotheses meets them somewhere (the clauses by number, from 0: 0, 1, 2, 3, 3,
4, 5). -/
theorem witness_WriteDivert :
    (s04j.rst.on = true ∧ kindOf 165 ≠ 0 ∧ (s04j.cairn 165).powered = true ∧ s04j.cut.heldIds.contains 165 = true ∧ s04j.reachable 165 =
     true ∧ s04j.stageRoom (s04j.server (halfOf 165)) (halfOf 165) (s04j.shadowOrds 165).length = true) ∧
    ((s04k []).rst.on = true ∧ kindOf 1312 = 3 ∧ ((s04k []).cairn 1312).powered = true ∧ ((s04k []).cairn 1312).frozen = false ∧
     (17179869186 / 4096 : Nat) = 4194304 ∧ 1312 + (s04k []).chanOf 17179869186 = 1312 ∧ (s04k []).intrudes 1312 17179869186 [(5 : Byte), (0
     : Byte)] = false ∧ (s04k []).cut.pages.contains ((s04k []).writePage 1312 4194304) = false) ∧
    ((s04k []).rst.on = true ∧ kindOf 1888 = 5 ∧ ((s04k []).cairn 1888).powered = true ∧ ((s04k []).cairn 1888).frozen = false ∧ (32766 /
     4096 : Nat) = 7 ∧ (s04k []).cut.pages.contains pageId1 = false) ∧
    ((s04k [pageId2]).rst.on = true ∧ (kindOf 1312 = 3 ∨ kindOf 1312 = 5) ∧ ((s04k [pageId2]).cairn 1312).powered = true ∧ ((s04k
     [pageId2]).cairn 1312).frozen = false ∧ (17179869186 / 4096 : Nat) = 4194304 ∧ (kindOf 1312 = 3 → 1312 + (s04k [pageId2]).chanOf
     17179869186 = 1312) ∧ (s04k [pageId2]).intrudes 1312 17179869186 [(5 : Byte), (0 : Byte)] = false ∧ (s04k [pageId2]).cut.pages.contains
     ((s04k [pageId2]).writePage 1312 4194304) = true ∧ (s04k [pageId2]).blockFree = true) ∧
    ((s04k [pageId3]).rst.on = true ∧ (kindOf 1888 = 3 ∨ kindOf 1888 = 5) ∧ ((s04k [pageId3]).cairn 1888).powered = true ∧ ((s04k
     [pageId3]).cairn 1888).frozen = false ∧ (12288 / 4096 : Nat) = 3 ∧ (kindOf 1888 = 3 → 1312 + (s04k [pageId3]).chanOf 12288 = 1888) ∧
     (s04k [pageId3]).intrudes 1888 12288 [(5 : Byte), (0 : Byte)] = false ∧ (s04k [pageId3]).cut.pages.contains ((s04k [pageId3]).writePage
     1888 3) = true ∧ (s04k [pageId3]).blockFree = true) ∧
    ((s04k []).rst.on = true ∧ kindOf 1312 = 3 ∧ ((s04k []).cairn 1312).powered = true ∧ ((s04k []).cairn 1312).frozen = false ∧ (2 / 4096 :
     Nat) = 0 ∧ 1312 + (s04k []).chanOf 2 = 1312 ∧ (s04k []).intrudes 1312 2 [(5 : Byte), (0 : Byte)] = true) ∧
    (s04l.rst.on = true ∧ (kindOf 1888 = 3 ∨ kindOf 1888 = 5) ∧ (s04l.cairn 1888).powered = true ∧ s04l.cut.pages.contains pageId3 = true ∧
     s04l.pageCopied pageId3 = true) := by
  and_intros <;> decide +kernel

/-- Each clause of Obligations.CutsAcrossDevices that has hypotheses meets them somewhere (the clauses by number, from 0: 0, 0, 1,
2, 3, 4, 5, 6, 7, 8, 9, 10, 10, 11, 12). -/
theorem witness_CutsAcrossDevices :
    (up.ready Master.host (some rtHalt) R.SUM_CUT_CMD = true ∧ 8 % 4 < 3 ∧ bit 8 3 = true ∧ (up.f F.RDG_STAT_ALIGNED = 0 ∨ up.isLead = false
     ∧ up.f F.SUM_DEV_ID_VALID = 0)) ∧
    (s04o.ready Master.pass (some rtHalt) R.SUM_CUT_CMD = true ∧ 10 % 4 < 3 ∧ bit 10 3 = true ∧ (s04o.f F.RDG_STAT_ALIGNED = 0 ∨ s04o.isLead
     = false ∧ s04o.f F.SUM_DEV_ID_VALID = 0)) ∧
    (s04n.ready Master.host (some rtHalt) R.SUM_CUT_CMD = true ∧ 8 % 4 = 0 ∧ bit 8 3 = true ∧ s04n.f F.RDG_STAT_ALIGNED = 1 ∧ s04n.isLead =
     true ∧ s04n.f F.SUM_DEV_ID_VALID = 1 ∧ s04n.cutState = 0 ∧ s04n.hasJob ActKind.resume = false ∧ s04n.schedFull = false ∧
     s04n.stp.active = false) ∧
    (s04q.ready Master.host (some rtHalt) R.SUM_CUT_CMD = true ∧ 9 % 4 = 1 ∧ bit 9 3 = true ∧ s04q.f F.RDG_STAT_ALIGNED = 1 ∧ s04q.isLead =
     true ∧ s04q.f F.SUM_DEV_ID_VALID = 1 ∧ s04q.cutState = 0 ∧ s04q.schedFull = false ∧ s04q.dumpCode (s04q.rd (R.COU_PROF (s04q.f
     F.COU_CTRL_GLANCE_PROF))) false = couNone ∧ s04q.cou.freeSlot = some 0) ∧
    (s04r.ready Master.host (some rtHalt) R.SUM_CUT_CMD = true ∧ 10 % 4 = 2 ∧ bit 10 3 = true ∧ s04r.f F.RDG_STAT_ALIGNED = 1 ∧ s04r.isLead
     = true ∧ s04r.f F.SUM_DEV_ID_VALID = 1 ∧ (s04r.cutState = 2 ∨ s04r.cutState = 4 ∧ s04r.blockFree = true) ∧ s04r.schedFull = false) ∧
    (s04s.ready Master.host (some rtHalt) R.SUM_CUT_CMD = true ∧ 8 % 4 < 3 ∧ bit 8 3 = true ∧ s04s.f F.RDG_STAT_ALIGNED = 1 ∧ s04s.isLead =
     true ∧ s04s.f F.SUM_DEV_ID_VALID = 0) ∧
    (s04t.ready Master.host (some rtHalt) R.SUM_CUT_CMD = true ∧ 9 % 4 < 3 ∧ bit 9 3 = true ∧ s04t.f F.RDG_STAT_ALIGNED = 1 ∧ s04t.isLead =
     false ∧ s04t.f F.SUM_DEV_ID_VALID = 1) ∧
    (up.rst.on = true ∧ up.isLead = false ∧ 1 < 2 ∧ up.f F.RDG_STAT_ALIGNED = 0) ∧
    (s04o.rst.on = true ∧ s04o.isLead = false ∧ 0 < 2 ∧ s04o.f F.RDG_STAT_ALIGNED = 1 ∧ 1000099 < s04o.now + 100) ∧
    (s04o.rst.on = true ∧ s04o.isLead = false ∧ s04o.f F.RDG_STAT_ALIGNED = 1 ∧ s04o.now + 100 ≤ 1000100 ∧ 1000100 < 2 ^ 64 ∧ s04o.cutState
     = 0 ∧ s04o.hasJob ActKind.resume = false ∧ s04o.schedFull = false ∧ s04o.stp.active = false) ∧
    (s04u.rst.on = true ∧ s04u.isLead = false ∧ s04u.f F.RDG_STAT_ALIGNED = 1 ∧ s04u.now + 100 ≤ 1000100 ∧ 1000100 < 2 ^ 64 ∧ s04u.cutState
     = 0 ∧ s04u.schedFull = false ∧ s04u.dumpCode (s04u.rd (R.COU_PROF (s04u.f F.COU_CTRL_GLANCE_PROF))) false = couNone ∧ s04u.cou.freeSlot
     = some 0) ∧
    (s04v.rst.on = true ∧ s04v.isLead = false ∧ (s04v.cut.xRefused = true ∨ s04v.f F.RDG_STAT_ALIGNED = 1 ∧ s04v.cutState = 2 ∧
     s04v.schedFull = false ∧ 5 < 2 ^ 64)) ∧
    (s04w.rst.on = true ∧ s04w.isLead = false ∧ (s04w.cut.xRefused = true ∨ s04w.f F.RDG_STAT_ALIGNED = 1 ∧ s04w.cutState = 2 ∧
     s04w.schedFull = false ∧ 5 < 2 ^ 64)) ∧
    (s04n.rst.on = true ∧ s04n.isLead = true ∧ s04n.f F.RDG_STAT_ALIGNED = 1 ∧ s04n.f F.SUM_DEV_ID_VALID = 1 ∧ s04n.cutState = 0 ∧
     s04n.hasJob ActKind.resume = false ∧ s04n.schedFull = false ∧ s04n.stp.active = false) ∧
    (s04p.rst.on = true ∧ s04p.cut.xWait.contains 5 = true) := by
  and_intros <;> decide +kernel

/-- Each clause of Obligations.ReportsTravelToTheArbiter that has hypotheses meets them somewhere (the clauses by number, from 0:
0, 1, 1, 1, 2, 2, 2). -/
theorem witness_ReportsTravelToTheArbiter :
    (s01a.rst.on = true ∧ kindOf 165 ≠ 0 ∧ (s01a.cairn 165).powered = true ∧ (s01a.cairn 165).leafValid = true ∧ s01a.reachable 165 = true ∧
     s01a.wait (s01a.server (halfOf 165)) = [] ∧ (s01a.fifo (s01a.server (halfOf 165))).length < 64 ∧ (∀ (e : Ev), e ∈ s01a.fifo (1 -
     s01a.server (halfOf 165)) ++ s01a.wait (1 - s01a.server (halfOf 165)) → e.src ≠ 165) ∧ (s01a.cairn 165).queue = [rep EvName.own true
     false] ++ [rep EvName.ctx false false] ∧ (∀ (p : QEnt), p ∈ [rep EvName.own true false] → p.sent = true) ∧ (rep EvName.ctx false
     false).sent = false) ∧
    (s01b.rst.on = true ∧ kindOf 1056 ≠ 0 ∧ (s01b.cairn 1056).powered = true ∧ (s01b.cairn 1056).queue.length < 8 ∧ s01b.leafShows 1056 1000000 = true ∧ match UnitEvent.own 0 70000 true with | UnitEvent.own c _ _ => s01b.scopeOk c 1056 = true | UnitEvent.ctx c _ _ => s01b.scopeOk c 1056 = true | _ => True) ∧
    ((behind s01b).rst.on = true ∧ kindOf 1056 ≠ 0 ∧ ((behind s01b).cairn 1056).powered = true ∧ ((behind s01b).cairn 1056).queue.length < 8 ∧ (behind s01b).leafShows 1056 999999 = true ∧ match UnitEvent.ctx 0 70000 true with | UnitEvent.own c _ _ => (behind s01b).scopeOk c 1056 = true | UnitEvent.ctx c _ _ => (behind s01b).scopeOk c 1056 = true | _ => True) ∧
    (s01b.rst.on = true ∧ kindOf 1056 ≠ 0 ∧ (s01b.cairn 1056).powered = true ∧ (s01b.cairn 1056).queue.length < 8 ∧ s01b.leafShows 1056 1000000 = true ∧ match UnitEvent.lowPower with | UnitEvent.own c _ _ => s01b.scopeOk c 1056 = true | UnitEvent.ctx c _ _ => s01b.scopeOk c 1056 = true | _ => True) ∧
    (s01c.rst.on = true ∧ kindOf 165 ≠ 0 ∧ (s01c.cairn 165).powered = true ∧ s01c.reachable 165 = true ∧ (s01c.cairn 165).queue = [rep
     EvName.own true false] ++ [rep EvName.ctx true true] ∧ (∀ (p : QEnt), p ∈ [rep EvName.own true false] → p.numbered = false) ∧ (rep
     EvName.ctx true true).numbered = true) ∧
    (s01d.rst.on = true ∧ kindOf 165 ≠ 0 ∧ (s01d.cairn 165).powered = true ∧ s01d.reachable 165 = true ∧ (s01d.cairn 165).queue = [] ++ [rep
     EvName.own true true] ∧ (∀ (p : QEnt), p ∈ [] → p.numbered = false) ∧ (rep EvName.own true true).numbered = true) ∧
    (s01e.rst.on = true ∧ kindOf 165 ≠ 0 ∧ (s01e.cairn 165).powered = true ∧ s01e.reachable 165 = true ∧ (s01e.cairn 165).queue = [] ++ [rep
     EvName.own true true] ∧ (∀ (p : QEnt), p ∈ [] → p.numbered = false) ∧ (rep EvName.own true true).numbered = true) := by
  and_intros <;> decide +kernel

/-- Each clause of Obligations.SpursAndCol that has hypotheses meets them somewhere (the clauses by number, from 0: 0, 1, 2, 2, 2,
3, 4, 5, 5). -/
theorem witness_SpursAndCol :
    (s01h.rst.on = true ∧ 1 < 2 ∧ s01h.spur 0 ≠ 2 ∧ s01h.spur 1 ≠ 2 ∧ (if 1 = 0 then s01h.sum.mirPend0 else s01h.sum.mirPend1) = [5, 6]) ∧
    (s01i.rst.on = true ∧ 0 < 2 ∧ s01i.spur 0 ≠ 2) ∧
    (up.rst.on = true ∧ 0 < 2 ∧ up.spur 0 ≠ 2 ∧ up.enumerated = true ∧ (true = true ∨ (if 0 = 0 then up.sum.live0 else up.sum.live1) + 1024
     ≤ up.clk)) ∧
    (s01i.rst.on = true ∧ 0 < 2 ∧ s01i.spur 0 ≠ 2 ∧ s01i.enumerated = true ∧ (false = true ∨ (if 0 = 0 then s01i.sum.live0 else
     s01i.sum.live1) + 1024 ≤ s01i.clk)) ∧
    (s01j.rst.on = true ∧ 0 < 2 ∧ s01j.spur 0 ≠ 2 ∧ s01j.enumerated = true ∧ (true = true ∨ (if 0 = 0 then s01j.sum.live0 else
     s01j.sum.live1) + 1024 ≤ s01j.clk)) ∧
    (s01k.rst.on = true ∧ 0 < 2 ∧ s01k.sum.takeover = some 0 ∧ s01k.spur 0 ≠ 2 ∧ s01k.sum.lostNum = true ∧ s01k.sum.lostT + 176 ≤ s01k.clk) ∧
    (s01l.ready Master.host (some rtFaultInject) R.SUM_TOPO_CTRL = true ∧ 1 < 2 ∧ s01l.lcs = 2 ∧ bit 2 1 = true ∧ s01l.spur 1 ≠ 2) ∧
    (up.rst.on = true ∧ 2 < 3) ∧
    (s01m.rst.on = true ∧ 2 < 3) := by
  and_intros <;> decide +kernel

/-- Each clause of Obligations.ArbiterNumbersOneHead that has hypotheses meets them somewhere (the clauses by number, from 0: 0,
0). -/
theorem witness_ArbiterNumbersOneHead :
    (s01f.rst.on = true ∧ s01f.heads ≠ []) ∧
    (s01g.rst.on = true ∧ s01g.heads ≠ []) := by
  and_intros <;> decide +kernel

/-- Each clause of Obligations.RegisterReadsAndWrites that has hypotheses meets them somewhere (the clauses by number, from 0: 0,
0, 0, 1, 1, 2, 3, 4, 5, 5, 6). -/
theorem witness_RegisterReadsAndWrites :
    (up.ready Master.pass (hubWrite (Agent.mst Master.pass) R.SUM_RST_CMD) R.SUM_RST_CMD = true ∧ R.SUM_RST_CMD % 4 = 0 ∧ R.SUM_RST_CMD < 2
     ^ 20 ∧ 1369767937 < 2 ^ 32 ∧ apAddr R.SUM_RST_CMD = false ∧ pageThere (R.SUM_RST_CMD / 4096) = true ∧ deniedWrite (Agent.mst
     Master.pass) R.SUM_RST_CMD 1369767937 = false) ∧
    (up.ready Master.host (hubWrite (Agent.mst Master.host) R.SUM_CUT_CMD) R.SUM_CUT_CMD = true ∧ R.SUM_CUT_CMD % 4 = 0 ∧ R.SUM_CUT_CMD < 2
     ^ 20 ∧ 0 < 2 ^ 32 ∧ apAddr R.SUM_CUT_CMD = false ∧ pageThere (R.SUM_CUT_CMD / 4096) = true ∧ deniedWrite (Agent.mst Master.host)
     R.SUM_CUT_CMD 0 = false) ∧
    (up.ready Master.host (hubWrite (Agent.mst Master.host) R.SCR_REQ_T_LO) R.SCR_REQ_T_LO = true ∧ R.SCR_REQ_T_LO % 4 = 0 ∧ R.SCR_REQ_T_LO
     < 2 ^ 20 ∧ 0 < 2 ^ 32 ∧ apAddr R.SCR_REQ_T_LO = false ∧ pageThere (R.SCR_REQ_T_LO / 4096) = true ∧ deniedWrite (Agent.mst Master.host)
     R.SCR_REQ_T_LO 0 = false) ∧
    (R.CWIN_SEL2 ∈ [R.SUM_DEV_ID, R.SUM_CWIN_TMO, R.CWIN_SEL0, R.CWIN_SEL2, R.RDG_EPOCH_INT, R.SCR_FLOW_EN 0, R.SCR_FLOW_EN 7,
     R.FLT_FENCE_SEL, R.WCH_LAG_SEL, R.PASS_KA_TMO] ∧ hubRow R.CWIN_SEL2 = some regRow1 ∧ up.ready Master.host (hubWrite (Agent.mst
     Master.host) R.CWIN_SEL2) R.CWIN_SEL2 = true ∧ 4294967295 < 2 ^ 32) ∧
    (R.SUM_DEV_ID ∈ [R.SUM_DEV_ID, R.SUM_CWIN_TMO, R.CWIN_SEL0, R.CWIN_SEL2, R.RDG_EPOCH_INT, R.SCR_FLOW_EN 0, R.SCR_FLOW_EN 7,
     R.FLT_FENCE_SEL, R.WCH_LAG_SEL, R.PASS_KA_TMO] ∧ hubRow R.SUM_DEV_ID = some regRow2 ∧ up.ready Master.pass (hubWrite (Agent.mst
     Master.pass) R.SUM_DEV_ID) R.SUM_DEV_ID = true ∧ 4294967295 < 2 ^ 32) ∧
    (s02d.ready Master.host none R.SUM_CUT_CMD = true ∧ R.SUM_CUT_CMD % 4 = 0 ∧ R.SUM_CUT_CMD < 2 ^ 20 ∧ apAddr R.SUM_CUT_CMD = false ∧
     pageThere (R.SUM_CUT_CMD / 4096) = true ∧ s02d.may (Agent.mst Master.host) (hubWrite (Agent.mst Master.host) R.SUM_CUT_CMD) = false ∧ 5
     < 2 ^ 32) ∧
    (up.ready Master.host (some rtHalt) R.SUM_CUT_REQ_T_LO = true ∧ 18446744073709551615 < 2 ^ 64) ∧
    (up.ready Master.pass (some rtHalt) R.SUM_CUT_REQ_T_LO = true ∧ 1 < 2 ^ 32 ∧ 4294967295 < 2 ^ 32) ∧
    (up.ready Master.pass (hubRead R.SUM_TOPO_STAT) R.SUM_TOPO_STAT = true ∧ hubRow R.SUM_TOPO_STAT = some regRow3 ∧ (regRow3.acc = Acc.ro ∨
     regRow3.acc = Acc.rw) ∧ R.SUM_TOPO_STAT % 4096 ≥ 64 ∧ R.SUM_TOPO_STAT % 4 = 0 ∧ R.SUM_TOPO_STAT < 2 ^ 20 ∧ apAddr R.SUM_TOPO_STAT =
     false ∧ pageThere (R.SUM_TOPO_STAT / 4096) = true ∧ up.shown (Agent.mst Master.pass) R.SUM_TOPO_STAT = none ∧ up.shownTo Master.pass
     R.SUM_TOPO_STAT = none ∧ (R.SUM_TOPO_STAT < 12288 ∨ 28672 ≤ R.SUM_TOPO_STAT ∨ R.SUM_TOPO_STAT % 4096 ≠ 260) ∧ R.SUM_TOPO_STAT ≠
     R.AUTH_BUF_DATA ∧ (up.mst Master.pass).capHi = none) ∧
    (s02j.ready Master.pass (hubRead 73796) 73796 = true ∧ hubRow 73796 = some regRow4 ∧ (regRow4.acc = Acc.ro ∨ regRow4.acc = Acc.rw) ∧
     73796 % 4096 ≥ 64 ∧ 73796 % 4 = 0 ∧ 73796 < 2 ^ 20 ∧ apAddr 73796 = false ∧ pageThere (73796 / 4096 : Nat) = true ∧ s02j.shown
     (Agent.mst Master.pass) 73796 = none ∧ s02j.shownTo Master.pass 73796 = none ∧ (73796 < 12288 ∨ 28672 ≤ 73796 ∨ 73796 % 4096 ≠ 260) ∧
     73796 ≠ R.AUTH_BUF_DATA ∧ (s02j.mst Master.pass).capHi = none) ∧
    (s02f.ready Master.host (hubRead R.RDG_TSYNC_BAD) R.RDG_TSYNC_BAD = true ∧ hubRow R.RDG_TSYNC_BAD = some regRow5 ∧ regRow5.acc = Acc.rc
     ∧ R.RDG_TSYNC_BAD % 4096 ≥ 64 ∧ R.RDG_TSYNC_BAD % 4 = 0 ∧ R.RDG_TSYNC_BAD < 2 ^ 20 ∧ apAddr R.RDG_TSYNC_BAD = false ∧ pageThere
     (R.RDG_TSYNC_BAD / 4096) = true ∧ s02f.shown (Agent.mst Master.host) R.RDG_TSYNC_BAD = none ∧ s02f.shownTo Master.host R.RDG_TSYNC_BAD
     = none ∧ (R.RDG_TSYNC_BAD < 12288 ∨ 28672 ≤ R.RDG_TSYNC_BAD ∨ R.RDG_TSYNC_BAD % 4096 ≠ 260) ∧ (s02f.mst Master.host).capHi = none) := by
  and_intros <;> decide +kernel

/-- Each clause of Obligations.ReservedPages that has hypotheses meets them somewhere (the clauses by number, from 0: 0, 0, 0). -/
theorem witness_ReservedPages :
    ((7 = 7 ∨ 21 ≤ 7 ∧ 7 ≤ 31 ∨ 33 ≤ 7 ∧ 7 ≤ 255) ∧ 0 < 4096 ∧ 0 % 4 = 0 ∧ up.rst.on = true ∧ up.inReset = false ∧ up.nextGrant = none ∧
     up.apsOf Master.host = [] ∧ (up.sum.held.any fun y => y.master == Master.host) = false) ∧
    ((255 = 7 ∨ 21 ≤ 255 ∧ 255 ≤ 31 ∨ 33 ≤ 255 ∧ 255 ≤ 255) ∧ 4092 < 4096 ∧ 4092 % 4 = 0 ∧ up.rst.on = true ∧ up.inReset = false ∧
     up.nextGrant = none ∧ up.apsOf Master.pass = [] ∧ (up.sum.held.any fun y => y.master == Master.pass) = false) ∧
    ((33 = 7 ∨ 21 ≤ 33 ∧ 33 ≤ 31 ∨ 33 ≤ 33 ∧ 33 ≤ 255) ∧ 0 < 4096 ∧ 0 % 4 = 0 ∧ s02a.rst.on = true ∧ s02a.inReset = false ∧ s02a.nextGrant =
     none ∧ s02a.apsOf Master.host = [] ∧ (s02a.sum.held.any fun y => y.master == Master.host) = false) := by
  and_intros <;> decide +kernel

/-- Each clause of Obligations.AccessWidthsAndPairs that has hypotheses meets them somewhere (the clauses by number, from 0: 4, 0,
0, 0, 1, 2, 2, 3). -/
theorem witness_AccessWidthsAndPairs :
    ((up.ready Master.host (some rtObserve) R.RDG_NOW_LO = true ∨ up.ready Master.host none R.RDG_NOW_LO = true) ∧ (up.mst
     Master.host).capHi = none ∧ up.ready Master.host none R.RDG_NOW_HI = true) ∧
    (up.ready Master.pass none 136 = true ∧ 136 < 2 ^ 20 ∧ (8 ≠ 4 ∨ 136 % 4 ≠ 0) ∧ (Master.pass = Master.pass ∨ 8 ≠ 8 ∨ 136 % 8 ≠ 0) ∧
     apAddr 136 = false) ∧
    (up.ready Master.host none 140 = true ∧ 140 < 2 ^ 20 ∧ (8 ≠ 4 ∨ 140 % 4 ≠ 0) ∧ (Master.host = Master.pass ∨ 8 ≠ 8 ∨ 140 % 8 ≠ 0) ∧
     apAddr 140 = false) ∧
    (up.ready Master.host none 1048573 = true ∧ 1048573 < 2 ^ 20 ∧ (4 ≠ 4 ∨ 1048573 % 4 ≠ 0) ∧ (Master.host = Master.pass ∨ 4 ≠ 8 ∨ 1048573
     % 8 ≠ 0) ∧ apAddr 1048573 = false) ∧
    (up.ready Master.host none 132098 = true ∧ 132098 < 2 ^ 20 ∧ (4 ≠ 4 ∨ 132098 % 4 ≠ 0) ∧ (Master.host = Master.pass ∨ 4 ≠ 8 ∨ 132098 % 8
     ≠ 0) ∧ apAddr 132098 = true) ∧
    (R.SUM_CUT_REQ_T_LO ∈ [R.SUM_CUT_REQ_T_LO, R.CWIN_SEL0, R.SCR_FLOW_EN 0, R.SCR_FLOW_EN 6] ∧ 18446744073709551615 < 2 ^ 64 ∧ up.ready
     Master.host (hubWrite (Agent.mst Master.host) R.SUM_CUT_REQ_T_LO) R.SUM_CUT_REQ_T_LO = true ∧ up.ready Master.host (hubWrite (Agent.mst
     Master.host) (R.SUM_CUT_REQ_T_LO + 4)) (R.SUM_CUT_REQ_T_LO + 4) = true) ∧
    (R.CWIN_SEL0 ∈ [R.SUM_CUT_REQ_T_LO, R.CWIN_SEL0, R.SCR_FLOW_EN 0, R.SCR_FLOW_EN 6] ∧ 20014547602108 < 2 ^ 64 ∧ up.ready Master.host
     (hubWrite (Agent.mst Master.host) R.CWIN_SEL0) R.CWIN_SEL0 = true ∧ up.ready Master.host (hubWrite (Agent.mst Master.host) (R.CWIN_SEL0
     + 4)) (R.CWIN_SEL0 + 4) = true) ∧
    (R.RDG_NOW_LO ∈ [R.RDG_NOW_LO, R.SUM_CUT_T_LO, R.CWIN_SEL0, R.SUM_TOPO_CTRL] ∧ up.ready Master.host (hubRead R.RDG_NOW_LO) R.RDG_NOW_LO
     = true) := by
  and_intros <;> decide +kernel

/-- Each clause of Obligations.ApertureAccesses that has hypotheses meets them somewhere (the clauses by number, from 0: 0, 1, 1,
2, 2, 3). -/
theorem witness_ApertureAccesses :
    (1 < 3 ∧ 1020 % 4 = 0 ∧ 1020 < 1024 ∧ 9 < 2 ^ 32 ∧ (s02c 3007 4294967295).ready Master.host none (132096 + 1024 * 1 + 1020) = true ∧
     (s02c 3007 4294967295).rd (bk Master.host (R.CWIN_SEL0 + 4 * 1)) % 4096 < 3008 ∧ (s02c 3007 4294967295).may (Agent.mst Master.host) (if
     true = true then (s02c 3007 4294967295).crnWrite 1020 else crnRead 1020) = true) ∧
    (1 < 3 ∧ 1020 % 4 = 0 ∧ 1020 < 1024 ∧ 9 < 2 ^ 32 ∧ (s02c 3008 4294967295).ready Master.host none (132096 + 1024 * 1 + 1020) = true ∧
     (3008 ≤ (s02c 3008 4294967295).rd (bk Master.host (R.CWIN_SEL0 + 4 * 1)) % 4096 ∨ (s02c 3008 4294967295).may (Agent.mst Master.host)
     (if true = true then (s02c 3008 4294967295).crnWrite 1020 else crnRead 1020) = false)) ∧
    (1 < 3 ∧ 1020 % 4 = 0 ∧ 1020 < 1024 ∧ 9 < 2 ^ 32 ∧ (s02c 3007 0).ready Master.host none (132096 + 1024 * 1 + 1020) = true ∧ (3008 ≤
     (s02c 3007 0).rd (bk Master.host (R.CWIN_SEL0 + 4 * 1)) % 4096 ∨ (s02c 3007 0).may (Agent.mst Master.host) (if false = true then (s02c
     3007 0).crnWrite 1020 else crnRead 1020) = false)) ∧
    (s02g.rst.on = true ∧ s02g.apsOf Master.host = [apAcc1] ∧ apAcc1.master = Master.host ∧ s02g.reachable apAcc1.cairn = true ∧ s02g.clk <
     apAcc1.t0 + s02g.cwinTmo ∧ s02g.nextAt apAcc1.cairn apAcc1.no = true ∧ s02g.pass.accWait = false ∧ s02g.pass.reqs = [] ∧
     (s02g.sum.held.any fun y => y.master == Master.host) = false ∧ (s02g.mst Master.host).capHi = none) ∧
    (s02h.rst.on = true ∧ s02h.apsOf Master.host = [apAcc2] ∧ apAcc2.master = Master.host ∧ s02h.reachable apAcc2.cairn = true ∧ s02h.clk <
     apAcc2.t0 + s02h.cwinTmo ∧ s02h.nextAt apAcc2.cairn apAcc2.no = true ∧ s02h.pass.accWait = false ∧ s02h.pass.reqs = [] ∧
     (s02h.sum.held.any fun y => y.master == Master.host) = false ∧ (s02h.mst Master.host).capHi = none) ∧
    (s02i.rst.on = true ∧ s02i.apsOf Master.host = [apAcc2] ∧ apAcc2.master = Master.host ∧ apAcc2.t0 + s02i.cwinTmo ≤ s02i.clk ∧
     s02i.pass.accWait = false ∧ s02i.pass.reqs = [] ∧ s02i.sum.held = []) := by
  and_intros <;> decide +kernel

/-- Each clause of Obligations.ExclusiveSession that has hypotheses meets them somewhere (the clauses by number, from 0: 0, 1, 2,
3). -/
theorem witness_ExclusiveSession :
    (s02a.ready Master.pass (some rtExclusive) R.SUM_EXCL = true ∧ bit 6553602 1 = true ∧ bit 6553602 2 = false) ∧
    (s02a.ready Master.pass (some rtExclusive) R.SUM_EXCL = true ∧ bit 6553604 1 = false ∧ bit 6553604 2 = true ∧ s02a.excl = true) ∧
    (s02a.rst.on = true ∧ s02a.inReset = false ∧ s02a.nextGrant = none ∧ s02a.apsOf Master.host = [] ∧ (s02a.sum.held.any fun y => y.master
     == Master.host) = false ∧ (∀ (h : Nat × Nat), s02a.sum.hostM.heldLo = some h → h.fst + 4 ≠ R.SUM_EXCL) ∧ bit 8 1 = false ∧ bit 8 2 =
     false ∧ bit 8 3 = true) ∧
    (s02e.rst.on = true ∧ s02e.excl = true ∧ s02e.sum.lastPass + max (s02e.f F.SUM_EXCL_LEASE_MS) 1 * 2500000 ≤ s02e.clk) := by
  and_intros <;> decide +kernel

/-- Each clause of Obligations.Steps that has hypotheses meets them somewhere (the clauses by number, from 0: 0, 0, 1, 1, 1, 2, 2,
3, 4, 5, 6, 6, 7, 8, 8, 9, 9, 10, 11, 12, 12). -/
theorem witness_Steps :
    (s05a.ready Master.host (some rtHalt) R.SUM_STEP_CMD = true ∧ bit 5 0 = true ∧ s05a.f F.SUM_STEP_STAT_STATE = 0 ∧ s05a.cutState = 2 ∧
     s05a.schedFull = false) ∧
    (s05a.ready Master.pass (some rtHalt) R.SUM_STEP_CMD = true ∧ bit 3 0 = true ∧ s05a.f F.SUM_STEP_STAT_STATE = 0 ∧ s05a.cutState = 2 ∧
     s05a.schedFull = false) ∧
    (s05b.ready Master.host (some rtHalt) R.SUM_STEP_CMD = true ∧ bit 1 0 = true ∧ (s05b.f F.SUM_STEP_STAT_STATE ≠ 0 ∨ s05b.cutState ≠ 2 ∨
     s05b.schedFull = true)) ∧
    (up.ready Master.host (some rtHalt) R.SUM_STEP_CMD = true ∧ bit 1 0 = true ∧ (up.f F.SUM_STEP_STAT_STATE ≠ 0 ∨ up.cutState ≠ 2 ∨
     up.schedFull = true)) ∧
    (s05c.ready Master.host (some rtHalt) R.SUM_STEP_CMD = true ∧ bit 1 0 = true ∧ (s05c.f F.SUM_STEP_STAT_STATE ≠ 0 ∨ s05c.cutState ≠ 2 ∨
     s05c.schedFull = true)) ∧
    ((s05d on).rst.on = true ∧ kindOf 1061 ≠ 0 ∧ ((s05d on).cairn 1061).powered = true ∧ ((s05d on).cairn 1061).leafValid = true ∧ (s05d
     on).leafOk 1061 1000000 = true ∧ ((s05d on).cairn 1061).rxMsgs.contains 7 = false ∧ smGet none (s05d on).sum.msgs 7 = some smsg ∧
     smsg.kind = ActKind.stepRelease ∧ (s05d on).stp.active = true ∧ smsg.arg = (s05d on).stepNo ∧ 1000000 ≤ smsg.t) ∧
    ((s05d (on.setF CF.STEP_CTRL_MODE 2)).rst.on = true ∧ kindOf 1061 ≠ 0 ∧ ((s05d (on.setF CF.STEP_CTRL_MODE 2)).cairn 1061).powered = true
     ∧ ((s05d (on.setF CF.STEP_CTRL_MODE 2)).cairn 1061).leafValid = true ∧ (s05d (on.setF CF.STEP_CTRL_MODE 2)).leafOk 1061 1000000 = true
     ∧ ((s05d (on.setF CF.STEP_CTRL_MODE 2)).cairn 1061).rxMsgs.contains 7 = false ∧ smGet none (s05d (on.setF CF.STEP_CTRL_MODE
     2)).sum.msgs 7 = some smsg ∧ smsg.kind = ActKind.stepRelease ∧ (s05d (on.setF CF.STEP_CTRL_MODE 2)).stp.active = true ∧ smsg.arg =
     (s05d (on.setF CF.STEP_CTRL_MODE 2)).stepNo ∧ 1000000 ≤ smsg.t) ∧
    (kindOf 1061 ≠ 1 ∧ (up.cairn 1061).f CF.STEP_CTRL_MODE = 0 ∧ bits (up.rd R.SUM_STEP_DFLT) (2 * (kindOf 1061 - 1)) 2 ≠ 3 ∧
     up.cut.noAck.contains 1061 = false) ∧
    (kindOf 1061 = 2 ∧ ((s05d (on.setF CF.STEP_CTRL_MODE 2)).cairn 1061).f CF.STEP_CTRL_MODE = 2 ∧ ((s05d (on.setF CF.STEP_CTRL_MODE
     2)).cairn 1061).fencedHere = false ∧ (s05d (on.setF CF.STEP_CTRL_MODE 2)).cut.noAck.contains 1061 = false) ∧
    (s05e.rst.on = true ∧ s05e.stp.active = true ∧ s05e.stp.closeWait = true ∧ s05e.schedFull = false) ∧
    ((behind (s05f 1 frz5 (su 2 3 0 false))).rst.on = true ∧ (behind (s05f 1 frz5 (su 2 3 0 false))).domainOk [edgeRep5] = true ∧ (behind
     (s05f 1 frz5 (su 2 3 0 false))).stp.active = true ∧ (behind (s05f 1 frz5 (su 2 3 0 false))).stp.tS ≤ edgeRep5.leaf ∧ (behind (s05f 1
     frz5 (su 2 3 0 false))).stepUnit edgeRep5.cairn = some (su 2 3 0 false) ∧ (su 2 3 0 false).released = false ∧ (su 2 3 0 false).ended =
     false ∧ (behind (s05f 1 frz5 (su 2 3 0 false))).stepNext edgeRep5.cairn edgeRep5.leaf = true ∧ (behind (s05f 1 frz5 (su 2 3 0
     false))).cut.held = []) ∧
    ((s05f 1 frz5 (su 1 0 0 false)).rst.on = true ∧ (s05f 1 frz5 (su 1 0 0 false)).domainOk [edgeRep6] = true ∧ (s05f 1 frz5 (su 1 0 0
     false)).stp.active = true ∧ (s05f 1 frz5 (su 1 0 0 false)).stp.tS ≤ edgeRep6.leaf ∧ (s05f 1 frz5 (su 1 0 0 false)).stepUnit
     edgeRep6.cairn = some (su 1 0 0 false) ∧ (su 1 0 0 false).released = false ∧ (su 1 0 0 false).ended = false ∧ (s05f 1 frz5 (su 1 0 0
     false)).stepNext edgeRep6.cairn edgeRep6.leaf = true ∧ (s05f 1 frz5 (su 1 0 0 false)).cut.held = []) ∧
    ((s05f 2 frz5 (su 2 3 0 false)).rst.on = true ∧ kindOf 1061 ≠ 0 ∧ ((s05f 2 frz5 (su 2 3 0 false)).cairn 1061).powered = true ∧ (s05f 2
     frz5 (su 2 3 0 false)).stp.active = true ∧ (s05f 2 frz5 (su 2 3 0 false)).stp.issued = true ∧ (s05f 2 frz5 (su 2 3 0 false)).stp.tS +
     2000 ≤ (s05f 2 frz5 (su 2 3 0 false)).now ∧ Option.any (fun u => u.released) ((s05f 2 frz5 (su 2 3 0 false)).stepUnit 1061) = false ∧
     (s05f 2 frz5 (su 2 3 0 false)).stp.missing.contains 1061 = false) ∧
    ((s05f 2 on (su 2 3 2 true)).rst.on = true ∧ kindOf 1061 ≠ 0 ∧ (s05f 2 on (su 2 3 2 true)).stepUnit 1061 = some (su 2 3 2 true) ∧ (su 2
     3 2 true).mode = 2 ∧ (su 2 3 2 true).released = true ∧ (su 2 3 2 true).frozen = false ∧ (su 2 3 2 true).eng = false ∧ (su 2 3 2
     true).ended = false ∧ (kindOf 1061 = 4 → (su 2 3 2 true).net = 0 ∨ (su 2 3 2 true).net = 2) ∧ (s05f 2 on (su 2 3 2 true)).leafOk 1061
     1000000 = true) ∧
    ((s05f 2 on (su 2 3 1 true)).rst.on = true ∧ kindOf 1061 ≠ 0 ∧ (s05f 2 on (su 2 3 1 true)).stepUnit 1061 = some (su 2 3 1 true) ∧ (su 2
     3 1 true).mode = 2 ∧ (su 2 3 1 true).released = true ∧ (su 2 3 1 true).frozen = false ∧ (su 2 3 1 true).eng = false ∧ (su 2 3 1
     true).ended = false ∧ (kindOf 1061 = 4 → (su 2 3 1 true).net = 0 ∨ (su 2 3 1 true).net = 2) ∧ (s05f 2 on (su 2 3 1 true)).leafOk 1061
     1000000 = true) ∧
    (s05g.rst.on = true ∧ 0 < 2 ∧ s05g.stp.active = true ∧ s05g.stepHalves 0 = [0] ∧ [0] ≠ [] ∧ [0].all s05g.releasesIn = true ∧ (∀ (h :
     Nat), h ∈ [0] → s05g.relOf h = false ∧ s05g.halfReached h = true) ∧ (∀ (h : Nat), h < 2 → h ∈ [0] ∨ s05g.doneOf h = true) ∧ s05g.f
     F.SUM_STEP_STAT_CAUSE = 0 ∧ s05g.schedFull = false) ∧
    ((lost1 s05y).rst.on = true ∧ 0 < 2 ∧ (lost1 s05y).stp.active = true ∧ (lost1 s05y).stepHalves 0 = [0, 1] ∧ [0, 1] ≠ [] ∧ [0, 1].all
     (lost1 s05y).releasesIn = true ∧ (∀ (h : Nat), h ∈ [0, 1] → (lost1 s05y).relOf h = false ∧ (lost1 s05y).halfReached h = true) ∧ (∀ (h :
     Nat), h < 2 → h ∈ [0, 1] ∨ (lost1 s05y).doneOf h = true) ∧ (lost1 s05y).f F.SUM_STEP_STAT_CAUSE = 0 ∧ (lost1 s05y).schedFull = false) ∧
    ((behind v05a).rst.on = true ∧ (behind v05a).domainOk [edgeRep5] = true ∧ (behind v05a).reachedAct edgeRep5.cairn [ActKind.stepClose]
     edgeRep5.leaf = some pendAct4 ∧ (behind v05a).stp.active = true ∧ (behind v05a).stp.issued = true ∧ (behind v05a).resumeBefore (min
     pendAct4.t (behind v05a).stp.tD) = false ∧ (behind v05a).stepUnit edgeRep5.cairn = some (su 2 3 1 true) ∧ (su 2 3 1 true).mode ≠ 1 ∧
     (su 2 3 1 true).released = true ∧ (su 2 3 1 true).frozen = false ∧ (su 2 3 1 true).ended = false) ∧
    ((s05f 2 on (su 3 0 0 true)).rst.on = true ∧ (s05f 2 on (su 3 0 0 true)).stp.active = true ∧ (s05f 2 on (su 3 0 0 true)).stp.issued =
     true ∧ (s05f 2 on (su 3 0 0 true)).stp.tD ≤ (s05f 2 on (su 3 0 0 true)).now ∧ (s05f 2 on (su 3 0 0 true)).resumeBefore (s05f 2 on (su 3
     0 0 true)).stp.tD = false ∧ (s05f 2 on (su 3 0 0 true)).stp.tE = none ∧ (s05f 2 on (su 3 0 0 true)).stp.units = [su 3 0 0 true] ∧ (su 3
     0 0 true).mode ≠ 1 ∧ (su 3 0 0 true).released = true ∧ (su 3 0 0 true).frozen = false ∧ (su 3 0 0 true).ended = false ∧ (s05f 2 on (su
     3 0 0 true)).stp.tD ≤ (s05f 2 on (su 3 0 0 true)).leafVal ((s05f 2 on (su 3 0 0 true)).domOf (su 3 0 0 true).cairn).fst) ∧
    (s05h.rst.on = true ∧ 0 < 2 ∧ s05h.spur 0 ≠ 2 ∧ s05h.stp.active = true ∧ s05h.f F.SUM_STEP_STAT_STATE = 3 ∧ (if 0 = 0 then s05h.stp.frz0
     else s05h.stp.frz1) = false ∧ ((if 0 = 0 then s05h.stp.frz1 else s05h.stp.frz0) = true ∨ s05h.answers 0 (1 - 0) = true) ∧ (∀ (h : Nat),
     h < 2 → s05h.answers 0 h = true → s05h.halfFrozen h = true)) ∧
    ((lost1 s05z).rst.on = true ∧ 0 < 2 ∧ (lost1 s05z).spur 0 ≠ 2 ∧ (lost1 s05z).stp.active = true ∧ (lost1 s05z).f F.SUM_STEP_STAT_STATE =
     3 ∧ (if 0 = 0 then (lost1 s05z).stp.frz0 else (lost1 s05z).stp.frz1) = false ∧ ((if 0 = 0 then (lost1 s05z).stp.frz1 else (lost1
     s05z).stp.frz0) = true ∨ (lost1 s05z).answers 0 (1 - 0) = true) ∧ (∀ (h : Nat), h < 2 → (lost1 s05z).answers 0 h = true → (lost1
     s05z).halfFrozen h = true)) := by
  and_intros <;> decide +kernel

/-- Each clause of Obligations.ViewAccesses that has hypotheses meets them somewhere (the clauses by number, from 0: 0, 0, 1, 1,
2, 2, 3). -/
theorem witness_ViewAccesses :
    (0 < 3 ∧ 512 ≤ 516 ∧ 516 < 1024 ∧ 516 % 4 = 0 ∧ (s05i frz5 1061).ready Master.host none (132096 + 1024 * 0 + 516) = true ∧ ((s05i frz5
     1061).mst Master.host).capHi = none ∧ (s05i frz5 1061).rd (bk Master.host (R.CWIN_SEL0 + 4 * 0)) % 4096 < 3008 ∧ (s05i frz5 1061).has
     Master.host rtInspect = true ∧ (s05i frz5 1061).reachable ((s05i frz5 1061).rd (bk Master.host (R.CWIN_SEL0 + 4 * 0)) % 4096) = true ∧
     ((s05i frz5 1061).cairn ((s05i frz5 1061).rd (bk Master.host (R.CWIN_SEL0 + 4 * 0)) % 4096)).powered = true ∧ ((s05i frz5 1061).cairn
     ((s05i frz5 1061).rd (bk Master.host (R.CWIN_SEL0 + 4 * 0)) % 4096)).noAnswer = false ∧ ((s05i frz5 1061).cairn ((s05i frz5 1061).rd
     (bk Master.host (R.CWIN_SEL0 + 4 * 0)) % 4096)).f CF.CUT_STAT_STATE = 2 ∧ ((s05i frz5 1061).cairn ((s05i frz5 1061).rd (bk Master.host
     (R.CWIN_SEL0 + 4 * 0)) % 4096)).viewAddr Master.host 516 < spaceSize ((s05i frz5 1061).rd (bk Master.host (R.CWIN_SEL0 + 4 * 0)) %
     4096) (((s05i frz5 1061).cairn ((s05i frz5 1061).rd (bk Master.host (R.CWIN_SEL0 + 4 * 0)) % 4096)).f (bkF Master.host
     CF.VIEW_SEL_SPACE)) ∧ ((s05i frz5 1061).secView ((s05i frz5 1061).rd (bk Master.host (R.CWIN_SEL0 + 4 * 0)) % 4096) (((s05i frz5
     1061).cairn ((s05i frz5 1061).rd (bk Master.host (R.CWIN_SEL0 + 4 * 0)) % 4096)).f (bkF Master.host CF.VIEW_SEL_SPACE)) (((s05i frz5
     1061).cairn ((s05i frz5 1061).rd (bk Master.host (R.CWIN_SEL0 + 4 * 0)) % 4096)).viewAddr Master.host 516) = true → (s05i frz5
     1061).has Master.host rtDumpSecure = true) ∧ (s05i frz5 1061).isUc ((s05i frz5 1061).rd (bk Master.host (R.CWIN_SEL0 + 4 * 0)) % 4096)
     (((s05i frz5 1061).cairn ((s05i frz5 1061).rd (bk Master.host (R.CWIN_SEL0 + 4 * 0)) % 4096)).f (bkF Master.host CF.VIEW_SEL_SPACE))
     (((s05i frz5 1061).cairn ((s05i frz5 1061).rd (bk Master.host (R.CWIN_SEL0 + 4 * 0)) % 4096)).viewAddr Master.host 516) = false) ∧
    (0 < 3 ∧ 512 ≤ 1020 ∧ 1020 < 1024 ∧ 1020 % 4 = 0 ∧ (s05i frz5 1312).ready Master.host none (132096 + 1024 * 0 + 1020) = true ∧ ((s05i
     frz5 1312).mst Master.host).capHi = none ∧ (s05i frz5 1312).rd (bk Master.host (R.CWIN_SEL0 + 4 * 0)) % 4096 < 3008 ∧ (s05i frz5
     1312).has Master.host rtInspect = true ∧ (s05i frz5 1312).reachable ((s05i frz5 1312).rd (bk Master.host (R.CWIN_SEL0 + 4 * 0)) % 4096)
     = true ∧ ((s05i frz5 1312).cairn ((s05i frz5 1312).rd (bk Master.host (R.CWIN_SEL0 + 4 * 0)) % 4096)).powered = true ∧ ((s05i frz5
     1312).cairn ((s05i frz5 1312).rd (bk Master.host (R.CWIN_SEL0 + 4 * 0)) % 4096)).noAnswer = false ∧ ((s05i frz5 1312).cairn ((s05i frz5
     1312).rd (bk Master.host (R.CWIN_SEL0 + 4 * 0)) % 4096)).f CF.CUT_STAT_STATE = 2 ∧ ((s05i frz5 1312).cairn ((s05i frz5 1312).rd (bk
     Master.host (R.CWIN_SEL0 + 4 * 0)) % 4096)).viewAddr Master.host 1020 < spaceSize ((s05i frz5 1312).rd (bk Master.host (R.CWIN_SEL0 + 4
     * 0)) % 4096) (((s05i frz5 1312).cairn ((s05i frz5 1312).rd (bk Master.host (R.CWIN_SEL0 + 4 * 0)) % 4096)).f (bkF Master.host
     CF.VIEW_SEL_SPACE)) ∧ ((s05i frz5 1312).secView ((s05i frz5 1312).rd (bk Master.host (R.CWIN_SEL0 + 4 * 0)) % 4096) (((s05i frz5
     1312).cairn ((s05i frz5 1312).rd (bk Master.host (R.CWIN_SEL0 + 4 * 0)) % 4096)).f (bkF Master.host CF.VIEW_SEL_SPACE)) (((s05i frz5
     1312).cairn ((s05i frz5 1312).rd (bk Master.host (R.CWIN_SEL0 + 4 * 0)) % 4096)).viewAddr Master.host 1020) = true → (s05i frz5
     1312).has Master.host rtDumpSecure = true) ∧ (s05i frz5 1312).isUc ((s05i frz5 1312).rd (bk Master.host (R.CWIN_SEL0 + 4 * 0)) % 4096)
     (((s05i frz5 1312).cairn ((s05i frz5 1312).rd (bk Master.host (R.CWIN_SEL0 + 4 * 0)) % 4096)).f (bkF Master.host CF.VIEW_SEL_SPACE))
     (((s05i frz5 1312).cairn ((s05i frz5 1312).rd (bk Master.host (R.CWIN_SEL0 + 4 * 0)) % 4096)).viewAddr Master.host 1020) = false) ∧
    (0 < 3 ∧ 512 ≤ 512 ∧ 512 < 1024 ∧ 512 % 4 = 0 ∧ (s05i (frz5.setF (bkF Master.host CF.VIEW_SEL_SPACE) 7) 1061).ready Master.host none
     (132096 + 1024 * 0 + 512) = true ∧ ((s05i (frz5.setF (bkF Master.host CF.VIEW_SEL_SPACE) 7) 1061).mst Master.host).capHi = none ∧ (s05i
     (frz5.setF (bkF Master.host CF.VIEW_SEL_SPACE) 7) 1061).rd (bk Master.host (R.CWIN_SEL0 + 4 * 0)) % 4096 < 3008 ∧ (s05i (frz5.setF (bkF
     Master.host CF.VIEW_SEL_SPACE) 7) 1061).has Master.host rtInspect = true ∧ (s05i (frz5.setF (bkF Master.host CF.VIEW_SEL_SPACE) 7)
     1061).reachable ((s05i (frz5.setF (bkF Master.host CF.VIEW_SEL_SPACE) 7) 1061).rd (bk Master.host (R.CWIN_SEL0 + 4 * 0)) % 4096) = true
     ∧ ((s05i (frz5.setF (bkF Master.host CF.VIEW_SEL_SPACE) 7) 1061).cairn ((s05i (frz5.setF (bkF Master.host CF.VIEW_SEL_SPACE) 7)
     1061).rd (bk Master.host (R.CWIN_SEL0 + 4 * 0)) % 4096)).powered = true ∧ ((s05i (frz5.setF (bkF Master.host CF.VIEW_SEL_SPACE) 7)
     1061).cairn ((s05i (frz5.setF (bkF Master.host CF.VIEW_SEL_SPACE) 7) 1061).rd (bk Master.host (R.CWIN_SEL0 + 4 * 0)) % 4096)).noAnswer
     = false ∧ (spaceSize ((s05i (frz5.setF (bkF Master.host CF.VIEW_SEL_SPACE) 7) 1061).rd (bk Master.host (R.CWIN_SEL0 + 4 * 0)) % 4096)
     (((s05i (frz5.setF (bkF Master.host CF.VIEW_SEL_SPACE) 7) 1061).cairn ((s05i (frz5.setF (bkF Master.host CF.VIEW_SEL_SPACE) 7) 1061).rd
     (bk Master.host (R.CWIN_SEL0 + 4 * 0)) % 4096)).f (bkF Master.host CF.VIEW_SEL_SPACE)) ≤ ((s05i (frz5.setF (bkF Master.host
     CF.VIEW_SEL_SPACE) 7) 1061).cairn ((s05i (frz5.setF (bkF Master.host CF.VIEW_SEL_SPACE) 7) 1061).rd (bk Master.host (R.CWIN_SEL0 + 4 *
     0)) % 4096)).viewAddr Master.host 512 ∨ (s05i (frz5.setF (bkF Master.host CF.VIEW_SEL_SPACE) 7) 1061).secView ((s05i (frz5.setF (bkF
     Master.host CF.VIEW_SEL_SPACE) 7) 1061).rd (bk Master.host (R.CWIN_SEL0 + 4 * 0)) % 4096) (((s05i (frz5.setF (bkF Master.host
     CF.VIEW_SEL_SPACE) 7) 1061).cairn ((s05i (frz5.setF (bkF Master.host CF.VIEW_SEL_SPACE) 7) 1061).rd (bk Master.host (R.CWIN_SEL0 + 4 *
     0)) % 4096)).f (bkF Master.host CF.VIEW_SEL_SPACE)) (((s05i (frz5.setF (bkF Master.host CF.VIEW_SEL_SPACE) 7) 1061).cairn ((s05i
     (frz5.setF (bkF Master.host CF.VIEW_SEL_SPACE) 7) 1061).rd (bk Master.host (R.CWIN_SEL0 + 4 * 0)) % 4096)).viewAddr Master.host 512) =
     true ∧ (s05i (frz5.setF (bkF Master.host CF.VIEW_SEL_SPACE) 7) 1061).has Master.host rtDumpSecure = false)) ∧
    (0 < 3 ∧ 512 ≤ 512 ∧ 512 < 1024 ∧ 512 % 4 = 0 ∧ (s05i (frz5.wr (bk Master.host C.VIEW_ADDR_LO) 512) 1061).ready Master.host none (132096
     + 1024 * 0 + 512) = true ∧ ((s05i (frz5.wr (bk Master.host C.VIEW_ADDR_LO) 512) 1061).mst Master.host).capHi = none ∧ (s05i (frz5.wr
     (bk Master.host C.VIEW_ADDR_LO) 512) 1061).rd (bk Master.host (R.CWIN_SEL0 + 4 * 0)) % 4096 < 3008 ∧ (s05i (frz5.wr (bk Master.host
     C.VIEW_ADDR_LO) 512) 1061).has Master.host rtInspect = true ∧ (s05i (frz5.wr (bk Master.host C.VIEW_ADDR_LO) 512) 1061).reachable
     ((s05i (frz5.wr (bk Master.host C.VIEW_ADDR_LO) 512) 1061).rd (bk Master.host (R.CWIN_SEL0 + 4 * 0)) % 4096) = true ∧ ((s05i (frz5.wr
     (bk Master.host C.VIEW_ADDR_LO) 512) 1061).cairn ((s05i (frz5.wr (bk Master.host C.VIEW_ADDR_LO) 512) 1061).rd (bk Master.host
     (R.CWIN_SEL0 + 4 * 0)) % 4096)).powered = true ∧ ((s05i (frz5.wr (bk Master.host C.VIEW_ADDR_LO) 512) 1061).cairn ((s05i (frz5.wr (bk
     Master.host C.VIEW_ADDR_LO) 512) 1061).rd (bk Master.host (R.CWIN_SEL0 + 4 * 0)) % 4096)).noAnswer = false ∧ (spaceSize ((s05i (frz5.wr
     (bk Master.host C.VIEW_ADDR_LO) 512) 1061).rd (bk Master.host (R.CWIN_SEL0 + 4 * 0)) % 4096) (((s05i (frz5.wr (bk Master.host
     C.VIEW_ADDR_LO) 512) 1061).cairn ((s05i (frz5.wr (bk Master.host C.VIEW_ADDR_LO) 512) 1061).rd (bk Master.host (R.CWIN_SEL0 + 4 * 0)) %
     4096)).f (bkF Master.host CF.VIEW_SEL_SPACE)) ≤ ((s05i (frz5.wr (bk Master.host C.VIEW_ADDR_LO) 512) 1061).cairn ((s05i (frz5.wr (bk
     Master.host C.VIEW_ADDR_LO) 512) 1061).rd (bk Master.host (R.CWIN_SEL0 + 4 * 0)) % 4096)).viewAddr Master.host 512 ∨ (s05i (frz5.wr (bk
     Master.host C.VIEW_ADDR_LO) 512) 1061).secView ((s05i (frz5.wr (bk Master.host C.VIEW_ADDR_LO) 512) 1061).rd (bk Master.host
     (R.CWIN_SEL0 + 4 * 0)) % 4096) (((s05i (frz5.wr (bk Master.host C.VIEW_ADDR_LO) 512) 1061).cairn ((s05i (frz5.wr (bk Master.host
     C.VIEW_ADDR_LO) 512) 1061).rd (bk Master.host (R.CWIN_SEL0 + 4 * 0)) % 4096)).f (bkF Master.host CF.VIEW_SEL_SPACE)) (((s05i (frz5.wr
     (bk Master.host C.VIEW_ADDR_LO) 512) 1061).cairn ((s05i (frz5.wr (bk Master.host C.VIEW_ADDR_LO) 512) 1061).rd (bk Master.host
     (R.CWIN_SEL0 + 4 * 0)) % 4096)).viewAddr Master.host 512) = true ∧ (s05i (frz5.wr (bk Master.host C.VIEW_ADDR_LO) 512) 1061).has
     Master.host rtDumpSecure = false)) ∧
    (0 < 3 ∧ 512 ≤ 516 ∧ 516 < 1024 ∧ 516 % 4 = 0 ∧ (s05i frz5 1061).ready Master.host none (132096 + 1024 * 0 + 516) = true ∧ ((s05i frz5
     1061).mst Master.host).heldLo = none ∧ (s05i frz5 1061).rd (bk Master.host (R.CWIN_SEL0 + 4 * 0)) % 4096 < 3008 ∧ (s05i frz5 1061).has
     Master.host (if (s05i frz5 1061).lcs = 4 then rtDepositField else rtDeposit) = true ∧ (s05i frz5 1061).reachable ((s05i frz5 1061).rd
     (bk Master.host (R.CWIN_SEL0 + 4 * 0)) % 4096) = true ∧ ((s05i frz5 1061).cairn ((s05i frz5 1061).rd (bk Master.host (R.CWIN_SEL0 + 4 *
     0)) % 4096)).powered = true ∧ ((s05i frz5 1061).cairn ((s05i frz5 1061).rd (bk Master.host (R.CWIN_SEL0 + 4 * 0)) % 4096)).noAnswer =
     false ∧ ((s05i frz5 1061).cairn ((s05i frz5 1061).rd (bk Master.host (R.CWIN_SEL0 + 4 * 0)) % 4096)).f CF.CUT_STAT_STATE = 2 ∧ ((s05i
     frz5 1061).cairn ((s05i frz5 1061).rd (bk Master.host (R.CWIN_SEL0 + 4 * 0)) % 4096)).viewAddr Master.host 516 < spaceSize ((s05i frz5
     1061).rd (bk Master.host (R.CWIN_SEL0 + 4 * 0)) % 4096) (((s05i frz5 1061).cairn ((s05i frz5 1061).rd (bk Master.host (R.CWIN_SEL0 + 4
     * 0)) % 4096)).f (bkF Master.host CF.VIEW_SEL_SPACE)) ∧ (s05i frz5 1061).writable ((s05i frz5 1061).rd (bk Master.host (R.CWIN_SEL0 + 4
     * 0)) % 4096) (((s05i frz5 1061).cairn ((s05i frz5 1061).rd (bk Master.host (R.CWIN_SEL0 + 4 * 0)) % 4096)).f (bkF Master.host
     CF.VIEW_SEL_SPACE)) (((s05i frz5 1061).cairn ((s05i frz5 1061).rd (bk Master.host (R.CWIN_SEL0 + 4 * 0)) % 4096)).viewAddr Master.host
     516) = true ∧ ¬(kindOf ((s05i frz5 1061).rd (bk Master.host (R.CWIN_SEL0 + 4 * 0)) % 4096) = 3 ∧ ((s05i frz5 1061).cairn ((s05i frz5
     1061).rd (bk Master.host (R.CWIN_SEL0 + 4 * 0)) % 4096)).f (bkF Master.host CF.VIEW_SEL_SPACE) = 1) ∧ (kindOf ((s05i frz5 1061).rd (bk
     Master.host (R.CWIN_SEL0 + 4 * 0)) % 4096) = 5 → (s05i frz5 1061).cut.pages.contains pageId4 = false) ∧ (kindOf ((s05i frz5 1061).rd
     (bk Master.host (R.CWIN_SEL0 + 4 * 0)) % 4096) = 1 → (s05i frz5 1061).activity ((s05i frz5 1061).rd (bk Master.host (R.CWIN_SEL0 + 4 *
     0)) % 4096) ≠ 1) ∧ ((s05i frz5 1061).secView ((s05i frz5 1061).rd (bk Master.host (R.CWIN_SEL0 + 4 * 0)) % 4096) (((s05i frz5
     1061).cairn ((s05i frz5 1061).rd (bk Master.host (R.CWIN_SEL0 + 4 * 0)) % 4096)).f (bkF Master.host CF.VIEW_SEL_SPACE)) (((s05i frz5
     1061).cairn ((s05i frz5 1061).rd (bk Master.host (R.CWIN_SEL0 + 4 * 0)) % 4096)).viewAddr Master.host 516) = true → (s05i frz5
     1061).has Master.host rtDumpSecure = true)) ∧
    (0 < 3 ∧ 512 ≤ 1020 ∧ 1020 < 1024 ∧ 1020 % 4 = 0 ∧ (s05i (frz5.setF CF.STEP_STAT_DEPOSITED 1) 1888).ready Master.host none (132096 +
     1024 * 0 + 1020) = true ∧ ((s05i (frz5.setF CF.STEP_STAT_DEPOSITED 1) 1888).mst Master.host).heldLo = none ∧ (s05i (frz5.setF
     CF.STEP_STAT_DEPOSITED 1) 1888).rd (bk Master.host (R.CWIN_SEL0 + 4 * 0)) % 4096 < 3008 ∧ (s05i (frz5.setF CF.STEP_STAT_DEPOSITED 1)
     1888).has Master.host (if (s05i (frz5.setF CF.STEP_STAT_DEPOSITED 1) 1888).lcs = 4 then rtDepositField else rtDeposit) = true ∧ (s05i
     (frz5.setF CF.STEP_STAT_DEPOSITED 1) 1888).reachable ((s05i (frz5.setF CF.STEP_STAT_DEPOSITED 1) 1888).rd (bk Master.host (R.CWIN_SEL0
     + 4 * 0)) % 4096) = true ∧ ((s05i (frz5.setF CF.STEP_STAT_DEPOSITED 1) 1888).cairn ((s05i (frz5.setF CF.STEP_STAT_DEPOSITED 1) 1888).rd
     (bk Master.host (R.CWIN_SEL0 + 4 * 0)) % 4096)).powered = true ∧ ((s05i (frz5.setF CF.STEP_STAT_DEPOSITED 1) 1888).cairn ((s05i
     (frz5.setF CF.STEP_STAT_DEPOSITED 1) 1888).rd (bk Master.host (R.CWIN_SEL0 + 4 * 0)) % 4096)).noAnswer = false ∧ ((s05i (frz5.setF
     CF.STEP_STAT_DEPOSITED 1) 1888).cairn ((s05i (frz5.setF CF.STEP_STAT_DEPOSITED 1) 1888).rd (bk Master.host (R.CWIN_SEL0 + 4 * 0)) %
     4096)).f CF.CUT_STAT_STATE = 2 ∧ ((s05i (frz5.setF CF.STEP_STAT_DEPOSITED 1) 1888).cairn ((s05i (frz5.setF CF.STEP_STAT_DEPOSITED 1)
     1888).rd (bk Master.host (R.CWIN_SEL0 + 4 * 0)) % 4096)).viewAddr Master.host 1020 < spaceSize ((s05i (frz5.setF CF.STEP_STAT_DEPOSITED
     1) 1888).rd (bk Master.host (R.CWIN_SEL0 + 4 * 0)) % 4096) (((s05i (frz5.setF CF.STEP_STAT_DEPOSITED 1) 1888).cairn ((s05i (frz5.setF
     CF.STEP_STAT_DEPOSITED 1) 1888).rd (bk Master.host (R.CWIN_SEL0 + 4 * 0)) % 4096)).f (bkF Master.host CF.VIEW_SEL_SPACE)) ∧ (s05i
     (frz5.setF CF.STEP_STAT_DEPOSITED 1) 1888).writable ((s05i (frz5.setF CF.STEP_STAT_DEPOSITED 1) 1888).rd (bk Master.host (R.CWIN_SEL0 +
     4 * 0)) % 4096) (((s05i (frz5.setF CF.STEP_STAT_DEPOSITED 1) 1888).cairn ((s05i (frz5.setF CF.STEP_STAT_DEPOSITED 1) 1888).rd (bk
     Master.host (R.CWIN_SEL0 + 4 * 0)) % 4096)).f (bkF Master.host CF.VIEW_SEL_SPACE)) (((s05i (frz5.setF CF.STEP_STAT_DEPOSITED 1)
     1888).cairn ((s05i (frz5.setF CF.STEP_STAT_DEPOSITED 1) 1888).rd (bk Master.host (R.CWIN_SEL0 + 4 * 0)) % 4096)).viewAddr Master.host
     1020) = true ∧ ¬(kindOf ((s05i (frz5.setF CF.STEP_STAT_DEPOSITED 1) 1888).rd (bk Master.host (R.CWIN_SEL0 + 4 * 0)) % 4096) = 3 ∧
     ((s05i (frz5.setF CF.STEP_STAT_DEPOSITED 1) 1888).cairn ((s05i (frz5.setF CF.STEP_STAT_DEPOSITED 1) 1888).rd (bk Master.host
     (R.CWIN_SEL0 + 4 * 0)) % 4096)).f (bkF Master.host CF.VIEW_SEL_SPACE) = 1) ∧ (kindOf ((s05i (frz5.setF CF.STEP_STAT_DEPOSITED 1)
     1888).rd (bk Master.host (R.CWIN_SEL0 + 4 * 0)) % 4096) = 5 → (s05i (frz5.setF CF.STEP_STAT_DEPOSITED 1) 1888).cut.pages.contains
     pageId5 = false) ∧ (kindOf ((s05i (frz5.setF CF.STEP_STAT_DEPOSITED 1) 1888).rd (bk Master.host (R.CWIN_SEL0 + 4 * 0)) % 4096) = 1 →
     (s05i (frz5.setF CF.STEP_STAT_DEPOSITED 1) 1888).activity ((s05i (frz5.setF CF.STEP_STAT_DEPOSITED 1) 1888).rd (bk Master.host
     (R.CWIN_SEL0 + 4 * 0)) % 4096) ≠ 1) ∧ ((s05i (frz5.setF CF.STEP_STAT_DEPOSITED 1) 1888).secView ((s05i (frz5.setF
     CF.STEP_STAT_DEPOSITED 1) 1888).rd (bk Master.host (R.CWIN_SEL0 + 4 * 0)) % 4096) (((s05i (frz5.setF CF.STEP_STAT_DEPOSITED 1)
     1888).cairn ((s05i (frz5.setF CF.STEP_STAT_DEPOSITED 1) 1888).rd (bk Master.host (R.CWIN_SEL0 + 4 * 0)) % 4096)).f (bkF Master.host
     CF.VIEW_SEL_SPACE)) (((s05i (frz5.setF CF.STEP_STAT_DEPOSITED 1) 1888).cairn ((s05i (frz5.setF CF.STEP_STAT_DEPOSITED 1) 1888).rd (bk
     Master.host (R.CWIN_SEL0 + 4 * 0)) % 4096)).viewAddr Master.host 1020) = true → (s05i (frz5.setF CF.STEP_STAT_DEPOSITED 1) 1888).has
     Master.host rtDumpSecure = true)) ∧
    (0 < 3 ∧ 512 ≤ 516 ∧ 516 < 1024 ∧ 516 % 4 = 0 ∧ (s05i on 1061).ready Master.host none (132096 + 1024 * 0 + 516) = true ∧ ((s05i on
     1061).mst Master.host).heldLo = none ∧ (s05i on 1061).rd (bk Master.host (R.CWIN_SEL0 + 4 * 0)) % 4096 < 3008 ∧ (s05i on 1061).has
     Master.host (if (s05i on 1061).lcs = 4 then rtDepositField else rtDeposit) = true ∧ (s05i on 1061).reachable ((s05i on 1061).rd (bk
     Master.host (R.CWIN_SEL0 + 4 * 0)) % 4096) = true ∧ ((s05i on 1061).cairn ((s05i on 1061).rd (bk Master.host (R.CWIN_SEL0 + 4 * 0)) %
     4096)).powered = true ∧ ((s05i on 1061).cairn ((s05i on 1061).rd (bk Master.host (R.CWIN_SEL0 + 4 * 0)) % 4096)).noAnswer = false ∧
     ((s05i on 1061).cairn ((s05i on 1061).rd (bk Master.host (R.CWIN_SEL0 + 4 * 0)) % 4096)).f CF.CUT_STAT_STATE ≠ 2 ∧ ((s05i on
     1061).cairn ((s05i on 1061).rd (bk Master.host (R.CWIN_SEL0 + 4 * 0)) % 4096)).viewAddr Master.host 516 < spaceSize ((s05i on 1061).rd
     (bk Master.host (R.CWIN_SEL0 + 4 * 0)) % 4096) (((s05i on 1061).cairn ((s05i on 1061).rd (bk Master.host (R.CWIN_SEL0 + 4 * 0)) %
     4096)).f (bkF Master.host CF.VIEW_SEL_SPACE)) ∧ (s05i on 1061).writable ((s05i on 1061).rd (bk Master.host (R.CWIN_SEL0 + 4 * 0)) %
     4096) (((s05i on 1061).cairn ((s05i on 1061).rd (bk Master.host (R.CWIN_SEL0 + 4 * 0)) % 4096)).f (bkF Master.host CF.VIEW_SEL_SPACE))
     (((s05i on 1061).cairn ((s05i on 1061).rd (bk Master.host (R.CWIN_SEL0 + 4 * 0)) % 4096)).viewAddr Master.host 516) = true ∧ ((s05i on
     1061).secView ((s05i on 1061).rd (bk Master.host (R.CWIN_SEL0 + 4 * 0)) % 4096) (((s05i on 1061).cairn ((s05i on 1061).rd (bk
     Master.host (R.CWIN_SEL0 + 4 * 0)) % 4096)).f (bkF Master.host CF.VIEW_SEL_SPACE)) (((s05i on 1061).cairn ((s05i on 1061).rd (bk
     Master.host (R.CWIN_SEL0 + 4 * 0)) % 4096)).viewAddr Master.host 516) = true → (s05i on 1061).has Master.host rtDumpSecure = true)) := by
  and_intros <;> decide +kernel

/-- Each clause of Obligations.CrestBlocks that has hypotheses meets them somewhere (the clauses by number, from 0: 0, 0, 0, 1, 1,
2, 2, 2, 3, 4, 4). -/
theorem witness_CrestBlocks :
    ((upC 165 s06c).rst.on = true ∧ kindOf 165 ≠ 0 ∧ ((upC 165 s06c).cairn 165).powered = true ∧ (upC 165 s06c).leafShows 165 1000000 = true
     ∧ ((upC 165 s06c).cairn 165).f CF.CUT_STAT_STATE ≠ 2 ∧ obsThere 165 obsAcc1.obs = true ∧ ((upC 165 s06c).cairn 165).f (CF.CMP_CTRL_EN
     0) = 1 ∧ ((upC 165 s06c).cairn 165).f (CF.CMP_CTRL_OBS 0) = obsAcc1.obs ∧ (((upC 165 s06c).cairn 165).f (CF.CMP_CTRL_AKIND 0) = 0 ∨
     ((upC 165 s06c).cairn 165).f (CF.CMP_CTRL_AKIND 0) = obsAcc1.kind) ∧ obsAcc1.addr.land (((upC 165 s06c).cairn 165).rd64 (C.CMP_AMASK_LO
     0)) = (((upC 165 s06c).cairn 165).rd64 (C.CMP_ADDR_LO 0)).land (((upC 165 s06c).cairn 165).rd64 (C.CMP_AMASK_LO 0)) ↔ ((upC 165
     s06c).cairn 165).f (CF.CMP_CTRL_AINV 0) = 0 ∧ ((upC 165 s06c).cairn 165).f (CF.CMP_CTRL_VMODE 0) = 0) ∧
    (v06a.rst.on = true ∧ kindOf 165 ≠ 0 ∧ (v06a.cairn 165).powered = true ∧ v06a.leafShows 165 1000000 = true ∧ (v06a.cairn 165).f
     CF.CUT_STAT_STATE ≠ 2 ∧ obsThere 165 obsAcc1.obs = true ∧ (v06a.cairn 165).f (CF.CMP_CTRL_EN 0) = 1 ∧ (v06a.cairn 165).f
     (CF.CMP_CTRL_OBS 0) = obsAcc1.obs ∧ ((v06a.cairn 165).f (CF.CMP_CTRL_AKIND 0) = 0 ∨ (v06a.cairn 165).f (CF.CMP_CTRL_AKIND 0) =
     obsAcc1.kind) ∧ obsAcc1.addr.land ((v06a.cairn 165).rd64 (C.CMP_AMASK_LO 0)) = ((v06a.cairn 165).rd64 (C.CMP_ADDR_LO 0)).land
     ((v06a.cairn 165).rd64 (C.CMP_AMASK_LO 0)) ↔ (v06a.cairn 165).f (CF.CMP_CTRL_AINV 0) = 0 ∧ (v06a.cairn 165).f (CF.CMP_CTRL_VMODE 0) =
     0) ∧
    (v06d.rst.on = true ∧ kindOf 165 ≠ 0 ∧ (v06d.cairn 165).powered = true ∧ v06d.leafShows 165 1000000 = true ∧ (v06d.cairn 165).f
     CF.CUT_STAT_STATE ≠ 2 ∧ obsThere 165 obsAcc1.obs = true ∧ (v06d.cairn 165).f (CF.CMP_CTRL_EN 0) = 1 ∧ (v06d.cairn 165).f
     (CF.CMP_CTRL_OBS 0) = obsAcc1.obs ∧ ((v06d.cairn 165).f (CF.CMP_CTRL_AKIND 0) = 0 ∨ (v06d.cairn 165).f (CF.CMP_CTRL_AKIND 0) =
     obsAcc1.kind) ∧ obsAcc1.addr.land ((v06d.cairn 165).rd64 (C.CMP_AMASK_LO 0)) = ((v06d.cairn 165).rd64 (C.CMP_ADDR_LO 0)).land
     ((v06d.cairn 165).rd64 (C.CMP_AMASK_LO 0)) ↔ (v06d.cairn 165).f (CF.CMP_CTRL_AINV 0) = 0 ∧ (v06d.cairn 165).f (CF.CMP_CTRL_VMODE 0) =
     0) ∧
    ((upC 2208 s06r).rst.on = true ∧ kindOf 2208 ≠ 0 ∧ ((upC 2208 s06r).cairn 2208).powered = true ∧ (upC 2208 s06r).leafShows 2208 1000000
     = true ∧ ((upC 2208 s06r).cairn 2208).f CF.CUT_STAT_STATE ≠ 2 ∧ obsThere 2208 obsAcc2.obs = true ∧ ((upC 2208 s06r).cairn 2208).f
     CF.RNG_CTRL_EN = 1 ∧ ((upC 2208 s06r).cairn 2208).f CF.RNG_CTRL_OBS = obsAcc2.obs ∧ (((upC 2208 s06r).cairn 2208).f CF.RNG_CTRL_AKIND =
     0 ∨ ((upC 2208 s06r).cairn 2208).f CF.RNG_CTRL_AKIND = obsAcc2.kind) ∧ ((upC 2208 s06r).cairn 2208).rd64 C.RNG_BASE_LO ≤ obsAcc2.addr ∧
     obsAcc2.addr ≤ ((upC 2208 s06r).cairn 2208).rd64 C.RNG_LIM_LO ↔ ((upC 2208 s06r).cairn 2208).f CF.RNG_CTRL_OUTSIDE = 0) ∧
    ((upC 2208 (s06r.setF CF.RNG_CTRL_OUTSIDE 1)).rst.on = true ∧ kindOf 2208 ≠ 0 ∧ ((upC 2208 (s06r.setF CF.RNG_CTRL_OUTSIDE 1)).cairn
     2208).powered = true ∧ (upC 2208 (s06r.setF CF.RNG_CTRL_OUTSIDE 1)).leafShows 2208 1000000 = true ∧ ((upC 2208 (s06r.setF
     CF.RNG_CTRL_OUTSIDE 1)).cairn 2208).f CF.CUT_STAT_STATE ≠ 2 ∧ obsThere 2208 obsAcc3.obs = true ∧ ((upC 2208 (s06r.setF
     CF.RNG_CTRL_OUTSIDE 1)).cairn 2208).f CF.RNG_CTRL_EN = 1 ∧ ((upC 2208 (s06r.setF CF.RNG_CTRL_OUTSIDE 1)).cairn 2208).f CF.RNG_CTRL_OBS
     = obsAcc3.obs ∧ (((upC 2208 (s06r.setF CF.RNG_CTRL_OUTSIDE 1)).cairn 2208).f CF.RNG_CTRL_AKIND = 0 ∨ ((upC 2208 (s06r.setF
     CF.RNG_CTRL_OUTSIDE 1)).cairn 2208).f CF.RNG_CTRL_AKIND = obsAcc3.kind) ∧ ((upC 2208 (s06r.setF CF.RNG_CTRL_OUTSIDE 1)).cairn
     2208).rd64 C.RNG_BASE_LO ≤ obsAcc3.addr ∧ obsAcc3.addr ≤ ((upC 2208 (s06r.setF CF.RNG_CTRL_OUTSIDE 1)).cairn 2208).rd64 C.RNG_LIM_LO ↔
     ((upC 2208 (s06r.setF CF.RNG_CTRL_OUTSIDE 1)).cairn 2208).f CF.RNG_CTRL_OUTSIDE = 0) ∧
    ((upC 165 (s06m 2 3)).rst.on = true ∧ kindOf 165 ≠ 0 ∧ ((upC 165 (s06m 2 3)).cairn 165).powered = true ∧ (upC 165 (s06m 2 3)).leafShows
     165 1000000 = true ∧ ((upC 165 (s06m 2 3)).cairn 165).f CF.CUT_STAT_STATE ≠ 2 ∧ ((upC 165 (s06m 2 3)).cairn 165).f (CF.ECNT_CFG_EN 0) =
     1 ∧ ((upC 165 (s06m 2 3)).cairn 165).f (CF.ECNT_CFG_EVT 0) = 4) ∧
    ((upC 165 (s06m 3 3)).rst.on = true ∧ kindOf 165 ≠ 0 ∧ ((upC 165 (s06m 3 3)).cairn 165).powered = true ∧ (upC 165 (s06m 3 3)).leafShows
     165 1000000 = true ∧ ((upC 165 (s06m 3 3)).cairn 165).f CF.CUT_STAT_STATE ≠ 2 ∧ ((upC 165 (s06m 3 3)).cairn 165).f (CF.ECNT_CFG_EN 0) =
     1 ∧ ((upC 165 (s06m 3 3)).cairn 165).f (CF.ECNT_CFG_EVT 0) = 4) ∧
    ((upC 165 (s06m 4294967295 3)).rst.on = true ∧ kindOf 165 ≠ 0 ∧ ((upC 165 (s06m 4294967295 3)).cairn 165).powered = true ∧ (upC 165
     (s06m 4294967295 3)).leafShows 165 1000000 = true ∧ ((upC 165 (s06m 4294967295 3)).cairn 165).f CF.CUT_STAT_STATE ≠ 2 ∧ ((upC 165 (s06m
     4294967295 3)).cairn 165).f (CF.ECNT_CFG_EN 0) = 1 ∧ ((upC 165 (s06m 4294967295 3)).cairn 165).f (CF.ECNT_CFG_EVT 0) = 4) ∧
    ((upC 165 (s06c.setF CF.CUT_STAT_STATE 2)).rst.on = true ∧ kindOf 165 ≠ 0 ∧ ((upC 165 (s06c.setF CF.CUT_STAT_STATE 2)).cairn
     165).powered = true ∧ (upC 165 (s06c.setF CF.CUT_STAT_STATE 2)).leafShows 165 1000000 = true ∧ ((upC 165 (s06c.setF CF.CUT_STAT_STATE
     2)).cairn 165).f CF.CUT_STAT_STATE = 2 ∧ [8].contains 5 = false) ∧
    (v06b.rst.on = true ∧ kindOf 165 ≠ 0 ∧ (v06b.cairn 165).powered = true ∧ 0 < 2 ∧ (if 0 = 0 then (v06b.cairn 165).out0 else (v06b.cairn
     165).out1).level = true) ∧
    (v06c.rst.on = true ∧ kindOf 165 ≠ 0 ∧ (v06c.cairn 165).powered = true ∧ 1 < 2 ∧ (if 1 = 0 then (v06c.cairn 165).out0 else (v06c.cairn
     165).out1).level = true) := by
  and_intros <;> decide +kernel

/-- Each clause of Obligations.ChannelsAndSequencer that has hypotheses meets them somewhere (the clauses by number, from 0: 0, 0,
1, 2, 3, 4, 5, 7, 8, 9, 10, 11, 12, 12, 13, 14, 14, 14, 6). -/
theorem witness_ChannelsAndSequencer :
    ((s06f false 0).rst.on = true ∧ List.find? (fun x => x.num == raiseFl1.num) (s06f false 0).crs.flight = some raiseFl1 ∧ raiseFl1.first =
     false ∧ raiseFl1.ch < 64) ∧
    ((s06f false 1).rst.on = true ∧ List.find? (fun x => x.num == raiseFl1.num) (s06f false 1).crs.flight = some raiseFl1 ∧ raiseFl1.first =
     false ∧ raiseFl1.ch < 64) ∧
    ((s06f true 1).rst.on = true ∧ List.find? (fun x => x.num == raiseFl2.num) (s06f true 1).crs.flight = some raiseFl2 ∧ raiseFl2.first =
     true) ∧
    (s06v.ready Master.host (some rtTrigger) R.CRS_XTRIG = true) ∧
    (up.ready Master.host (some rtTrigger) R.CRS_CTRL = true ∧ bit 31 0 = true ∧ bit 31 5 = false ∧ up.f F.CRS_CTRL_RUN = 0 ∧ (∀ (k : Nat),
     k < 64 → up.trError k (up.heldSet Master.host) = 0)) ∧
    (s06e.ready Master.host (some rtTrigger) R.CRS_CTRL = true ∧ bit 31 0 = true ∧ bit 31 5 = false ∧ s06e.f F.CRS_CTRL_RUN = 0 ∧ 5 < 64 ∧
     s06e.trError 5 (s06e.heldSet Master.host) ≠ 0 ∧ (∀ (j : Nat), j < 5 → s06e.trError j (s06e.heldSet Master.host) = 0)) ∧
    (up.rst.on = true ∧ up.f F.CRS_CTRL_RUN = 0 ∧ up.crs.actB = none) ∧
    ((s06s [(1, 165)]).rst.on = true ∧ (s06s [(1, 165)]).f F.CRS_CTRL_RUN = 1 ∧ (s06s [(1, 165)]).f F.CRS_STAT_STATE = 0 ∧ (s06s [(1,
     165)]).crs.wait = [(1, 165)] ∧ (s06s [(1, 165)]).crs.held = [] ∧ (s06s [(1, 165)]).crs.actB = none ∧ 165 < 2 ^ 32 ∧ 1 < 64 ∧ (s06s [(1,
     165)]).rd64 R.CRS_CH_STICKY_LO = 0 ∧ (s06s [(1, 165)]).crsLevel < 60 ∧ 1 < 4 ∧ (s06s [(1, 165)]).f (F.CRS_TR_EN (4 * 0 + 1)) = 1 ∧
     (s06s [(1, 165)]).f (F.CRS_TR_COND (4 * 0 + 1)) = 1 ∧ (∀ (j : Nat), j < 1 → (s06s [(1, 165)]).f (F.CRS_TR_EN (4 * 0 + j)) = 0) ∧ (s06s
     [(1, 165)]).f (F.CRS_TR_ACT_A (4 * 0 + 1)) = 0 ∧ (s06s [(1, 165)]).f (F.CRS_TR_ACT_B (4 * 0 + 1)) = 0) ∧
    (s06v.rst.on = true ∧ s06v.f F.CRS_CTRL_RUN = 1 ∧ s06v.f F.CRS_STAT_STATE = 0 ∧ s06v.crsLevel < 60 ∧ s06v.crs.actB = none ∧ (∀ (i :
     Nat), i < 4 → s06v.f (F.CRS_TR_EN (4 * 0 + i)) = 0)) ∧
    (s06t.rst.on = true ∧ s06t.f F.CRS_CTRL_RUN = 1 ∧ 60 ≤ s06t.crsLevel ∧ s06t.f F.CRS_STAT_STATE = 0 ∧ s06t.crs.actB = none) ∧
    (s06u.ready Master.host (some rtTrigger) R.CRS_CTRL = true ∧ bit 32 5 = true ∧ s06u.f F.CRS_CTRL_RUN = b2n (bit 32 0) ∧ s06u.f
     F.CRS_STAT_SA_PENDING = 1) ∧
    (s06u.rst.on = true ∧ s06u.f F.CRS_STAT_SA_PENDING = 1 ∧ s06u.rd64 R.CRS_SA_T_LO ≤ s06u.now + max (s06u.f F.SUM_CUT_LEAD_LEAD) 100 ∧
     s06u.crs.saWhat = 0 ∧ s06u.cutState = 0 ∧ s06u.hasJob ActKind.resume = false ∧ s06u.schedFull = false ∧ s06u.stp.active = false) ∧
    ((s06p false true false).rst.on = true ∧ (s06p false true false).crs.pulses = [pulse1] ∧ pulse1.begun = false ∧ pulse1.tp ≤ (s06p false
     true false).now) ∧
    ((s06p false false true).rst.on = true ∧ (s06p false false true).crs.pulses = [pulse2] ∧ pulse2.begun = false ∧ pulse2.tp ≤ (s06p false
     false true).now) ∧
    ((s06p true true true).rst.on = true ∧ (s06p true true true).crs.pulses = [pulse3] ∧ pulse3.begun = true ∧ pulse3.tp + 25 * pulse3.width
     ≤ (s06p true true true).now) ∧
    (s06v.rst.on = true) ∧
    (up.rst.on = true) ∧
    (s06w.rst.on = true) ∧
    (s06x.rst.on = true ∧ s06x.f F.CRS_CTRL_RUN = 0 ∧ s06x.crs.actB = some (1, 0, 999998) ∧ s06x.cutState = 0 ∧ s06x.hasJob ActKind.resume =
     false ∧ s06x.schedFull = false ∧ s06x.stp.active = false) := by
  and_intros <;> decide +kernel

/-- Each clause of Obligations.PitchDataInstructions that has hypotheses meets them somewhere (the clauses by number, from 0: 0,
0, 0, 1, 1, 2, 3, 4, 5, 6, 7, 8, 8). -/
theorem witness_PitchDataInstructions :
    ((eng1 (PInstr.alu AluFn.add (1 : BitVec 4) (2 : BitVec 4) (3 : BitVec 4))).issues 1 (PInstr.alu AluFn.add (1 : BitVec 4) (2 : BitVec 4)
     (3 : BitVec 4)) = true) ∧
    ((eng1 (PInstr.alu AluFn.sub (1 : BitVec 4) (2 : BitVec 4) (3 : BitVec 4))).issues 1 (PInstr.alu AluFn.sub (1 : BitVec 4) (2 : BitVec 4)
     (3 : BitVec 4)) = true) ∧
    ((eng1 (PInstr.alu AluFn.and_ (1 : BitVec 4) (2 : BitVec 4) (3 : BitVec 4))).issues 1 (PInstr.alu AluFn.and_ (1 : BitVec 4) (2 : BitVec
     4) (3 : BitVec 4)) = true) ∧
    ((eng1 (PInstr.addi (1 : BitVec 4) (2 : BitVec 4) (262143 : BitVec 18))).issues 1 (PInstr.addi (1 : BitVec 4) (2 : BitVec 4) (262143 :
     BitVec 18)) = true) ∧
    ((eng1 (PInstr.addi (1 : BitVec 4) (2 : BitVec 4) (7 : BitVec 18))).issues 1 (PInstr.addi (1 : BitVec 4) (2 : BitVec 4) (7 : BitVec 18))
     = true) ∧
    ((eng1 (PInstr.andi (1 : BitVec 4) (2 : BitVec 4) (262143 : BitVec 18))).issues 1 (PInstr.andi (1 : BitVec 4) (2 : BitVec 4) (262143 :
     BitVec 18)) = true) ∧
    ((eng1 (PInstr.movi (1 : BitVec 4) (4194303 : BitVec 22))).issues 1 (PInstr.movi (1 : BitVec 4) (4194303 : BitVec 22)) = true) ∧
    ((eng1 (PInstr.time (15 : BitVec 4))).issues 1 (PInstr.time (15 : BitVec 4)) = true) ∧
    ((s07b iLdm).issues 1 (PInstr.ldm (1 : BitVec 4) (4 : BitVec 4) (262142 : BitVec 18)) = true ∧ ((s07b iLdm).pWord 1 (4 : BitVec 4) +
     BitVec.signExtend 64 (262142 : BitVec 18)).toNat ≤ 65535 ∧ ((s07b iLdm).pWord 1 (4 : BitVec 4) + BitVec.signExtend 64 (262142 : BitVec
     18)).toNat % 2 = 0 ∧ (s07b iLdm).inData 1 ((s07b iLdm).pWord 1 (4 : BitVec 4) + BitVec.signExtend 64 (262142 : BitVec 18)).toNat = true
     ∧ (s07b iLdm).pmBad ((s07b iLdm).pWord 1 (4 : BitVec 4) + BitVec.signExtend 64 (262142 : BitVec 18)).toNat = false ∧ (s07b iLdm).pmBad
     (((s07b iLdm).pWord 1 (4 : BitVec 4) + BitVec.signExtend 64 (262142 : BitVec 18)).toNat + 1) = false) ∧
    ((s07b iStm).issues 1 (PInstr.stm (3 : BitVec 4) (4 : BitVec 4) (262142 : BitVec 18)) = true ∧ ((s07b iStm).pWord 1 (4 : BitVec 4) +
     BitVec.signExtend 64 (262142 : BitVec 18)).toNat ≤ 65535 ∧ ((s07b iStm).pWord 1 (4 : BitVec 4) + BitVec.signExtend 64 (262142 : BitVec
     18)).toNat % 2 = 0 ∧ (s07b iStm).inData 1 ((s07b iStm).pWord 1 (4 : BitVec 4) + BitVec.signExtend 64 (262142 : BitVec 18)).toNat = true
     ∧ (s07b iStm).inCode ((s07b iStm).pWord 1 (4 : BitVec 4) + BitVec.signExtend 64 (262142 : BitVec 18)).toNat = false ∧ (s07b
     iStm).inCode (((s07b iStm).pWord 1 (4 : BitVec 4) + BitVec.signExtend 64 (262142 : BitVec 18)).toNat + 1) = false) ∧
    ((s07c (PInstr.aadd (3 : BitVec 4) (4 : BitVec 4) (2 : BitVec 4))).issues 1 (PInstr.aadd (3 : BitVec 4) (4 : BitVec 4) (2 : BitVec 4)) =
     true ∧ (s07c (PInstr.aadd (3 : BitVec 4) (4 : BitVec 4) (2 : BitVec 4))).p 1 4 ≤ 65535 ∧ (s07c (PInstr.aadd (3 : BitVec 4) (4 : BitVec
     4) (2 : BitVec 4))).p 1 4 % 2 = 0 ∧ (s07c (PInstr.aadd (3 : BitVec 4) (4 : BitVec 4) (2 : BitVec 4))).inData 1 ((s07c (PInstr.aadd (3 :
     BitVec 4) (4 : BitVec 4) (2 : BitVec 4))).p 1 4) = true ∧ (s07c (PInstr.aadd (3 : BitVec 4) (4 : BitVec 4) (2 : BitVec 4))).inCode
     ((s07c (PInstr.aadd (3 : BitVec 4) (4 : BitVec 4) (2 : BitVec 4))).p 1 4) = false ∧ (s07c (PInstr.aadd (3 : BitVec 4) (4 : BitVec 4) (2
     : BitVec 4))).inCode ((s07c (PInstr.aadd (3 : BitVec 4) (4 : BitVec 4) (2 : BitVec 4))).p 1 4 + 1) = false ∧ (s07c (PInstr.aadd (3 :
     BitVec 4) (4 : BitVec 4) (2 : BitVec 4))).pmBad ((s07c (PInstr.aadd (3 : BitVec 4) (4 : BitVec 4) (2 : BitVec 4))).p 1 4) = false ∧
     (s07c (PInstr.aadd (3 : BitVec 4) (4 : BitVec 4) (2 : BitVec 4))).pmBad ((s07c (PInstr.aadd (3 : BitVec 4) (4 : BitVec 4) (2 : BitVec
     4))).p 1 4 + 1) = false) ∧
    ((PInstr.ldm (1 : BitVec 4) (2 : BitVec 4) (0 : BitVec 18) = PInstr.ldm (1 : BitVec 4) (2 : BitVec 4) (0 : BitVec 18) ∨ PInstr.ldm (1 :
     BitVec 4) (2 : BitVec 4) (0 : BitVec 18) = PInstr.stm (1 : BitVec 4) (2 : BitVec 4) (0 : BitVec 18)) ∧ (eng1 (PInstr.ldm (1 : BitVec 4)
     (2 : BitVec 4) (0 : BitVec 18))).issues 1 (PInstr.ldm (1 : BitVec 4) (2 : BitVec 4) (0 : BitVec 18)) = true ∧ (65535 < ((eng1
     (PInstr.ldm (1 : BitVec 4) (2 : BitVec 4) (0 : BitVec 18))).pWord 1 (2 : BitVec 4) + BitVec.signExtend 64 (0 : BitVec 18)).toNat ∨
     ((eng1 (PInstr.ldm (1 : BitVec 4) (2 : BitVec 4) (0 : BitVec 18))).pWord 1 (2 : BitVec 4) + BitVec.signExtend 64 (0 : BitVec 18)).toNat
     % 2 = 1 ∨ (eng1 (PInstr.ldm (1 : BitVec 4) (2 : BitVec 4) (0 : BitVec 18))).inData 1 ((eng1 (PInstr.ldm (1 : BitVec 4) (2 : BitVec 4)
     (0 : BitVec 18))).pWord 1 (2 : BitVec 4) + BitVec.signExtend 64 (0 : BitVec 18)).toNat = false)) ∧
    ((PInstr.stm (3 : BitVec 4) (4 : BitVec 4) (1 : BitVec 18) = PInstr.ldm (3 : BitVec 4) (4 : BitVec 4) (1 : BitVec 18) ∨ PInstr.stm (3 :
     BitVec 4) (4 : BitVec 4) (1 : BitVec 18) = PInstr.stm (3 : BitVec 4) (4 : BitVec 4) (1 : BitVec 18)) ∧ (s07b (PInstr.stm (3 : BitVec 4)
     (4 : BitVec 4) (1 : BitVec 18))).issues 1 (PInstr.stm (3 : BitVec 4) (4 : BitVec 4) (1 : BitVec 18)) = true ∧ (65535 < ((s07b
     (PInstr.stm (3 : BitVec 4) (4 : BitVec 4) (1 : BitVec 18))).pWord 1 (4 : BitVec 4) + BitVec.signExtend 64 (1 : BitVec 18)).toNat ∨
     ((s07b (PInstr.stm (3 : BitVec 4) (4 : BitVec 4) (1 : BitVec 18))).pWord 1 (4 : BitVec 4) + BitVec.signExtend 64 (1 : BitVec 18)).toNat
     % 2 = 1 ∨ (s07b (PInstr.stm (3 : BitVec 4) (4 : BitVec 4) (1 : BitVec 18))).inData 1 ((s07b (PInstr.stm (3 : BitVec 4) (4 : BitVec 4)
     (1 : BitVec 18))).pWord 1 (4 : BitVec 4) + BitVec.signExtend 64 (1 : BitVec 18)).toNat = false)) := by
  and_intros <;> decide +kernel

/-- Each clause of Obligations.PitchBranches that has hypotheses meets them somewhere (the clauses by number, from 0: 0, 0, 0, 1,
1, 1, 2, 3, 4). -/
theorem witness_PitchBranches :
    ((eng1 (PInstr.br BrFn.beq (2 : BitVec 4) (2 : BitVec 4) (262080 : BitVec 18))).issues 1 (PInstr.br BrFn.beq (2 : BitVec 4) (2 : BitVec
     4) (262080 : BitVec 18)) = true) ∧
    ((eng1 (PInstr.br BrFn.bne (2 : BitVec 4) (2 : BitVec 4) (262080 : BitVec 18))).issues 1 (PInstr.br BrFn.bne (2 : BitVec 4) (2 : BitVec
     4) (262080 : BitVec 18)) = true) ∧
    ((eng1 (PInstr.br BrFn.bltu (3 : BitVec 4) (2 : BitVec 4) (131071 : BitVec 18))).issues 1 (PInstr.br BrFn.bltu (3 : BitVec 4) (2 :
     BitVec 4) (131071 : BitVec 18)) = true) ∧
    ((eng1 (PInstr.bri BriFn.beqi (1 : BitVec 4) (0 : BitVec 8) (16320 : BitVec 14))).issues 1 (PInstr.bri BriFn.beqi (1 : BitVec 4) (0 :
     BitVec 8) (16320 : BitVec 14)) = true) ∧
    ((eng1 (PInstr.bri BriFn.bnei (1 : BitVec 4) (0 : BitVec 8) (16320 : BitVec 14))).issues 1 (PInstr.bri BriFn.bnei (1 : BitVec 4) (0 :
     BitVec 8) (16320 : BitVec 14)) = true) ∧
    ((eng1 (PInstr.bri BriFn.bltui (1 : BitVec 4) (255 : BitVec 8) (8192 : BitVec 14))).issues 1 (PInstr.bri BriFn.bltui (1 : BitVec 4) (255
     : BitVec 8) (8192 : BitVec 14)) = true) ∧
    ((eng1 (PInstr.jal (14 : BitVec 4) (0 : BitVec 1) (65535 : BitVec 16))).issues 1 (PInstr.jal (14 : BitVec 4) (0 : BitVec 1) (65535 :
     BitVec 16)) = true) ∧
    ((eng1 (PInstr.jal (14 : BitVec 4) (1 : BitVec 1) (65535 : BitVec 16))).issues 1 (PInstr.jal (14 : BitVec 4) (1 : BitVec 1) (65535 :
     BitVec 16)) = true) ∧
    ((eng1 (PInstr.jr (2 : BitVec 4))).issues 1 (PInstr.jr (2 : BitVec 4)) = true) := by
  and_intros <;> decide +kernel

/-- Each clause of Obligations.PitchWaitsAndAccesses that has hypotheses meets them somewhere (the clauses by number, from 0: 0,
0, 1, 1, 2, 3, 3, 4, 5, 5, 6, 7, 8, 11, 9, 10, 12, 13, 14, 15). -/
theorem witness_PitchWaitsAndAccesses :
    ((s07d (PInstr.waitt (4 : BitVec 4) (262143 : BitVec 18)) 1000001).issues 1 (PInstr.waitt (4 : BitVec 4) (262143 : BitVec 18)) = true) ∧
    ((s07d (PInstr.waitt (4 : BitVec 4) (1 : BitVec 18)) 1000000).issues 1 (PInstr.waitt (4 : BitVec 4) (1 : BitVec 18)) = true) ∧
    ((eng1 PInstr.waitw).issues 1 PInstr.waitw = true) ∧
    ((s07e PInstr.waitw).issues 1 PInstr.waitw = true) ∧
    ((eng1 (PInstr.waitj (1 : BitVec 4) (2 : BitVec 4) (3 : BitVec 4))).issues 1 (PInstr.waitj (1 : BitVec 4) (2 : BitVec 4) (3 : BitVec 4))
     = true) ∧
    ((eng1 (PInstr.waitch (1 : BitVec 4) (2 : BitVec 4) (5 : BitVec 6))).issues 1 (PInstr.waitch (1 : BitVec 4) (2 : BitVec 4) (5 : BitVec
     6)) = true) ∧
    ((s07d (PInstr.waitch (1 : BitVec 4) (4 : BitVec 4) (5 : BitVec 6)) 1000000).issues 1 (PInstr.waitch (1 : BitVec 4) (4 : BitVec 4) (5 :
     BitVec 6)) = true) ∧
    ((s07w (some (WaitFor.time 1000000)) []).rst.on = true ∧ 1 < 4 ∧ (s07w (some (WaitFor.time 1000000)) []).engState 1 = 2 ∧ ((s07w (some
     (WaitFor.time 1000000)) []).eng 1).wait = some (WaitFor.time 1000000) ∧ 1000000 ≤ (s07w (some (WaitFor.time 1000000)) []).now) ∧
    ((s07w (some (WaitFor.chan 5 1000001 9)) [5]).rst.on = true ∧ 1 < 4 ∧ (s07w (some (WaitFor.chan 5 1000001 9)) [5]).engState 1 = 2 ∧
     ((s07w (some (WaitFor.chan 5 1000001 9)) [5]).eng 1).wait = some (WaitFor.chan 5 1000001 9) ∧ 9 < 16 ∧ (((s07w (some (WaitFor.chan 5
     1000001 9)) [5]).eng 1).chSeen ≠ [] ∨ 1000001 ≤ (s07w (some (WaitFor.chan 5 1000001 9)) [5]).now)) ∧
    ((s07w (some (WaitFor.chan 5 1000000 9)) []).rst.on = true ∧ 1 < 4 ∧ (s07w (some (WaitFor.chan 5 1000000 9)) []).engState 1 = 2 ∧ ((s07w
     (some (WaitFor.chan 5 1000000 9)) []).eng 1).wait = some (WaitFor.chan 5 1000000 9) ∧ 9 < 16 ∧ (((s07w (some (WaitFor.chan 5 1000000
     9)) []).eng 1).chSeen ≠ [] ∨ 1000000 ≤ (s07w (some (WaitFor.chan 5 1000000 9)) []).now)) ∧
    ((s07w (some (WaitFor.time 1000001)) []).rst.on = true ∧ 1 < 4 ∧ (s07w (some (WaitFor.time 1000001)) []).engState 1 = 2 ∧ ((s07w (some
     (WaitFor.time 1000001)) []).eng 1).wait = some (WaitFor.time 1000001) ∧ (s07w (some (WaitFor.time 1000001)) []).now < 1000001) ∧
    (1020 % 4 = 0 ∧ (∀ (w : WinAcc), w ∈ ((s07e (PInstr.crd (1 : BitVec 4) (3 : BitVec 4) (1020 : BitVec 10))).eng 1).wins → w.fate = none)
     ∧ (s07e (PInstr.crd (1 : BitVec 4) (3 : BitVec 4) (1020 : BitVec 10))).issues 1 (PInstr.crd (1 : BitVec 4) (3 : BitVec 4) (1020 :
     BitVec 10)) = true ∧ (s07e (PInstr.crd (1 : BitVec 4) (3 : BitVec 4) (1020 : BitVec 10))).winCode 1 winAcc1 = none) ∧
    (1020 % 4 = 0 ∧ (∀ (w : WinAcc), w ∈ ((s07e (PInstr.cwr (1 : BitVec 4) (3 : BitVec 4) (1020 : BitVec 10))).eng 1).wins → w.fate = none)
     ∧ (s07e (PInstr.cwr (1 : BitVec 4) (3 : BitVec 4) (1020 : BitVec 10))).issues 1 (PInstr.cwr (1 : BitVec 4) (3 : BitVec 4) (1020 :
     BitVec 10)) = true ∧ (s07e (PInstr.cwr (1 : BitVec 4) (3 : BitVec 4) (1020 : BitVec 10))).winCode 1 winAcc2 = none) ∧
    (1020 % 4 = 0 ∧ ((s07m (PInstr.crd (1 : BitVec 4) (3 : BitVec 4) (1020 : BitVec 10))).eng 1).wins = [] ∧ (s07m (PInstr.crd (1 : BitVec
     4) (3 : BitVec 4) (1020 : BitVec 10))).issues 1 (PInstr.crd (1 : BitVec 4) (3 : BitVec 4) (1020 : BitVec 10)) = true ∧ (s07m
     (PInstr.crd (1 : BitVec 4) (3 : BitVec 4) (1020 : BitVec 10))).f (F.PRB_ACC_ERR_VALID 1) = 0 ∧ (s07m (PInstr.crd (1 : BitVec 4) (3 :
     BitVec 4) (1020 : BitVec 10))).winCode 1 winAcc3 = some codeRights) ∧
    (((s07d (PInstr.vrd (1 : BitVec 4) (3 : BitVec 4) (4 : BitVec 4) (3 : BitVec 4) (1 : BitVec 1)) 4104).p 1 4 % if (1 : BitVec 1) = (1 :
     BitVec 1) then 8 else 4) = 0 ∧ (∀ (w : WinAcc), w ∈ ((s07d (PInstr.vrd (1 : BitVec 4) (3 : BitVec 4) (4 : BitVec 4) (3 : BitVec 4) (1 :
     BitVec 1)) 4104).eng 1).wins → w.fate = none) ∧ (s07d (PInstr.vrd (1 : BitVec 4) (3 : BitVec 4) (4 : BitVec 4) (3 : BitVec 4) (1 :
     BitVec 1)) 4104).issues 1 (PInstr.vrd (1 : BitVec 4) (3 : BitVec 4) (4 : BitVec 4) (3 : BitVec 4) (1 : BitVec 1)) = true ∧ (s07d
     (PInstr.vrd (1 : BitVec 4) (3 : BitVec 4) (4 : BitVec 4) (3 : BitVec 4) (1 : BitVec 1)) 4104).winCode 1 winAcc4 = none) ∧
    (((s07d (PInstr.vwr (2 : BitVec 4) (3 : BitVec 4) (4 : BitVec 4) (3 : BitVec 4) (0 : BitVec 1)) 4100).p 1 4 % if (0 : BitVec 1) = (1 :
     BitVec 1) then 8 else 4) = 0 ∧ (∀ (w : WinAcc), w ∈ ((s07d (PInstr.vwr (2 : BitVec 4) (3 : BitVec 4) (4 : BitVec 4) (3 : BitVec 4) (0 :
     BitVec 1)) 4100).eng 1).wins → w.fate = none) ∧ (s07d (PInstr.vwr (2 : BitVec 4) (3 : BitVec 4) (4 : BitVec 4) (3 : BitVec 4) (0 :
     BitVec 1)) 4100).issues 1 (PInstr.vwr (2 : BitVec 4) (3 : BitVec 4) (4 : BitVec 4) (3 : BitVec 4) (0 : BitVec 1)) = true ∧ (s07d
     (PInstr.vwr (2 : BitVec 4) (3 : BitVec 4) (4 : BitVec 4) (3 : BitVec 4) (0 : BitVec 1)) 4100).winCode 1 winAcc5 = none) ∧
    ((eng1 (PInstr.errs (1 : BitVec 4))).issues 1 (PInstr.errs (1 : BitVec 4)) = true) ∧
    ((s07d (PInstr.hrd (1 : BitVec 4) (4 : BitVec 4) (1040 : BitVec 18)) 16).issues 1 (PInstr.hrd (1 : BitVec 4) (4 : BitVec 4) (1040 :
     BitVec 18)) = true ∧ ((s07d (PInstr.hrd (1 : BitVec 4) (4 : BitVec 4) (1040 : BitVec 18)) 16).p 1 4 + 4 * 1040) % 2 ^ 20 % 4 = 0 ∧
     (s07d (PInstr.hrd (1 : BitVec 4) (4 : BitVec 4) (1040 : BitVec 18)) 16).inReset = false ∧ ((s07d (PInstr.hrd (1 : BitVec 4) (4 : BitVec
     4) (1040 : BitVec 18)) 16).p 1 4 + 4 * 1040) % 2 ^ 20 / 4096 ≠ 32 ∧ (s07d (PInstr.hrd (1 : BitVec 4) (4 : BitVec 4) (1040 : BitVec 18))
     16).hubCode (Agent.eng 1) (((s07d (PInstr.hrd (1 : BitVec 4) (4 : BitVec 4) (1040 : BitVec 18)) 16).p 1 4 + 4 * 1040) % 2 ^ 20) false 0
     = codeOk ∧ 64 ≤ ((s07d (PInstr.hrd (1 : BitVec 4) (4 : BitVec 4) (1040 : BitVec 18)) 16).p 1 4 + 4 * 1040) % 2 ^ 20 % 4096 ∧ hubRow
     (((s07d (PInstr.hrd (1 : BitVec 4) (4 : BitVec 4) (1040 : BitVec 18)) 16).p 1 4 + 4 * 1040) % 2 ^ 20) = some ((hubRow
     R.RDG_EPOCH_INT).getD rowX) ∧ ((hubRow R.RDG_EPOCH_INT).getD rowX).acc ≠ Acc.wo ∧ (s07d (PInstr.hrd (1 : BitVec 4) (4 : BitVec 4) (1040
     : BitVec 18)) 16).shown (Agent.eng 1) (((s07d (PInstr.hrd (1 : BitVec 4) (4 : BitVec 4) (1040 : BitVec 18)) 16).p 1 4 + 4 * 1040) % 2 ^
     20) = none ∧ perMaster (s07d (PInstr.hrd (1 : BitVec 4) (4 : BitVec 4) (1040 : BitVec 18)) 16) (((s07d (PInstr.hrd (1 : BitVec 4) (4 :
     BitVec 4) (1040 : BitVec 18)) 16).p 1 4 + 4 * 1040) % 2 ^ 20) = false ∧ ((s07d (PInstr.hrd (1 : BitVec 4) (4 : BitVec 4) (1040 : BitVec
     18)) 16).p 1 4 + 4 * 1040) % 2 ^ 20 ≠ R.WCH_LAG_SEL ∧ ((s07d (PInstr.hrd (1 : BitVec 4) (4 : BitVec 4) (1040 : BitVec 18)) 16).eng
     1).capHi = none) ∧
    ((s07d (PInstr.hwr (3 : BitVec 4) (4 : BitVec 4) (1040 : BitVec 18)) 16).issues 1 (PInstr.hwr (3 : BitVec 4) (4 : BitVec 4) (1040 :
     BitVec 18)) = true ∧ ((s07d (PInstr.hwr (3 : BitVec 4) (4 : BitVec 4) (1040 : BitVec 18)) 16).p 1 4 + 4 * 1040) % 2 ^ 20 ∈
     [R.RDG_EPOCH_INT, R.SCR_FLOW_EN 0, R.SCR_FLOW_EN 7] ∧ hubRow (((s07d (PInstr.hwr (3 : BitVec 4) (4 : BitVec 4) (1040 : BitVec 18))
     16).p 1 4 + 4 * 1040) % 2 ^ 20) = some ((hubRow R.RDG_EPOCH_INT).getD rowX) ∧ (s07d (PInstr.hwr (3 : BitVec 4) (4 : BitVec 4) (1040 :
     BitVec 18)) 16).inReset = false ∧ (s07d (PInstr.hwr (3 : BitVec 4) (4 : BitVec 4) (1040 : BitVec 18)) 16).may (Agent.eng 1) (hubWrite
     (Agent.eng 1) (((s07d (PInstr.hwr (3 : BitVec 4) (4 : BitVec 4) (1040 : BitVec 18)) 16).p 1 4 + 4 * 1040) % 2 ^ 20)) = true ∧ ((s07d
     (PInstr.hwr (3 : BitVec 4) (4 : BitVec 4) (1040 : BitVec 18)) 16).eng 1).heldLo = none) ∧
    ((s07d (PInstr.hwr (1 : BitVec 4) (4 : BitVec 4) (48 : BitVec 18)) 0).issues 1 (PInstr.hwr (1 : BitVec 4) (4 : BitVec 4) (48 : BitVec
     18)) = true ∧ ((s07d (PInstr.hwr (1 : BitVec 4) (4 : BitVec 4) (48 : BitVec 18)) 0).p 1 4 + 4 * 48) % 2 ^ 20 % 4 = 0 ∧ (s07d
     (PInstr.hwr (1 : BitVec 4) (4 : BitVec 4) (48 : BitVec 18)) 0).inReset = false ∧ ((s07d (PInstr.hwr (1 : BitVec 4) (4 : BitVec 4) (48 :
     BitVec 18)) 0).p 1 4 + 4 * 48) % 2 ^ 20 / 4096 = 0 ∧ (s07d (PInstr.hwr (1 : BitVec 4) (4 : BitVec 4) (48 : BitVec 18)) 0).f
     (F.PRB_ACC_ERR_VALID 1) = 0) := by
  and_intros <;> decide +kernel

/-- Each clause of Obligations.PitchEngines that has hypotheses meets them somewhere (the clauses by number, from 0: 0, 1, 2, 2,
3, 3, 4, 5, 5, 6, 7, 8). -/
theorem witness_PitchEngines :
    (1 < 4 ∧ s07f.ready Master.host (some rtProbe) (R.PRB_CTRL 1) = true ∧ bit 5 0 = true ∧ bit 5 1 = false ∧ s07f.engState 1 = 0 ∧
     s07f.auth.run = none) ∧
    (1 < 4 ∧ s07g.ready Master.host (some rtProbe) (R.PRB_CTRL 1) = true ∧ bit 2 0 = false ∧ bit 2 1 = true ∧ s07g.engState 1 ≠ 0) ∧
    (1 < 4 ∧ s07f.ready Master.host (some rtProbe) (R.PRB_PM_DATA 1) = true) ∧
    (1 < 4 ∧ s07g.ready Master.host (some rtProbe) (R.PRB_PM_DATA 1) = true) ∧
    (1 < 4 ∧ s07f.ready Master.host (some rtObserve) (R.PRB_PM_DATA 1) = true ∧ (s07f.mst Master.host).capHi = none) ∧
    (1 < 4 ∧ s07h.ready Master.host (some rtObserve) (R.PRB_PM_DATA 1) = true ∧ (s07h.mst Master.host).capHi = none) ∧
    (s07i.rst.on = true ∧ 1 < 4 ∧ s07i.engState 1 ≠ 0 ∧ 0 < s07i.f (F.PRB_WDOG_LIM 1) ∧ (s07i.eng 1).kickT + s07i.f (F.PRB_WDOG_LIM 1) * 256
     ≤ s07i.clk) ∧
    (s07i.rst.on = true ∧ 1 < 4) ∧
    (up.rst.on = true ∧ 1 < 4) ∧
    (s07j.rst.on = true ∧ 1 < 4 ∧ s07j.engState 1 = 1 ∧ s07j.inCodeOf 1 (s07j.pc 1) = false) ∧
    (s07k.rst.on = true ∧ 1 < 4 ∧ s07k.engState 1 = 1 ∧ s07k.inCodeOf 1 (s07k.pc 1) = true ∧ s07k.pmBad (s07k.pc 1) = false ∧ PInstr.decode
     (BitVec.ofNat 32 (s07k.pmWord (s07k.pc 1))) = none) ∧
    (s07l.rst.on = true ∧ 1 < 4 ∧ s07l.engState 1 = 1 ∧ s07l.inCodeOf 1 (s07l.pc 1) = true ∧ s07l.pmBad (s07l.pc 1) = false ∧ PInstr.decode
     (BitVec.ofNat 32 (s07l.pmWord (s07l.pc 1))) = some (PInstr.trig (5 : BitVec 6)) ∧ s07l.stalled 1 (PInstr.trig (5 : BitVec 6)) = false ∧
     s07l.lacks 1 (PInstr.trig (5 : BitVec 6)) = true) := by
  and_intros <;> decide +kernel

/-- Each clause of Obligations.PitchDecodesWhatItEncodes that has hypotheses meets them somewhere (the clauses by number, from 0:
0). -/
theorem witness_PitchDecodesWhatItEncodes :
    ((PInstr.cut (1 : BitVec 4) (2 : BitVec 4) (2 : BitVec 3) (1 : BitVec 1) (1 : BitVec 1)).wf = true) := by decide +kernel

/-- Each clause of Obligations.CrashCacheAndDumpRequests that has hypotheses meets them somewhere (the clauses by number, from 0:
0, 1, 1, 2, 3, 3, 4, 5, 6, 7, 7, 8, 9, 9, 10, 11). -/
theorem witness_CrashCacheAndDumpRequests :
    (s08a.ready Master.host (some rtDump) R.COU_CTRL = true ∧ bit 1 0 = true ∧ s08a.ccOn = false) ∧
    (s08b.ready Master.host (some rtDump) R.COU_CTRL = true ∧ bit 0 0 = false ∧ bit 0 11 = false ∧ s08b.ccOn = true) ∧
    (s04d.ready Master.host (some rtDump) R.COU_CTRL = true ∧ bit 0 0 = false ∧ bit 0 11 = false ∧ s04d.ccOn = true) ∧
    (s04d.rst.on = true) ∧
    (s04d.ready Master.pass (some rtDump) R.COU_CTRL = true ∧ bit 993 0 = s04d.ccOn ∧ bit 993 9 = true ∧ bit 993 11 = false) ∧
    (up.ready Master.pass (some rtDump) R.COU_CTRL = true ∧ bit 512 0 = up.ccOn ∧ bit 512 9 = true ∧ bit 512 11 = false) ∧
    (s08n.ready Master.host (some rtDump) R.COU_CTRL = true ∧ bit 2049 0 = true ∧ s08n.ccOn = true ∧ bit 2049 11 = true ∧ s08n.cou.cur =
     some 1 ∧ s08n.cut.cap = true ∧ s08n.cut.capAband = false ∧ (s08n.couSync.slot 1).st = 2) ∧
    (s04d.rst.on = true ∧ 4096 < memTop ∧ s04d.inCc 4096 = true) ∧
    (up.inCc 4096 = false) ∧
    (s04d.ready Master.host (some rtDump) R.COU_CMD = true ∧ bit 16 4 = true ∧ s04d.dumpCode (s04d.rd (R.COU_PROF (16 % 16))) true = 0 ∧
     s04d.cou.freeSlot = some 0 ∧ pfCut (s04d.rd (R.COU_PROF (16 % 16))) < 2 ∧ s04d.cutState = 0 ∧ s04d.hasJob ActKind.cutStop = false ∧
     s04d.hasJob ActKind.resume = false ∧ s04d.schedFull = false ∧ s04d.stp.active = false) ∧
    (s08d.ready Master.host (some rtDump) R.COU_CMD = true ∧ bit 19 4 = true ∧ s08d.dumpCode (s08d.rd (R.COU_PROF (19 % 16))) true = 0 ∧
     s08d.cou.freeSlot = some 0 ∧ pfCut (s08d.rd (R.COU_PROF (19 % 16))) < 2 ∧ s08d.cutState = 0 ∧ s08d.hasJob ActKind.cutStop = false ∧
     s08d.hasJob ActKind.resume = false ∧ s08d.schedFull = false ∧ s08d.stp.active = false) ∧
    (s08e.ready Master.host (some rtDump) R.COU_CMD = true ∧ bit 19 4 = true ∧ s08e.dumpCode (s08e.rd (R.COU_PROF (19 % 16))) true = 0 ∧
     s08e.cou.freeSlot = some 0 ∧ pfCut (s08e.rd (R.COU_PROF (19 % 16))) = 2 ∧ s08e.schedFull = false) ∧
    (up.ready Master.host (some rtDump) R.COU_CMD = true ∧ bit 16 4 = true ∧ up.dumpCode (up.rd (R.COU_PROF (16 % 16))) true ≠ 0) ∧
    (s08c.ready Master.host (some rtDump) R.COU_CMD = true ∧ bit 16 4 = true ∧ s08c.dumpCode (s08c.rd (R.COU_PROF (16 % 16))) true ≠ 0) ∧
    (up.ccOn = false) ∧
    (s08c.ccOn = true ∧ s08c.f F.COU_STAT_INIT_BUSY = 0 ∧ s08c.cou.cur = some 1) := by
  and_intros <;> decide +kernel

/-- Each clause of Obligations.DumpPagesAndDrains that has hypotheses meets them somewhere (the clauses by number, from 0: 0, 1,
1, 3, 4, 5, 6, 6, 7, 8, 9, 9, 10, 11, 12, 13, 14, 15, 16, 17, 18, 19, 20, 21). -/
theorem witness_DumpPagesAndDrains :
    ((behind (s03l s08f 999991)).rst.on = true ∧ (behind (s03l s08f 999991)).domainOk [edgeRep7] = true ∧ (List.map (fun r => r.cairn)
     [edgeRep7]).Nodup ∧ (behind (s03l s08f 999991)).reachedAct edgeRep7.cairn [ActKind.shadowLoad] edgeRep7.leaf = some pendAct5 ∧ (behind
     (s03l s08f 999991)).cou.cur = some 0) ∧
    ((s08g 0 64 (full on)).rst.on = true ∧ (s08g 0 64 (full on)).softPending = false ∧ (s08g 0 64 (full on)).cou.cur = some 0 ∧ ((s08g 0 64
     (full on)).slot 0).st = 2 ∧ (s08g 0 64 (full on)).pageReady 0 20064 = true ∧ (s08g 0 64 (full on)).pageTurn 0 20064 = true ∧ ((s08g 0
     64 (full on)).secure ((s08g 0 64 (full on)).pageOf ((s08g 0 64 (full on)).slot 0) 20064).fst ((s08g 0 64 (full on)).pageOf ((s08g 0 64
     (full on)).slot 0) 20064).snd.fst ((s08g 0 64 (full on)).pageOf ((s08g 0 64 (full on)).slot 0) 20064).snd.snd = false ∨ bit ((s08g 0 64
     (full on)).slot 0).rights rtDumpSecure = true) ∧ pfLz4 ((s08g 0 64 (full on)).slot 0).profW = false ∧ pfDedup ((s08g 0 64 (full
     on)).slot 0).profW = false ∧ pfCensus ((s08g 0 64 (full on)).slot 0).profW = false ∧ (((s08g 0 64 (full on)).bmuBytes 0 20064 []).all
     fun x => x == (0 : Byte)) = false ∧ (((s08g 0 64 (full on)).pageOf ((s08g 0 64 (full on)).slot 0) 20064).snd.fst = 0 ∨ (s08g 0 64 (full
     on)).pageRoom ((((s08g 0 64 (full on)).bmuBytes 0 20064 []).length + 63) / 64) = true)) ∧
    ((s08g 0 64 (full on)).rst.on = true ∧ (s08g 0 64 (full on)).softPending = false ∧ (s08g 0 64 (full on)).cou.cur = some 0 ∧ ((s08g 0 64
     (full on)).slot 0).st = 2 ∧ (s08g 0 64 (full on)).pageReady 0 20064 = true ∧ (s08g 0 64 (full on)).pageTurn 0 20064 = true ∧ ((s08g 0
     64 (full on)).secure ((s08g 0 64 (full on)).pageOf ((s08g 0 64 (full on)).slot 0) 20064).fst ((s08g 0 64 (full on)).pageOf ((s08g 0 64
     (full on)).slot 0) 20064).snd.fst ((s08g 0 64 (full on)).pageOf ((s08g 0 64 (full on)).slot 0) 20064).snd.snd = false ∨ bit ((s08g 0 64
     (full on)).slot 0).rights rtDumpSecure = true) ∧ pfLz4 ((s08g 0 64 (full on)).slot 0).profW = false ∧ pfDedup ((s08g 0 64 (full
     on)).slot 0).profW = false ∧ pfCensus ((s08g 0 64 (full on)).slot 0).profW = false ∧ (((s08g 0 64 (full on)).bmuBytes 0 20064
     [128]).all fun x => x == (0 : Byte)) = false ∧ (((s08g 0 64 (full on)).pageOf ((s08g 0 64 (full on)).slot 0) 20064).snd.fst = 0 ∨ (s08g
     0 64 (full on)).pageRoom ((((s08g 0 64 (full on)).bmuBytes 0 20064 [128]).length + 63) / 64) = true)) ∧
    ((s08g 0 64 ((full on).setF CF.U_OWNER_SEC 1)).rst.on = true ∧ (s08g 0 64 ((full on).setF CF.U_OWNER_SEC 1)).softPending = false ∧ (s08g
     0 64 ((full on).setF CF.U_OWNER_SEC 1)).cou.cur = some 0 ∧ ((s08g 0 64 ((full on).setF CF.U_OWNER_SEC 1)).slot 0).st = 2 ∧ (s08g 0 64
     ((full on).setF CF.U_OWNER_SEC 1)).pageReady 0 20064 = true ∧ (s08g 0 64 ((full on).setF CF.U_OWNER_SEC 1)).pageTurn 0 20064 = true ∧
     (s08g 0 64 ((full on).setF CF.U_OWNER_SEC 1)).secure ((s08g 0 64 ((full on).setF CF.U_OWNER_SEC 1)).pageOf ((s08g 0 64 ((full on).setF
     CF.U_OWNER_SEC 1)).slot 0) 20064).fst ((s08g 0 64 ((full on).setF CF.U_OWNER_SEC 1)).pageOf ((s08g 0 64 ((full on).setF CF.U_OWNER_SEC
     1)).slot 0) 20064).snd.fst ((s08g 0 64 ((full on).setF CF.U_OWNER_SEC 1)).pageOf ((s08g 0 64 ((full on).setF CF.U_OWNER_SEC 1)).slot 0)
     20064).snd.snd = true ∧ bit ((s08g 0 64 ((full on).setF CF.U_OWNER_SEC 1)).slot 0).rights rtDumpSecure = false) ∧
    (s08h.rst.on = true ∧ s08h.cou.cur = some 0 ∧ (s08h.slot 0).st ≠ 1 ∧ s08h.cou.written.contains 20064 = true) ∧
    (s08i.rst.on = true ∧ s08i.cou.openCh = some (ch 0) ∧ 16 ≤ (ch 0).pages.length ∧ (ch 0).first + 25000 ≤ s08i.clk) ∧
    ((s08j 1 true).rst.on = true ∧ (s08j 1 true).softPending = false ∧ (s08j 1 true).cou.cur = some 0 ∧ (s08j 1 true).cou.closing = [ch 1] ∧
     (ch 1).step < 3) ∧
    ((s08j 2 true).rst.on = true ∧ (s08j 2 true).softPending = false ∧ (s08j 2 true).cou.cur = some 0 ∧ (s08j 2 true).cou.closing = [ch 2] ∧
     (ch 2).step < 3) ∧
    ((s08j 3 false).rst.on = true ∧ 0 < 4 ∧ (s08j 3 false).cou.cur = some 0 ∧ (s08j 3 false).cou.closing = [ch 3] ∧ (ch 3).step = 3 ∧ ((s08j
     3 false).cou.lastClosed = false ∨ ([] : List Nat) ≠ [])) ∧
    ((s08j 3 true).rst.on = true ∧ 0 < 4 ∧ (s08j 3 true).cou.cur = some 0 ∧ (s08j 3 true).cou.closing = [ch 3] ∧ (ch 3).step = 3 ∧ (s08j 3
     true).cou.lastClosed = true ∧ pfSetRef ((s08j 3 true).slot 0).profW = false ∧ pfResume ((s08j 3 true).slot 0).profW = false ∧
     pfAutoDrain ((s08j 3 true).slot 0).profW = false) ∧
    (s08k.rst.on = true ∧ kindOf 2912 = 6 ∧ s08k.cou.linkWait.contains 2912 = true) ∧
    (s08q.rst.on = true ∧ kindOf 2912 = 6 ∧ s08q.cou.linkWait.contains 2912 = true) ∧
    (s08k.rst.on = true ∧ kindOf 2912 = 6 ∧ s08k.cou.linkWait.contains 2912 = true ∧ s08k.cou.linkT + 256 * max (s08k.f F.COU_LINK_TMO_TMO)
     1 ≤ s08k.clk) ∧
    ((s08l 3 none 4 2).ready Master.host (some rtDump) R.COU_DRAIN_CTRL = true ∧ bit 9 0 = true ∧ bit 9 1 = false ∧ (s08l 3 none 4
     2).cou.drain = none ∧ ((s08l 3 none 4 2).slot (9 / 4 % 4)).st ≠ 0) ∧
    ((s08l 3 (some dr) 4 2).ready Master.host (some rtDump) R.COU_DRAIN_CTRL = true ∧ bit 2 0 = false ∧ bit 2 1 = true ∧ (s08l 3 (some dr) 4
     2).cou.drain = some dr) ∧
    ((s08l 3 (some dr) 4 2).ready Master.host (some rtDump) R.COU_DRAIN_ACK = true ∧ (s08l 3 (some dr) 4 2).cou.drain = some dr ∧ dr.slot <
     4 ∧ ((s08l 3 (some dr) 4 2).slot dr.slot).ack ≤ 3 % 2 ^ 19 ∧ 3 % 2 ^ 19 ≤ dr.sent ∧ (s08l 3 (some dr) 4 2).f F.COU_CTRL_DRAIN_FREE = 0
     ∧ ¬(dr.tail = true ∧ ((s08l 3 (some dr) 4 2).slot dr.slot).st = 3 ∧ 3 % 2 ^ 19 = ((s08l 3 (some dr) 4 2).slot dr.slot).committed)) ∧
    ((s08l 3 (some drT) 3 2).ready Master.host (some rtDump) R.COU_DRAIN_ACK = true ∧ (s08l 3 (some drT) 3 2).cou.drain = some drT ∧
     drT.slot < 4 ∧ ((s08l 3 (some drT) 3 2).slot drT.slot).ack ≤ 3 % 2 ^ 19 ∧ 3 % 2 ^ 19 ≤ drT.sent ∧ drT.tail = true ∧ ((s08l 3 (some drT)
     3 2).slot drT.slot).st = 3 ∧ 3 % 2 ^ 19 = ((s08l 3 (some drT) 3 2).slot drT.slot).committed) ∧
    ((s08l 3 (some dr) 4 2).ready Master.host (some rtDump) R.COU_DRAIN_ACK = true ∧ (s08l 3 (some dr) 4 2).cou.drain = some dr ∧ (4 % 2 ^
     19 < ((s08l 3 (some dr) 4 2).slot dr.slot).ack ∨ dr.sent < 4 % 2 ^ 19)) ∧
    ((s08l 3 (some drH) 4 2).rst.on = true ∧ (s08l 3 (some drH) 4 2).cou.drain = some drH ∧ drH.paused = false ∧ (s08l 3 (some drH) 4
     2).passUp = true ∧ drH.head = false ∧ ((s08l 3 (some drH) 4 2).hdrBest drH.slot).isSome = true) ∧
    ((s08l 3 (some dr) 4 3).rst.on = true ∧ (s08l 3 (some dr) 4 3).cou.drain = some dr ∧ dr.paused = false ∧ (s08l 3 (some dr) 4 3).passUp =
     true ∧ dr.head = true ∧ ((s08l 3 (some dr) 4 3).hdrBest dr.slot).isSome = true ∧ dr.sent < ((s08l 3 (some dr) 4 3).slot
     dr.slot).committed ∧ dr.sent < ((s08l 3 (some dr) 4 3).slot dr.slot).ack + min (max ((s08l 3 (some dr) 4 3).f F.COU_DRAIN_CTRL_WINDOW)
     1) 8 ∧ List.find? (fun c => c.n == dr.sent + 1) ((s08l 3 (some dr) 4 3).slot dr.slot).chunks = some ch4) ∧
    ((s08p 3 (some dr) 4 3).rst.on = true ∧ (s08p 3 (some dr) 4 3).cou.drain = some dr ∧ dr.slot < 4 ∧ dr.paused = false ∧ (s08p 3 (some dr)
     4 3).passUp = true ∧ ((s08p 3 (some dr) 4 3).hdrBest dr.slot).isSome = false) ∧
    ((s08l 3 none 4 2).ready Master.host (some rtDump) R.COU_RELEASE = true ∧ bit 2147483650 31 = true ∧ ((s08l 3 none 4 2).slot (2147483650
     % 4)).st = 3 ∧ ((s08l 3 none 4 2).slot (2147483650 % 4)).released ≤ ((s08l 3 none 4 2).slot (2147483650 % 4)).committed ∧ (s08l 3 none
     4 2).cou.drain = none) ∧
    ((s08l 2 none 4 2).ready Master.host (some rtDump) R.COU_RELEASE = true ∧ bit 2147483650 31 = true ∧ (((s08l 2 none 4 2).slot
     (2147483650 % 4)).st = 1 ∨ ((s08l 2 none 4 2).slot (2147483650 % 4)).st = 2)) ∧
    (s08m.rst.on = true ∧ 2 < 4 ∧ (s08m.slot 2).st = 3 ∧ (s08m.slot 2).committed ≤ (s08m.slot 2).released) := by
  and_intros <;> decide +kernel

/-- Each clause of Obligations.CensusJobs that has hypotheses meets them somewhere (the clauses by number, from 0: 0, 0, 1, 1, 2,
3, 5, 6, 7, 8, 9, 9, 10, 10, 4). -/
theorem witness_CensusJobs :
    ((s09a (cd 4096)).ready Master.host (some rtCensus) R.CEN_SUBMIT = true ∧ (s09a (cd 4096)).jobCode false (mSrc Master.host) (256 %
     65536) ((s09a (cd 4096)).descAt false (256 % 65536)) = 0 ∧ (s09a (cd 4096)).cen.jobs.length < 8) ∧
    ((s09b [cjob 9]).ready Master.pass (some rtCensus) R.CEN_SUBMIT = true ∧ (s09b [cjob 9]).jobCode false (mSrc Master.pass) (256 % 65536)
     ((s09b [cjob 9]).descAt false (256 % 65536)) = 0 ∧ (s09b [cjob 9]).cen.jobs.length < 8) ∧
    (up.ready Master.host (some rtCensus) R.CEN_SUBMIT = true ∧ up.jobCode false (mSrc Master.host) (256 % 65536) (up.descAt false (256 %
     65536)) ≠ 0) ∧
    ((s09a (cd 4128)).ready Master.host (some rtCensus) R.CEN_SUBMIT = true ∧ (s09a (cd 4128)).jobCode false (mSrc Master.host) (256 %
     65536) ((s09a (cd 4128)).descAt false (256 % 65536)) ≠ 0) ∧
    ((dw (up.descAt false 256) 0 % 4 = 0 ∨ dw (up.descAt false 256) 0 % 4 = 3 ∨ dw (up.descAt false 256) 1 % 2 = 1)) ∧
    ((s09a (cd 4128)).censusDesc 256 ((s09a (cd 4128)).descAt false 256) = true ∧ 0 < dw ((s09a (cd 4128)).descAt false 256) 0 / 256 % 32 ∧
     regAddr ((s09a (cd 4128)).descAt false 256) 0 % 64 ≠ 0) ∧
    (((s09a (cd 4096)).setF F.LCY_STAT_IN_TRANSITION 1).f F.LCY_STAT_IN_TRANSITION = 1) ∧
    ((s09b [cjob 9]).ready Master.host (some rtCensus) R.CEN_ABORT = true ∧ (cjob 9).id = 9 % 65536 ∧ List.filter (fun k => k.id == (cjob
     9).id) (s09b [cjob 9]).cen.jobs = [cjob 9] ∧ (cjob 9).done = false ∧ (cjob 9).echo = none ∧ (s09b [cjob 9]).room ((s09b [cjob
     9]).jobCairn (cjob 9)) = true) ∧
    (up.ready Master.host (some rtCensus) R.CEN_ABORT = true ∧ (∀ (j : Job), j ∈ up.cen.jobs → j.id = 9 % 65536 → j.done = true ∨
     j.echo.isSome = true)) ∧
    ((s09b [cjob 9, cjob 10]).rst.on = true ∧ List.filter (fun k => k.id == (cjob 9).id) (s09b [cjob 9, cjob 10]).cen.jobs = [cjob 9] ∧
     (cjob 9).done = false ∧ (cjob 9).echo = none ∧ (s09b [cjob 9, cjob 10]).censusTurn = some (cjob 9).id ∧ (s09b [cjob 9, cjob 10]).room
     ((s09b [cjob 9, cjob 10]).jobCairn (cjob 9)) = true ∧ (∀ (k : Nat), k < 256 → ((s09b [cjob 9, cjob 10]).cairn (1312 + k)).ucWords =
     [])) ∧
    (((∀ (j : Job), j ∈ up.cen.jobs → j.id = 9 → j.done = true ∨ j.echo.isSome = true) ∨ up.censusTurn ≠ some 9)) ∧
    (((∀ (j : Job), j ∈ (s09b [cjob 9, cjob 10]).cen.jobs → j.id = 10 → j.done = true ∨ j.echo.isSome = true) ∨ (s09b [cjob 9, cjob
     10]).censusTurn ≠ some 10)) ∧
    ((s09b [cjob 9, cjob 10]).rst.on = true ∧ (s09b [cjob 9, cjob 10]).lcs ≠ 2 ∧ (List.map (fun x => x.id) (s09b [cjob 9, cjob
     10]).cen.jobs).Nodup) ∧
    ((s09d 2 (e0 EchoPhase.armed)).rst.on = true ∧ (s09d 2 (e0 EchoPhase.armed)).lcs ≠ 2 ∧ (List.map (fun x => x.id) (s09d 2 (e0
     EchoPhase.armed)).cen.jobs).Nodup) ∧
    ((s09b (List.map cjob (List.range 8))).censusDesc 256 ((s09b (List.map cjob (List.range 8))).descAt false 256) = true ∧ (∀ (r : Nat), r
     < dw ((s09b (List.map cjob (List.range 8))).descAt false 256) 0 / 256 % 32 → (s09b (List.map cjob (List.range 8))).regionOk ((s09b
     (List.map cjob (List.range 8))).descAt false 256) r = true) ∧ (s09b (List.map cjob (List.range 8))).masterJobs = 8) := by
  and_intros <;> decide +kernel

set_option maxRecDepth 8000 in
/-- Each clause of Obligations.EchoJobs that has hypotheses meets them somewhere (the clauses by number, from 0: 0, 0, 1, 2, 2, 2,
3, 4, 4, 5, 6, 7, 7, 8, 11, 12, 13, 14, 15, 16, 10, 17, 18, 19). -/
theorem witness_EchoJobs :
    ((s09c 2).ready Master.host (some rtCensus) R.ECH_SUBMIT = true ∧ (s09c 2).jobCode true (mSrc Master.host) (256 % 65536) ((s09c
     2).descAt true (256 % 65536)) = 0 ∧ (s09c 2).cen.jobs.length < 8 ∧ (s09c 2).pickSpares ((s09c 2).descAt true (256 % 65536)) = some
     (524, 525)) ∧
    ((s09c 1).ready Master.pass (some rtCensus) R.ECH_SUBMIT = true ∧ (s09c 1).jobCode true (mSrc Master.pass) (256 % 65536) ((s09c
     1).descAt true (256 % 65536)) = 0 ∧ (s09c 1).cen.jobs.length < 8 ∧ (s09c 1).pickSpares ((s09c 1).descAt true (256 % 65536)) = some
     (524, 65535)) ∧
    (s09e.ready Master.host (some rtCensus) R.ECH_SUBMIT = true ∧ s09e.jobCode true (mSrc Master.host) (256 % 65536) (s09e.descAt true (256
     % 65536)) ≠ 0) ∧
    (s09e.echoDesc 256 (s09e.descAt true 256) = true ∧ s09e.masterJobs < 8) ∧
    (s09f.echoDesc 256 (s09f.descAt true 256) = true ∧ s09f.masterJobs < 8) ∧
    ((s09a (ed 2)).echoDesc 256 ((s09a (ed 2)).descAt true 256) = true ∧ (s09a (ed 2)).masterJobs < 8) ∧
    ((s09d 2 (e0 EchoPhase.armed)).rst.on = true ∧ (s09d 2 (e0 EchoPhase.armed)).echoJob (ejob 2 (e0 EchoPhase.armed)) (e0 EchoPhase.armed)
     = true ∧ (e0 EchoPhase.armed).phase = EchoPhase.armed ∧ (e0 EchoPhase.armed).skip = 0 ∧ (s09d 2 (e0 EchoPhase.armed)).leafShows
     (echoTarget (ejob 2 (e0 EchoPhase.armed)).desc) 1000000 = true ∧ ((s09d 2 (e0 EchoPhase.armed)).cairn (echoTarget (ejob 2 (e0
     EchoPhase.armed)).desc)).powered = true ∧ ((s09d 2 (e0 EchoPhase.armed)).cairn (echoTarget (ejob 2 (e0 EchoPhase.armed)).desc)).frozen
     = false) ∧
    ((s09d 2 (e0 EchoPhase.capturing)).rst.on = true ∧ (s09d 2 (e0 EchoPhase.capturing)).echoJob (ejob 2 (e0 EchoPhase.capturing)) (e0
     EchoPhase.capturing) = true ∧ (e0 EchoPhase.capturing).phase = EchoPhase.capturing ∧ (s09d 2 (e0 EchoPhase.capturing)).leafShows
     (echoTarget (ejob 2 (e0 EchoPhase.capturing)).desc) 1000000 = true ∧ (s09d 2 (e0 EchoPhase.capturing)).room (echoTarget (ejob 2 (e0
     EchoPhase.capturing)).desc) = true ∧ ((s09d 2 (e0 EchoPhase.capturing)).cairn (echoTarget (ejob 2 (e0
     EchoPhase.capturing)).desc)).frozen = false ∧ acc1.length = 4096 ∧ (∀ (w : Nat × List Byte), w ∈ [] → w.fst + w.snd.length ≤ 16384) ∧
     echoSt1.streamLen ≤ 2 ^ 20) ∧
    ((s09d 2 (e0 EchoPhase.capturing)).rst.on = true ∧ (s09d 2 (e0 EchoPhase.capturing)).echoJob (ejob 2 (e0 EchoPhase.capturing)) (e0
     EchoPhase.capturing) = true ∧ (e0 EchoPhase.capturing).phase = EchoPhase.capturing ∧ (s09d 2 (e0 EchoPhase.capturing)).leafShows
     (echoTarget (ejob 2 (e0 EchoPhase.capturing)).desc) 1000000 = true ∧ (s09d 2 (e0 EchoPhase.capturing)).room (echoTarget (ejob 2 (e0
     EchoPhase.capturing)).desc) = true ∧ ((s09d 2 (e0 EchoPhase.capturing)).cairn (echoTarget (ejob 2 (e0
     EchoPhase.capturing)).desc)).frozen = false ∧ acc1.length = 4096 ∧ (∀ (w : Nat × List Byte), w ∈ [(7, [(1 : Byte), (2 : Byte)]),
     (16380, [(3 : Byte), (4 : Byte), (5 : Byte), (6 : Byte)])] → w.fst + w.snd.length ≤ 16384) ∧ echoSt2.streamLen ≤ 2 ^ 20) ∧
    ((s09d 2 (e0 EchoPhase.captured)).rst.on = true ∧ (s09d 2 (e0 EchoPhase.captured)).echoJob (ejob 2 (e0 EchoPhase.captured)) (e0
     EchoPhase.captured) = true ∧ (e0 EchoPhase.captured).phase = EchoPhase.captured ∧ kindOf (e0 EchoPhase.captured).spareA = 1 ∧ ((s09d 2
     (e0 EchoPhase.captured)).cairn (e0 EchoPhase.captured).spareA).frozen = false ∧ acc1.length = 4096) ∧
    ((s09d 2 (e0 EchoPhase.captured)).rst.on = true ∧ (s09d 2 (e0 EchoPhase.captured)).echoJob (ejob 2 (e0 EchoPhase.captured)) (e0
     EchoPhase.captured) = true ∧ (e0 EchoPhase.captured).phase = EchoPhase.captured ∧ kindOf (e0 EchoPhase.captured).spareB = 1 ∧ ((s09d 2
     (e0 EchoPhase.captured)).cairn (e0 EchoPhase.captured).spareB).frozen = false ∧ acc1.length = 4096) ∧
    ((s09d 2 eE).rst.on = true ∧ (s09d 2 eE).echoJob (ejob 2 eE) eE = true ∧ eE.outA = some acc0 ∧ (echoVote (ejob 2 eE).desc = true →
     eE.outB.isSome = true) ∧ (s09d 2 eE).room (echoTarget (ejob 2 eE).desc) = true ∧ bit (dw (ejob 2 eE).desc 0) 2 = false) ∧
    ((s09d 1 eE).rst.on = true ∧ (s09d 1 eE).echoJob (ejob 1 eE) eE = true ∧ eE.outA = some acc0 ∧ (echoVote (ejob 1 eE).desc = true →
     eE.outB.isSome = true) ∧ (s09d 1 eE).room (echoTarget (ejob 1 eE).desc) = true ∧ bit (dw (ejob 1 eE).desc 0) 2 = false) ∧
    (eE.outT = acc0) ∧
    ((s09d 2 (e0 EchoPhase.armed)).rst.on = true ∧ (s09d 2 (e0 EchoPhase.armed)).echoJob (ejob 2 (e0 EchoPhase.armed)) (e0 EchoPhase.armed)
     = true ∧ (s09d 2 (e0 EchoPhase.armed)).room (echoTarget (ejob 2 (e0 EchoPhase.armed)).desc) = true ∧ kindOf (e0 EchoPhase.armed).spareA
     = 1 ∧ (e0 EchoPhase.armed).spareA ≠ echoTarget (ejob 2 (e0 EchoPhase.armed)).desc ∧ (e0 EchoPhase.armed).deadline ≤ (s09d 2 (e0
     EchoPhase.armed)).clk) ∧
    (s09g.echoJob (ejob 2 (e0 EchoPhase.armed)) (e0 EchoPhase.armed) = true ∧ s09g.clk < (e0 EchoPhase.armed).deadline) ∧
    ((s09d 2 eL).rst.on = true ∧ (s09d 2 eL).echoJob (ejob 2 eL) eL = true ∧ (s09d 2 eL).room (echoTarget (ejob 2 eL).desc) = true ∧
     eL.phase = EchoPhase.capturing ∧ ((s09d 2 eL).cairn (echoTarget (ejob 2 eL).desc)).frozen = false ∧ 4 + long.length ≤ 16384 ∧ 2 ^ 20 <
     eL.streamLen + long.length) ∧
    ((s09d 2 eL).rst.on = true ∧ (s09d 2 eL).echoJob (ejob 2 eL) eL = true ∧ (s09d 2 eL).room (echoTarget (ejob 2 eL).desc) = true ∧ (s09d 2
     eL).leafShows (echoTarget (ejob 2 eL).desc) 1000000 = true ∧ eL.phase = EchoPhase.capturing ∧ ((s09d 2 eL).cairn (echoTarget (ejob 2
     eL).desc)).frozen = false ∧ 4 + long.length ≤ 16384 ∧ 2 ^ 20 < eL.streamLen + long.length) ∧
    ((s09d 2 (e0 EchoPhase.armed)).ready Master.host (some rtCensus) R.ECH_ABORT = true ∧ (s09d 2 (e0 EchoPhase.armed)).echoJob (ejob 2 (e0
     EchoPhase.armed)) (e0 EchoPhase.armed) = true ∧ (ejob 2 (e0 EchoPhase.armed)).id = 3 % 65536 ∧ (s09d 2 (e0 EchoPhase.armed)).room
     (echoTarget (ejob 2 (e0 EchoPhase.armed)).desc) = true) ∧
    ((s09d 2 (e0 EchoPhase.armed)).rst.on = true ∧ 3 < 8 ∧ (s09d 2 (e0 EchoPhase.armed)).lcs ≠ 2 ∧ (s09d 2 (e0 EchoPhase.armed)).echoOf 3 =
     some (ejob 2 (e0 EchoPhase.armed)) ∧ (s09d 2 (e0 EchoPhase.armed)).echoJob (ejob 2 (e0 EchoPhase.armed)) (e0 EchoPhase.armed) = true ∧
     (s09d 2 (e0 EchoPhase.armed)).room (echoTarget (ejob 2 (e0 EchoPhase.armed)).desc) = true) ∧
    ((s09d 6 eC).rst.on = true ∧ (s09d 6 eC).echoJob (ejob 6 eC) eC = true ∧ eC.outA = some acc1 ∧ (echoVote (ejob 6 eC).desc = true →
     eC.outB.isSome = true) ∧ bit (dw (ejob 6 eC).desc 0) 2 = true ∧ kindOf (echoTarget (ejob 6 eC).desc) = 1 ∧ kindOf eC.spareA = 1 ∧
     kindOf eC.spareB = 1) ∧
    ((s09d 2 eS).rst.on = true ∧ (s09d 2 eS).echoJob (ejob 2 eS) eS = true ∧ eS.phase = EchoPhase.armed ∧ eS.skip ≠ 0 ∧ (s09d 2
     eS).leafShows (echoTarget (ejob 2 eS).desc) 1000000 = true ∧ ((s09d 2 eS).cairn (echoTarget (ejob 2 eS).desc)).frozen = false) ∧
    ((s09d 2 (e0 EchoPhase.capturing)).rst.on = true ∧ (s09d 2 (e0 EchoPhase.capturing)).echoJob (ejob 2 (e0 EchoPhase.capturing)) (e0
     EchoPhase.capturing) = true ∧ (e0 EchoPhase.capturing).phase = EchoPhase.capturing ∧ ((s09d 2 (e0 EchoPhase.capturing)).cairn
     (echoTarget (ejob 2 (e0 EchoPhase.capturing)).desc)).frozen = false ∧ 4 + [(9 : Byte), (8 : Byte)].length ≤ 16384 ∧ (e0
     EchoPhase.capturing).streamLen + [(9 : Byte), (8 : Byte)].length ≤ 2 ^ 20) ∧
    ((s09c 2).rst.on = true ∧ 3 < 8 ∧ (s09c 2).lcs ≠ 2 ∧ (s09c 2).echoOf 3 = none) := by
  and_intros <;> decide +kernel

/-- Each clause of Obligations.TraceRequestsAndBlocks that has hypotheses meets them somewhere (the clauses by number, from 0: 0,
1, 2, 3, 3, 4, 4, 5, 6, 7, 8, 9, 10, 11, 12, 13, 14, 15, 16, 17, 18, 19, 19, 20, 21, 22). -/
theorem witness_TraceRequestsAndBlocks :
    (s10a.ready Master.host (some rtTrace) R.SCR_CMD = true ∧ 67174401 % 8 = 1 ∧ 67174401 / 65536 % 4096 ≠ 0 ∧ bit (67174401 / 65536 % 4096)
     sbFlow = false ∧ s10a.f F.SCR_STAT_RING_FULL = 0) ∧
    (s10a.ready Master.pass (some rtTrace) R.SCR_CMD = true ∧ 67174402 % 8 = 2 ∧ 67174402 / 65536 % 4096 ≠ 0 ∧ bit (67174402 / 65536 % 4096)
     sbFlow = false) ∧
    (s10d.ready Master.host (some rtTrace) R.SCR_CMD = true ∧ 2097157 % 8 = 5 ∧ 2097157 / 65536 % 4096 ≠ 0 ∧ s10d.f F.SCR_STAT_RING_FULL = 0
     ∧ bit (2097157 / 65536 % 4096) sbFlow = true ∧ (s10d.flowSel.any fun x => decide (x ≠ 0)) = true ∧ s10d.flowFull s10d.flowSel = false) ∧
    (s10a.ready Master.host (some rtTrace) R.SCR_CMD = true ∧ 1 % 4 = 1 ∧ (1 / 65536 % 4096 = 0 ∨ s10a.f F.SCR_STAT_RING_FULL = 1)) ∧
    ((s10a.setF F.SCR_STAT_RING_FULL 1).ready Master.host (some rtTrace) R.SCR_CMD = true ∧ 67174401 % 4 = 1 ∧ (67174401 / 65536 % 4096 = 0
     ∨ (s10a.setF F.SCR_STAT_RING_FULL 1).f F.SCR_STAT_RING_FULL = 1)) ∧
    ((s10c s10a (act true 4095)).rst.on = true ∧ firstAct (List.filter (fun a => decide (a.t ≤ (s10c s10a (act true 4095)).now)) (s10c s10a
     (act true 4095)).scr.acts) = some (act true 4095) ∧ (act true 4095).start = true ∧ (s10c s10a (act true 4095)).f F.SCR_STAT_RING_FULL =
     0 ∧ (s10c s10a (act true 4095)).trMask = 0 ∧ (act true 4095).mask ≠ 0 ∧ (act true 4095).mask < 4096 ∧ (s10c s10a (act true
     4095)).scr.stage.length < 4095 ∧ (s10c s10a (act true 4095)).f F.SCR_STAT_LEVEL = 0) ∧
    ((s10c s10l actF).rst.on = true ∧ firstAct (List.filter (fun a => decide (a.t ≤ (s10c s10l actF).now)) (s10c s10l actF).scr.acts) = some
     actF ∧ actF.start = true ∧ (s10c s10l actF).f F.SCR_STAT_RING_FULL = 0 ∧ (s10c s10l actF).trMask = 0 ∧ actF.mask ≠ 0 ∧ actF.mask < 4096
     ∧ (s10c s10l actF).scr.stage.length < 4095 ∧ (s10c s10l actF).f F.SCR_STAT_LEVEL = 0) ∧
    ((s10c (s10b 1025) (act true 2048)).rst.on = true ∧ firstAct (List.filter (fun a => decide (a.t ≤ (s10c (s10b 1025) (act true
     2048)).now)) (s10c (s10b 1025) (act true 2048)).scr.acts) = some (act true 2048) ∧ (act true 2048).start = true ∧ (s10c (s10b 1025)
     (act true 2048)).f F.SCR_STAT_RING_FULL = 0 ∧ (s10c (s10b 1025) (act true 2048)).trMask ≠ 0) ∧
    (s10e.rst.on = true ∧ firstAct (List.filter (fun a => decide (a.t ≤ s10e.now)) s10e.scr.acts) = some (act false 4095) ∧ (act false
     4095).start = false ∧ s10e.trMask ≠ 0 ∧ s10e.trMask.land (act false 4095).mask = s10e.trMask ∧ s10e.secOk = true ∧
     s10e.scr.stage.length < 4096) ∧
    ((up.scr.acts.all fun a => decide (up.now < a.t)) = true) ∧
    ((s10f (pk 990000 (some 10)) 986000).rst.on = true ∧ firstPkt (s10f (pk 990000 (some 10)) 986000).scr.stage = some (pk 990000 (some 10))
     ∧ (pk 990000 (some 10)).stamp + 256 ≤ (s10f (pk 990000 (some 10)) 986000).now ∧ (s10f (pk 990000 (some 10)) 986000).bitAt (pk 990000
     (some 10)).bit (pk 990000 (some 10)).stamp = true ∧ (s10f (pk 990000 (some 10)) 986000).f F.SCR_STAT_LEVEL = 0 ∧ (s10f (pk 990000 (some
     10)) 986000).f F.SCR_CTRL_MIN_LEVEL = 0 ∧ (s10f (pk 990000 (some 10)) 986000).trMode = 0 ∧ (s10f (pk 990000 (some 10))
     986000).scr.flush = none ∧ (s10f (pk 990000 (some 10)) 986000).scr.cur = some (blk 65 [(7 : Byte)]) ∧ ¬((blk 65 [(7 : Byte)]).no % 64 =
     0 ∧ (blk 65 [(7 : Byte)]).first = 0) ∧ (blk 65 [(7 : Byte)]).body.length + 2 + (pk 990000 (some 10)).body.length < 4088 ∧ (s10f (pk
     990000 (some 10)) 986000).scr.runT ≤ (pk 990000 (some 10)).stamp ∧ (pk 990000 (some 10)).stamp ≤ (s10f (pk 990000 (some 10))
     986000).scr.runT + 4095 ∧ (pk 990000 (some 10)).typ ≠ pkFlow ∧ (pk 990000 (some 10)).typ ≠ pkLoss ∧ (pk 990000 (some 10)).typ ≠ pkSync) ∧
    ((s10f (pk 990000 (some 10)) 990001).rst.on = true ∧ firstPkt (s10f (pk 990000 (some 10)) 990001).scr.stage = some (pk 990000 (some 10))
     ∧ (pk 990000 (some 10)).stamp + 256 ≤ (s10f (pk 990000 (some 10)) 990001).now ∧ (s10f (pk 990000 (some 10)) 990001).bitAt (pk 990000
     (some 10)).bit (pk 990000 (some 10)).stamp = true ∧ (s10f (pk 990000 (some 10)) 990001).f F.SCR_STAT_LEVEL = 0 ∧ (s10f (pk 990000 (some
     10)) 990001).f F.SCR_CTRL_MIN_LEVEL = 0 ∧ (s10f (pk 990000 (some 10)) 990001).trMode = 0 ∧ (s10f (pk 990000 (some 10))
     990001).scr.flush = none ∧ (s10f (pk 990000 (some 10)) 990001).scr.cur = some (blk 65 [(7 : Byte)]) ∧ ¬((blk 65 [(7 : Byte)]).no % 64 =
     0 ∧ (blk 65 [(7 : Byte)]).first = 0) ∧ (blk 65 [(7 : Byte)]).body.length + 11 + (pk 990000 (some 10)).body.length < 4088 ∧ (pk 990000
     (some 10)).stamp < (s10f (pk 990000 (some 10)) 990001).scr.runT ∧ (pk 990000 (some 10)).typ ≠ pkFlow ∧ (pk 990000 (some 10)).typ ≠
     pkLoss ∧ (pk 990000 (some 10)).typ ≠ pkSync) ∧
    ((s10f (pk 990000 (some 9)) 986000).rst.on = true ∧ firstPkt (s10f (pk 990000 (some 9)) 986000).scr.stage = some (pk 990000 (some 9)) ∧
     (pk 990000 (some 9)).stamp + 256 ≤ (s10f (pk 990000 (some 9)) 986000).now ∧ (s10f (pk 990000 (some 9)) 986000).bitAt (pk 990000 (some
     9)).bit (pk 990000 (some 9)).stamp = false ∧ (s10f (pk 990000 (some 9)) 986000).f F.SCR_STAT_LEVEL = 0 ∧ (s10f (pk 990000 (some 9))
     986000).f F.SCR_CTRL_MIN_LEVEL = 0 ∧ (s10f (pk 990000 (some 9)) 986000).trMode = 0 ∧ (s10f (pk 990000 (some 9)) 986000).scr.flush =
     none) ∧
    (((s10f (pk 999800 (some 9)) 986000).scr.stage.all fun p => decide ((s10f (pk 999800 (some 9)) 986000).now < p.stamp + 256)) = true ∧
     (s10f (pk 999800 (some 9)) 986000).scr.flush = none) ∧
    ((s10b 1).rst.on = true ∧ (s10b 1).trMask ≠ 0 ∧ (s10b 1).scr.lastSync < (s10b 1).now / 65536 ∧ (s10b 1).scr.stage.length + ((s10b 1).now
     / 65536 - (s10b 1).scr.lastSync) ≤ 4096) ∧
    ((s10b 2048).ready Master.host (some rtTrace) R.SCR_MARK = true ∧ (s10b 2048).scr.stage.length < 4096 ∧ bit (s10b 2048).trMask sbMark =
     true) ∧
    ((s10b 1024).ready Master.host (some rtTrace) R.SCR_MARK = true ∧ bit (s10b 1024).trMask sbMark = false) ∧
    ((s10g [] (some (blk 7 [(1 : Byte)])) 2).rst.on = true ∧ (s10g [] (some (blk 7 [(1 : Byte)])) 2).scr.cur = some (blk 7 [(1 : Byte)]) ∧
     (s10g [] (some (blk 7 [(1 : Byte)])) 2).trMode = 2 ∧ (blk 7 [(1 : Byte)]).body ≠ [] ∧ (blk 7 [(1 : Byte)]).t + 250000 ≤ (s10g [] (some
     (blk 7 [(1 : Byte)])) 2).clk ∧ (s10g [] (some (blk 7 [(1 : Byte)])) 2).f F.SCR_STAT_LEVEL = 0 ∧ (s10g [] (some (blk 7 [(1 : Byte)]))
     2).f F.SCR_CTRL_MIN_LEVEL = 0 ∧ (s10g [] (some (blk 7 [(1 : Byte)])) 2).f F.SCR_CTRL_AUTO_THR = 0) ∧
    (v10a.scr.cur = some (blk 7 [(1 : Byte)]) ∧ v10a.clk < (blk 7 [(1 : Byte)]).t + 250000) ∧
    ((s10g [blk 6 [(9 : Byte)], blk 7 []] none 1).rst.on = true ∧ (s10g [blk 6 [(9 : Byte)], blk 7 []] none 1).scr.paused = false ∧ (s10g
     [blk 6 [(9 : Byte)], blk 7 []] none 1).ringLen ≠ 0 ∧ (s10g [blk 6 [(9 : Byte)], blk 7 []] none 1).trMode = 1 ∧ (s10g [blk 6 [(9 :
     Byte)], blk 7 []] none 1).scr.buf = [blk 6 [(9 : Byte)], blk 7 []] ∧ (s10g [blk 6 [(9 : Byte)], blk 7 []] none 1).f
     F.SCR_CTRL_RING_STOP = 0 ∧ (blk 6 [(9 : Byte)]).body.length ≤ 4088 ∧ (s10g [blk 6 [(9 : Byte)], blk 7 []] none 1).f F.SCR_STAT_LEVEL =
     0 ∧ (s10g [blk 6 [(9 : Byte)], blk 7 []] none 1).f F.SCR_CTRL_MIN_LEVEL = 0 ∧ (s10g [blk 6 [(9 : Byte)], blk 7 []] none 1).f
     F.SCR_CTRL_AUTO_THR = 0) ∧
    (s10h.rst.on = true ∧ s10h.scr.paused = false ∧ s10h.ringLen ≠ 0 ∧ s10h.trMode = 1 ∧ s10h.scr.buf = [blk 260 [(9 : Byte)]] ∧ s10h.f
     F.SCR_CTRL_RING_STOP = 1 ∧ (s10h.scr.ring.any fun r => r.fst % s10h.ringLen == (blk 260 [(9 : Byte)]).no % s10h.ringLen && r.snd) =
     true ∧ s10h.f F.SCR_STAT_RING_FULL = 0 ∧ s10h.trMask ≠ 0 ∧ s10h.scr.stage.length + List.length s10h.scr.secure < 4096) ∧
    ((s10g [] none 2).rst.on = true ∧ 1048576 < memTop ∧ (s10g [] none 2).inRing 1048576 = true) ∧
    ((s10g [] none 2).rst.on = true ∧ 2097151 < memTop ∧ (s10g [] none 2).inRing 2097151 = true) ∧
    ((s10g [] none 2).inRing 2097152 = false) ∧
    ((s10g [blk 6 [(9 : Byte)], blk 7 []] none 1).rst.on = true ∧ blk 6 [(9 : Byte)] ∈ (s10g [blk 6 [(9 : Byte)], blk 7 []] none 1).scr.buf) ∧
    (s10i.ready Master.host (some rtTrace) R.SCR_CTRL = true ∧ bit 778 3 = true ∧ s10i.trMask = 0 ∧ s10i.scr.flush = none ∧ s10i.f
     F.WCH_CTRL_TFIT_EN = 0) := by
  and_intros <;> decide +kernel

set_option maxRecDepth 8000 in
/-- Each clause of Obligations.TraceFlowAndDrains that has hypotheses meets them somewhere (the clauses by number, from 0: 0, 1,
2, 3, 4, 5, 6, 6, 7, 8, 9, 10, 11, 12, 13). -/
theorem witness_TraceFlowAndDrains :
    (kindOf 1057 = 2 ∧ (s10j 0 (gc 15)).rst.on = true ∧ ((s10j 0 (gc 15)).cairn 1057).powered = true ∧ ((s10j 0 (gc 15)).cairn 1057).frozen
     = false ∧ (s10j 0 (gc 15)).leafShows 1057 1000000 = true ∧ (s10j 0 (gc 15)).spanAt sbFlow 1000000 = true ∧ flowBit (s10j 0 (gc
     15)).scr.flowOn (1057 - 1056) = true ∧ ((s10j 0 (gc 15)).cairn 1057).flowRange 256 = true ∧ ((s10j 0 (gc 15)).cairn 1057).flowRun =
     true ∧ (s10j 0 (gc 15)).f F.SCR_STAT_LEVEL ≠ 1 ∧ ((s10j 0 (gc 15)).cairn 1057).flow.length < 16) ∧
    (kindOf 1057 = 2 ∧ (s10j 0 (gc 16)).rst.on = true ∧ ((s10j 0 (gc 16)).cairn 1057).powered = true ∧ ((s10j 0 (gc 16)).cairn 1057).frozen
     = false ∧ (s10j 0 (gc 16)).leafShows 1057 1000000 = true ∧ (s10j 0 (gc 16)).spanAt sbFlow 1000000 = true ∧ flowBit (s10j 0 (gc
     16)).scr.flowOn (1057 - 1056) = true ∧ ((s10j 0 (gc 16)).cairn 1057).flowRange 256 = true ∧ ((s10j 0 (gc 16)).cairn 1057).flowRun =
     true ∧ (s10j 0 (gc 16)).f F.SCR_STAT_LEVEL ≠ 1 ∧ ((s10j 0 (gc 16)).cairn 1057).flow.length = 16) ∧
    (kindOf 1057 = 2 ∧ ((s10j 1 (gc 1)).setF F.SCR_CTRL_SAMPLE 3).rst.on = true ∧ (((s10j 1 (gc 1)).setF F.SCR_CTRL_SAMPLE 3).cairn
     1057).powered = true ∧ (((s10j 1 (gc 1)).setF F.SCR_CTRL_SAMPLE 3).cairn 1057).frozen = false ∧ ((s10j 1 (gc 1)).setF F.SCR_CTRL_SAMPLE
     3).leafShows 1057 1000000 = true ∧ ((s10j 1 (gc 1)).setF F.SCR_CTRL_SAMPLE 3).spanAt sbFlow 1000000 = true ∧ flowBit ((s10j 1 (gc
     1)).setF F.SCR_CTRL_SAMPLE 3).scr.flowOn (1057 - 1056) = true ∧ (((s10j 1 (gc 1)).setF F.SCR_CTRL_SAMPLE 3).cairn 1057).flowRange 256 =
     true ∧ (((s10j 1 (gc 1)).setF F.SCR_CTRL_SAMPLE 3).cairn 1057).flowRun = true ∧ ((s10j 1 (gc 1)).setF F.SCR_CTRL_SAMPLE 3).f
     F.SCR_STAT_LEVEL = 1 ∧ (((s10j 1 (gc 1)).setF F.SCR_CTRL_SAMPLE 3).cairn 1057).flowLast + 1 < 2 ^ ((s10j 1 (gc 1)).setF
     F.SCR_CTRL_SAMPLE 3).f F.SCR_CTRL_SAMPLE) ∧
    (kindOf 1057 = 2 ∧ (s10j 0 (gc 1)).rst.on = true ∧ ((s10j 0 (gc 1)).cairn 1057).powered = true ∧ ((s10j 0 (gc 1)).cairn 1057).frozen =
     false ∧ (s10j 0 (gc 1)).leafShows 1057 1000000 = true ∧ (s10j 0 (gc 1)).spanAt sbFlow 1000000 = true ∧ flowBit (s10j 0 (gc
     1)).scr.flowOn (1057 - 1056) = true ∧ ((s10j 0 (gc 1)).cairn 1057).flowRange 4097 = false) ∧
    (kindOf 1057 = 2 ∧ v10b.rst.on = true ∧ (v10b.cairn 1057).powered = true ∧ v10b.leafShows 1057 1000000 = true ∧ (v10b.cairn
     1057).flowLost ≠ 0 ∧ (v10b.cairn 1057).flow.length < 16 ∧ v10b.scr.stage.length < 4096 ∧ v10b.tracing = true) ∧
    (kindOf 1057 = 2 ∧ ((s10j 0 (gc 1)).cairn 1057).flowLost = 0) ∧
    ((s10k none 2).ready Master.host (some rtTrace) R.SCR_DRAIN_CTRL = true ∧ bit 4097 0 = true ∧ bit 4097 1 = false ∧ (s10k none
     2).scr.drain = none ∧ ((s10k none 2).trMode = 2 ∨ (s10k none 2).scr.ring ≠ [] ∨ (s10k none 2).scr.buf ≠ [])) ∧
    ((s10k none 1).ready Master.host (some rtTrace) R.SCR_DRAIN_CTRL = true ∧ bit 4097 0 = true ∧ bit 4097 1 = false ∧ (s10k none
     1).scr.drain = none ∧ ((s10k none 1).trMode = 2 ∨ (s10k none 1).scr.ring ≠ [] ∨ (s10k none 1).scr.buf ≠ [])) ∧
    ((s10k (some (td false [6])) 2).ready Master.host (some rtTrace) R.SCR_DRAIN_CTRL = true ∧ bit 2 1 = true ∧ (s10k (some (td false [6]))
     2).scr.drain = some (td false [6])) ∧
    ((s10k (some (td false [6])) 2).ready Master.host (some rtTrace) R.SCR_DRAIN_ACK = true ∧ (s10k (some (td false [6])) 2).scr.drain =
     some (td false [6]) ∧ (td false [6]).sent.contains 6 = true ∧ (td false [6]).copy = false ∧ (s10k (some (td false [6])) 2).f
     F.SCR_STAT_LEVEL = 0 ∧ (s10k (some (td false [6])) 2).f F.SCR_CTRL_MIN_LEVEL = 0 ∧ (s10k (some (td false [6])) 2).f F.SCR_CTRL_AUTO_THR
     = 0 ∧ (s10k (some (td false [6])) 2).trMode = 2) ∧
    ((s10k (some (td false [6])) 2).ready Master.host (some rtTrace) R.SCR_DRAIN_ACK = true ∧ (s10k (some (td false [6])) 2).scr.drain =
     some (td false [6]) ∧ (td false [6]).sent.contains 9 = false) ∧
    ((s10k (some (td false [6])) 2).rst.on = true ∧ (s10k (some (td false [6])) 2).passUp = true ∧ (s10k (some (td false [6])) 2).scr.paused
     = false ∧ (s10k (some (td false [6])) 2).scr.drain = some (td false [6]) ∧ (s10k (some (td false [6])) 2).trNext = some 7 ∧ (s10k (some
     (td false [6])) 2).blkSend 7 ((s10k (some (td false [6])) 2).has Master.pass rtTraceSecure) = some (false, (blk 7 []).bytes) ∧ (td
     false [6]).copy = false) ∧
    ((s10k none 2).trNext = none) ∧
    (((s10k (some (td false [6])) 2).setF F.SCR_DRAIN_CTRL_WINDOW 0).scr.drain = some (td false [6]) ∧ max (((s10k (some (td false [6]))
     2).setF F.SCR_DRAIN_CTRL_WINDOW 0).f F.SCR_DRAIN_CTRL_WINDOW) 1 ≤ (td false [6]).sent.length) ∧
    (kindOf 1057 = 2 ∧ (s10j 0 gc1n).rst.on = true ∧ ((s10j 0 gc1n).cairn 1057).powered = true ∧ ((s10j 0 gc1n).cairn 1057).frozen = false ∧
     (s10j 0 gc1n).leafShows 1057 1000000 = true ∧ (s10j 0 gc1n).spanAt sbFlow 1000000 = true ∧ flowBit (s10j 0 gc1n).scr.flowOn (1057 -
     1056) = true ∧ ((s10j 0 gc1n).cairn 1057).flowRange 256 = true ∧ ((s10j 0 gc1n).cairn 1057).flowRun = false ∧ ((s10j 0 gc1n).cairn
     1057).flow.length < 16) := by
  and_intros <;> decide +kernel

/-- Each clause of Obligations.FaultReports that has hypotheses meets them somewhere (the clauses by number, from 0: 0, 0, 0, 1,
1, 2, 3, 4, 4, 5, 6, 7, 8, 9, 10). -/
theorem witness_FaultReports :
    (kindOf 3 ≠ 0 ∧ (upC 3 on).rst.on = true ∧ (upC 3 on).room 3 = true ∧ ownCairnFlt (kindOf 3) 9 = false ∧ ((cairnFlt (kindOf 3) 9).fst =
     2 ∨ (cairnFlt (kindOf 3) 9).fst = 3) ∧ (upC 3 on).masked (((upC 3 on).cairn 3).rd 28) 9 (cairnFlt (kindOf 3) 9).fst = false) ∧
    (kindOf 2976 ≠ 0 ∧ (upC 2976 on).rst.on = true ∧ (upC 2976 on).room 2976 = true ∧ ownCairnFlt (kindOf 2976) 11 = false ∧ ((cairnFlt
     (kindOf 2976) 11).fst = 2 ∨ (cairnFlt (kindOf 2976) 11).fst = 3) ∧ (upC 2976 on).masked (((upC 2976 on).cairn 2976).rd 28) 11 (cairnFlt
     (kindOf 2976) 11).fst = false) ∧
    (kindOf 1057 ≠ 0 ∧ (upC 1057 own).rst.on = true ∧ (upC 1057 own).room 1057 = true ∧ ownCairnFlt (kindOf 1057) 11 = false ∧ ((cairnFlt
     (kindOf 1057) 11).fst = 2 ∨ (cairnFlt (kindOf 1057) 11).fst = 3) ∧ (upC 1057 own).masked (((upC 1057 own).cairn 1057).rd 28) 11
     (cairnFlt (kindOf 1057) 11).fst = false) ∧
    (kindOf 3 ≠ 0 ∧ (upC 3 on).rst.on = true ∧ (upC 3 on).room 3 = true ∧ ownCairnFlt (kindOf 3) 8 = false ∧ (cairnFlt (kindOf 3) 8).fst = 1
     ∧ bit (((upC 3 on).cairn 3).rd 28) 8 = false) ∧
    (kindOf 3 ≠ 0 ∧ (s11b 2 1).rst.on = true ∧ (s11b 2 1).room 3 = true ∧ ownCairnFlt (kindOf 3) 8 = false ∧ (cairnFlt (kindOf 3) 8).fst = 1
     ∧ bit (((s11b 2 1).cairn 3).rd 28) 8 = false) ∧
    (kindOf 3 ≠ 0 ∧ s11a.rst.on = true ∧ (s11a.cairn 3).powered = true ∧ ownCairnFlt (kindOf 3) 8 = false ∧ (cairnFlt (kindOf 3) 8).fst ≠ 0
     ∧ s11a.masked ((s11a.cairn 3).rd 28) 8 (cairnFlt (kindOf 3) 8).fst = true) ∧
    (kindOf 3 ≠ 0 ∧ (upC 3 full8).rst.on = true ∧ ((upC 3 full8).cairn 3).powered = true ∧ ownCairnFlt (kindOf 3) 9 = false ∧ (cairnFlt
     (kindOf 3) 9).fst = 2 ∧ (upC 3 full8).masked (((upC 3 full8).cairn 3).rd 28) 9 (cairnFlt (kindOf 3) 9).fst = false ∧ evQueueLen ≤ ((upC
     3 full8).cairn 3).queue.length ∧ ((upC 3 full8).cairn 3).pendFlt = []) ∧
    (up.rst.on = true ∧ (15, 0) ∈ [(18, 1), (19, 1), (12, 3), (8, 0), (8, 1), (10, 0), (11, 0), (14, 0), (14, 1), (15, 0)] ∧ up.masked
     (up.rd (15 * 4096 + 28)) 0 (hubFlt 15 0) = false ∧ (15 = 8 → 0 = 1 → (copyAt 0 && up.ccOn) = false)) ∧
    (up.rst.on = true ∧ (8, 1) ∈ [(18, 1), (19, 1), (12, 3), (8, 0), (8, 1), (10, 0), (11, 0), (14, 0), (14, 1), (15, 0)] ∧ up.masked (up.rd
     (8 * 4096 + 28)) 1 (hubFlt 8 1) = false ∧ (8 = 8 → 1 = 1 → (copyAt 200 && up.ccOn) = false)) ∧
    (kindOf 3 ≠ 0 ∧ (s11b 2 2500).rst.on = true ∧ (s11b 2 2500).room 3 = true ∧ List.find? (fun q => q.bit == 8) ((s11b 2 2500).cairn
     3).ceCoal = some ceCoal1 ∧ ceCoal1.start + 2500 ≤ (s11b 2 2500).clk ∧ ceCoal1.count ≠ 0) ∧
    (kindOf 3 ≠ 0 ∧ (s11b 0 2500).rst.on = true ∧ ((s11b 0 2500).cairn 3).powered = true ∧ List.find? (fun q => q.bit == 8) ((s11b 0
     2500).cairn 3).ceCoal = some ceCoal2 ∧ ceCoal2.start + 2500 ≤ (s11b 0 2500).clk ∧ ceCoal2.count = 0) ∧
    (up.ready Master.host (some rtFaultInject) (15 * 4096 + 24) = true ∧ (15, 0) ∈ [(1, 0), (1, 2), (12, 3), (8, 0), (8, 1), (10, 0), (11,
     0), (14, 0), (15, 0)] ∧ 1 % 2 ^ 31 = 2 ^ 0 ∧ bit (up.rd (15 * 4096 + 28)) 0 = false) ∧
    (s11c.ready Master.host (some rtFault) (14 * 4096 + 32) = true ∧ hasFlt 14 = true ∧ 14 < 32) ∧
    (s11d.ready Master.host (some rtFault) 132128 = true ∧ s11d.rd (bk Master.host R.CWIN_SEL0) % 4096 = 1057 ∧ kindOf 1057 ≠ 0 ∧
     (s11d.cairn 1057).powered = true ∧ (s11d.cairn 1057).noAnswer = false ∧ s11d.reachable 1057 = true) ∧
    (up.ready Master.host (some rtFaultInject) (14 * 4096 + 24) = true ∧ hasFlt 14 = true ∧ 14 < 32 ∧ (∀ (b : Nat), b < 31 → bit 128 b =
     true → hubFlt 14 b = 0)) := by
  and_intros <;> decide +kernel

/-- Each clause of Obligations.FaultRecords that has hypotheses meets them somewhere (the clauses by number, from 0: 0, 1, 2, 3).
-/
theorem witness_FaultRecords :
    ((s11e (fev 4110 8 0 1)).rst.on = true ∧ (s11e (fev 4110 8 0 1)).heads = [(2, fev 4110 8 0 1)] ∧ (fev 4110 8 0 1).name = EvName.fault ∧
     (fev 4110 8 0 1).flt = some fltInfo1 ∧ fltInfo1.cls = 1 ∧ (fev 4110 8 0 1).src ≥ 4096 ∧ (s11e (fev 4110 8 0 1)).ringOcc < 4096 ∧ (s11e
     (fev 4110 8 0 1)).f F.FLT_CLASS_FLAGS_CE_VALID = 0 ∧ (s11e (fev 4110 8 0 1)).rst.chainCur ≠ some (fev 4110 8 0 1) ∧ (s11e (fev 4110 8 0
     1)).rd R.SUM_SEQ_NEXT + 1 < 2 ^ 32) ∧
    ((s11e (fev 4110 8 1 2)).rst.on = true ∧ (s11e (fev 4110 8 1 2)).heads = [(2, fev 4110 8 1 2)] ∧ (fev 4110 8 1 2).name = EvName.fault ∧
     (fev 4110 8 1 2).flt = some fltInfo2 ∧ fltInfo2.cls = 2 ∧ fltInfo2.react = 0 ∧ (fev 4110 8 1 2).src ≥ 4096 ∧ fltInfo2.count = 1 ∧ (s11e
     (fev 4110 8 1 2)).f F.FLT_CLASS_FLAGS_UC_VALID = 0 ∧ (s11e (fev 4110 8 1 2)).f F.FLT_CLASS_FLAGS_FATAL_VALID = 0 ∧ (s11e (fev 4110 8 1
     2)).rd R.SUM_SEQ_NEXT + 1 < 2 ^ 32 ∧ (fltInfo2.page = 18 ∨ fltInfo2.page = 19 → fltInfo2.bit ≠ 0) ∧ (s11e (fev 4110 8 1
     2)).rst.chainCur ≠ some (fev 4110 8 1 2)) ∧
    ((s11f (s11e (fev 4110 8 1 2))).rst.on = true ∧ (s11f (s11e (fev 4110 8 1 2))).heads = [(2, fev 4110 8 1 2)] ∧ (fev 4110 8 1 2).name =
     EvName.fault ∧ (fev 4110 8 1 2).flt = some fltInfo2 ∧ fltInfo2.cls = 2 ∧ fltInfo2.react = 0 ∧ (fev 4110 8 1 2).src ≥ 4096 ∧ (s11f (s11e
     (fev 4110 8 1 2))).f F.FLT_CLASS_FLAGS_UC_VALID = 1 ∧ (s11f (s11e (fev 4110 8 1 2))).flt.uc = some ucr ∧ (s11f (s11e (fev 4110 8 1
     2))).f F.FLT_CLASS_FLAGS_FATAL_VALID = 0 ∧ (s11f (s11e (fev 4110 8 1 2))).rd R.SUM_SEQ_NEXT + 1 < 2 ^ 32 ∧ (fltInfo2.page = 18 ∨
     fltInfo2.page = 19 → fltInfo2.bit ≠ 0) ∧ (s11f (s11e (fev 4110 8 1 2))).rst.chainCur ≠ some (fev 4110 8 1 2) ∧ bit ((s11f (s11e (fev
     4110 8 1 2))).rd 49180) 1 = false) ∧
    ((s11e (fev 4096 0 1 3)).rst.on = true ∧ (s11e (fev 4096 0 1 3)).heads = [(2, fev 4096 0 1 3)] ∧ (fev 4096 0 1 3).name = EvName.fault ∧
     (fev 4096 0 1 3).flt = some fltInfo3 ∧ fltInfo3.cls = 3 ∧ (fev 4096 0 1 3).src ≥ 4096 ∧ (s11e (fev 4096 0 1 3)).flt.fatal = none ∧
     (s11e (fev 4096 0 1 3)).f F.FLT_CLASS_FLAGS_FATAL_VALID = 0 ∧ (s11e (fev 4096 0 1 3)).rd R.SUM_SEQ_NEXT + 1 < 2 ^ 32 ∧ (fltInfo3.page =
     18 ∨ fltInfo3.page = 19 → fltInfo3.bit ≠ 0) ∧ (s11e (fev 4096 0 1 3)).rst.chainCur ≠ some (fev 4096 0 1 3) ∧ (s11e (fev 4096 0 1 3)).f
     F.FLT_CTRL_FATAL_DUMP = 0) := by
  and_intros <;> decide +kernel

/-- Each clause of Obligations.Fences that has hypotheses meets them somewhere (the clauses by number, from 0: 0, 1, 1, 2, 2, 3,
4, 5, 6, 7, 8). -/
theorem witness_Fences :
    ((upC 1057 on).ready Master.host (some rtFault) R.FLT_FENCE_CMD = true ∧ (upC 1057 on).fenceOutcome (1057 % 4096) false = 0) ∧
    ((upC 3 on).ready Master.host (some rtFault) R.FLT_FENCE_CMD = true ∧ (kindOf (3 % 4096) = 7 ∨ ((upC 3 on).posOf (3 % 4096)).isSome =
     true ∨ (upC 3 on).meshFull (3 % 4096) = true) ∧ kindOf (3 % 4096) ≠ 0 ∧ (upC 3 on).fenceDecided (3 % 4096) = false) ∧
    (up.ready Master.host (some rtFault) R.FLT_FENCE_CMD = true ∧ (kindOf (2976 % 4096) = 7 ∨ (up.posOf (2976 % 4096)).isSome = true ∨
     up.meshFull (2976 % 4096) = true) ∧ kindOf (2976 % 4096) ≠ 0 ∧ up.fenceDecided (2976 % 4096) = false) ∧
    (up.ready Master.host (some rtFault) R.FLT_FENCE_CMD = true ∧ (kindOf (3008 % 4096) = 0 ∨ kindOf (3008 % 4096) ≠ 0 ∧ up.fenceDecided
     (3008 % 4096) = true)) ∧
    ((s11g (fr true true)).ready Master.host (some rtFault) R.FLT_FENCE_CMD = true ∧ (kindOf (1057 % 4096) = 0 ∨ kindOf (1057 % 4096) ≠ 0 ∧
     (s11g (fr true true)).fenceDecided (1057 % 4096) = true)) ∧
    (kindOf 1057 ≠ 0 ∧ (s11g (fr false false)).rst.on = true ∧ ((s11g (fr false false)).fence 1057).fenced = true ∧ ((s11g (fr false
     false)).fence 1057).pending = true ∧ ((s11g (fr false false)).fence 1057).ordered = false ∧ ((s11g (fr false false)).fence
     1057).awaitWake = false ∧ ((s11g (fr false false)).fence 1057).engine = false ∧ ((s11g (fr false false)).fence 1057).lead = 1057 ∧
     (s11g (fr false false)).reachable 1057 = true ∧ ((s11g (fr false false)).cairn 1057).powered = true) ∧
    (kindOf 1057 ≠ 0 ∧ (s11g (fr true false)).rst.on = true ∧ ((s11g (fr true false)).fence 1057).fenced = true ∧ ((s11g (fr true
     false)).fence 1057).pending = true ∧ ((s11g (fr true false)).fence 1057).ordered = true ∧ ((s11g (fr true false)).fence 1057).drained =
     false ∧ ((s11g (fr true false)).fence 1057).awaitWake = false ∧ ((s11g (fr true false)).fence 1057).lead = 1057 ∧ (s11g (fr true
     false)).room 1057 = true ∧ ((s11g (fr true false)).cairn 1057).noAnswer = false) ∧
    (kindOf 1057 ≠ 0 ∧ (s11h (fr true false)).rst.on = true ∧ ((s11h (fr true false)).fence 1057).fenced = true ∧ ((s11h (fr true
     false)).fence 1057).pending = true ∧ ((s11h (fr true false)).fence 1057).awaitWake = false ∧ ((s11h (fr true false)).fence 1057).stuck
     = false ∧ ((s11h (fr true false)).fence 1057).lead = 1057 ∧ ((s11h (fr true false)).fence 1057).since + 25000 ≤ (s11h (fr true
     false)).clk) ∧
    (kindOf 1057 ≠ 0 ∧ s11l.clk < (s11l.fence 1057).since + 25000) ∧
    (s11i.ready Master.host (some rtFault) R.FLT_UNFENCE = true ∧ (s11i.lcs = 2 ∨ s11i.lcs = 5) ∧ s11i.fenceDecided (1057 % 4096) = true ∧
     kindOf (1057 % 4096) ≠ 1 ∧ kindOf (1057 % 4096) ≠ 0 ∧ (s11i.cairn (1057 % 4096)).powered = true) ∧
    ((s11g (fr true false)).ready Master.host (some rtFault) R.FLT_UNFENCE = true ∧ (s11g (fr true false)).lcs ≠ 2 ∧ (s11g (fr true
     false)).lcs ≠ 5) := by
  and_intros <;> decide +kernel

/-- Each clause of Obligations.CollectorAndHeartbeat that has hypotheses meets them somewhere (the clauses by number, from 0: 0,
1, 2, 3, 3, 4, 5, 6, 7, 8, 9, 10). -/
theorem witness_CollectorAndHeartbeat :
    ((s11f up).ready Master.host (some rtFault) R.FLT_ACK = true ∧ bit 327682 0 = false ∧ bit 327682 1 = true ∧ (s11f up).flt.uc = some ucr
     ∧ (s11f up).f F.FLT_CLASS_FLAGS_UC_VALID = 1 ∧ 327682 / 65536 = ucr.seq % 65536) ∧
    ((s11f up).ready Master.host (some rtFault) R.FLT_ACK = true ∧ bit 393218 0 = false ∧ (s11f up).flt.uc = some ucr ∧ 393218 / 65536 ≠
     ucr.seq % 65536) ∧
    ((s11f up).ready Master.pass (some rtFault) R.FLT_ACK = true ∧ bit 1 0 = true ∧ bit 1 1 = false) ∧
    ((up.setF F.FLT_STAT_STORM_ARMED 0).ready Master.pass (some rtFault) R.FLT_CE_RD = true ∧ ((up.setF F.FLT_STAT_STORM_ARMED 0).f
     F.FLT_CE_WR_WR + 65536 - 0 % 65536) % 65536 ≤ 4096) ∧
    (up.ready Master.pass (some rtFault) R.FLT_CE_RD = true ∧ (up.f F.FLT_CE_WR_WR + 65536 - 61440 % 65536) % 65536 ≤ 4096) ∧
    (up.ready Master.pass (some rtFault) R.FLT_CE_RD = true ∧ 4096 < (up.f F.FLT_CE_WR_WR + 65536 - 61439 % 65536) % 65536) ∧
    (5 < 6 ∧ up.rst.on = true ∧ up.rdg.running = true) ∧
    (5 < 6 ∧ up.rst.on = true ∧ up.rdg.running = true ∧ bit (up.rd 28) 1 = false) ∧
    (2 < 6 ∧ s11j.rst.on = true ∧ s11j.rdg.running = true ∧ s11j.heldSeq 2 = false ∧ smGet 0 s11j.flt.checkT 2 + 1250000 ≤ s11j.clk) ∧
    (2 < 6 ∧ up.clk < smGet 0 up.flt.checkT 2 + 1250000) ∧
    (s11k.rst.on = true ∧ s11k.started = true ∧ s11k.flt.hbNext ≤ s11k.clk ∧ s11k.f F.FLT_STAT_HB_RUN = 1 ∧ (∀ (q : Nat), q < 6 →
     s11k.flt.checked.contains q = true)) ∧
    (2 < 6 ∧ (s11j.flt.checked.contains 2 = false ∨ s11j.f F.FLT_STAT_HB_RUN = 0)) := by
  and_intros <;> decide +kernel

/-- Each clause of Obligations.LagAndRemaps that has hypotheses meets them somewhere (the clauses by number, from 0: 0, 0, 1, 2,
2, 2, 3, 4, 5, 6, 7, 8, 9). -/
theorem witness_LagAndRemaps :
    (1 < 8 ∧ up.rst.on = true ∧ up.engineFenced 1 = false ∧ up.reachable (arrayId 1 0) = true) ∧
    (0 < 8 ∧ s12a.rst.on = true ∧ s12a.engineFenced 0 = false ∧ s12a.reachable (arrayId 0 0) = true) ∧
    (s12a.ready Master.host (some rtWatch) R.WCH_REMAP_CMD = true ∧ 268369923 / 65536 % 4096 = 4095 ∧ s12a.posOf (268369923 % 4096) = some 3
     ∧ s12a.remapping (coreOf (268369923 % 4096)) = false ∧ s12a.flt.engFenced.contains (coreOf (268369923 % 4096)) = false ∧ s12a.anySpare
     (coreOf (268369923 % 4096)) = some 128 ∧ s12a.cen.jobs = []) ∧
    (s12a.ready Master.host (some rtWatch) R.WCH_REMAP_CMD = true ∧ (s12a.posOf (8454147 % 4096) = none ∨ s12a.remapping (coreOf (8454147 %
     4096)) = true ∨ s12a.flt.engFenced.contains (coreOf (8454147 % 4096)) = false ∧ 8454147 / 65536 % 4096 ≠ 4095 ∧ s12a.freeSpare (8454147
     / 65536 % 4096) = false ∨ 8454147 / 65536 % 4096 = 4095 ∧ s12a.anySpare (coreOf (8454147 % 4096)) = none)) ∧
    ((upC 3 on).ready Master.host (some rtWatch) R.WCH_REMAP_CMD = true ∧ ((upC 3 on).posOf (268369923 % 4096) = none ∨ (upC 3 on).remapping
     (coreOf (268369923 % 4096)) = true ∨ (upC 3 on).flt.engFenced.contains (coreOf (268369923 % 4096)) = false ∧ 268369923 / 65536 % 4096 ≠
     4095 ∧ (upC 3 on).freeSpare (268369923 / 65536 % 4096) = false ∨ 268369923 / 65536 % 4096 = 4095 ∧ (upC 3 on).anySpare (coreOf
     (268369923 % 4096)) = none)) ∧
    (s12a.ready Master.host (some rtWatch) R.WCH_REMAP_CMD = true ∧ (s12a.posOf (268370048 % 4096) = none ∨ s12a.remapping (coreOf
     (268370048 % 4096)) = true ∨ s12a.flt.engFenced.contains (coreOf (268370048 % 4096)) = false ∧ 268370048 / 65536 % 4096 ≠ 4095 ∧
     s12a.freeSpare (268370048 / 65536 % 4096) = false ∨ 268370048 / 65536 % 4096 = 4095 ∧ s12a.anySpare (coreOf (268370048 % 4096)) =
     none)) ∧
    (0 < 8 ∧ (s12b false).rst.on = true ∧ List.find? (fun r => r.core == 0) (s12b false).wch.pend = some (rem false) ∧ (rem false).core = 0
     ∧ (rem false).pos < 128 ∧ (rem false).gated = false ∧ ((s12b false).cairn (rem false).from_).powered = true ∧ ((s12b false).cairn (rem
     false).to_).powered = true ∧ (s12b false).inStop (rem false).from_ = false ∧ (rem false).from_ ≠ (rem false).to_ ∧ (rem false).cause ≠
     3 ∧ (s12b false).cen.jobs = []) ∧
    (0 < 8 ∧ (s12b true).rst.on = true ∧ List.find? (fun r => r.core == 0) (s12b true).wch.pend = some (rem true) ∧ (rem true).core = 0 ∧
     (rem true).gated = true ∧ (rem true).synth = false ∧ (rem true).cause ≠ 2 ∧ (rem true).cause ≠ 3 ∧ ((s12b true).cairn (rem
     true).to_).frozen = false ∧ (s12b true).room (rem true).to_ = true ∧ (s12b true).wch.waiting = [] ∧ (s12b true).wch.fenceAfter = []) ∧
    (0 < 8 ∧ List.find? (fun r => r.core == 0) up.wch.pend = none ∧ up.wch.waiting = [] ∧ up.wch.fenceAfter = []) ∧
    (s12d.ready Master.host (some rtWatch) R.WCH_UNMAP = true ∧ (s12d.lcs = 2 ∨ s12d.lcs = 5) ∧ s12d.posOf (128 % 4096) = some 3 ∧ 128 ≤ 128
     % 4096 % 132 ∧ s12d.fenceDecided (arrayId (coreOf (128 % 4096)) 3) = false ∧ s12d.remapping (coreOf (128 % 4096)) = false ∧
     s12d.cen.jobs = []) ∧
    (s12a.ready Master.host (some rtWatch) R.WCH_UNMAP = true ∧ s12a.lcs ≠ 2 ∧ s12a.lcs ≠ 5) ∧
    (1 ≤ 2 ∧ 2 ≤ [9, 3, 3, 7].length) ∧
    (0 < 8 ∧ s12k.rst.on = true ∧ List.find? (fun r => r.core == 0) s12k.wch.pend = some (rem false) ∧ (rem false).gated = false ∧
     s12k.inStop (rem false).from_ = true) := by
  and_intros <;> decide +kernel

/-- Each clause of Obligations.PowerDispatchAndGovernor that has hypotheses meets them somewhere (the clauses by number, from 0:
0, 0, 1, 2, 3, 3, 4, 5, 6, 7, 8, 9, 10, 10, 11, 12, 13, 14, 15, 16, 17, 18, 19). -/
theorem witness_PowerDispatchAndGovernor :
    (kindOf 2976 = 7 ∧ (s12e vf0).rst.on = true ∧ (s12e vf0).room 2976 = true ∧ ((s12e vf0).vfOf 2976).droop = false ∧ (s12e vf0).vfDown
     2976 ((s12e vf0).vfOf 2976) = false) ∧
    (kindOf 2976 = 7 ∧ s12l.rst.on = true ∧ s12l.room 2976 = true ∧ (s12l.vfOf 2976).droop = false ∧ s12l.vfDown 2976 (s12l.vfOf 2976) =
     false) ∧
    (kindOf 2976 = 7 ∧ (s12e vfD).rst.on = true ∧ (s12e vfD).room 2976 = true ∧ ((s12e vfD).vfOf 2976).droop = true) ∧
    (kindOf 2976 = 7 ∧ (s12e vf0).rst.on = true ∧ (s12e vf0).room 2976 = true ∧ ((s12e vf0).cairn 2976).frozen = false ∧ ((s12e vf0).vfOf
     2976).defer = none ∧ ((s12e vf0).vfOf 2976).droop = false ∧ (∀ (e : Nat), ((s12e vf0).vfOf 2976).lastExit = some e → e + 5000 ≤ (s12e
     vf0).clk)) ∧
    (kindOf 2976 = 7 ∧ (s12e vfD).rst.on = true ∧ ((s12e vfD).cairn 2976).powered = true ∧ ((s12e vfD).cairn 2976).frozen = false ∧ (((s12e
     vfD).vfOf 2976).droop = true ∨ ((s12e vfD).vfOf 2976).defer.isSome = true ∨ (s12e vfD).clk < ((s12e vfD).vfOf 2976).lastExit.getD 0 +
     5000 ∧ ((s12e vfD).vfOf 2976).lastExit.isSome = true)) ∧
    (kindOf 2976 = 7 ∧ (s12e (vfW 7000)).rst.on = true ∧ ((s12e (vfW 7000)).cairn 2976).powered = true ∧ ((s12e (vfW 7000)).cairn
     2976).frozen = false ∧ (((s12e (vfW 7000)).vfOf 2976).droop = true ∨ ((s12e (vfW 7000)).vfOf 2976).defer.isSome = true ∨ (s12e (vfW
     7000)).clk < ((s12e (vfW 7000)).vfOf 2976).lastExit.getD 0 + 5000 ∧ ((s12e (vfW 7000)).vfOf 2976).lastExit.isSome = true)) ∧
    (kindOf 2976 = 7 ∧ (s12e (vfW 5000)).rst.on = true ∧ ((s12e (vfW 5000)).cairn 2976).powered = true ∧ ((s12e (vfW 5000)).cairn
     2976).frozen = false ∧ ((s12e (vfW 5000)).vfOf 2976).defer = some (1, 900, 7000) ∧ ((s12e (vfW 5000)).vfOf 2976).droop = false ∧ (∀ (e
     : Nat), ((s12e (vfW 5000)).vfOf 2976).lastExit = some e → e + 5000 ≤ (s12e (vfW 5000)).clk)) ∧
    (kindOf 2976 = 7 ∧ ((s12e (vfW 5001)).vfOf 2976).lastExit = some 5001 ∧ (s12e (vfW 5001)).clk < 5001 + 5000) ∧
    (kindOf 2976 = 7 ∧ (s12e vfC).rst.on = true ∧ (s12e vfC).room 2976 = true ∧ ((s12e vfC).vfOf 2976).change = some (0, 700, 4000)) ∧
    (kindOf 2976 = 7 ∧ (s12e (vfR 2)).rst.on = true ∧ ((s12e (vfR 2)).cairn 2976).powered = true ∧ ((s12e (vfR 2)).cairn 2976).frozen =
     false ∧ ((s12e (vfR 2)).vfOf 2976).droopIn = false ∧ ((s12e (vfR 2)).vfOf 2976).droop = false ∧ ((s12e (vfR 2)).vfOf 2976).measure =
     false ∧ 100 * 1300 < 1000 * (max 1000 1300 - min 1000 1300) ∧ ((s12e (vfR 2)).vfOf 2976).run < 3) ∧
    (kindOf 2976 = 7 ∧ (s12e (vfR 2)).rst.on = true ∧ ((s12e (vfR 2)).cairn 2976).powered = true ∧ ((s12e (vfR 2)).cairn 2976).frozen =
     false ∧ ((s12e (vfR 2)).vfOf 2976).droopIn = false ∧ ((s12e (vfR 2)).vfOf 2976).droop = false ∧ ((s12e (vfR 2)).vfOf 2976).measure =
     false ∧ 1000 * (max 1000 1300 - min 1000 1300) ≤ 300 * 1300) ∧
    (kindOf 2976 = 7 ∧ (s12e (vfR 3)).rst.on = true ∧ ((s12e (vfR 3)).cairn 2976).powered = true ∧ ((s12e (vfR 3)).cairn 2976).frozen =
     false ∧ ((s12e (vfR 3)).vfOf 2976).droopIn = false ∧ ((s12e (vfR 3)).vfOf 2976).droop = false ∧ ((s12e (vfR 3)).vfOf 2976).measure =
     false ∧ ((s12e (vfR 3)).cairn 2976).queue.length < 7 ∧ 100 * 1300 < 1000 * (max 1000 1300 - min 1000 1300) ∧ ((s12e (vfR 3)).vfOf
     2976).run = 3) ∧
    (kindOf 1312 = 3 ∧ (s12f dsp0).rst.on = true ∧ ((s12f dsp0).cairn 1312).powered = true ∧ ((s12f dsp0).cairn 1312).frozen = false ∧ 3 <
     4) ∧
    (kindOf 1312 = 3 ∧ (s12f dsp0).rst.on = true ∧ ((s12f dsp0).cairn 1312).powered = true ∧ ((s12f dsp0).cairn 1312).frozen = false ∧ 0 <
     4) ∧
    (kindOf 1312 = 3 ∧ (s12f dsp0).rst.on = true ∧ (s12f dsp0).room 1312 = true ∧ ((s12f dsp0).cairn 1312).frozen = false ∧ List.find? (fun
     x => x.fst == 5) ((s12f dsp0).dispOf 1312).tags = some (5, 6, 7)) ∧
    (kindOf 1312 = 3 ∧ (s12f dsp0).rst.on = true ∧ (s12f dsp0).room 1312 = true ∧ ((s12f dsp0).cairn 1312).frozen = false ∧ (s12f dsp0).f
     F.WCH_CTRL_DISP_EN = 1 ∧ ((s12f dsp0).dispOf 1312).start + 256 * max ((s12f dsp0).f F.WCH_DISP_INT_INT) 1 ≤ (s12f dsp0).clk ∧ ((s12f
     dsp0).dispOf 1312).tie + ((s12f dsp0).dispOf 1312).ovf + ((s12f dsp0).dispOf 1312).skip + ((s12f dsp0).dispOf 1312).dup + ((s12f
     dsp0).dispOf 1312).stale ≠ 0) ∧
    (kindOf 1312 = 3 ∧ (s12f dispSt1).rst.on = true ∧ ((s12f dispSt1).cairn 1312).powered = true ∧ ((s12f dispSt1).cairn 1312).frozen =
     false ∧ (s12f dispSt1).f F.WCH_CTRL_DISP_EN = 1 ∧ ((s12f dispSt1).dispOf 1312).start + 256 * max ((s12f dispSt1).f F.WCH_DISP_INT_INT)
     1 ≤ (s12f dispSt1).clk ∧ ((s12f dispSt1).dispOf 1312).tie + ((s12f dispSt1).dispOf 1312).ovf + ((s12f dispSt1).dispOf 1312).skip +
     ((s12f dispSt1).dispOf 1312).dup + ((s12f dispSt1).dispOf 1312).stale = 0) ∧
    (kindOf 1312 = 3 ∧ (s12f dsp0).rst.on = true ∧ (s12f dsp0).room 1312 = true ∧ ((s12f dsp0).cairn 1312).frozen = false) ∧
    (up.rst.on = true ∧ up.wch.winT + 250000 ≤ up.clk ∧ up.tfActs = false) ∧
    ((s12g 0 1 7).rst.on = true ∧ (s12g 0 1 7).wch.winT + 250000 ≤ (s12g 0 1 7).clk ∧ (s12g 0 1 7).tfActs = true ∧ (s12g 0 1 7).tfTarget *
     (s12g 0 1 7).f F.PASS_RATE_MBPS < 8 * 4096 * (((s12g 0 1 7).blksDone + 2 ^ 32 - (s12g 0 1 7).wch.winBlocks) % 2 ^ 32) ∧ (s12g 0 1 7).f
     F.WCH_TFIT_STAT_STEP = 0 ∧ (s12g 0 1 7).f F.SCR_STAT_LEVEL < 3) ∧
    ((s12g 1 0 7).rst.on = true ∧ (s12g 1 0 7).wch.winT + 250000 ≤ (s12g 1 0 7).clk ∧ (s12g 1 0 7).tfActs = true ∧ 8 * 4096 * (((s12g 1 0
     7).blksDone + 2 ^ 32 - (s12g 1 0 7).wch.winBlocks) % 2 ^ 32) < (s12g 1 0 7).tfLow * (s12g 1 0 7).f F.PASS_RATE_MBPS ∧ (s12g 1 0
     7).wch.lowRun = 7 ∧ (s12g 1 0 7).f F.WCH_TFIT_STAT_STEP = 1 ∧ 1 ≤ (s12g 1 0 7).tfLast ∧ (s12g 1 0 7).f F.SCR_STAT_LEVEL < 3) ∧
    (s12j.clk < s12j.wch.winT + 250000) ∧
    (kindOf 1312 = 3 ∧ (s12f dsp0).rst.on = true ∧ ((s12f dsp0).cairn 1312).powered = true ∧ ((s12f dsp0).cairn 1312).frozen = false ∧
     List.find? (fun x => x.fst == 6) ((s12f dsp0).dispOf 1312).tags = none) := by
  and_intros <;> decide +kernel

/-- Each clause of Obligations.Ledger that has hypotheses meets them somewhere (the clauses by number, from 0: 0, 1, 2, 3, 4, 5,
6, 7, 8, 8, 9, 10, 11, 12, 13, 13, 15, 16, 17). -/
theorem witness_Ledger :
    ((s13a [(648, 4)]).rst.on = true ∧ (s13a [(648, 4)]).tal.sampleT + 2500000 ≤ (s13a [(648, 4)]).clk ∧ (∀ (r : Nat), r < 32 → ((s13a
     [(648, 4)]).cairn (2976 + r)).powered = false) ∧ (List.all (s13a [(648, 4)]).tal.ms fun e => decide (e.snd < 999)) = true) ∧
    ((s13a [(648, 999)]).rst.on = true ∧ (s13a [(648, 999)]).tal.sampleT + 2500000 ≤ (s13a [(648, 999)]).clk ∧ smGet 0 (s13a [(648,
     999)]).tal.ms 648 = 999) ∧
    (up.clk < up.tal.sampleT + 2500000) ∧
    ((s13b (nfe 4110 8 0 1 0)).rst.on = true ∧ (s13b (nfe 4110 8 0 1 0)).f F.TAL_STAT_READY = 1 ∧ (s13b (nfe 4110 8 0 1 0)).tal.queue = [nfe
     4110 8 0 1 0, nfe 4110 8 0 1 0] ∧ (nfe 4110 8 0 1 0).ev.name = EvName.fault ∧ (nfe 4110 8 0 1 0).ev.flt = some fltInfo1 ∧ 3008 ≤ (nfe
     4110 8 0 1 0).ev.src ∧ 1 ≤ fltInfo1.cls ∧ fltInfo1.cls ≤ 3 ∧ bit fltInfo1.rflags 0 = false ∧ fltInfo1.page ≠ 18 ∧ fltInfo1.page ≠ 19 ∧
     fltInfo1.page ≠ 20) ∧
    ((s13b (nfe 4110 8 0 1 1)).rst.on = true ∧ (s13b (nfe 4110 8 0 1 1)).f F.TAL_STAT_READY = 1 ∧ (s13b (nfe 4110 8 0 1 1)).tal.queue = [nfe
     4110 8 0 1 1, nfe 4110 8 0 1 1] ∧ (nfe 4110 8 0 1 1).ev.name = EvName.fault ∧ (nfe 4110 8 0 1 1).ev.flt = some fltInfo4 ∧ bit
     fltInfo4.rflags 0 = true) ∧
    ((s13b (nfe 3 255 9 2 0)).rst.on = true ∧ (s13b (nfe 3 255 9 2 0)).f F.TAL_STAT_READY = 1 ∧ (s13b (nfe 3 255 9 2 0)).tal.queue = [nfe 3
     255 9 2 0, nfe 3 255 9 2 0] ∧ (nfe 3 255 9 2 0).ev.name = EvName.fault ∧ (nfe 3 255 9 2 0).ev.flt = some fltInfo5 ∧ kindOf (nfe 3 255 9
     2 0).ev.src ≠ 0 ∧ (nfe 3 255 9 2 0).ev.src < 3008 ∧ fltInfo5.cls = 2 ∧ bit fltInfo5.rflags 0 = false ∧ fltInfo5.page = 255 ∧ (s13b (nfe
     3 255 9 2 0)).tal.work.trk = []) ∧
    (up.ready Master.host (some rtLedgerRead) R.TAL_TRACK = true ∧ kindOf (1057 % 4096) ≠ 0 ∧ up.tal.work.trk.length < 256 ∧ (∀ (x : Trk), x
     ∈ up.tal.work.trk → x.id ≠ 1057 % 4096)) ∧
    (s13c.ready Master.host (some rtLedgerRead) R.TAL_CLEAR = true ∧ 49642 = 49642 ∧ (s13c.lcs = 0 ∨ s13c.lcs = 2) ∧ s13c.f F.TAL_STAT_SPENT
     = 0) ∧
    (up.ready Master.host (some rtLedgerRead) R.TAL_CLEAR = true ∧ (49642 ≠ 49642 ∨ up.lcs ≠ 0 ∧ up.lcs ≠ 2)) ∧
    (s13c.ready Master.host (some rtLedgerRead) R.TAL_CLEAR = true ∧ (49643 ≠ 49642 ∨ s13c.lcs ≠ 0 ∧ s13c.lcs ≠ 2)) ∧
    (s13d.rst.on = true ∧ s13d.tal.nextDue ≤ s13d.clk ∧ s13d.tal.nextDue ≠ 0 ∧ s13d.f F.TAL_STAT_SPENT = 0) ∧
    (s13g.clk < s13g.tal.nextDue) ∧
    (up.ready Master.host (some rtLedgerRead) R.TAL_CTRL = true ∧ bit 2 0 = false ∧ bit 2 1 = true ∧ up.f F.TAL_STAT_SPENT = 0) ∧
    (up.ready Master.host (some rtLedgerRead) R.TAL_CTRL = true ∧ bit 1 0 = true ∧ bit 1 1 = false) ∧
    ((s13e 0).rst.on = true ∧ (s13e 0).softPending = false ∧ (s13e 0).tal.held ≠ [] ∧ (s13e 0).tal.commit = none ∧ commitSlot ((s13e
     0).tal.gen + 1) (s13e 0).tal.work.bad = some 7) ∧
    ((s13e 128).rst.on = true ∧ (s13e 128).softPending = false ∧ (s13e 128).tal.held ≠ [] ∧ (s13e 128).tal.commit = none ∧ commitSlot ((s13e
     128).tal.gen + 1) (s13e 128).tal.work.bad = some 0) ∧
    ((s13f 0).rst.on = true ∧ (s13f 0).tal.commit = some cmt ∧ cmt.numbered = true) ∧
    ((s13f 0).rst.on = true ∧ (s13f 0).tal.commit = some cmt ∧ cmt.numbered = true ∧ commitSlot ((s13f 0).tal.gen + 1) (setBit (s13f
     0).tal.work.bad cmt.img.slot) = some 0) ∧
    ((s13f 127).rst.on = true ∧ (s13f 127).tal.commit = some cmt ∧ cmt.numbered = true ∧ commitSlot ((s13f 127).tal.gen + 1) (setBit (s13f
     127).tal.work.bad cmt.img.slot) = none) := by
  and_intros <;> decide +kernel

/-- Each clause of Obligations.AuthRequests that has hypotheses meets them somewhere (the clauses by number, from 0: 0, 1, 2, 3,
4, 4, 5, 6, 7, 7, 8, 9). -/
theorem witness_AuthRequests :
    ((s14a tObj).ready Master.host none R.LCY_CMD = true ∧ 1 % 16 = 1 ∧ obFormat ((s14a tObj).bufObj Master.host) 1 = true ∧ (s14a
     tObj).scrapped = false ∧ (s14a tObj).auth.job = none ∧ (s14a tObj).lcyBusy = false) ∧
    ((s14a pObj).ready Master.host none R.LCY_CMD = true ∧ 2 % 16 = 2 ∧ obFormat ((s14a pObj).bufObj Master.host) 4 = true ∧ (s14a
     pObj).scrapped = false ∧ (s14a pObj).auth.job = none ∧ (s14a pObj).lcyBusy = false) ∧
    ((s14a cObj).ready Master.host none R.AUTH_CMD = true ∧ 1 % 16 = 1 ∧ obFormat ((s14a cObj).bufObj Master.host) 2 = true ∧ (s14a
     cObj).scrapped = false ∧ (s14a cObj).auth.job = none ∧ (s14a cObj).lcyBusy = false) ∧
    ((s14a jObj).ready Master.pass none R.AUTH_CMD = true ∧ 3 % 16 = 3 ∧ obFormat ((s14a jObj).bufObj Master.pass) 3 = true ∧ (s14a
     jObj).scrapped = false ∧ (s14a jObj).auth.job = none ∧ (s14a jObj).lcyBusy = false) ∧
    ((s14a cObj).ready Master.host none R.LCY_CMD = true ∧ 1 % 16 = 1 ∧ (obFormat ((s14a cObj).bufObj Master.host) 1 = false ∨ (s14a
     cObj).scrapped = true ∨ (s14a cObj).auth.job.isSome = true ∨ (s14a cObj).lcyBusy = true)) ∧
    (((s14a tObj).setF F.LCY_STAT_STATE 6).ready Master.host none R.LCY_CMD = true ∧ 1 % 16 = 1 ∧ (obFormat (((s14a tObj).setF
     F.LCY_STAT_STATE 6).bufObj Master.host) 1 = false ∨ ((s14a tObj).setF F.LCY_STAT_STATE 6).scrapped = true ∨ ((s14a tObj).setF
     F.LCY_STAT_STATE 6).auth.job.isSome = true ∨ ((s14a tObj).setF F.LCY_STAT_STATE 6).lcyBusy = true)) ∧
    (s14e.ready Master.host none R.AUTH_CMD = true ∧ 83886082 % 16 = 2 ∧ 83886082 / 2 ^ 24 % 8 ≠ 0 ∧ s14e.lcyBusy = false ∧ s14e.auth.trngOk
     = true ∧ (s14e.f F.LCY_STAT_STATE = 3 ∨ s14e.f F.LCY_STAT_STATE = 4 ∨ s14e.f F.LCY_STAT_STATE = 5) ∧ s14e.f F.TAL_STAT_BOOT_OK = 1 ∧
     s14e.has Master.host rtObserve = true) ∧
    ((up.setF F.LCY_STAT_STATE 1).ready Master.host none R.AUTH_CMD = true ∧ 83886082 % 16 = 2 ∧ 83886082 / 2 ^ 24 % 8 ≠ 0 ∧ (up.setF
     F.LCY_STAT_STATE 1).lcyBusy = false ∧ (up.setF F.LCY_STAT_STATE 1).auth.trngOk = true ∧ (up.setF F.LCY_STAT_STATE 1).f F.LCY_STAT_STATE
     < 3) ∧
    (s14e.ready Master.host none R.AUTH_CMD = true ∧ 4 % 16 = 4 ∧ s14e.lcyBusy = false ∧ s14e.scrapped = false) ∧
    (s14e.ready Master.pass none R.AUTH_CMD = true ∧ 4 % 16 = 4 ∧ s14e.lcyBusy = false ∧ s14e.scrapped = false) ∧
    (s14h.ready Master.host none R.AUTH_BUF_DATA = true) ∧
    (s14h.ready Master.host none R.AUTH_BUF_DATA = true) := by
  and_intros <;> decide +kernel

set_option maxRecDepth 8000 in
/-- Each clause of Obligations.AuthEnds that has hypotheses meets them somewhere (the clauses by number, from 0: 0, 1, 2, 3, 4, 5,
5, 5, 6, 7, 8, 9, 10). -/
theorem witness_AuthEnds :
    (s14c.rst.on = true ∧ s14c.heldSeq 3 = false ∧ s14c.auth.job = some (jobOf pObj true 2) ∧ obKind (jobOf pObj true 2).obj = 4 ∧
     s14c.provCode (jobOf pObj true 2).obj = 0 ∧ s14c.f F.LCY_STAT_STATE = 0 ∧ obSigner (jobOf pObj true 2).obj = 255) ∧
    ((s14b tObj true 1).rst.on = true ∧ (s14b tObj true 1).heldSeq 3 = false ∧ (s14b tObj true 1).auth.job = some (jobOf tObj true 1) ∧
     obKind (jobOf tObj true 1).obj = 1 ∧ (s14b tObj true 1).transCode (jobOf tObj true 1).obj = 0) ∧
    ((s14b cObj false 1).rst.on = true ∧ (s14b cObj false 1).heldSeq 3 = false ∧ (s14b cObj false 1).auth.job = some (jobOf cObj false 1) ∧
     obKind (jobOf cObj false 1).obj = 2 ∧ (s14b cObj false 1).certCode (jobOf cObj false 1).master (jobOf cObj false 1).obj = 0 ∧ (s14b
     cObj false 1).heldOpen = true) ∧
    (s14d.rst.on = true ∧ s14d.heldSeq 3 = false ∧ s14d.auth.job = some (jobOf jObj false 3) ∧ obKind (jobOf jObj false 3).obj = 3 ∧
     s14d.jexCode (jobOf jObj false 3).master (jobOf jObj false 3).obj = 0) ∧
    ((s14b jObj false 3).rst.on = true ∧ (s14b jObj false 3).heldSeq 3 = false ∧ (s14b jObj false 3).auth.job = some (jobOf jObj false 3) ∧
     (s14b jObj false 3).objCode (jobOf jObj false 3) ≠ 0) ∧
    ((s14f (runR 1 5)).rst.on = true ∧ (s14f (runR 1 5)).heldSeq 3 = false ∧ (s14f (runR 1 5)).auth.run = some (runR 1 5) ∧ (s14f (runR 1
     5)).f F.LCY_STAT_STALLED = 0 ∧ (runR 1 5).step < 7 ∧ 1 ≤ (runR 1 5).step ∧ (runR 1 5).to_ < 8) ∧
    ((s14f (runR 2 5)).rst.on = true ∧ (s14f (runR 2 5)).heldSeq 3 = false ∧ (s14f (runR 2 5)).auth.run = some (runR 2 5) ∧ (s14f (runR 2
     5)).f F.LCY_STAT_STALLED = 0 ∧ (runR 2 5).step < 7 ∧ 1 ≤ (runR 2 5).step ∧ (runR 2 5).to_ < 8) ∧
    ((s14f (runR 4 6)).rst.on = true ∧ (s14f (runR 4 6)).heldSeq 3 = false ∧ (s14f (runR 4 6)).auth.run = some (runR 4 6) ∧ (s14f (runR 4
     6)).f F.LCY_STAT_STALLED = 0 ∧ (runR 4 6).step < 7 ∧ 1 ≤ (runR 4 6).step ∧ (runR 4 6).to_ < 8) ∧
    ((s14f (runR 8 5)).rst.on = true ∧ (s14f (runR 8 5)).heldSeq 3 = false ∧ (s14f (runR 8 5)).auth.run = some (runR 8 5) ∧ (s14f (runR 8
     5)).f F.LCY_STAT_STALLED = 0 ∧ (runR 8 5).step = 8) ∧
    ((s14f (runR 4 5)).rst.on = true ∧ (s14f (runR 4 5)).heldSeq 3 = false ∧ (s14f (runR 4 5)).auth.run = some (runR 4 5) ∧ (s14f (runR 4
     5)).f F.LCY_STAT_STALLED = 0) ∧
    (s14g.rst.on = true ∧ s14g.f (bkF Master.pass F.AUTH_CHAL_REQ_OUTSTANDING) = 1 ∧ (match Master.pass with | Master.pass => s14g.auth.chalP | Master.host => s14g.auth.chalH) + 150000000000 ≤ s14g.clk) ∧
    (up.rst.on = true ∧ up.masked (up.rd 65564) 0 2 = false) ∧
    (up.rst.on = true) := by
  and_intros <;> decide +kernel

/-- Each clause of Obligations.PassFramesIn that has hypotheses meets them somewhere (the clauses by number, from 0: 0, 0, 1, 2,
3, 4, 4, 5, 5, 6, 7, 8, 9, 9). -/
theorem witness_PassFramesIn :
    ((s15f [frm 5 0] 0 [] false).hears (trl 7 true) = true ∧ (Instr.keepalive (trl 7 true) = Instr.keepalive (trl 7 true) ∨ Instr.keepalive
     (trl 7 true) = Instr.reservedFrame 153 (trl 7 true))) ∧
    ((s15f [frm 5 0] 0 [] false).hears (trl 7 false) = true ∧ (Instr.reservedFrame 153 (trl 7 false) = Instr.keepalive (trl 7 false) ∨
     Instr.reservedFrame 153 (trl 7 false) = Instr.reservedFrame 153 (trl 7 false))) ∧
    (s15l.rst.on = true ∧ s15l.heldSeq 5 = false ∧ s15l.sess = sessLanes ∧ (trl 8 false).fseq ≠ s15l.pass.rxNext) ∧
    ((s15f [frm 5 0] 1 [] false).rst.on = true ∧ (s15f [frm 5 0] 1 [] false).heldSeq 5 = false ∧ (s15f [frm 5 0] 1 [] false).sess =
     sessLanes) ∧
    (s15l.rst.on = true ∧ s15l.heldSeq 5 = false ∧ s15l.sess = sessLanes) ∧
    (R.SUM_CWIN_TMO ∈ [R.SUM_CWIN_TMO, R.RDG_EPOCH_INT, R.SCR_FLOW_EN 0, R.SCR_FLOW_EN 7, R.PASS_KA_TMO] ∧ hubRow R.SUM_CWIN_TMO = some rowT
     ∧ rowT.banked = false ∧ 4294967295 < 2 ^ 32 ∧ s15l.hears (trl 7 false) = true ∧ s15l.ready Master.pass (hubWrite (Agent.mst
     Master.pass) R.SUM_CWIN_TMO) R.SUM_CWIN_TMO = true ∧ s15l.pass.reqs = [] ∧ s15l.pass.accWait = false) ∧
    (R.RDG_EPOCH_INT ∈ [R.SUM_CWIN_TMO, R.RDG_EPOCH_INT, R.SCR_FLOW_EN 0, R.SCR_FLOW_EN 7, R.PASS_KA_TMO] ∧ hubRow R.RDG_EPOCH_INT = some
     rowE ∧ rowE.banked = false ∧ 4294967295 < 2 ^ 32 ∧ s15l.hears (trl 7 false) = true ∧ s15l.ready Master.pass (hubWrite (Agent.mst
     Master.pass) R.RDG_EPOCH_INT) R.RDG_EPOCH_INT = true ∧ s15l.pass.reqs = [] ∧ s15l.pass.accWait = false) ∧
    (s15q.hears (trl 7 false) = true) ∧
    (s15l.hears (trl 7 false) = true) ∧
    (s15l.hears (trl 7 false) = true ∧ s15l.inReset = false ∧ s15l.may (Agent.mst Master.pass) (some rtHalt) = true ∧ s15l.f
     F.SUM_CUT_CTRL_PORT_KIND = 0 ∧ s15l.cutState = 0 ∧ s15l.hasJob ActKind.resume = false ∧ s15l.schedFull = false ∧ s15l.stp.active =
     false) ∧
    ((s15l.wr R.AUTH_HELD_PASS 0).hears (trl 7 false) = true ∧ (s15l.wr R.AUTH_HELD_PASS 0).inReset = false ∧ (s15l.wr R.AUTH_HELD_PASS
     0).may (Agent.mst Master.pass) (some rtHalt) = false ∧ (s15l.wr R.AUTH_HELD_PASS 0).f F.SUM_CUT_CTRL_PORT_KIND = 0) ∧
    (s15l.hears (trl 7 false) = true) ∧
    (s15ra.hears (trl 7 false) = true ∧ 5 ≠ s15ra.ownDev) ∧
    (s15ra.hears (trl 7 false) = true ∧ 6 ≠ s15ra.ownDev) := by
  and_intros <;> decide +kernel

/-- Each clause of Obligations.PassFramesOut that has hypotheses meets them somewhere (the clauses by number, from 0: 0, 0, 0, 3,
4, 5). -/
theorem witness_PassFramesOut :
    ((s15f [frm 5 0] 0 [] true).rst.on = true ∧ (s15f [frm 5 0] 0 [] true).heldSeq 5 = false ∧ (s15f [frm 5 0] 0 [] true).sess = sessLanes ∧
     ((s15f [frm 5 0] 0 [] true).pass.train = none ∨ (s15f [frm 5 0] 0 [] true).helloDue = true) ∧ ((s15f [frm 5 0] 0 [] true).pass.idle0 =
     false ∨ (s15f [frm 5 0] 0 [] true).pass.idle1 = false)) ∧
    ((s15f [frm 5 15] 0 [] true).rst.on = true ∧ (s15f [frm 5 15] 0 [] true).heldSeq 5 = false ∧ (s15f [frm 5 15] 0 [] true).sess =
     sessLanes ∧ ((s15f [frm 5 15] 0 [] true).pass.train = none ∨ (s15f [frm 5 15] 0 [] true).helloDue = true) ∧ ((s15f [frm 5 15] 0 []
     true).pass.idle0 = false ∨ (s15f [frm 5 15] 0 [] true).pass.idle1 = false)) ∧
    ((s15f [] 0 [frm 5 0, frm 3 0] true).rst.on = true ∧ (s15f [] 0 [frm 5 0, frm 3 0] true).heldSeq 5 = false ∧ (s15f [] 0 [frm 5 0, frm 3
     0] true).sess = sessLanes ∧ ((s15f [] 0 [frm 5 0, frm 3 0] true).pass.train = none ∨ (s15f [] 0 [frm 5 0, frm 3 0] true).helloDue =
     true) ∧ ((s15f [] 0 [frm 5 0, frm 3 0] true).pass.idle0 = false ∨ (s15f [] 0 [frm 5 0, frm 3 0] true).pass.idle1 = false)) ∧
    ((s15k [frm 5 0] 8750000).rst.on = true ∧ (s15k [frm 5 0] 8750000).heldSeq 5 = false ∧ (s15k [frm 5 0] 8750000).sess = sessLanes ∧ (s15k
     [frm 5 0] 8750000).pass.unacked ≠ [] ∧ (s15k [frm 5 0] 8750000).pass.progT + 250000 ≤ (s15k [frm 5 0] 8750000).clk ∧ (s15k [frm 5 0]
     8750000).pass.train = none) ∧
    ((s15k [frm 5 0] 8750001).clk < (s15k [frm 5 0] 8750001).pass.progT + 250000) ∧
    (s15o1.pass.train = some (2, 1, 0) ∧ s15o1.helloDue = false) := by
  and_intros <;> decide +kernel

/-- Each clause of Obligations.Keepalives that has hypotheses meets them somewhere (the clauses by number, from 0: 0, 1, 2, 2, 3,
4). -/
theorem witness_Keepalives :
    (v15a.rst.on = true ∧ v15a.heldSeq 5 = false ∧ v15a.sess = sessLanes ∧ v15a.pass.sendq = [] ∧ v15a.pass.kaT + v15a.kaTk / 4 ≤ v15a.clk) ∧
    ((s15l.clk < s15l.pass.kaT + s15l.kaTk / 4 ∨ s15l.pass.sendq ≠ [])) ∧
    (v15a.rst.on = true ∧ v15a.heldSeq 5 = false ∧ (v15a.sess = sessLanes ∨ v15a.sess = sessTap) ∧ v15a.pass.lastRx + v15a.kaTk ≤ v15a.clk) ∧
    (v15b.rst.on = true ∧ v15b.heldSeq 5 = false ∧ (v15b.sess = sessLanes ∨ v15b.sess = sessTap) ∧ v15b.pass.lastRx + v15b.kaTk ≤ v15b.clk) ∧
    ((s15k [] 6500001).clk < (s15k [] 6500001).pass.lastRx + (s15k [] 6500001).kaTk) ∧
    (0 < up.f F.PASS_KA_TMO_MS) := by
  and_intros <;> decide +kernel

/-- Each clause of Obligations.PassSessions that has hypotheses meets them somewhere (the clauses by number, from 0: 0, 0, 1, 1,
2, 3, 3, 4, 5, 5, 6, 6, 7, 7, 7). -/
theorem witness_PassSessions :
    (s15n.rst.on = true ∧ s15n.heldSeq 5 = false ∧ s15n.started = true ∧ (s15n.sess = sessNone ∨ s15n.sess = sessLanes) ∧ 9 < 2 ^ 32) ∧
    (s15u.rst.on = true ∧ s15u.heldSeq 5 = false ∧ s15u.started = true ∧ (s15u.sess = sessNone ∨ s15u.sess = sessLanes) ∧ 9 < 2 ^ 32) ∧
    (s15t.rst.on = true ∧ s15t.heldSeq 5 = false ∧ 9 < 2 ^ 32 ∧ (s15t.started = false ∨ s15t.sess = sessTap ∨ s15t.sess = sessRelay ∨ 1 % 2
     ^ 16 ≠ 1)) ∧
    (s15l.rst.on = true ∧ s15l.heldSeq 5 = false ∧ 9 < 2 ^ 32 ∧ (s15l.started = false ∨ s15l.sess = sessTap ∨ s15l.sess = sessRelay ∨ 2 % 2
     ^ 16 ≠ 1)) ∧
    (s15u.hears (trl 7 false) = true) ∧
    ((s15k [] 6500000).rst.on = true ∧ (s15k [] 6500000).heldSeq 5 = false ∧ ((s15k [] 6500000).sess = sessLanes ∨ (s15k [] 6500000).sess =
     sessTap)) ∧
    (v15b.rst.on = true ∧ v15b.heldSeq 5 = false ∧ (v15b.sess = sessLanes ∨ v15b.sess = sessTap)) ∧
    (s15u.rst.on = true ∧ s15u.heldSeq 5 = false ∧ s15u.sess = sessLanes ∧ s15u.pass.train = none) ∧
    (s15x.rst.on = true ∧ s15x.heldSeq 5 = false ∧ s15x.pass.train = some (2, 1, 0) ∧ s15x.helloDue = false) ∧
    (s15x1.rst.on = true ∧ s15x1.heldSeq 5 = false ∧ s15x1.pass.train = some (0, 3, 1) ∧ s15x1.helloDue = false) ∧
    (s15z.rst.on = true ∧ s15z.heldSeq 5 = false ∧ 0 < 2 ∧ s15z.sess = sessLanes ∧ s15z.f F.PASS_STAT_LANES = 3 ∧ s15z.pass.train = none) ∧
    (s15z.rst.on = true ∧ s15z.heldSeq 5 = false ∧ 1 < 2 ∧ s15z.sess = sessLanes ∧ s15z.f F.PASS_STAT_LANES = 3 ∧ s15z.pass.train = none) ∧
    (s15i.rst.on = true ∧ s15i.heldSeq 5 = false ∧ 0 < 2) ∧
    (s15i.rst.on = true ∧ s15i.heldSeq 5 = false ∧ 1 < 2) ∧
    (s15l.rst.on = true ∧ s15l.heldSeq 5 = false ∧ 1 < 2) := by
  and_intros <;> decide +kernel

/-- Each clause of Obligations.TapInstructions that has hypotheses meets them somewhere (the clauses by number, from 0: 0, 0, 0,
1, 1, 2, 3, 3, 3, 4, 5, 5, 6). -/
theorem witness_TapInstructions :
    ((Instr.extest, 0) ∈ [(Instr.extest, 0), (Instr.samplePreload, 1), (Instr.idcode, 2), (Instr.highz, 8), (Instr.clamp, 9), (Instr.bypass,
     31)] ∧ up.rst.on = true) ∧
    ((Instr.idcode, 2) ∈ [(Instr.extest, 0), (Instr.samplePreload, 1), (Instr.idcode, 2), (Instr.highz, 8), (Instr.clamp, 9), (Instr.bypass,
     31)] ∧ up.rst.on = true) ∧
    ((Instr.highz, 8) ∈ [(Instr.extest, 0), (Instr.samplePreload, 1), (Instr.idcode, 2), (Instr.highz, 8), (Instr.clamp, 9), (Instr.bypass,
     31)] ∧ (up.setF F.LCY_STAT_STATE 5).rst.on = true) ∧
    (s15t.rst.on = true) ∧
    (s15l.rst.on = true) ∧
    (R.SUM_CWIN_TMO ∈ [R.SUM_CWIN_TMO, R.RDG_EPOCH_INT, R.SCR_FLOW_EN 0, R.SCR_FLOW_EN 7, R.PASS_KA_TMO] ∧ hubRow R.SUM_CWIN_TMO = some rowT
     ∧ rowT.banked = false ∧ 4294967295 < 2 ^ 32 ∧ s15t.ready Master.pass (hubWrite (Agent.mst Master.pass) R.SUM_CWIN_TMO) R.SUM_CWIN_TMO =
     true ∧ s15t.heldSeq 5 = false ∧ s15t.pass.reqs = [] ∧ s15t.pass.accWait = false ∧ s15t.sess = sessTap) ∧
    (R.SUM_CWIN_TMO ∈ [R.SUM_CWIN_TMO, R.RDG_EPOCH_INT, R.SCR_FLOW_EN 0, R.SCR_FLOW_EN 7, R.PASS_KA_TMO] ∧ 4294967295 < 2 ^ 32 ∧ s15e.rst.on
     = true ∧ s15e.started = true ∧ s15e.heldSeq 5 = false ∧ s15e.pass.accWait = false ∧ s15e.sess = sessNone) ∧
    (R.SUM_CWIN_TMO ∈ [R.SUM_CWIN_TMO, R.RDG_EPOCH_INT, R.SCR_FLOW_EN 0, R.SCR_FLOW_EN 7, R.PASS_KA_TMO] ∧ 4294967295 < 2 ^ 32 ∧ s15n.rst.on
     = true ∧ s15n.started = true ∧ s15n.heldSeq 5 = false ∧ s15n.pass.accWait = false ∧ s15n.sess = sessNone) ∧
    (R.SUM_CWIN_TMO ∈ [R.SUM_CWIN_TMO, R.RDG_EPOCH_INT, R.SCR_FLOW_EN 0, R.SCR_FLOW_EN 7, R.PASS_KA_TMO] ∧ 4294967295 < 2 ^ 32 ∧ (s15n.setF
     F.PASS_CTRL_TAP_ACC_EN 0).rst.on = true ∧ (s15n.setF F.PASS_CTRL_TAP_ACC_EN 0).started = true ∧ (s15n.setF F.PASS_CTRL_TAP_ACC_EN
     0).heldSeq 5 = false ∧ (s15n.setF F.PASS_CTRL_TAP_ACC_EN 0).pass.accWait = false ∧ (s15n.setF F.PASS_CTRL_TAP_ACC_EN 0).sess =
     sessNone) ∧
    (s15l.rst.on = true ∧ s15l.sess = sessLanes ∧ bit 2097152 21 = true) ∧
    (up.rst.on = true ∧ up.rdg.running = true) ∧
    ((up.setF F.LCY_STAT_STATE 5).rst.on = true ∧ (up.setF F.LCY_STAT_STATE 5).rdg.running = true) ∧
    (s15n.rst.on = true ∧ bit 7 21 = false ∧ s15n.sess ≠ sessTap) := by
  and_intros <;> decide +kernel

/-- Each clause of Obligations.Fabric that has hypotheses meets them somewhere (the clauses by number, from 0: 0, 0, 0, 1, 1, 2,
3, 4, 5, 6, 7, 8, 8, 9, 10, 10, 11, 12, 12, 13, 13, 14, 15, 15, 16, 16, 17). -/
theorem witness_Fabric :
    (s15j.ready Master.host (some rtPort) R.PASS_FAB_CTRL = true ∧ bit 1 0 = true ∧ bit 1 1 = false ∧ s15j.isLead = false) ∧
    (s15j.ready Master.pass (some rtPort) R.PASS_FAB_CTRL = true ∧ bit 5 0 = true ∧ bit 5 1 = false ∧ s15j.isLead = false) ∧
    (s15j.ready Master.pass (some rtPort) R.PASS_FAB_CTRL = true ∧ bit 1 0 = true ∧ bit 1 1 = false ∧ s15j.isLead = false) ∧
    ((s15d 9000000).ready Master.pass (some rtPort) R.PASS_FAB_CTRL = true ∧ (s15d 9000000).isLead = true) ∧
    ((s15d 9000000).ready Master.host (some rtPort) R.PASS_FAB_CTRL = true ∧ (s15d 9000000).isLead = true) ∧
    (s15l.ready Master.host (some rtPort) R.PASS_FAB_CTRL = true ∧ s15l.isLead = false) ∧
    ((s15d 9000000).rst.on = true ∧ (s15d 9000000).heldSeq 5 = false ∧ (s15d 9000000).isLead = true ∧ 99 ≠ (s15d 9000000).uid ∧ (s15d
     9000000).pass.first = false ∧ (s15d 9000000).devOf 99 = none ∧ (s15d 9000000).freeDev = some 1 ∧ (s15d 9000000).member 1 = none) ∧
    (s15j.rst.on = true ∧ s15j.heldSeq 5 = false ∧ s15j.isLead = false ∧ 4095 < 4096) ∧
    ((s15d 25000003).rst.on = true ∧ (s15d 25000003).heldSeq 5 = false ∧ (s15d 25000003).isLead = true ∧ (s15d 25000003).pass.discT = some 3
     ∧ 3 + 25000000 ≤ (s15d 25000003).clk ∧ (s15d 25000003).pass.found = []) ∧
    (s15v.rst.on = true ∧ s15v.heldSeq 5 = false ∧ s15v.isLead = true ∧ s15v.pass.discT = some 3 ∧ 3 + 25000000 ≤ s15v.clk ∧ s15v.pass.found
     = [(99, 5)] ∧ s15v.devOf 99 = none ∧ s15v.freeDev = some 1 ∧ s15v.member 1 = none) ∧
    ((s15d 25000002).pass.discT = some 3 ∧ (s15d 25000002).clk < 3 + 25000000) ∧
    ((s15d 9000000).rst.on = true ∧ (s15d 9000000).heldSeq 5 = false ∧ (s15d 9000000).isLead = true ∧ 5 ≠ 0 ∧ (s15d 9000000).member 5 = some
     mem1 ∧ mem1.present = true) ∧
    ((s15d 2600000000).rst.on = true ∧ (s15d 2600000000).heldSeq 5 = false ∧ (s15d 2600000000).isLead = true ∧ 5 ≠ 0 ∧ (s15d
     2600000000).member 5 = some mem1 ∧ mem1.present = true) ∧
    (((s15d 9000000).setF F.SUM_DEV_ID_VALID 0).rst.on = true ∧ ((s15d 9000000).setF F.SUM_DEV_ID_VALID 0).heldSeq 5 = false ∧ ((s15d
     9000000).setF F.SUM_DEV_ID_VALID 0).isLead = true ∧ ((s15d 9000000).setF F.SUM_DEV_ID_VALID 0).f F.SUM_DEV_ID_VALID = 0 ∧ ((s15d
     9000000).setF F.SUM_DEV_ID_VALID 0).pass.heldX = []) ∧
    ((s15w.isLead = false ∨ s15w.f F.SUM_DEV_ID_VALID = 1)) ∧
    ((s15l.isLead = false ∨ s15l.f F.SUM_DEV_ID_VALID = 1)) ∧
    ((s15d 9000000).hears (trl 7 false) = true ∧ (s15d 9000000).isLead = true ∧ 0 < 5 ∧ 5 < 4096 ∧ (s15d 9000000).member 5 = some mem1 ∧
     mem1.present = true ∧ [].contains 5 = false) ∧
    ((s15d 9000000).hears (trl 7 false) = true ∧ 6 < 4096 ∧ ((s15d 9000000).isLead = false ∨ (s15d 9000000).member 6 = none ∨ 6 = 0)) ∧
    (s15l.hears (trl 7 false) = true ∧ 6 < 4096 ∧ (s15l.isLead = false ∨ s15l.member 6 = none ∨ 6 = 0)) ∧
    ((s15d 9000000).hears (trl 7 false) = true ∧ 5 < 4096 ∧ (s15d 9000000).member 5 = some mem1) ∧
    (s15ra.hears (trl 7 false) = true ∧ 5 < 4096 ∧ s15ra.member 5 = some mem1r) ∧
    (s15r.rst.on = true ∧ s15r.heldSeq 5 = false ∧ s15r.sess = sessRelay) ∧
    (s15n.rst.on = true ∧ s15n.heldSeq 5 = false ∧ s15n.started = true) ∧
    (s15r.rst.on = true ∧ s15r.heldSeq 5 = false ∧ s15r.started = true) ∧
    (s15r.rst.on = true ∧ s15r.heldSeq 5 = false ∧ s15r.sess = sessRelay) ∧
    (s15y.rst.on = true ∧ s15y.heldSeq 5 = false ∧ s15y.sess = sessRelay) ∧
    (s15v1.rst.on = true ∧ s15v1.heldSeq 5 = false ∧ s15v1.isLead = true ∧ 99 ≠ s15v1.uid ∧ s15v1.pass.first = true ∧ s15v1.pass.discT =
     some 3 ∧ s15v1.devOf 99 = none) := by
  and_intros <;> decide +kernel

/-- Each clause of Obligations.PowerAndStartUp that has hypotheses meets them somewhere (the clauses by number, from 0: 2, 2, 3,
3, 3). -/
theorem witness_PowerAndStartUp :
    (State.reset.rst.on = true) ∧
    (up.rst.on = true) ∧
    (State.reset.rst.on = true) ∧
    ((s16ph 1).rst.on = true) ∧
    ((s16ph 2).rst.on = true) := by
  and_intros <;> decide +kernel

/-- Each clause of Obligations.SoftResetRequests that has hypotheses meets them somewhere (the clauses by number, from 0: 0, 0, 1,
2, 2, 3, 4, 4, 4, 5, 6). -/
theorem witness_SoftResetRequests :
    (up.ready Master.host (some rtHalt) R.SUM_RST_CMD = true ∧ bit 1369767937 0 = true ∧ 1369767937 / 65536 = 20901 ∧ up.softPending = false
     ∧ up.sess = sessNone ∧ up.sum.aps = [] ∧ up.sum.held = []) ∧
    (up.ready Master.pass (some rtHalt) R.SUM_RST_CMD = true ∧ bit 1369767937 0 = true ∧ 1369767937 / 65536 = 20901 ∧ up.softPending = false
     ∧ up.sess = sessNone ∧ up.sum.aps = [] ∧ up.sum.held = []) ∧
    (s15l.ready Master.host (some rtHalt) R.SUM_RST_CMD = true ∧ bit 1369767937 0 = true ∧ 1369767937 / 65536 = 20901 ∧ s15l.softPending =
     false ∧ s15l.sess ≠ sessNone ∧ s15l.sum.aps = [] ∧ s15l.sum.held = []) ∧
    (up.ready Master.host (some rtHalt) R.SUM_RST_CMD = true ∧ (bit 1369767936 0 = false ∨ 1369767936 / 65536 ≠ 20901)) ∧
    (up.ready Master.host (some rtHalt) R.SUM_RST_CMD = true ∧ (bit 1369702401 0 = false ∨ 1369702401 / 65536 ≠ 20901)) ∧
    (s02d.ready Master.host none R.SUM_RST_CMD = true ∧ s02d.may (Agent.mst Master.host) (some rtHalt) = false) ∧
    ((s16s false).rst.on = true ∧ (s16s false).softPending = true ∧ (s16s false).apsOf Master.host = [] ∧ ((s16s false).sum.held.any fun y
     => y.master == Master.host) = false ∧ R.SUM_TOPO_STAT < 2 ^ 20 ∧ R.SUM_TOPO_STAT % 4 = 0) ∧
    ((s16s false).rst.on = true ∧ (s16s false).softPending = true ∧ (s16s false).apsOf Master.pass = [] ∧ ((s16s false).sum.held.any fun y
     => y.master == Master.pass) = false ∧ 132096 < 2 ^ 20 ∧ 132096 % 4 = 0) ∧
    ((s16s false).rst.on = true ∧ (s16s false).softPending = true ∧ (s16s false).apsOf Master.pass = [] ∧ ((s16s false).sum.held.any fun y
     => y.master == Master.pass) = false ∧ R.SUM_CUT_CMD < 2 ^ 20 ∧ R.SUM_CUT_CMD % 4 = 0) ∧
    ((s16s false).rst.on = true ∧ (s16s false).softPending = true ∧ (s16s false).apsOf Master.pass = [] ∧ ((s16s false).sum.held.any fun y
     => y.master == Master.pass) = false) ∧
    (s16ap.ready Master.host (some rtHalt) R.SUM_RST_CMD = true ∧ bit 1369767937 0 = true ∧ 1369767937 / 65536 = 20901 ∧ s16ap.softPending =
     false ∧ s16ap.sess = sessNone) := by
  and_intros <;> decide +kernel

/-- Each clause of Obligations.SoftReset that has hypotheses meets them somewhere (the clauses by number, from 0: 0, 0, 1, 1, 2,
2, 3). -/
theorem witness_SoftReset :
    ((s16s false).rst.on = true ∧ (s16s false).rst.soft = some (srun false) ∧ (srun false).applied = false ∧ (s16s false).softReady (srun
     false) = true) ∧
    (v16a.rst.on = true ∧ v16a.rst.soft = some (srun false) ∧ (srun false).applied = false ∧ v16a.softReady (srun false) = true) ∧
    ((∀ (r : SoftRun), s16t.rst.soft = some r → r.applied = true ∨ s16t.softReady r = false)) ∧
    ((∀ (r : SoftRun), (s16s true).rst.soft = some r → r.applied = true ∨ (s16s true).softReady r = false)) ∧
    (s16u.rst.on = true ∧ s16u.rst.soft = some (srun true) ∧ (srun true).applied = true) ∧
    ((s16s true).rst.on = true ∧ (s16s true).rst.soft = some (srun true) ∧ (srun true).applied = true) ∧
    ((∀ (r : SoftRun), (s16s false).rst.soft = some r → r.applied = false)) := by
  and_intros <;> decide +kernel

/-- Each clause of Obligations.WarmResetAndIdle that has hypotheses meets them somewhere (the clauses by number, from 0: 0, 0, 0,
1, 1, 2, 3, 3, 4). -/
theorem witness_WarmResetAndIdle :
    (s16w.rst.on = true) ∧
    ((upC 2977 c16r).rst.on = true) ∧
    ((s09b [cjob 5]).rst.on = true) ∧
    ((s16b [7]).rst.on = true ∧ (s16b [7]).rst.bmuWait = true ∧ (s16b [7]).cen.defer = []) ∧
    ((s16b []).rst.on = true ∧ (s16b []).rst.bmuWait = true ∧ (s16b []).cen.defer = []) ∧
    (up.rst.bmuWait = false) ∧
    ((s16i 750000).rst.on = true ∧ (s16i 750000).rst.idleT = some 750000) ∧
    ((s16i 750001).rst.on = true ∧ (s16i 750001).rst.idleT = some 750001) ∧
    (up.rst.idleT = none) := by
  and_intros <;> decide +kernel

/-- Each clause of Obligations.PitchRequests that has hypotheses meets them somewhere (the clauses by number, from 0: 0, 1, 1, 2,
3, 3, 4, 5, 5, 5, 6, 6, 7, 7, 7, 8, 9, 10). -/
theorem witness_PitchRequests :
    ((withE (up.setF F.CRS_CTRL_RUN 1) (PInstr.trig (63 : BitVec 6)) 0).issues 1 (PInstr.trig (63 : BitVec 6)) = true) ∧
    ((withE up (iCut (0 : BitVec 3) (0 : BitVec 1) (0 : BitVec 1)) 0).issues 1 (PInstr.cut (14 : BitVec 4) (4 : BitVec 4) (0 : BitVec 3) (0
     : BitVec 1) (0 : BitVec 1)) = true ∧ ((withE up (iCut (0 : BitVec 3) (0 : BitVec 1) (0 : BitVec 1)) 0).cutState = 0 ∨ (withE up (iCut
     (0 : BitVec 3) (0 : BitVec 1) (0 : BitVec 1)) 0).cutState = 3 ∨ (withE up (iCut (0 : BitVec 3) (0 : BitVec 1) (0 : BitVec 1))
     0).cutState = 1 ∧ (withE up (iCut (0 : BitVec 3) (0 : BitVec 1) (0 : BitVec 1)) 0).hasJob ActKind.cutStop = false) ∧ (withE up (iCut (0
     : BitVec 3) (0 : BitVec 1) (0 : BitVec 1)) 0).hasJob ActKind.resume = false ∧ (withE up (iCut (0 : BitVec 3) (0 : BitVec 1) (0 : BitVec
     1)) 0).schedFull = false ∧ (withE up (iCut (0 : BitVec 3) (0 : BitVec 1) (0 : BitVec 1)) 0).stp.active = false) ∧
    ((withE s04a (iCut (0 : BitVec 3) (1 : BitVec 1) (0 : BitVec 1)) 1000099).issues 1 (PInstr.cut (14 : BitVec 4) (4 : BitVec 4) (0 :
     BitVec 3) (1 : BitVec 1) (0 : BitVec 1)) = true ∧ ((withE s04a (iCut (0 : BitVec 3) (1 : BitVec 1) (0 : BitVec 1)) 1000099).cutState =
     0 ∨ (withE s04a (iCut (0 : BitVec 3) (1 : BitVec 1) (0 : BitVec 1)) 1000099).cutState = 3 ∨ (withE s04a (iCut (0 : BitVec 3) (1 :
     BitVec 1) (0 : BitVec 1)) 1000099).cutState = 1 ∧ (withE s04a (iCut (0 : BitVec 3) (1 : BitVec 1) (0 : BitVec 1)) 1000099).hasJob
     ActKind.cutStop = false) ∧ (withE s04a (iCut (0 : BitVec 3) (1 : BitVec 1) (0 : BitVec 1)) 1000099).hasJob ActKind.resume = false ∧
     (withE s04a (iCut (0 : BitVec 3) (1 : BitVec 1) (0 : BitVec 1)) 1000099).schedFull = false ∧ (withE s04a (iCut (0 : BitVec 3) (1 :
     BitVec 1) (0 : BitVec 1)) 1000099).stp.active = false) ∧
    ((withE s04d (iCut (1 : BitVec 3) (1 : BitVec 1) (0 : BitVec 1)) 2000000).issues 1 (PInstr.cut (14 : BitVec 4) (4 : BitVec 4) (1 :
     BitVec 3) (1 : BitVec 1) (0 : BitVec 1)) = true ∧ (withE s04d (iCut (1 : BitVec 3) (1 : BitVec 1) (0 : BitVec 1)) 2000000).cutState = 0
     ∧ (withE s04d (iCut (1 : BitVec 3) (1 : BitVec 1) (0 : BitVec 1)) 2000000).schedFull = false ∧ (withE s04d (iCut (1 : BitVec 3) (1 :
     BitVec 1) (0 : BitVec 1)) 2000000).stp.active = false ∧ (withE s04d (iCut (1 : BitVec 3) (1 : BitVec 1) (0 : BitVec 1))
     2000000).dumpCode ((withE s04d (iCut (1 : BitVec 3) (1 : BitVec 1) (0 : BitVec 1)) 2000000).rd (R.COU_PROF ((withE s04d (iCut (1 :
     BitVec 3) (1 : BitVec 1) (0 : BitVec 1)) 2000000).f F.COU_CTRL_GLANCE_PROF))) false = couNone ∧ (withE s04d (iCut (1 : BitVec 3) (1 :
     BitVec 1) (0 : BitVec 1)) 2000000).cou.freeSlot = some 0) ∧
    ((withE s04b (iCut (2 : BitVec 3) (0 : BitVec 1) (0 : BitVec 1)) 0).issues 1 (PInstr.cut (14 : BitVec 4) (4 : BitVec 4) (2 : BitVec 3)
     (0 : BitVec 1) (0 : BitVec 1)) = true ∧ (withE s04b (iCut (2 : BitVec 3) (0 : BitVec 1) (0 : BitVec 1)) 0).cutState = 2 ∧ (withE s04b
     (iCut (2 : BitVec 3) (0 : BitVec 1) (0 : BitVec 1)) 0).schedFull = false ∧ (withE s04b (iCut (2 : BitVec 3) (0 : BitVec 1) (0 : BitVec
     1)) 0).stp.active = false) ∧
    ((withE s04b (iCut (2 : BitVec 3) (1 : BitVec 1) (0 : BitVec 1)) 5).issues 1 (PInstr.cut (14 : BitVec 4) (4 : BitVec 4) (2 : BitVec 3)
     (1 : BitVec 1) (0 : BitVec 1)) = true ∧ (withE s04b (iCut (2 : BitVec 3) (1 : BitVec 1) (0 : BitVec 1)) 5).cutState = 2 ∧ (withE s04b
     (iCut (2 : BitVec 3) (1 : BitVec 1) (0 : BitVec 1)) 5).schedFull = false ∧ (withE s04b (iCut (2 : BitVec 3) (1 : BitVec 1) (0 : BitVec
     1)) 5).stp.active = false) ∧
    ((withE s04e (iCut (3 : BitVec 3) (0 : BitVec 1) (0 : BitVec 1)) 0).issues 1 (PInstr.cut (14 : BitVec 4) (4 : BitVec 4) (3 : BitVec 3)
     (0 : BitVec 1) (0 : BitVec 1)) = true ∧ (withE s04e (iCut (3 : BitVec 3) (0 : BitVec 1) (0 : BitVec 1)) 0).cut.cap = true ∧ (withE s04e
     (iCut (3 : BitVec 3) (0 : BitVec 1) (0 : BitVec 1)) 0).cut.capAband = false ∧ ((withE s04e (iCut (3 : BitVec 3) (0 : BitVec 1) (0 :
     BitVec 1)) 0).cutState = 3 ∨ (withE s04e (iCut (3 : BitVec 3) (0 : BitVec 1) (0 : BitVec 1)) 0).cutState = 4)) ∧
    (0 < 3 ∧ (withE up (iCut (0 : BitVec 3) (0 : BitVec 1) (1 : BitVec 1)) 0).issues 1 (PInstr.cut (14 : BitVec 4) (4 : BitVec 4) (0 :
     BitVec 3) (0 : BitVec 1) (1 : BitVec 1)) = true ∧ (withE up (iCut (0 : BitVec 3) (0 : BitVec 1) (1 : BitVec 1)) 0).isLead = false) ∧
    (1 < 3 ∧ (withE s17b (iCut (1 : BitVec 3) (0 : BitVec 1) (1 : BitVec 1)) 0).issues 1 (PInstr.cut (14 : BitVec 4) (4 : BitVec 4) (1 :
     BitVec 3) (0 : BitVec 1) (1 : BitVec 1)) = true ∧ (withE s17b (iCut (1 : BitVec 3) (0 : BitVec 1) (1 : BitVec 1)) 0).isLead = false) ∧
    (2 < 3 ∧ (withE up (iCut (2 : BitVec 3) (0 : BitVec 1) (1 : BitVec 1)) 0).issues 1 (PInstr.cut (14 : BitVec 4) (4 : BitVec 4) (2 :
     BitVec 3) (0 : BitVec 1) (1 : BitVec 1)) = true ∧ (withE up (iCut (2 : BitVec 3) (0 : BitVec 1) (1 : BitVec 1)) 0).isLead = false) ∧
    ((withE s05a (iCut (4 : BitVec 3) (0 : BitVec 1) (0 : BitVec 1)) 0).issues 1 (PInstr.cut (14 : BitVec 4) (4 : BitVec 4) (if (0 : BitVec
     1) = (1 : BitVec 1) then (5 : BitVec 3) else (4 : BitVec 3)) (0 : BitVec 1) (0 : BitVec 1)) = true ∧ (withE s05a (iCut (4 : BitVec 3)
     (0 : BitVec 1) (0 : BitVec 1)) 0).f F.SUM_STEP_STAT_STATE = 0 ∧ (withE s05a (iCut (4 : BitVec 3) (0 : BitVec 1) (0 : BitVec 1))
     0).cutState = 2 ∧ (withE s05a (iCut (4 : BitVec 3) (0 : BitVec 1) (0 : BitVec 1)) 0).schedFull = false) ∧
    ((withE s05a (iCut (5 : BitVec 3) (1 : BitVec 1) (0 : BitVec 1)) 9).issues 1 (PInstr.cut (14 : BitVec 4) (4 : BitVec 4) (if (1 : BitVec
     1) = (1 : BitVec 1) then (5 : BitVec 3) else (4 : BitVec 3)) (1 : BitVec 1) (0 : BitVec 1)) = true ∧ (withE s05a (iCut (5 : BitVec 3)
     (1 : BitVec 1) (0 : BitVec 1)) 9).f F.SUM_STEP_STAT_STATE = 0 ∧ (withE s05a (iCut (5 : BitVec 3) (1 : BitVec 1) (0 : BitVec 1))
     9).cutState = 2 ∧ (withE s05a (iCut (5 : BitVec 3) (1 : BitVec 1) (0 : BitVec 1)) 9).schedFull = false) ∧
    ((withE s10a (PInstr.trc (14 : BitVec 4) (4 : BitVec 4) (0 : BitVec 1)) 1025).issues 1 (PInstr.trc (14 : BitVec 4) (4 : BitVec 4) (0 :
     BitVec 1)) = true) ∧
    ((withE s10a (PInstr.trc (14 : BitVec 4) (4 : BitVec 4) (1 : BitVec 1)) 5121).issues 1 (PInstr.trc (14 : BitVec 4) (4 : BitVec 4) (1 :
     BitVec 1)) = true) ∧
    ((withE s10a (PInstr.trc (14 : BitVec 4) (4 : BitVec 4) (1 : BitVec 1)) 4096).issues 1 (PInstr.trc (14 : BitVec 4) (4 : BitVec 4) (1 :
     BitVec 1)) = true) ∧
    ((withE s08e (PInstr.dump (14 : BitVec 4) (3 : BitVec 4)) 0).issues 1 (PInstr.dump (14 : BitVec 4) (3 : BitVec 4)) = true ∧ (withE s08e
     (PInstr.dump (14 : BitVec 4) (3 : BitVec 4)) 0).dumpCode ((withE s08e (PInstr.dump (14 : BitVec 4) (3 : BitVec 4)) 0).rd (R.COU_PROF
     3)) true = 0 ∧ (withE s08e (PInstr.dump (14 : BitVec 4) (3 : BitVec 4)) 0).cou.freeSlot = some 0 ∧ pfCut ((withE s08e (PInstr.dump (14
     : BitVec 4) (3 : BitVec 4)) 0).rd (R.COU_PROF 3)) = 2 ∧ (withE s08e (PInstr.dump (14 : BitVec 4) (3 : BitVec 4)) 0).schedFull = false) ∧
    ((withE up (PInstr.dump (14 : BitVec 4) (3 : BitVec 4)) 0).issues 1 (PInstr.dump (14 : BitVec 4) (3 : BitVec 4)) = true ∧ (withE up
     (PInstr.dump (14 : BitVec 4) (3 : BitVec 4)) 0).dumpCode ((withE up (PInstr.dump (14 : BitVec 4) (3 : BitVec 4)) 0).rd (R.COU_PROF 3))
     true ≠ 0) ∧
    ((withE s17c (PInstr.dump (14 : BitVec 4) (3 : BitVec 4)) 0).issues 1 (PInstr.dump (14 : BitVec 4) (3 : BitVec 4)) = true ∧ (withE s17c
     (PInstr.dump (14 : BitVec 4) (3 : BitVec 4)) 0).dumpCode ((withE s17c (PInstr.dump (14 : BitVec 4) (3 : BitVec 4)) 0).rd (R.COU_PROF
     3)) true = 0 ∧ (withE s17c (PInstr.dump (14 : BitVec 4) (3 : BitVec 4)) 0).cou.freeSlot = some 0 ∧ pfCut ((withE s17c (PInstr.dump (14
     : BitVec 4) (3 : BitVec 4)) 0).rd (R.COU_PROF 3)) < 2 ∧ (withE s17c (PInstr.dump (14 : BitVec 4) (3 : BitVec 4)) 0).cutState = 0 ∧
     (withE s17c (PInstr.dump (14 : BitVec 4) (3 : BitVec 4)) 0).schedFull = true ∧ (withE s17c (PInstr.dump (14 : BitVec 4) (3 : BitVec 4))
     0).stp.active = false) := by
  and_intros <;> decide +kernel

/-- Each clause of Obligations.PitchActions that has hypotheses meets them somewhere (the clauses by number, from 0: 0, 1, 2, 2,
2, 3, 4, 4, 4, 5, 5, 5, 6, 7). -/
theorem witness_PitchActions :
    ((withE (s09a (cd 4096)) (PInstr.job (14 : BitVec 4) (4 : BitVec 4) (0 : BitVec 1)) 256).issues 1 (PInstr.job (14 : BitVec 4) (4 :
     BitVec 4) (0 : BitVec 1)) = true ∧ (List.filter (fun j => j.src == 4098 + 1) (withE (s09a (cd 4096)) (PInstr.job (14 : BitVec 4) (4 :
     BitVec 4) (0 : BitVec 1)) 256).cen.jobs).length < 4 ∧ (withE (s09a (cd 4096)) (PInstr.job (14 : BitVec 4) (4 : BitVec 4) (0 : BitVec
     1)) 256).p 1 4 ≤ 65535 ∧ (withE (s09a (cd 4096)) (PInstr.job (14 : BitVec 4) (4 : BitVec 4) (0 : BitVec 1)) 256).inData 1 ((withE (s09a
     (cd 4096)) (PInstr.job (14 : BitVec 4) (4 : BitVec 4) (0 : BitVec 1)) 256).p 1 4) = true ∧ (withE (s09a (cd 4096)) (PInstr.job (14 :
     BitVec 4) (4 : BitVec 4) (0 : BitVec 1)) 256).dataArea 1 ((withE (s09a (cd 4096)) (PInstr.job (14 : BitVec 4) (4 : BitVec 4) (0 :
     BitVec 1)) 256).p 1 4) (descLen false ((withE (s09a (cd 4096)) (PInstr.job (14 : BitVec 4) (4 : BitVec 4) (0 : BitVec 1)) 256).pmWord
     ((withE (s09a (cd 4096)) (PInstr.job (14 : BitVec 4) (4 : BitVec 4) (0 : BitVec 1)) 256).p 1 4))) = true ∧ (withE (s09a (cd 4096))
     (PInstr.job (14 : BitVec 4) (4 : BitVec 4) (0 : BitVec 1)) 256).prb.pmUc = [] ∧ (withE (s09a (cd 4096)) (PInstr.job (14 : BitVec 4) (4
     : BitVec 4) (0 : BitVec 1)) 256).dataArea 1 ((withE (s09a (cd 4096)) (PInstr.job (14 : BitVec 4) (4 : BitVec 4) (0 : BitVec 1))
     256).pmWord ((withE (s09a (cd 4096)) (PInstr.job (14 : BitVec 4) (4 : BitVec 4) (0 : BitVec 1)) 256).p 1 4 + 1) % 65536) (resultLen
     false ((withE (s09a (cd 4096)) (PInstr.job (14 : BitVec 4) (4 : BitVec 4) (0 : BitVec 1)) 256).pmWord ((withE (s09a (cd 4096))
     (PInstr.job (14 : BitVec 4) (4 : BitVec 4) (0 : BitVec 1)) 256).p 1 4))) = true ∧ (withE (s09a (cd 4096)) (PInstr.job (14 : BitVec 4)
     (4 : BitVec 4) (0 : BitVec 1)) 256).jobCode false (4098 + 1) ((withE (s09a (cd 4096)) (PInstr.job (14 : BitVec 4) (4 : BitVec 4) (0 :
     BitVec 1)) 256).p 1 4) ((withE (s09a (cd 4096)) (PInstr.job (14 : BitVec 4) (4 : BitVec 4) (0 : BitVec 1)) 256).descAt false ((withE
     (s09a (cd 4096)) (PInstr.job (14 : BitVec 4) (4 : BitVec 4) (0 : BitVec 1)) 256).p 1 4)) = 0) ∧
    ((withE (s09c 2) (PInstr.job (14 : BitVec 4) (4 : BitVec 4) (1 : BitVec 1)) 256).issues 1 (PInstr.job (14 : BitVec 4) (4 : BitVec 4) (1
     : BitVec 1)) = true ∧ (List.filter (fun j => j.src == 4098 + 1) (withE (s09c 2) (PInstr.job (14 : BitVec 4) (4 : BitVec 4) (1 : BitVec
     1)) 256).cen.jobs).length < 4 ∧ (withE (s09c 2) (PInstr.job (14 : BitVec 4) (4 : BitVec 4) (1 : BitVec 1)) 256).p 1 4 ≤ 65535 ∧ (withE
     (s09c 2) (PInstr.job (14 : BitVec 4) (4 : BitVec 4) (1 : BitVec 1)) 256).inData 1 ((withE (s09c 2) (PInstr.job (14 : BitVec 4) (4 :
     BitVec 4) (1 : BitVec 1)) 256).p 1 4) = true ∧ (withE (s09c 2) (PInstr.job (14 : BitVec 4) (4 : BitVec 4) (1 : BitVec 1)) 256).dataArea
     1 ((withE (s09c 2) (PInstr.job (14 : BitVec 4) (4 : BitVec 4) (1 : BitVec 1)) 256).p 1 4) (descLen true ((withE (s09c 2) (PInstr.job
     (14 : BitVec 4) (4 : BitVec 4) (1 : BitVec 1)) 256).pmWord ((withE (s09c 2) (PInstr.job (14 : BitVec 4) (4 : BitVec 4) (1 : BitVec 1))
     256).p 1 4))) = true ∧ (withE (s09c 2) (PInstr.job (14 : BitVec 4) (4 : BitVec 4) (1 : BitVec 1)) 256).prb.pmUc = [] ∧ (withE (s09c 2)
     (PInstr.job (14 : BitVec 4) (4 : BitVec 4) (1 : BitVec 1)) 256).dataArea 1 ((withE (s09c 2) (PInstr.job (14 : BitVec 4) (4 : BitVec 4)
     (1 : BitVec 1)) 256).pmWord ((withE (s09c 2) (PInstr.job (14 : BitVec 4) (4 : BitVec 4) (1 : BitVec 1)) 256).p 1 4 + 1) % 65536)
     (resultLen true ((withE (s09c 2) (PInstr.job (14 : BitVec 4) (4 : BitVec 4) (1 : BitVec 1)) 256).pmWord ((withE (s09c 2) (PInstr.job
     (14 : BitVec 4) (4 : BitVec 4) (1 : BitVec 1)) 256).p 1 4))) = true ∧ (withE (s09c 2) (PInstr.job (14 : BitVec 4) (4 : BitVec 4) (1 :
     BitVec 1)) 256).jobCode true (4098 + 1) ((withE (s09c 2) (PInstr.job (14 : BitVec 4) (4 : BitVec 4) (1 : BitVec 1)) 256).p 1 4) ((withE
     (s09c 2) (PInstr.job (14 : BitVec 4) (4 : BitVec 4) (1 : BitVec 1)) 256).descAt true ((withE (s09c 2) (PInstr.job (14 : BitVec 4) (4 :
     BitVec 4) (1 : BitVec 1)) 256).p 1 4)) = 0 ∧ (withE (s09c 2) (PInstr.job (14 : BitVec 4) (4 : BitVec 4) (1 : BitVec 1)) 256).pickSpares
     ((withE (s09c 2) (PInstr.job (14 : BitVec 4) (4 : BitVec 4) (1 : BitVec 1)) 256).descAt true ((withE (s09c 2) (PInstr.job (14 : BitVec
     4) (4 : BitVec 4) (1 : BitVec 1)) 256).p 1 4)) = some (524, 525)) ∧
    ((withE s17a (PInstr.job (14 : BitVec 4) (4 : BitVec 4) (0 : BitVec 1)) 256).issues 1 (PInstr.job (14 : BitVec 4) (4 : BitVec 4) (0 :
     BitVec 1)) = true) ∧
    ((withE s17a (PInstr.job (14 : BitVec 4) (4 : BitVec 4) (1 : BitVec 1)) 256).issues 1 (PInstr.job (14 : BitVec 4) (4 : BitVec 4) (1 :
     BitVec 1)) = true) ∧
    ((withE (s09a (cd 4096)) (PInstr.job (14 : BitVec 4) (4 : BitVec 4) (1 : BitVec 1)) 16).issues 1 (PInstr.job (14 : BitVec 4) (4 : BitVec
     4) (1 : BitVec 1)) = true) ∧
    ((withE up (PInstr.log (4 : BitVec 4) (5 : BitVec 4) (1 : BitVec 1) (4095 : BitVec 12)) 9).issues 1 (PInstr.log (4 : BitVec 4) (5 :
     BitVec 4) (1 : BitVec 1) (4095 : BitVec 12)) = true) ∧
    ((withE (upC 1057 on) (PInstr.fence (14 : BitVec 4) (4 : BitVec 4)) 1057).issues 1 (PInstr.fence (14 : BitVec 4) (4 : BitVec 4)) = true) ∧
    ((withE up (PInstr.fence (14 : BitVec 4) (4 : BitVec 4)) 4095).issues 1 (PInstr.fence (14 : BitVec 4) (4 : BitVec 4)) = true) ∧
    ((withE up (PInstr.fence (14 : BitVec 4) (4 : BitVec 4)) 2976).issues 1 (PInstr.fence (14 : BitVec 4) (4 : BitVec 4)) = true) ∧
    ((withE s12a (PInstr.remap (14 : BitVec 4) (4 : BitVec 4) (5 : BitVec 4)) 3).issues 1 (PInstr.remap (14 : BitVec 4) (4 : BitVec 4) (5 :
     BitVec 4)) = true) ∧
    ((withE s12a (PInstr.remap (14 : BitVec 4) (4 : BitVec 4) (5 : BitVec 4)) 4095).issues 1 (PInstr.remap (14 : BitVec 4) (4 : BitVec 4) (5
     : BitVec 4)) = true) ∧
    ((withE (s17d true) (PInstr.remap (14 : BitVec 4) (4 : BitVec 4) (5 : BitVec 4)) 3).issues 1 (PInstr.remap (14 : BitVec 4) (4 : BitVec
     4) (5 : BitVec 4)) = true) ∧
    ((withE up PInstr.kick 0).issues 1 PInstr.kick = true) ∧
    ((withE up (PInstr.halt (65535 : BitVec 16)) 0).issues 1 (PInstr.halt (65535 : BitVec 16)) = true) := by
  and_intros <;> decide +kernel

end Sys2Proof.Tests
end

section
/-! PROOFS: frames compose, the frame of each small operation of an access, and a command at a powered hub. -/

namespace Sys2Proof.Machine

theorem Part.same.refl (s : State) (p : Part) : p.same s s := by
  cases p <;> simp [Part.same]

theorem Part.same.trans {s t u : State} {p : Part} (h : p.same s t) (g : p.same t u) : p.same s u := by
  cases p <;> simp_all [Part.same]

theorem State.frame.refl (s : State) (regs pages : List Nat) (parts : List Part) : s.frame s regs pages parts :=
  ⟨rfl, fun _ _ _ => rfl, fun p _ => Part.same.refl s p⟩

theorem State.frame.trans {s t u : State} {regs pages : List Nat} {parts : List Part} (h : s.frame t regs pages parts)
    (g : t.frame u regs pages parts) : s.frame u regs pages parts := by
  obtain ⟨hpend, hregs, hparts⟩ := h
  obtain ⟨gpend, gregs, gparts⟩ := g
  exact ⟨gpend.trans hpend, fun a ha hp => (gregs a ha hp).trans (hregs a ha hp), fun p hp => (hparts p hp).trans (gparts p hp)⟩

/-- A frame holds with longer lists too. -/
theorem State.frame.mono {s t : State} {r r' g g' : List Nat} {q q' : List Part} (h : s.frame t r g q) (hr : r ⊆ r')
    (hg : g ⊆ g') (hq : q ⊆ q') : s.frame t r' g' q' := by
  obtain ⟨hpend, hregs, hparts⟩ := h
  exact ⟨hpend, fun a ha hp => hregs a (fun x => ha (hr x)) (fun x => hp (hg x)), fun p hp => hparts p fun x => hp (hq x)⟩

theorem frame_setF (s : State) (f : Fld) (n : Nat) : s.frame (s.setF f n) [f.addr] [] [] :=
  ⟨rfl, fun _ ha _ => rd_setF_ne s f n (List.ne_of_not_mem_cons ha), fun p _ => by cases p <;> simp [Part.same]⟩

theorem frame_wr (s : State) (a n : Nat) : s.frame (s.wr a n) [a] [] [] :=
  ⟨rfl, fun _ ha _ => rd_wr_ne s n (List.ne_of_not_mem_cons ha), fun p _ => by cases p <;> simp [Part.same]⟩

/-- The masters' own parts, the lease and the arbiter's turn belong to the part `access`. -/
theorem frame_arbiter (s : State) (pm hm : MstSt) (lease : Nat) (turn : Master) (used : Nat) :
    s.frame { s with sum := { s.sum with passM := pm, hostM := hm, lastPass := lease, rrTurn := turn, rrUsed := used } } [] []
      [.access] :=
  ⟨rfl, fun _ _ _ => rfl, fun p hp => by cases p <;> simp_all [Part.same]⟩

theorem frame_setMst (s : State) (m : Master) (x : MstSt) : s.frame (s.setMst m x) [] [] [.access] := by
  cases m
  · exact frame_arbiter s x s.sum.hostM _ _ _
  · exact frame_arbiter s s.sum.passM x _ _ _

theorem frame_arbTurn (s : State) (m : Master) : s.frame (s.arbTurn m) [] [] [.access] := by
  unfold State.arbTurn
  split <;> exact frame_arbiter s s.sum.passM s.sum.hostM s.sum.lastPass _ _

theorem frame_atTurn (s : State) (m : Master) : s.frame (s.atTurn m) [] [] [.access] := by
  refine (frame_arbTurn s m).trans ?_
  cases m
  · exact frame_arbiter _ (s.arbTurn .pass).sum.passM (s.arbTurn .pass).sum.hostM _ _ _
  · exact State.frame.refl _ _ _ _

theorem frame_granted (s : State) (m : Master) : s.frame (s.granted m) [] [] [.access] :=
  (frame_atTurn s m).trans (frame_setMst _ m _)

theorem mst_eq_of_frame {s t : State} {r g : List Nat} {q : List Part} (h : s.frame t r g q) (hq : .access ∉ q) (m : Master) :
    t.mst m = s.mst m := by
  obtain ⟨_, _, hparts⟩ := h
  obtain ⟨hpass, hhost, _⟩ := hparts .access hq
  cases m
  · exact hpass
  · exact hhost

@[simp] theorem mst_setMst_same (s : State) (m : Master) (x : MstSt) : (s.setMst m x).mst m = x := by
  cases m <;> rfl

theorem keeping_eq_of_frame {s t : State} {r g : List Nat} {q : List Part} (h : s.frame t r g q) (hq : .rst ∉ q) :
    s.keeping t = t := by
  obtain ⟨hpend, _, hparts⟩ := h
  have hrst : t.rst = s.rst := hparts .rst hq
  simp only [State.keeping, ← hpend, ← hrst]

/-- A happening at a powered hub whose frame keeps the supply answers with just the state that it makes. -/
theorem runs_onHub {c : Instr} {s : State} {k : State → State} {P : State → Prop} {r g : List Nat} {q : List Part}
    (hc : exec c s = onHub s k) (hon : s.rst.on = true) (hf : s.frame (k s) r g q) (hq : .rst ∉ q) (hP : P (k s)) : runs c s P :=
  ⟨k s, by rw [hc, onHub, if_pos hon, keeping_eq_of_frame hf hq], hP⟩

end Sys2Proof.Machine
end

section
/-! PROOFS: a hub access that wins arbitration at once, and one that completes with an error (02 R43, R48). -/

namespace Sys2Proof.Machine

theorem exec_registerWrite (m : Master) (a w v : Nat) (s : State) :
    exec (.registerWrite m a w v) s = onHub s fun s => s.masterAccess m a w true v := rfl

theorem exec_registerRead (m : Master) (a w : Nat) (s : State) :
    exec (.registerRead m a w) s = onHub s fun s => s.masterAccess m a w false 0 := rfl

/-- With nothing that holds it up, an aligned 32-bit access to a hub page wins arbitration at once (R47, R70). -/
theorem masterAccess_hub (s : State) (m : Master) (a v : Nat) (w : Bool) (ha : a < 2 ^ 20) (ha4 : a % 4 = 0)
    (hap : apAddr a = false) (hng : s.nextGrant = none) (haps : s.apsOf m = [])
    (hheld : s.sum.held.any (fun y => y.master == m) = false) :
    s.masterAccess m a 4 w v = (s.atTurn m).hubGrant ⟨m, a, 0, 0, w, v % 2 ^ 32, s.clk, 0, none, 0⟩ := by
  have hwait : s.mustWait m a = false := by simp [State.mustWait, hap, haps]
  have hidle : s.pump = s := pump_idle s (by simp [hng])
  simp only [State.masterAccess, Nat.mod_eq_of_lt ha, ha4, and_self, if_true, State.issue, hidle, hheld, hwait, Bool.or_self,
    Bool.false_eq_true, if_false]
  exact grant_hub s _ hap

@[simp] theorem atTurn_inReset (s : State) (m : Master) : (s.atTurn m).inReset = s.inReset := by
  simp [State.inReset, State.softPending, State.started, State.f]

theorem hubCode_noPage (s : State) (g : Agent) (a v : Nat) (w : Bool) (hp : pageThere (a / 0x1000) = false) :
    s.hubCode g a w v = codeNoPage := by
  simp [State.hubCode, hp]

/-- An access to a reserved page that has won arbitration outside a reset completes with NO_PAGE and is not carried out (R43, R48). -/
theorem hubGrant_noPage (s : State) (x : ApAcc) (hx : x.fate = none) (hrst : s.inReset = false)
    (hp : pageThere (x.addr / 0x1000) = false) :
    s.hubGrant x = (s.hubMiss (.mst x.master)).complete x.master x.addr codeNoPage 0 := by
  have hne : codeNoPage ≠ codeOk := by decide
  simp only [State.hubGrant, hx, hrst, hubCode_noPage s _ _ _ _ hp, hne, Bool.false_eq_true, if_false]

theorem masterAccess_noPage (s : State) (m : Master) (a v : Nat) (w : Bool) (ha : a < 2 ^ 20) (ha4 : a % 4 = 0)
    (hap : apAddr a = false) (hp : pageThere (a / 0x1000) = false) (hrst : s.inReset = false) (hng : s.nextGrant = none)
    (haps : s.apsOf m = []) (hheld : s.sum.held.any (fun y => y.master == m) = false) :
    s.masterAccess m a 4 w v = (s.granted m).complete m a codeNoPage 0 := by
  rw [masterAccess_hub s m a v w ha ha4 hap hng haps hheld,
    hubGrant_noPage (s.atTurn m) _ rfl ((atTurn_inReset s m).trans hrst) hp]
  rfl

/-- Registers that record a master's errors (R71). -/
abbrev errRegs (m : Master) : List Nat := [bk m R.SUM_ERR, bk m R.SUM_ERR_ADDR]

/-- An error other than RIGHTS raises no event: it goes into SUM_ERR and SUM_ERR_ADDR alone (R61, R71). -/
theorem frame_recordErr (s : State) (m : Master) (code addr sel : Nat) (hc : code ≠ codeRights) :
    s.frame (s.recordErr m code addr sel) (errRegs m) [] [] := by
  have inErr (t : State) (f : Fld) (n : Nat) (hf : f.addr = R.SUM_ERR) : t.frame (t.setF (bkF m f) n) (errRegs m) [] [] :=
    (frame_setF t (bkF m f) n).mono (by simp [bkF, hf]) (List.Subset.refl _) (List.Subset.refl _)
  have inErrAddr (t : State) (n : Nat) : t.frame (t.wr (bk m R.SUM_ERR_ADDR) n) (errRegs m) [] [] :=
    (frame_wr t _ n).mono (by simp) (List.Subset.refl _) (List.Subset.refl _)
  have hcount := inErr s F.SUM_ERR_COUNT (min (s.f (bkF m F.SUM_ERR_COUNT) + 1) (2 ^ 8 - 1)) rfl
  simp only [State.recordErr, hc, false_and, if_false]
  split
  · exact hcount.trans (((inErr _ F.SUM_ERR_CODE code rfl).trans (inErr _ F.SUM_ERR_VALID 1 rfl)).trans
      (inErrAddr _ _))
  · exact hcount

theorem complete_error (s : State) (m : Master) (addr code data : Nat) (hok : code ≠ codeOk) :
    s.complete m addr code data = (s.setMst m { s.mst m with resp := ⟨code, data⟩ }).recordErr m code addr 0 := by
  simp only [State.complete, hok, if_false]

theorem complete_error_resp (s : State) (m : Master) (addr code data : Nat) (hok : code ≠ codeOk) (hc : code ≠ codeRights) :
    ((s.complete m addr code data).mst m).resp = ⟨code, data⟩ := by
  rw [complete_error s m addr code data hok, mst_eq_of_frame (frame_recordErr _ m code addr 0 hc) List.not_mem_nil m,
    mst_setMst_same]

theorem frame_complete_error (s : State) (m : Master) (addr code data : Nat) (hok : code ≠ codeOk) (hc : code ≠ codeRights) :
    s.frame (s.complete m addr code data) (errRegs m) [] [.access] := by
  rw [complete_error s m addr code data hok]
  exact ((frame_setMst s m _).mono (List.nil_subset _) (List.Subset.refl _) (List.Subset.refl _)).trans
    ((frame_recordErr _ m code addr 0 hc).mono (List.Subset.refl _) (List.Subset.refl _) (List.nil_subset _))

/-- A granted hub access that completes with an error other than RIGHTS changes nothing but its master's part and error registers. -/
theorem frame_granted_error (s : State) (m : Master) (addr code data : Nat) (hok : code ≠ codeOk) (hc : code ≠ codeRights) :
    s.frame ((s.granted m).complete m addr code data) (errRegs m) [] [.access] :=
  ((frame_granted s m).mono (List.nil_subset _) (List.Subset.refl _) (List.Subset.refl _)).trans
    (frame_complete_error _ m addr code data hok hc)

end Sys2Proof.Machine
end

section
/-! PROOFS: O13, the reserved pages of the hub's map (02 R43). -/

namespace Sys2Proof.Machine

theorem pageThere_eq_false_iff {p : Nat} (hp : p < 0x100) :
    pageThere p = false ↔ p = 0x07 ∨ (0x15 ≤ p ∧ p ≤ 0x1F) ∨ (0x21 ≤ p ∧ p ≤ 0xFF) := by
  simp only [pageThere, Bool.or_eq_false_iff, Bool.and_eq_false_iff, decide_eq_false_iff_not, bne_eq_false_iff_eq, beq_eq_false_iff_ne]
  omega

/-- The apertures lie in a defined page, 0x20. -/
theorem apAddr_eq_false_of_noPage {a : Nat} (hp : pageThere (a / 0x1000) = false) : apAddr a = false := by
  by_contra hap
  simp only [apAddr, Bool.not_eq_false, Bool.and_eq_true, decide_eq_true_eq] at hap
  have hpage : a / 0x1000 = 0x20 := by omega
  simp [pageThere, hpage] at hp

/-- An access of either kind to a reserved page: its completion and its frame. -/
theorem runs_reservedPage {c : Instr} {s : State} {m : Master} {p o v : Nat} {w : Bool}
    (hexec : exec c s = onHub s fun s => s.masterAccess m (0x1000 * p + o) 4 w v)
    (hp : p = 0x07 ∨ (0x15 ≤ p ∧ p ≤ 0x1F) ∨ (0x21 ≤ p ∧ p ≤ 0xFF)) (ho : o < 0x1000) (ho4 : o % 4 = 0)
    (hon : s.rst.on = true) (hrst : s.inReset = false) (hng : s.nextGrant = none) (haps : s.apsOf m = [])
    (hheld : s.sum.held.any (fun y => y.master == m) = false) :
    runs c s fun t => (t.mst m).resp = ⟨codeNoPage, 0⟩ ∧ s.frame t [bk m R.SUM_ERR, bk m R.SUM_ERR_ADDR] [] [.access] := by
  have hdiv : (0x1000 * p + o) / 0x1000 = p := by omega
  have hno : pageThere ((0x1000 * p + o) / 0x1000) = false := by
    rw [hdiv, pageThere_eq_false_iff (by omega)]
    exact hp
  have heq := masterAccess_noPage s m (0x1000 * p + o) v w (by omega) (by omega) (apAddr_eq_false_of_noPage hno) hno hrst hng haps hheld
  have hf : s.frame (s.masterAccess m (0x1000 * p + o) 4 w v) (errRegs m) [] [.access] :=
    heq ▸ frame_granted_error s m _ codeNoPage 0 (by decide) (by decide)
  refine runs_onHub hexec hon hf (by decide) ⟨?_, hf⟩
  rw [heq]
  exact complete_error_resp _ m _ codeNoPage 0 (by decide) (by decide)

/-- Settles O13: nothing holds the access up, its page is not there, so it completes with NO_PAGE before it is carried out. -/
theorem reservedPages : Obligations.ReservedPages := by
  unfold Obligations.ReservedPages
  refine ⟨?_, fun p => pageThere_eq_false_iff⟩
  intro m p o v s hp ho ho4 hon hrst hng haps hheld
  exact ⟨runs_reservedPage (exec_registerWrite m _ 4 v s) hp ho ho4 hon hrst hng haps hheld,
    runs_reservedPage (exec_registerRead m _ 4 s) hp ho ho4 hon hrst hng haps hheld⟩

end Sys2Proof.Machine
end

section
/-! PROOFS: frames of what ends with a session (02 R75; 08 R274; 10 R344; 14 R450; 15 R483). -/

namespace Sys2Proof.Machine

/-- A frame goes on over a further operation whose registers, pages and parts its own lists cover. -/
theorem State.frame.andThen {s t u : State} {r r' g g' : List Nat} {q q' : List Part} (h : s.frame t r g q)
    (k : t.frame u r' g' q') (hr : ∀ a ∈ r', a ∈ r ∨ a / 0x1000 ∈ g := by decide) (hg : g' ⊆ g := by decide)
    (hq : q' ⊆ q := by decide) : s.frame u r g q := by
  obtain ⟨kpend, kregs, kparts⟩ := k
  exact h.trans ⟨kpend, fun a ha hp => kregs a (fun hm => (hr a hm).elim ha hp) (fun hm => hp (hg hm)),
    fun p hp => kparts p fun hm => hp (hq hm)⟩

/-- A field outside a frame's lists stands. -/
theorem f_eq_of_frame {s t : State} {r g : List Nat} {q : List Part} (h : s.frame t r g q) (f : Fld)
    (hr : f.addr ∉ r := by decide) (hg : f.addr / 0x1000 ∉ g := by decide) : t.f f = s.f f := by
  have hrd : t.rd f.addr = s.rd f.addr := h.2.1 f.addr hr hg
  simp only [State.f, BitVec.eq_of_toNat_eq hrd]

/-- A register outside a frame's lists stands. -/
theorem rd_eq_of_frame {s t : State} {r g : List Nat} {q : List Part} (h : s.frame t r g q) (a : Nat)
    (hr : a ∉ r := by decide) (hg : a / 0x1000 ∉ g := by decide) : t.rd a = s.rd a :=
  h.2.1 a hr hg

/-- A part outside a frame's list stands. -/
theorem part_same_of_frame {s t : State} {r g : List Nat} {q : List Part} (h : s.frame t r g q) (p : Part)
    (hp : p ∉ q := by decide) : p.same s t :=
  h.2.2 p hp

theorem frame_modPass (s : State) (k : PassSt → PassSt) : s.frame (s.modPass k) [] [] [.pass] :=
  ⟨rfl, fun _ _ _ => rfl, fun p hp => by cases p <;> simp_all [Part.same]⟩

theorem frame_raise (s : State) (n : EvName) (src : Nat) (d : List EvVal) :
    s.frame (s.raise n src d) [evPage src n * 0x1000 + 0x24] [] [.intq] :=
  ⟨rfl, fun a ha _ => rd_raise s n src a d false (List.ne_of_not_mem_cons ha),
    fun p hp => by cases p <;> simp_all [Part.same, State.raise]⟩

theorem frame_wr64 (s : State) (a n : Nat) : s.frame (s.wr64 a n) [a, a + 4] [] [] :=
  ((frame_wr s a _).mono (by simp) (List.Subset.refl _) (List.Subset.refl _)).trans
    ((frame_wr _ (a + 4) _).mono (by simp) (List.Subset.refl _) (List.Subset.refl _))

theorem frame_foldl {β : Type} {k : State → β → State} {r g : List Nat} {q : List Part} (l : List β) (s : State)
    (hk : ∀ t : State, ∀ b ∈ l, t.frame (k t b) r g q) : s.frame (l.foldl k s) r g q :=
  List.foldlRecOn (motive := fun t => s.frame t r g q) l k (State.frame.refl s r g q) fun t ht b hb => ht.trans (hk t b hb)

/-! ### The exclusive session -/

theorem frame_exclEnd (s : State) (cause : Nat) : s.frame (s.exclEnd cause) [R.SUM_EXCL, 0x11024] [] [.intq] := by
  unfold State.exclEnd
  split
  · exact (((State.frame.refl s _ _ _).andThen (frame_setF _ F.SUM_EXCL_EXCL 0)).andThen
      (frame_setF _ F.SUM_EXCL_HOST_REQ 0)).andThen (frame_raise _ .exclEnd 0x1009 _)
  · exact State.frame.refl _ _ _ _

@[simp] theorem excl_exclEnd (s : State) (cause : Nat) : (s.exclEnd cause).excl = false := by
  unfold State.exclEnd
  split
  case isFalse h => simpa using h
  case isTrue =>
    rw [State.excl, f_raise _ _ _ _ _ _ (by decide), f_setF_other _ _ _ _ (by decide) (by decide),
      f_setF_same _ _ _ (by decide)]
    rfl

/-! ### Grants -/

theorem frame_chalDrop (s : State) (m : Master) : s.frame (s.chalDrop m) (chalRegs m) [] [] := by
  have hreq : s.frame (s.wr (bk m R.AUTH_CHAL_REQ) 0) (chalRegs m) [] [] :=
    (frame_wr s _ 0).mono (by simp [chalRegs]) (List.Subset.refl _) (List.Subset.refl _)
  refine hreq.trans (frame_foldl _ _ fun t k hk => ?_)
  exact (frame_wr t _ 0).mono (by simpa [chalRegs] using Or.inr ⟨k, List.mem_range.mp hk, rfl⟩) (List.Subset.refl _)
    (List.Subset.refl _)

theorem frame_authShow (s : State) : s.frame s.authShow heldRegs [] [] := by
  unfold State.authShow
  exact ((((((State.frame.refl s _ _ _).andThen (frame_wr _ _ _)).andThen (frame_wr _ _ _)).andThen (frame_wr _ _ _)).andThen
    (frame_wr _ _ _)).andThen (frame_setF _ F.AUTH_BOOT_BOOT_CNT _)).andThen (frame_setF _ F.AUTH_BOOT_BOOT_OK _)

/-- Pass's grants end whole: after the certificate's rights are cleared, the rest of its registers, the Jexairoth grant and the challenge
follow. -/
theorem frame_grantsEnd_certCleared (s : State) (cause : Nat) :
    (s.wr (bk .pass R.AUTH_CERT) 0).frame (s.grantsEnd .pass cause true)
      ([R.AUTH_CERT_SER_LO, R.AUTH_CERT_SER_HI, R.AUTH_CERT_MAX, R.AUTH_JEX, 0x10024] ++ chalRegs .pass ++ heldRegs) [] [.intq] :=
  ((((((State.frame.refl _ _ _ _).andThen (frame_wr64 _ R.AUTH_CERT_SER_LO 0)).andThen (frame_wr _ R.AUTH_CERT_MAX 0)).andThen
    (frame_wr _ R.AUTH_JEX 0)).andThen (frame_chalDrop _ .pass)).andThen (frame_authShow _)).andThen
    (frame_raise _ .grantsEnded authSrc _)

/-- The end of Pass's grants leaves no right of a certificate and none of a Jexairoth grant (14 R450). -/
theorem rights_grantsEnd (s : State) (cause : Nat) :
    (s.grantsEnd .pass cause true).rd (bk .pass R.AUTH_CERT) = 0 ∧ (s.grantsEnd .pass cause true).rd (bk .pass R.AUTH_JEX) = 0 := by
  constructor
  · rw [rd_eq_of_frame (frame_grantsEnd_certCleared s cause) (bk .pass R.AUTH_CERT)]
    exact rd_wr_same s (bk .pass R.AUTH_CERT) 0
  · have hafter : ((((s.wr (bk .pass R.AUTH_CERT) 0).wr64 R.AUTH_CERT_SER_LO 0).wr R.AUTH_CERT_MAX 0).wr R.AUTH_JEX 0).frame
        (s.grantsEnd .pass cause true) (0x10024 :: (chalRegs .pass ++ heldRegs)) [] [.intq] :=
      (((State.frame.refl _ _ _ _).andThen (frame_chalDrop _ .pass)).andThen (frame_authShow _)).andThen
        (frame_raise _ .grantsEnded authSrc _)
    rw [rd_eq_of_frame hafter (bk .pass R.AUTH_JEX)]
    exact rd_wr_same _ R.AUTH_JEX 0

theorem frame_grantsEnd (s : State) (cause : Nat) :
    s.frame (s.grantsEnd .pass cause true) (0x10024 :: (grantRegs .pass ++ chalRegs .pass)) [] [.intq] :=
  ((State.frame.refl s _ _ _).andThen (frame_wr s (bk .pass R.AUTH_CERT) 0)).andThen (frame_grantsEnd_certCleared s cause)

/-! ### Drains -/

theorem frame_drainEnd (s : State) (cause : Nat) : s.frame (s.drainEnd cause) [] [0x8] [.intq, .cou] := by
  unfold State.drainEnd
  split
  · exact State.frame.refl _ _ _ _
  · have hcou : s.frame { s with cou := { s.cou with drain := none } } [] [0x8] [.intq, .cou] :=
      ⟨rfl, fun _ _ _ => rfl, fun p hp => by cases p <;> simp_all [Part.same]⟩
    exact (((hcou.andThen (frame_setF _ F.COU_DRAIN_STAT_ACTIVE 0)).andThen (frame_setF _ F.COU_DRAIN_STAT_END cause)).andThen
      (frame_setF _ F.COU_STAT_DRAINING 0)).andThen (frame_raise _ .drainEnd 0x100E _)

@[simp] theorem drain_drainEnd (s : State) (cause : Nat) : (s.drainEnd cause).cou.drain = none := by
  unfold State.drainEnd
  split <;> simp [*]

/-- A field of the SCR page written goes on with a frame that holds the page. -/
theorem State.frame.scrField {s t : State} (h : s.frame t [] [0xB] []) (f : Fld) (n : Nat)
    (hf : f.addr / 0x1000 = 0xB := by decide) : s.frame (t.setF f n) [] [0xB] [] :=
  h.andThen (frame_setF t f n) (by simp [hf])

theorem frame_scrShow (s : State) : s.frame s.scrShow [] [0xB] [] := by
  have hrest (t : State) (ht : s.frame t [] [0xB] []) (old blocks fill run sec ok drains active : Nat) :
      s.frame ((((((((t.wr R.SCR_OLD_BLK old).setF F.SCR_FILL_BLOCKS blocks).setF F.SCR_FILL_F fill).setF F.SCR_STAT_RUNNING run).setF
        F.SCR_STAT_SEC_DATA sec).setF F.SCR_STAT_SEC_OK ok).setF F.SCR_STAT_DRAINING drains).setF F.SCR_DRAIN_STAT_ACTIVE active)
        [] [0xB] [] :=
    (((((((ht.andThen (frame_wr _ _ _)).scrField _ _).scrField _ _).scrField _ _).scrField _ _).scrField _ _).scrField _ _).scrField _ _
  have hcur : ∀ cur : Option Blk, s.frame (match cur with
      | some b => (s.wr R.SCR_WR_BLK b.no).setF F.SCR_WR_OFF_OFF (8 + b.body.length)
      | none => s.setF F.SCR_WR_OFF_OFF 0) [] [0xB] []
    | none => (State.frame.refl s _ _ _).scrField _ _
    | some b => ((State.frame.refl s _ _ _).andThen (frame_wr _ _ _)).scrField _ _
  unfold State.scrShow
  dsimp only
  split
  · exact (hrest _ (hcur s.scr.cur) _ _ _ _ _ _ _ _).andThen (frame_wr _ R.SCR_SPILL_OLD _)
  · exact hrest _ (hcur s.scr.cur) _ _ _ _ _ _ _ _

@[simp] theorem scrShow_scr (s : State) : s.scrShow.scr = s.scr := part_same_of_frame (frame_scrShow s) .scr

theorem frame_trDrainEnd (s : State) (cause : Nat) : s.frame (s.trDrainEnd cause) [] [0xB] [.intq, .scr] := by
  unfold State.trDrainEnd
  split
  · exact State.frame.refl _ _ _ _
  · have hscr : s.frame { s with scr := { s.scr with drain := none } } [] [0xB] [.intq, .scr] :=
      ⟨rfl, fun _ _ _ => rfl, fun p hp => by cases p <;> simp_all [Part.same]⟩
    exact ((hscr.andThen (frame_setF _ F.SCR_DRAIN_STAT_END cause)).andThen (frame_scrShow _)).andThen
      (frame_raise _ .traceDrainEnd 0x100F _)

@[simp] theorem drain_trDrainEnd (s : State) (cause : Nat) : (s.trDrainEnd cause).scr.drain = none := by
  unfold State.trDrainEnd
  split <;> simp [*]

/-! ### The lead -/

theorem leadEnd_of_not_lead {s : State} (h : s.isLead = false) : s.leadEnd = s := by
  simp [State.leadEnd, h]

/-- After a lead hub has cleared LEAD, the end of the lead clears its table and raises LEAD_CHANGE (15 R483). -/
theorem frame_leadEnd_leadCleared {s : State} (h : s.isLead = true) :
    (s.setF F.PASS_STAT_LEAD 0).frame s.leadEnd [R.PASS_FAB_STAT, 0x11024] [] [.intq, .pass] := by
  unfold State.leadEnd
  rw [if_pos h]
  exact (((((State.frame.refl _ _ _ _).andThen (frame_modPass _ _)).andThen (frame_setF _ F.PASS_FAB_STAT_DISC_BUSY 0)).andThen
    (frame_setF _ F.PASS_FAB_STAT_MEMBERS _)).andThen (frame_setF _ F.PASS_FAB_STAT_RELAYS _)).andThen
    (frame_raise _ .leadChange passSrc _)

theorem frame_leadEnd (s : State) : s.frame s.leadEnd [R.PASS_STAT, R.PASS_FAB_STAT, 0x11024] [] [.intq, .pass] := by
  cases h : s.isLead with
  | false =>
    rw [leadEnd_of_not_lead h]
    exact State.frame.refl _ _ _ _
  | true =>
    exact ((State.frame.refl s _ _ _).andThen (frame_setF s F.PASS_STAT_LEAD 0)).andThen (frame_leadEnd_leadCleared h)

@[simp] theorem isLead_leadEnd (s : State) : s.leadEnd.isLead = false := by
  cases h : s.isLead with
  | false => rw [leadEnd_of_not_lead h, h]
  | true =>
    rw [State.isLead, f_eq_of_frame (frame_leadEnd_leadCleared h) F.PASS_STAT_LEAD, f_setF_same _ _ _ (by decide)]
    rfl

theorem sessionId_leadEnd (s : State) : s.leadEnd.f F.PASS_STAT_SESSION_ID = s.f F.PASS_STAT_SESSION_ID := by
  cases h : s.isLead with
  | false => rw [leadEnd_of_not_lead h]
  | true =>
    rw [f_eq_of_frame (frame_leadEnd_leadCleared h) F.PASS_STAT_SESSION_ID, f_setF_other _ _ _ _ (by decide) (by decide)]

end Sys2Proof.Machine
end

section
/-! PROOFS: the end of a session (15 R477): what the session held ends, its registers and the port's part are cleared, and
SESSION_END is raised. -/

namespace Sys2Proof.Machine

/-- The session's exclusive session and Pass's grants have ended. -/
def State.sessGrants (s : State) : State := (s.exclEnd exclBySession).grantsEnd .pass geSession true

/-- Then the drains. -/
def State.sessDrains (s : State) : State := (s.sessGrants.drainEnd drainSession).trDrainEnd 2

/-- Then, of a LANES session, the lead: what the session held has ended. -/
def State.sessDrop (s : State) : State := if s.sess = sessLanes then s.sessDrains.leadEnd else s.sessDrains

/-- The port's own part once no session exists. -/
def PassSt.cleared (p : PassSt) : PassSt :=
  { p with
    idle0 := false, idle1 := false, sendq := [], unacked := [], resend := 0, train := none, single := false, reqs := [],
    ackDue := false, nakDue := false, accWait := false }

/-- SESSION, PASS_UP, the rate and the lanes, and the port's own part once no session exists. -/
def State.sessClear (s : State) : State :=
  ((((s.setF F.PASS_STAT_SESSION sessNone).setF F.SUM_ARB_STAT_PASS_UP 0).setRate 0 0).setF F.PASS_STAT_TRAINING 0).modPass
    PassSt.cleared

theorem sessEnd_eq {s : State} (cause : Nat) (h : s.sess ≠ sessNone) :
    s.sessEnd cause = s.sessDrop.sessClear.authShow.raise .sessionEnd passSrc
      [.w s.sess, .w (s.sessDrop.sessClear.f F.PASS_STAT_SESSION_ID), .w cause] := by
  simp only [State.sessEnd, h, if_false]
  rfl

/-! ### What the session held -/

theorem frame_sessGrants_exclEnd (s : State) :
    (s.exclEnd exclBySession).frame s.sessGrants (0x10024 :: (grantRegs .pass ++ chalRegs .pass)) [] [.intq] :=
  frame_grantsEnd _ geSession

theorem frame_sessDrains_sessGrants (s : State) : s.sessGrants.frame s.sessDrains [] [0x8, 0xB] [.intq, .cou, .scr] :=
  ((State.frame.refl _ _ _ _).andThen (frame_drainEnd s.sessGrants drainSession)).andThen (frame_trDrainEnd _ 2)

theorem frame_sessDrop_sessDrains (s : State) :
    s.sessDrains.frame s.sessDrop [R.PASS_STAT, R.PASS_FAB_STAT, 0x11024] [] [.intq, .pass] := by
  unfold State.sessDrop
  split
  · exact frame_leadEnd _
  · exact State.frame.refl _ _ _ _

theorem frame_sessDrop_sessGrants (s : State) :
    s.sessGrants.frame s.sessDrop [R.PASS_STAT, R.PASS_FAB_STAT, 0x11024] [0x8, 0xB] [.intq, .pass, .cou, .scr] :=
  ((State.frame.refl _ _ _ _).andThen (frame_sessDrains_sessGrants s)).andThen (frame_sessDrop_sessDrains s)

theorem frame_sessDrop (s : State) : s.frame s.sessDrop sessRegs [0x8, 0xB] [.intq, .pass, .cou, .scr] :=
  (((State.frame.refl _ _ _ _).andThen (frame_exclEnd s exclBySession)).andThen (frame_sessGrants_exclEnd s)).andThen
    (frame_sessDrop_sessGrants s)

theorem excl_sessDrop (s : State) : s.sessDrop.excl = false := by
  have hafter : (s.exclEnd exclBySession).frame s.sessDrop ([R.PASS_STAT, R.PASS_FAB_STAT, 0x11024, 0x10024] ++ grantRegs .pass
      ++ chalRegs .pass) [0x8, 0xB] [.intq, .pass, .cou, .scr] :=
    ((State.frame.refl _ _ _ _).andThen (frame_sessGrants_exclEnd s)).andThen (frame_sessDrop_sessGrants s)
  rw [State.excl, f_eq_of_frame hafter F.SUM_EXCL_EXCL]
  exact excl_exclEnd s exclBySession

theorem rights_sessDrop (s : State) : s.sessDrop.rd (bk .pass R.AUTH_CERT) = 0 ∧ s.sessDrop.rd (bk .pass R.AUTH_JEX) = 0 := by
  rw [rd_eq_of_frame (frame_sessDrop_sessGrants s) (bk .pass R.AUTH_CERT),
    rd_eq_of_frame (frame_sessDrop_sessGrants s) (bk .pass R.AUTH_JEX)]
  exact rights_grantsEnd _ geSession

theorem drains_sessDrains (s : State) : s.sessDrains.cou.drain = none ∧ s.sessDrains.scr.drain = none := by
  have hcou : s.sessDrains.cou = (s.sessGrants.drainEnd drainSession).cou := part_same_of_frame (frame_trDrainEnd _ 2) .cou
  rw [hcou]
  exact ⟨drain_drainEnd _ _, drain_trDrainEnd _ 2⟩

theorem drains_sessDrop (s : State) : s.sessDrop.cou.drain = none ∧ s.sessDrop.scr.drain = none := by
  have hcou : s.sessDrop.cou = s.sessDrains.cou := part_same_of_frame (frame_sessDrop_sessDrains s) .cou
  have hscr : s.sessDrop.scr = s.sessDrains.scr := part_same_of_frame (frame_sessDrop_sessDrains s) .scr
  rw [hcou, hscr]
  exact drains_sessDrains s

theorem isLead_sessDrop {s : State} (h : s.sess = sessLanes) : s.sessDrop.isLead = false := by
  rw [State.sessDrop, if_pos h, isLead_leadEnd]

theorem sessionId_sessDrop (s : State) : s.sessDrop.f F.PASS_STAT_SESSION_ID = s.f F.PASS_STAT_SESSION_ID := by
  have hlead : s.sessDrop.f F.PASS_STAT_SESSION_ID = s.sessDrains.f F.PASS_STAT_SESSION_ID := by
    unfold State.sessDrop
    split
    · exact sessionId_leadEnd _
    · rfl
  have hdrains : s.frame s.sessDrains ([R.SUM_EXCL, 0x11024, 0x10024] ++ grantRegs .pass ++ chalRegs .pass) [0x8, 0xB]
      [.intq, .cou, .scr] :=
    (((State.frame.refl _ _ _ _).andThen (frame_exclEnd s exclBySession)).andThen (frame_sessGrants_exclEnd s)).andThen
      (frame_sessDrains_sessGrants s)
  rw [hlead, f_eq_of_frame hdrains F.PASS_STAT_SESSION_ID]

/-! ### What shows the session -/

theorem frame_sessClear (s : State) : s.frame s.sessClear [R.PASS_STAT, R.PASS_RATE, R.SUM_ARB_STAT] [] [.pass] :=
  (((((((State.frame.refl s _ _ _).andThen (frame_setF _ F.PASS_STAT_SESSION _)).andThen
    (frame_setF _ F.SUM_ARB_STAT_PASS_UP _)).andThen (frame_setF _ F.PASS_STAT_RATE _)).andThen
    (frame_setF _ F.PASS_STAT_LANES _)).andThen (frame_setF _ F.PASS_RATE_MBPS _)).andThen
    (frame_setF _ F.PASS_STAT_TRAINING _)).andThen (frame_modPass _ _)

/-- A field sees nothing of `sessClear` but its writes to fields. -/
theorem f_sessClear (s : State) (f : Fld) : s.sessClear.f f =
    ((((((s.setF F.PASS_STAT_SESSION sessNone).setF F.SUM_ARB_STAT_PASS_UP 0).setF F.PASS_STAT_RATE 0).setF
      F.PASS_STAT_LANES 0).setF F.PASS_RATE_MBPS (payRate 0 0)).setF F.PASS_STAT_TRAINING 0).f f := rfl

theorem sess_sessClear (s : State) : s.sessClear.sess = sessNone := by
  rw [State.sess, f_sessClear]
  iterate 5 rw [f_setF_other _ _ F.PASS_STAT_SESSION _ (by decide) (by decide)]
  exact f_setF_same s F.PASS_STAT_SESSION sessNone (by decide)

theorem passUp_sessClear (s : State) : s.sessClear.f F.SUM_ARB_STAT_PASS_UP = 0 := by
  rw [f_sessClear]
  iterate 4 rw [f_setF_other _ _ F.SUM_ARB_STAT_PASS_UP _ (by decide) (by decide)]
  exact f_setF_same _ F.SUM_ARB_STAT_PASS_UP 0 (by decide)

theorem rate_sessClear (s : State) : s.sessClear.f F.PASS_RATE_MBPS = 0 := by
  rw [f_sessClear, f_setF_other _ _ F.PASS_RATE_MBPS _ (by decide) (by decide)]
  exact f_setF_same _ F.PASS_RATE_MBPS (payRate 0 0) (by decide)

/-- LEAD and SESSION_ID lie beside the fields of PASS_STAT that the end of a session clears. -/
theorem f_sessClear_other (s : State) (f : Fld) (hf : f = F.PASS_STAT_LEAD ∨ f = F.PASS_STAT_SESSION_ID) :
    s.sessClear.f f = s.f f := by
  rw [f_sessClear]
  rcases hf with rfl | rfl <;> iterate 6 rw [f_setF_other _ _ _ _ (by decide) (by decide)]

/-! ### The end of a session -/

theorem frame_sessEnd_sessClear {s : State} (cause : Nat) (h : s.sess ≠ sessNone) :
    s.sessDrop.sessClear.frame (s.sessEnd cause) (0x11024 :: heldRegs) [] [.intq] := by
  rw [sessEnd_eq cause h]
  exact ((State.frame.refl _ _ _ _).andThen (frame_authShow _)).andThen (frame_raise _ .sessionEnd passSrc _)

theorem frame_sessEnd_sessDrop {s : State} (cause : Nat) (h : s.sess ≠ sessNone) :
    s.sessDrop.frame (s.sessEnd cause) ([R.PASS_STAT, R.PASS_RATE, R.SUM_ARB_STAT, 0x11024] ++ heldRegs) [] [.intq, .pass] :=
  ((State.frame.refl _ _ _ _).andThen (frame_sessClear _)).andThen (frame_sessEnd_sessClear cause h)

/-- The frame of a session's end. -/
theorem frame_sessEnd {s : State} (cause : Nat) (h : s.sess ≠ sessNone) :
    s.frame (s.sessEnd cause) sessRegs [0x8, 0xB] [.intq, .pass, .cou, .scr] :=
  (frame_sessDrop s).andThen (frame_sessEnd_sessDrop cause h)

theorem sessionEnd_mem_sessEnd {s : State} (cause : Nat) (h : s.sess ≠ sessNone) :
    s.ev .sessionEnd 0x1009 [.w s.sess, .w (s.f F.PASS_STAT_SESSION_ID), .w cause] ∈ (s.sessEnd cause).sum.intq := by
  have hbefore : s.frame s.sessDrop.sessClear.authShow sessRegs [0x8, 0xB] [.intq, .pass, .cou, .scr] :=
    ((frame_sessDrop s).andThen (frame_sessClear _)).andThen (frame_authShow _)
  have hnow : s.sessDrop.sessClear.authShow.now = s.now := congrArg RdgSt.now (part_same_of_frame hbefore .rdg)
  rw [sessEnd_eq cause h, raise_intq, hnow, f_sessClear_other _ _ (.inr rfl), sessionId_sessDrop]
  exact List.mem_append_right _ (List.mem_singleton.mpr rfl)

theorem pass_sessEnd {s : State} (cause : Nat) (h : s.sess ≠ sessNone) : (s.sessEnd cause).pass = s.sessDrop.pass.cleared :=
  part_same_of_frame (frame_sessEnd_sessClear cause h) .pass

theorem isLead_sessEnd {s : State} (cause : Nat) (h : s.sess = sessLanes) : (s.sessEnd cause).isLead = false := by
  have hs : s.sess ≠ sessNone := by rw [h]; decide
  rw [State.isLead, f_eq_of_frame (frame_sessEnd_sessClear cause hs) F.PASS_STAT_LEAD, f_sessClear_other _ _ (.inl rfl)]
  exact isLead_sessDrop h

/-- A session that exists ends whole, with its cause in SESSION_END (15 R477). -/
theorem sessOver_sessEnd {s : State} (cause : Nat) (h : s.sess ≠ sessNone) : s.sessOver (s.sessEnd cause) cause := by
  have hclear := frame_sessEnd_sessClear cause h
  have hdrop := frame_sessEnd_sessDrop cause h
  have hsess : (s.sessEnd cause).sess = sessNone := (f_eq_of_frame hclear F.PASS_STAT_SESSION).trans (sess_sessClear _)
  have hup := (f_eq_of_frame hclear F.SUM_ARB_STAT_PASS_UP).trans (passUp_sessClear _)
  have hrate := (f_eq_of_frame hclear F.PASS_RATE_MBPS).trans (rate_sessClear _)
  have hexcl : (s.sessEnd cause).excl = false := by
    rw [State.excl, f_eq_of_frame hdrop F.SUM_EXCL_EXCL]
    exact excl_sessDrop s
  have hcou : (s.sessEnd cause).cou = s.sessDrop.cou := part_same_of_frame hdrop .cou
  have hscr : (s.sessEnd cause).scr = s.sessDrop.scr := part_same_of_frame hdrop .scr
  have hpass := pass_sessEnd cause h
  obtain ⟨hcert, hjex⟩ := rights_sessDrop s
  obtain ⟨hdump, htrace⟩ := drains_sessDrop s
  refine ⟨hsess, hup, hrate, hexcl, by rw [hcou, hdump], by rw [hscr, htrace], by rw [hpass]; rfl, by rw [hpass]; rfl,
    by rw [hpass]; rfl, by rw [hpass]; rfl, by rw [hpass]; rfl, ?_, ?_, isLead_sessEnd cause, sessionEnd_mem_sessEnd cause h⟩
  · rw [rd_eq_of_frame hdrop (bk .pass R.AUTH_CERT), hcert]
  · rw [rd_eq_of_frame hdrop (bk .pass R.AUTH_JEX), hjex]

end Sys2Proof.Machine
end

section
/-! PROOFS: O51, the keepalives of a session (15 R476, R481). -/

namespace Sys2Proof.Machine

/-- A happening at the port that no soft reset holds answers with just the state that it makes. -/
theorem runs_inPort {c : Instr} {s : State} {k : State → State} {P : State → Prop} {r g : List Nat} {q : List Part}
    (hc : exec c s = inPort s k) (hon : s.rst.on = true) (hport : s.heldSeq 5 = false) (hf : s.frame (k s) r g q)
    (hq : .rst ∉ q) (hP : P (k s)) : runs c s P := by
  have hk : (if s.heldSeq 5 then s else k s) = k s := by simp [hport]
  exact runs_onHub hc hon (hk.symm ▸ hf) hq (hk.symm ▸ hP)

/-- A happening at the port that makes no change makes none held or without the supply either. -/
theorem runs_inPort_unchanged {c : Instr} {s : State} {k : State → State} (hc : exec c s = inPort s k) (hk : k s = s) :
    runs c s fun t => t = s := by
  refine ⟨s, ?_, rfl⟩
  have hkeep : s.keeping s = s := rfl
  simp [hc, inPort, onHub, hk, hkeep]

theorem exec_keepaliveSend (s : State) : exec .keepaliveSend s = inPort s State.kaSend := rfl

theorem exec_keepaliveTimeout (s : State) : exec .keepaliveTimeout s = inPort s State.kaTimeout := rfl

/-- The payload of KEEPALIVE: FATAL latched, SERVICE_N asserted, HB_RUN and the life-cycle index (R465). -/
def State.kaWord (s : State) : Nat :=
  b2n s.flt.fatal.isSome + 2 * b2n (s.rd R.FLT_SVC_STAT != 0) + 4 * s.f F.FLT_STAT_HB_RUN + 8 * s.lcs

theorem kaSend_due {s : State} (hs : s.sess = sessLanes) (hq : s.pass.sendq = []) (hdue : s.pass.kaT + s.kaTk / 4 ≤ s.clk) :
    s.kaSend = s.modPass fun p => { p with kaT := s.clk, sendq := p.sendq ++ [⟨0x03, 2, s.ownDev, [s.kaWord], 0, 0⟩] } := by
  simp only [State.kaSend, hs, hq, hdue, List.isEmpty_nil, and_self, if_true]
  rfl

theorem kaSend_not_due {s : State} (h : s.clk < s.pass.kaT + s.kaTk / 4 ∨ s.pass.sendq ≠ []) : s.kaSend = s := by
  refine if_neg fun ⟨_, hempty, hdue⟩ => ?_
  rcases h with hearly | hframes
  · omega
  · exact hframes (List.isEmpty_iff.mp hempty)

theorem kaTimeout_due {s : State} (hs : s.sess = sessLanes ∨ s.sess = sessTap) (hdue : s.pass.lastRx + s.kaTk ≤ s.clk) :
    s.kaTimeout = s.sessEnd seKeepalive :=
  if_pos ⟨hs, hdue⟩

theorem kaTimeout_not_due {s : State} (h : s.clk < s.pass.lastRx + s.kaTk) : s.kaTimeout = s :=
  if_neg fun ⟨_, hdue⟩ => by omega

theorem kaTk_of_pos {s : State} (h : 0 < s.f F.PASS_KA_TMO_MS) : s.kaTk = 2500000 * s.f F.PASS_KA_TMO_MS := by
  rw [State.kaTk, Nat.max_eq_left h, Nat.mul_comm]

theorem runs_keepaliveSend_due {s : State} (hon : s.rst.on = true) (hport : s.heldSeq 5 = false) (hs : s.sess = sessLanes)
    (hq : s.pass.sendq = []) (hdue : s.pass.kaT + s.kaTk / 4 ≤ s.clk) :
    runs .keepaliveSend s fun t =>
      t.pass = { s.pass with kaT := s.clk, sendq := [⟨0x03, 2, s.ownDev, [s.kaWord], 0, 0⟩] } ∧ s.frame t [] [] [.pass] := by
  have heq := kaSend_due hs hq hdue
  have hf : s.frame s.kaSend [] [] [.pass] := heq ▸ frame_modPass s _
  refine runs_inPort (exec_keepaliveSend s) hon hport hf (by decide) ⟨?_, hf⟩
  simp [heq, State.modPass, hq]

theorem runs_keepaliveTimeout_due {s : State} (hon : s.rst.on = true) (hport : s.heldSeq 5 = false)
    (hs : s.sess = sessLanes ∨ s.sess = sessTap) (hdue : s.pass.lastRx + s.kaTk ≤ s.clk) :
    runs .keepaliveTimeout s fun t => s.sessOver t 1 ∧ s.frame t sessRegs [8, 0xB] [.intq, .pass, .cou, .scr] := by
  have hsess : s.sess ≠ sessNone := by rcases hs with h | h <;> rw [h] <;> decide
  have heq := kaTimeout_due hs hdue
  have hf : s.frame s.kaTimeout sessRegs [8, 0xB] [.intq, .pass, .cou, .scr] := heq ▸ frame_sessEnd seKeepalive hsess
  exact runs_inPort (exec_keepaliveTimeout s) hon hport hf (by decide) ⟨heq ▸ sessOver_sessEnd seKeepalive hsess, hf⟩

/-- Settles O51: each command is its operation of the port, which sends KEEPALIVE or ends the session when its time has come and makes
no change before. -/
theorem keepalives : Obligations.Keepalives := by
  unfold Obligations.Keepalives
  exact ⟨fun _ => runs_keepaliveSend_due,
    fun s h => runs_inPort_unchanged (exec_keepaliveSend s) (kaSend_not_due h),
    fun _ => runs_keepaliveTimeout_due,
    fun s h => runs_inPort_unchanged (exec_keepaliveTimeout s) (kaTimeout_not_due h),
    fun _ => kaTk_of_pos⟩

end Sys2Proof.Machine
end

section
/-! PROOFS: O56, what an access decided before a hub soft reset completes with (02 R47, R67; 16 R493). -/

namespace Sys2Proof.Machine

-- As for the tests: a thread per kernel evaluation, each with its own stack, would exceed the memory of one compile.
set_option Elab.async false

/-- The state that a command leaves; one that stops the machine leaves the state it met. -/
def State.after (s : State) (c : Instr) : State := match exec c s with | .next t => t | _ => s

theorem after_eq_of_exec {c : Instr} {s t : State} (h : exec c s = .next t) : s.after c = t := by
  rw [State.after, h]

/-- A hub that has started, Pass holding INSPECT and OBSERVE and the host holding HALT. -/
def windowHub : State :=
  ((({ State.reset with regs := [] }).wr R.SUM_START_STAT 6).wr R.AUTH_HELD_PASS (2 ^ rtObserve + 2 ^ rtInspect)).wr R.AUTH_HELD_HOST
    (2 ^ rtHalt)

/-- Pass selects unit 0x421 in its first aperture and 0xBC0, which names no unit, in its second, and reads through each. -/
def windowReads : List Instr :=
  [.registerWrite .pass R.CWIN_SEL0 4 0x421, .registerWrite .pass (R.CWIN_SEL0 + 4) 4 0xBC0, .registerRead .pass 0x20440 4,
    .registerRead .pass 0x20840 4]

/-- The first read is in flight; the second, decided at the arbiter (02 R67), completes behind it (02 R47). -/
def noUnitBehindOpen : State := windowReads.foldl State.after windowHub

theorem fates_noUnitBehindOpen : (noUnitBehindOpen.apsOf .pass).map ApAcc.fate = [none, some codeNoUnit] := by
  decide +kernel

theorem ready_noUnitBehindOpen : noUnitBehindOpen.ready .host (some rtHalt) R.SUM_RST_CMD = true := by
  decide +kernel

theorem idle_noUnitBehindOpen : noUnitBehindOpen.softPending = false ∧ noUnitBehindOpen.sess = sessNone := by
  decide +kernel

/-- The request gives RESET to the read in flight alone: the one behind it completes last, with the NO_UNIT it had. -/
theorem resp_softResetRequest_noUnitBehindOpen :
    ((noUnitBehindOpen.after (.softResetRequest .host 0x51A50001)).mst .pass).resp = ⟨codeNoUnit, 0⟩ := by
  decide +kernel

/-- Refutes O56: its last clause has every access that the other master waits for complete with RESET, but one that the arbiter has
decided before the request, and that waits behind an access in flight, completes with the code decided. -/
theorem not_softResetRequests : ¬ Obligations.SoftResetRequests := by
  unfold Obligations.SoftResetRequests
  rintro ⟨-, -, -, -, -, -, hflight⟩
  obtain ⟨hpending, hsess⟩ := idle_noUnitBehindOpen
  obtain ⟨t, ht, -, -, -, -, hreset⟩ :=
    hflight .host 0x51A50001 noUnitBehindOpen ready_noUnitBehindOpen (by decide) (by decide) hpending hsess
  have hwaits : noUnitBehindOpen.apsOf .pass ≠ [] := fun hnone => by
    simpa [hnone] using fates_noUnitBehindOpen
  have hresp : (t.mst .pass).resp = ⟨codeReset, 0⟩ := hreset (.inl hwaits)
  rw [← after_eq_of_exec ht, resp_softResetRequest_noUnitBehindOpen] at hresp
  exact absurd hresp (by decide)

end Sys2Proof.Machine
end

section
/-! PROOFS: O31, a Pitch word decodes to the instruction it encodes: each format's fields lie where the decoder reads them (07 R211, R212). -/

namespace Sys2Proof.Machine

set_option Elab.async false

/-! ### A field of a word that is put together from its parts -/

section
variable {k m n : Nat} {x : BitVec k} {y : BitVec m} {z : BitVec n} {lo : Nat}

/-- A field of the lower part of a word. -/
theorem lowField (h : y.extractLsb' lo n = z) (hlo : lo + n ≤ m := by decide) : (x ++ y).extractLsb' lo n = z := by
  subst h
  apply BitVec.eq_of_getElem_eq
  intro i hi
  simp [BitVec.getLsbD_append, show lo + i < m by omega]

/-- A field of the upper part of a word. -/
theorem highField (h : x.extractLsb' (lo - m) n = z) (hlo : m ≤ lo := by decide) : (x ++ y).extractLsb' lo n = z := by
  subst h
  apply BitVec.eq_of_getElem_eq
  intro i hi
  have hge : ¬lo + i < m := by omega
  have hsub : lo + i - m = lo - m + i := by omega
  simp [BitVec.getLsbD_append, hge, hsub]

theorem wholeField : z.extractLsb' 0 n = z := by simp
end

/-! ### The words of the formats that R and I do not cover -/

/-- The word of MOVI. -/
def wordM (op : BitVec 6) (rd : BitVec 4) (imm : BitVec 22) : BitVec 32 := op ++ rd ++ imm

/-- The word of a branch with IMM8. -/
def wordB (op : BitVec 6) (ra : BitVec 4) (imm : BitVec 8) (off : BitVec 14) : BitVec 32 := op ++ ra ++ imm ++ off

/-- The word of JAL. -/
def wordJ (op : BitVec 6) (rd : BitVec 4) (nolink : BitVec 1) (target : BitVec 16) : BitVec 32 :=
  op ++ rd ++ (0 : BitVec 5) ++ nolink ++ target

/-- The word of an access to a Cairn register. -/
def wordC (op : BitVec 6) (rd ra : BitVec 4) (off : BitVec 10) : BitVec 32 := op ++ rd ++ ra ++ (0 : BitVec 8) ++ off

/-- The word of an access to a view. -/
def wordV (op : BitVec 6) (rd ra rb space : BitVec 4) (wide : BitVec 1) : BitVec 32 :=
  op ++ rd ++ ra ++ rb ++ space ++ (0 : BitVec 9) ++ wide

/-- The word of LOG. -/
def wordL (op : BitVec 6) (ra rb : BitVec 4) (talus : BitVec 1) (tag : BitVec 12) : BitVec 32 :=
  op ++ ra ++ rb ++ talus ++ (0 : BitVec 5) ++ tag

/-! ### Where the decoder reads them -/

section
variable (op : BitVec 6) (d a b c fn : BitVec 4)

@[simp] theorem fieldAt_wordR_op : fieldAt (wordR op d a b fn) 26 6 = op := highField (highField (highField (highField (highField wholeField))))
@[simp] theorem fieldAt_wordR_rd : fieldAt (wordR op d a b fn) 22 4 = d := highField (highField (highField (highField (lowField wholeField))))
@[simp] theorem fieldAt_wordR_ra : fieldAt (wordR op d a b fn) 18 4 = a := highField (highField (highField (lowField wholeField)))
@[simp] theorem fieldAt_wordR_rb : fieldAt (wordR op d a b fn) 14 4 = b := highField (highField (lowField wholeField))
@[simp] theorem fieldAt_wordR_mid : fieldAt (wordR op d a b fn) 4 10 = 0#10 := highField (lowField wholeField)
@[simp] theorem fieldAt_wordR_fn : fieldAt (wordR op d a b fn) 0 4 = fn := lowField wholeField
/-- The two lowest fields of a word in format R, both 0. -/
theorem extract_zeros {k : Nat} (x : BitVec k) : (x ++ 0#10 ++ 0#4).extractLsb' 0 14 = 0#14 := by
  apply BitVec.eq_of_getElem_eq
  intro i hi
  have hlt : i - 4 < 10 := by omega
  simp [BitVec.getLsbD_append, hlt]

@[simp] theorem fieldAt_wordR_low : fieldAt (wordR op d a b 0#4) 0 14 = 0#14 := extract_zeros (op ++ d ++ a ++ b)

variable (imm : BitVec 18)

@[simp] theorem fieldAt_wordI_op : fieldAt (wordI op d a imm) 26 6 = op := highField (highField (highField wholeField))
@[simp] theorem fieldAt_wordI_rd : fieldAt (wordI op d a imm) 22 4 = d := highField (highField (lowField wholeField))
@[simp] theorem fieldAt_wordI_ra : fieldAt (wordI op d a imm) 18 4 = a := highField (lowField wholeField)
@[simp] theorem fieldAt_wordI_imm : fieldAt (wordI op d a imm) 0 18 = imm := lowField wholeField

@[simp] theorem fieldAt_wordI_ch (ch : BitVec 6) : fieldAt (wordI op d a (0#12 ++ ch)) 0 6 = ch := lowField (lowField wholeField)
@[simp] theorem fieldAt_wordI_bit (x : BitVec 1) : fieldAt (wordI op d a (0#17 ++ x)) 0 1 = x := lowField (lowField wholeField)
@[simp] theorem fieldAt_wordI_prof (x : BitVec 4) : fieldAt (wordI op d a (0#14 ++ x)) 0 4 = x := lowField (lowField wholeField)
@[simp] theorem fieldAt_wordI_arg (x : BitVec 16) : fieldAt (wordI op d a (0#2 ++ x)) 0 16 = x := lowField (lowField wholeField)

variable (kind : BitVec 3) (abs xdev : BitVec 1)

/-- The immediate of a CUT. -/
def cutImm : BitVec 18 := (0 : BitVec 13) ++ xdev ++ abs ++ kind

@[simp] theorem fieldAt_cut_kind : fieldAt (wordI op d a (cutImm kind abs xdev)) 0 3 = kind := lowField (y := cutImm kind abs xdev) (lowField wholeField)
@[simp] theorem fieldAt_cut_abs : fieldAt (wordI op d a (cutImm kind abs xdev)) 3 1 = abs :=
  lowField (y := cutImm kind abs xdev) (highField (lowField wholeField))
@[simp] theorem fieldAt_cut_xdev : fieldAt (wordI op d a (cutImm kind abs xdev)) 4 1 = xdev :=
  lowField (y := cutImm kind abs xdev) (highField (highField (lowField wholeField)))
@[simp] theorem fieldAt_cut_rest : fieldAt (wordI op d a (cutImm kind abs xdev)) 5 13 = 0#13 :=
  lowField (y := cutImm kind abs xdev) (highField (highField (highField wholeField)))

variable (imm22 : BitVec 22)

@[simp] theorem fieldAt_wordM_op : fieldAt (wordM op d imm22) 26 6 = op := highField (highField wholeField)
@[simp] theorem fieldAt_wordM_rd : fieldAt (wordM op d imm22) 22 4 = d := highField (lowField wholeField)
@[simp] theorem fieldAt_wordM_imm : fieldAt (wordM op d imm22) 0 22 = imm22 := lowField wholeField

variable (imm8 : BitVec 8) (off14 : BitVec 14)

@[simp] theorem fieldAt_wordB_op : fieldAt (wordB op a imm8 off14) 26 6 = op := highField (highField (highField wholeField))
@[simp] theorem fieldAt_wordB_ra : fieldAt (wordB op a imm8 off14) 22 4 = a := highField (highField (lowField wholeField))
@[simp] theorem fieldAt_wordB_imm : fieldAt (wordB op a imm8 off14) 14 8 = imm8 := highField (lowField wholeField)
@[simp] theorem fieldAt_wordB_off : fieldAt (wordB op a imm8 off14) 0 14 = off14 := lowField wholeField

variable (nolink : BitVec 1) (target : BitVec 16)

@[simp] theorem fieldAt_wordJ_op : fieldAt (wordJ op d nolink target) 26 6 = op := highField (highField (highField (highField wholeField)))
@[simp] theorem fieldAt_wordJ_rd : fieldAt (wordJ op d nolink target) 22 4 = d := highField (highField (highField (lowField wholeField)))
@[simp] theorem fieldAt_wordJ_rest : fieldAt (wordJ op d nolink target) 17 5 = 0#5 := highField (highField (lowField wholeField))
@[simp] theorem fieldAt_wordJ_nolink : fieldAt (wordJ op d nolink target) 16 1 = nolink := highField (lowField wholeField)
@[simp] theorem fieldAt_wordJ_target : fieldAt (wordJ op d nolink target) 0 16 = target := lowField wholeField

variable (off10 : BitVec 10)

@[simp] theorem fieldAt_wordC_op : fieldAt (wordC op d a off10) 26 6 = op := highField (highField (highField (highField wholeField)))
@[simp] theorem fieldAt_wordC_rd : fieldAt (wordC op d a off10) 22 4 = d := highField (highField (highField (lowField wholeField)))
@[simp] theorem fieldAt_wordC_ra : fieldAt (wordC op d a off10) 18 4 = a := highField (highField (lowField wholeField))
@[simp] theorem fieldAt_wordC_rest : fieldAt (wordC op d a off10) 10 8 = 0#8 := highField (lowField wholeField)
@[simp] theorem fieldAt_wordC_off : fieldAt (wordC op d a off10) 0 10 = off10 := lowField wholeField

variable (wide : BitVec 1)

@[simp] theorem fieldAt_wordV_op : fieldAt (wordV op d a b c wide) 26 6 = op := highField (highField (highField (highField (highField (highField wholeField)))))
@[simp] theorem fieldAt_wordV_rd : fieldAt (wordV op d a b c wide) 22 4 = d := highField (highField (highField (highField (highField (lowField wholeField)))))
@[simp] theorem fieldAt_wordV_ra : fieldAt (wordV op d a b c wide) 18 4 = a := highField (highField (highField (highField (lowField wholeField))))
@[simp] theorem fieldAt_wordV_rb : fieldAt (wordV op d a b c wide) 14 4 = b := highField (highField (highField (lowField wholeField)))
@[simp] theorem fieldAt_wordV_space : fieldAt (wordV op d a b c wide) 10 4 = c := highField (highField (lowField wholeField))
@[simp] theorem fieldAt_wordV_rest : fieldAt (wordV op d a b c wide) 1 9 = 0#9 := highField (lowField wholeField)
@[simp] theorem fieldAt_wordV_wide : fieldAt (wordV op d a b c wide) 0 1 = wide := lowField wholeField

variable (talus : BitVec 1) (tag : BitVec 12)

@[simp] theorem fieldAt_wordL_op : fieldAt (wordL op a b talus tag) 26 6 = op := highField (highField (highField (highField (highField wholeField))))
@[simp] theorem fieldAt_wordL_ra : fieldAt (wordL op a b talus tag) 22 4 = a := highField (highField (highField (highField (lowField wholeField))))
@[simp] theorem fieldAt_wordL_rb : fieldAt (wordL op a b talus tag) 18 4 = b := highField (highField (highField (lowField wholeField)))
@[simp] theorem fieldAt_wordL_talus : fieldAt (wordL op a b talus tag) 17 1 = talus := highField (highField (lowField wholeField))
@[simp] theorem fieldAt_wordL_rest : fieldAt (wordL op a b talus tag) 12 5 = 0#5 := highField (lowField wholeField)
@[simp] theorem fieldAt_wordL_tag : fieldAt (wordL op a b talus tag) 0 12 = tag := lowField wholeField

end

/-! ### Decode of encode -/

@[simp] theorem ifClear_zero {n : Nat} (i : PInstr) : ifClear 0#n i = some i := if_pos rfl

/-- The decoder of a word in format R whose FN is 0. -/
@[simp] theorem decodeR_wordR (op : BitVec 6) (d a b : BitVec 4) (i : PInstr) : decodeR (wordR op d a b 0#4) i = some i := by
  rw [decodeR, fieldAt_wordR_low, ifClear_zero]

@[simp] theorem aluFn_ofCode_code (fn : AluFn) : AluFn.ofCode fn.code = some fn := by cases fn <;> rfl

/-! ### What the decoder makes of each opcode -/

section
variable {w : BitVec 32}

theorem decode_alu {fn : AluFn} (h : fieldAt w 26 6 = 1) (hfn : AluFn.ofCode (fieldAt w 0 4) = some fn) :
    PInstr.decode w = ifClear (fieldAt w 4 10) (.alu fn (fieldAt w 22 4) (fieldAt w 18 4) (fieldAt w 14 4)) := by
  unfold PInstr.decode; rw [h, hfn]; rfl
theorem decode_addi (h : fieldAt w 26 6 = 2) : PInstr.decode w = some (.addi (fieldAt w 22 4) (fieldAt w 18 4) (fieldAt w 0 18)) := by
  unfold PInstr.decode; rw [h]; rfl
theorem decode_andi (h : fieldAt w 26 6 = 3) : PInstr.decode w = some (.andi (fieldAt w 22 4) (fieldAt w 18 4) (fieldAt w 0 18)) := by
  unfold PInstr.decode; rw [h]; rfl
theorem decode_ldm (h : fieldAt w 26 6 = 5) : PInstr.decode w = some (.ldm (fieldAt w 22 4) (fieldAt w 18 4) (fieldAt w 0 18)) := by
  unfold PInstr.decode; rw [h]; rfl
theorem decode_stm (h : fieldAt w 26 6 = 6) : PInstr.decode w = some (.stm (fieldAt w 22 4) (fieldAt w 18 4) (fieldAt w 0 18)) := by
  unfold PInstr.decode; rw [h]; rfl
theorem decode_beq (h : fieldAt w 26 6 = 8) : PInstr.decode w = some (.br .beq (fieldAt w 22 4) (fieldAt w 18 4) (fieldAt w 0 18)) := by
  unfold PInstr.decode; rw [h]; rfl
theorem decode_bne (h : fieldAt w 26 6 = 9) : PInstr.decode w = some (.br .bne (fieldAt w 22 4) (fieldAt w 18 4) (fieldAt w 0 18)) := by
  unfold PInstr.decode; rw [h]; rfl
theorem decode_bltu (h : fieldAt w 26 6 = 10) : PInstr.decode w = some (.br .bltu (fieldAt w 22 4) (fieldAt w 18 4) (fieldAt w 0 18)) := by
  unfold PInstr.decode; rw [h]; rfl
theorem decode_bgeu (h : fieldAt w 26 6 = 11) : PInstr.decode w = some (.br .bgeu (fieldAt w 22 4) (fieldAt w 18 4) (fieldAt w 0 18)) := by
  unfold PInstr.decode; rw [h]; rfl
theorem decode_hrd (h : fieldAt w 26 6 = 32) : PInstr.decode w = some (.hrd (fieldAt w 22 4) (fieldAt w 18 4) (fieldAt w 0 18)) := by
  unfold PInstr.decode; rw [h]; rfl
theorem decode_hwr (h : fieldAt w 26 6 = 33) : PInstr.decode w = some (.hwr (fieldAt w 22 4) (fieldAt w 18 4) (fieldAt w 0 18)) := by
  unfold PInstr.decode; rw [h]; rfl
theorem decode_movi (h : fieldAt w 26 6 = 4) : PInstr.decode w = some (.movi (fieldAt w 22 4) (fieldAt w 0 22)) := by
  unfold PInstr.decode; rw [h]; rfl
theorem decode_aadd (h : fieldAt w 26 6 = 7) : PInstr.decode w = decodeR w (.aadd (fieldAt w 22 4) (fieldAt w 18 4) (fieldAt w 14 4)) := by
  unfold PInstr.decode; rw [h]; rfl
theorem decode_waitj (h : fieldAt w 26 6 = 41) : PInstr.decode w = decodeR w (.waitj (fieldAt w 22 4) (fieldAt w 18 4) (fieldAt w 14 4)) := by
  unfold PInstr.decode; rw [h]; rfl
theorem decode_remap (h : fieldAt w 26 6 = 46) : PInstr.decode w = decodeR w (.remap (fieldAt w 22 4) (fieldAt w 18 4) (fieldAt w 14 4)) := by
  unfold PInstr.decode; rw [h]; rfl
theorem decode_beqi (h : fieldAt w 26 6 = 12) : PInstr.decode w = some (.bri .beqi (fieldAt w 22 4) (fieldAt w 14 8) (fieldAt w 0 14)) := by
  unfold PInstr.decode; rw [h]; rfl
theorem decode_bnei (h : fieldAt w 26 6 = 13) : PInstr.decode w = some (.bri .bnei (fieldAt w 22 4) (fieldAt w 14 8) (fieldAt w 0 14)) := by
  unfold PInstr.decode; rw [h]; rfl
theorem decode_bltui (h : fieldAt w 26 6 = 14) : PInstr.decode w = some (.bri .bltui (fieldAt w 22 4) (fieldAt w 14 8) (fieldAt w 0 14)) := by
  unfold PInstr.decode; rw [h]; rfl
theorem decode_jal (h : fieldAt w 26 6 = 16) : PInstr.decode w = ifClear (fieldAt w 17 5) (.jal (fieldAt w 22 4) (fieldAt w 16 1) (fieldAt w 0 16)) := by
  unfold PInstr.decode; rw [h]; rfl
theorem decode_jr (h : fieldAt w 26 6 = 17) : PInstr.decode w = decodeR w (.jr (fieldAt w 18 4)) := by
  unfold PInstr.decode; rw [h]; rfl
theorem decode_time (h : fieldAt w 26 6 = 20) : PInstr.decode w = decodeR w (.time (fieldAt w 22 4)) := by
  unfold PInstr.decode; rw [h]; rfl
theorem decode_waitt (h : fieldAt w 26 6 = 21) : PInstr.decode w = some (.waitt (fieldAt w 18 4) (fieldAt w 0 18)) := by
  unfold PInstr.decode; rw [h]; rfl
theorem decode_crd (h : fieldAt w 26 6 = 24) : PInstr.decode w = ifClear (fieldAt w 10 8) (.crd (fieldAt w 22 4) (fieldAt w 18 4) (fieldAt w 0 10)) := by
  unfold PInstr.decode; rw [h]; rfl
theorem decode_cwr (h : fieldAt w 26 6 = 25) : PInstr.decode w = ifClear (fieldAt w 10 8) (.cwr (fieldAt w 22 4) (fieldAt w 18 4) (fieldAt w 0 10)) := by
  unfold PInstr.decode; rw [h]; rfl
theorem decode_vrd (h : fieldAt w 26 6 = 26) : PInstr.decode w = ifClear (fieldAt w 1 9) (.vrd (fieldAt w 22 4) (fieldAt w 18 4) (fieldAt w 14 4) (fieldAt w 10 4) (fieldAt w 0 1)) := by
  unfold PInstr.decode; rw [h]; rfl
theorem decode_vwr (h : fieldAt w 26 6 = 27) : PInstr.decode w = ifClear (fieldAt w 1 9) (.vwr (fieldAt w 22 4) (fieldAt w 18 4) (fieldAt w 14 4) (fieldAt w 10 4) (fieldAt w 0 1)) := by
  unfold PInstr.decode; rw [h]; rfl
theorem decode_waitw (h : fieldAt w 26 6 = 28) : PInstr.decode w = decodeR w (.waitw) := by
  unfold PInstr.decode; rw [h]; rfl
theorem decode_errs (h : fieldAt w 26 6 = 29) : PInstr.decode w = decodeR w (.errs (fieldAt w 22 4)) := by
  unfold PInstr.decode; rw [h]; rfl
theorem decode_kick (h : fieldAt w 26 6 = 48) : PInstr.decode w = decodeR w (.kick) := by
  unfold PInstr.decode; rw [h]; rfl
theorem decode_trig (h : fieldAt w 26 6 = 36) : PInstr.decode w = some (.trig (fieldAt w 0 6)) := by
  unfold PInstr.decode; rw [h]; rfl
theorem decode_cut (h : fieldAt w 26 6 = 0x25) (hwf : (PInstr.cut (fieldAt w 22 4) (fieldAt w 18 4) (fieldAt w 0 3) (fieldAt w 3 1) (fieldAt w 4 1)).wf = true) :
    PInstr.decode w = ifClear (fieldAt w 5 13) (.cut (fieldAt w 22 4) (fieldAt w 18 4) (fieldAt w 0 3) (fieldAt w 3 1) (fieldAt w 4 1)) := by
  unfold PInstr.decode
  rw [h]
  exact if_pos hwf
theorem decode_trc (h : fieldAt w 26 6 = 38) : PInstr.decode w = some (.trc (fieldAt w 22 4) (fieldAt w 18 4) (fieldAt w 0 1)) := by
  unfold PInstr.decode; rw [h]; rfl
theorem decode_job (h : fieldAt w 26 6 = 40) : PInstr.decode w = some (.job (fieldAt w 22 4) (fieldAt w 18 4) (fieldAt w 0 1)) := by
  unfold PInstr.decode; rw [h]; rfl
theorem decode_dump (h : fieldAt w 26 6 = 39) : PInstr.decode w = some (.dump (fieldAt w 22 4) (fieldAt w 0 4)) := by
  unfold PInstr.decode; rw [h]; rfl
theorem decode_waitch (h : fieldAt w 26 6 = 42) : PInstr.decode w = some (.waitch (fieldAt w 22 4) (fieldAt w 18 4) (fieldAt w 0 6)) := by
  unfold PInstr.decode; rw [h]; rfl
theorem decode_log (h : fieldAt w 26 6 = 44) : PInstr.decode w = ifClear (fieldAt w 12 5) (.log (fieldAt w 22 4) (fieldAt w 18 4) (fieldAt w 17 1) (fieldAt w 0 12)) := by
  unfold PInstr.decode; rw [h]; rfl
theorem decode_fence (h : fieldAt w 26 6 = 45) : PInstr.decode w = some (.fence (fieldAt w 22 4) (fieldAt w 18 4)) := by
  unfold PInstr.decode; rw [h]; rfl
theorem decode_halt (h : fieldAt w 26 6 = 49) : PInstr.decode w = some (.halt (fieldAt w 0 16)) := by
  unfold PInstr.decode; rw [h]; rfl

end

/-- Decode of encode, an instruction at a time: its opcode, then its fields. -/
theorem decode_encode (i : PInstr) (h : i.wf = true) : PInstr.decode i.encode = some i := by
  cases i with
  | alu fn d a b => exact (decode_alu (w := wordR 1 d a b fn.code) (fieldAt_wordR_op ..) (fn := fn) (by simp)).trans (by simp)
  | addi d a imm => exact (decode_addi (w := wordI 2 d a imm) (fieldAt_wordI_op ..)).trans (by simp)
  | andi d a imm => exact (decode_andi (w := wordI 3 d a imm) (fieldAt_wordI_op ..)).trans (by simp)
  | ldm d a imm => exact (decode_ldm (w := wordI 5 d a imm) (fieldAt_wordI_op ..)).trans (by simp)
  | stm d a imm => exact (decode_stm (w := wordI 6 d a imm) (fieldAt_wordI_op ..)).trans (by simp)
  | hrd d a imm => exact (decode_hrd (w := wordI 32 d a imm) (fieldAt_wordI_op ..)).trans (by simp)
  | hwr d a imm => exact (decode_hwr (w := wordI 33 d a imm) (fieldAt_wordI_op ..)).trans (by simp)
  | movi d imm => exact (decode_movi (w := wordM 4 d imm) (fieldAt_wordM_op ..)).trans (by simp)
  | aadd d a b => exact (decode_aadd (w := wordR 7 d a b 0) (fieldAt_wordR_op ..)).trans (by simp)
  | waitj d a b => exact (decode_waitj (w := wordR 41 d a b 0) (fieldAt_wordR_op ..)).trans (by simp)
  | remap d a b => exact (decode_remap (w := wordR 46 d a b 0) (fieldAt_wordR_op ..)).trans (by simp)
  | br fn a b off =>
    cases fn
    · exact (decode_beq (w := wordI 8 a b off) (fieldAt_wordI_op ..)).trans (by simp)
    · exact (decode_bne (w := wordI 9 a b off) (fieldAt_wordI_op ..)).trans (by simp)
    · exact (decode_bltu (w := wordI 10 a b off) (fieldAt_wordI_op ..)).trans (by simp)
    · exact (decode_bgeu (w := wordI 11 a b off) (fieldAt_wordI_op ..)).trans (by simp)
  | bri fn a imm off =>
    cases fn
    · exact (decode_beqi (w := wordB 12 a imm off) (fieldAt_wordB_op ..)).trans (by simp)
    · exact (decode_bnei (w := wordB 13 a imm off) (fieldAt_wordB_op ..)).trans (by simp)
    · exact (decode_bltui (w := wordB 14 a imm off) (fieldAt_wordB_op ..)).trans (by simp)
  | jal d nolink target => exact (decode_jal (w := wordJ 0x10 d nolink target) (fieldAt_wordJ_op ..)).trans (by simp)
  | jr a => exact (decode_jr (w := wordR 0x11 0 a 0 0) (fieldAt_wordR_op ..)).trans (by simp)
  | time d => exact (decode_time (w := wordR 0x14 d 0 0 0) (fieldAt_wordR_op ..)).trans (by simp)
  | waitt a imm => exact (decode_waitt (w := wordI 0x15 0 a imm) (fieldAt_wordI_op ..)).trans (by simp)
  | crd d a off => exact (decode_crd (w := wordC 0x18 d a off) (fieldAt_wordC_op ..)).trans (by simp)
  | cwr d a off => exact (decode_cwr (w := wordC 0x19 d a off) (fieldAt_wordC_op ..)).trans (by simp)
  | vrd d a b space wide => exact (decode_vrd (w := wordV 0x1A d a b space wide) (fieldAt_wordV_op ..)).trans (by simp)
  | vwr d a b space wide => exact (decode_vwr (w := wordV 0x1B d a b space wide) (fieldAt_wordV_op ..)).trans (by simp)
  | waitw => exact (decode_waitw (w := wordR 0x1C 0 0 0 0) (fieldAt_wordR_op ..)).trans (by simp)
  | errs d => exact (decode_errs (w := wordR 0x1D d 0 0 0) (fieldAt_wordR_op ..)).trans (by simp)
  | kick => exact (decode_kick (w := wordR 0x30 0 0 0 0) (fieldAt_wordR_op ..)).trans (by simp)
  | trig ch => exact (decode_trig (w := wordI 0x24 0 0 (0#12 ++ ch)) (fieldAt_wordI_op ..)).trans (by simp)
  | cut d a kind abs xdev => exact (decode_cut (w := wordI 0x25 d a (cutImm kind abs xdev)) (fieldAt_wordI_op ..) (by simpa using h)).trans (by simp)
  | trc d a stop => exact (decode_trc (w := wordI 0x26 d a (0#17 ++ stop)) (fieldAt_wordI_op ..)).trans (by simp)
  | job d a echo => exact (decode_job (w := wordI 0x28 d a (0#17 ++ echo)) (fieldAt_wordI_op ..)).trans (by simp)
  | dump d prof => exact (decode_dump (w := wordI 0x27 d 0 (0#14 ++ prof)) (fieldAt_wordI_op ..)).trans (by simp)
  | waitch d a ch => exact (decode_waitch (w := wordI 0x2A d a (0#12 ++ ch)) (fieldAt_wordI_op ..)).trans (by simp)
  | log a b talus tag => exact (decode_log (w := wordL 0x2C a b talus tag) (fieldAt_wordL_op ..)).trans (by simp)
  | fence d a => exact (decode_fence (w := wordI 0x2D d a 0) (fieldAt_wordI_op ..)).trans (by simp)
  | halt arg => exact (decode_halt (w := wordI 0x31 0 0 (0#2 ++ arg)) (fieldAt_wordI_op ..)).trans (by simp)

/-- Settles O31: the word of every allowed instruction decodes to it. -/
theorem pitchDecodesWhatItEncodes : Obligations.PitchDecodesWhatItEncodes := decode_encode

end Sys2Proof.Machine
end

section
/-! PROOFS: O1 to O5, what holds of every command: a well-formed one completes, none touches the queue, and only the two of VDD_HUB touch
the supply (16 R492). -/

namespace Sys2Proof.Machine

set_option Elab.async false

open Host Sys2Proof.Laws.Fields

/-! ### A well-formed command completes -/

/-- The outcome is a next state. -/
def Completes (o : Out) : Prop := ∃ t, o = .next t

theorem completes_next (t : State) : Completes (.next t) := ⟨t, rfl⟩

theorem completes_onHub (s : State) (k : State → State) : Completes (onHub s k) := completes_next _

/-- A command that checks its part completes where the part exists. -/
theorem completes_if {p : Prop} [Decidable p] {o : Out} {r : Fault} (hp : p) (ho : Completes o) : Completes (if p then o else .fault r) := by
  rwa [if_pos hp]

theorem completes_withCairn {id : Nat} {o : Out} (h : kindOf id ≠ 0) (ho : Completes o) : Completes (withCairn id o) := by
  rwa [withCairn, if_neg h]

theorem completes_atCairn {id : Nat} (s : State) (k : State → State) (h : kindOf id ≠ 0) : Completes (atCairn id s k) :=
  completes_withCairn h (completes_onHub _ _)

theorem completes_atUnit {id : Nat} (s : State) (k : State → State) (h : kindOf id ≠ 0) : Completes (atUnit id s k) :=
  completes_atCairn s _ h

theorem completes_atKind {id : Nat} {ks : List Nat} (s : State) (k : State → State) (hk : ks.contains (kindOf id) = true)
    (h : kindOf id ≠ 0) : Completes (atKind ks id s k) :=
  completes_if hk (completes_atUnit s k h)

theorem completes_atSpur {p : Nat} (s : State) (k : State → State) (h : below 2 p = true) : Completes (atSpur p s k) :=
  completes_if (of_decide_eq_true h) (completes_onHub _ _)

theorem completes_withEngine {e : Nat} {o : Out} (h : below 4 e = true) (ho : Completes o) : Completes (withEngine e o) :=
  completes_if (of_decide_eq_true h) ho

theorem completes_atLane {lane : Nat} (s : State) (k : State → State) (h : below 2 lane = true) : Completes (atLane lane s k) :=
  completes_if (of_decide_eq_true h) (completes_onHub _ _)

theorem completes_atCore {core : Nat} (s : State) (k : State → State) (h : below 8 core = true) : Completes (atCore core s k) :=
  completes_if (of_decide_eq_true h) (completes_onHub _ _)

theorem completes_atCairns {ids : List Nat} (s : State) (k : State → State) (h : ids.all isUnit = true) : Completes (atCairns ids s k) := by
  refine completes_if ?_ (completes_onHub _ _)
  rw [List.all_eq_true] at h ⊢
  exact fun id hid => bne_iff_ne.mpr (of_isUnit (h id hid))

theorem completes_atDomain {reps : List EdgeRep} (s : State) (k : State → State) (h : repsOk reps = true) :
    Completes (atDomain reps s k) :=
  completes_atCairns s _ (reps_units h)

/-! ### The kind of a unit -/

theorem kindOf_isGc {id : Nat} (h : isGc id = true) : kindOf id = 2 := by
  simp only [isGc, Bool.and_eq_true, decide_eq_true_eq] at h
  unfold kindOf
  split_ifs <;> omega

theorem kindOf_isBmu {id : Nat} (h : isBmu id = true) : kindOf id = 3 := by
  simp only [isBmu, Bool.and_eq_true, decide_eq_true_eq] at h
  unfold kindOf
  split_ifs <;> omega

theorem kindOf_isSlice {id : Nat} (h : isSlice id = true) : kindOf id = 5 := by
  simp only [isSlice, Bool.and_eq_true, decide_eq_true_eq] at h
  unfold kindOf
  split_ifs <;> omega

theorem kindOf_isRing {id : Nat} (h : isRing id = true) : kindOf id = 6 := by
  simp only [isRing, Bool.and_eq_true, decide_eq_true_eq] at h
  unfold kindOf
  split_ifs <;> omega

theorem kindOf_isRegion {id : Nat} (h : isRegion id = true) : kindOf id = 7 := by
  simp only [isRegion, Bool.and_eq_true, decide_eq_true_eq] at h
  unfold kindOf
  split_ifs <;> omega

theorem completes_kind {id n : Nat} {ks : List Nat} (s : State) (k : State → State) (h : kindOf id = n) (hn : n ≠ 0)
    (hk : ks.contains n = true) : Completes (atKind ks id s k) :=
  completes_atKind s k (h ▸ hk) (h ▸ hn)

/-- A write divert happens at a BMU or a slice. -/
theorem completes_store {id : Nat} (s : State) (k : State → State) (h : (isBmu id || isSlice id) = true) :
    Completes (atKind [3, 5] id s k) := by
  rcases (Bool.or_eq_true _ _).mp h with h | h
  · exact completes_kind s k (kindOf_isBmu h) (by decide) rfl
  · exact completes_kind s k (kindOf_isSlice h) (by decide) rfl

theorem completes_faultDetect {c : Bool} {page bit : Nat} (a b d e : Nat) (s : State) (h : faultPlace c page bit = true) :
    Completes (execFaultDetect c page bit a b d e s) := by
  obtain ⟨hplace, -⟩ := band h
  cases c with
  | true => exact completes_atUnit s _ (of_isUnit hplace)
  | false =>
    refine completes_if ?_ (completes_onHub _ _)
    simp only [Bool.false_eq_true, if_false, Bool.or_eq_true, Bool.and_eq_true, decide_eq_true_eq, bne_iff_ne, beq_iff_eq] at hplace
    simp [pageThere]
    omega

theorem exec_completes (c : Instr) (s : State) (h : c.wf = true) : Completes (exec c s) := by
  cases c with
  | class1Report | scheduledActionEffect | cutMessage | stepMessage | observationPointEdge | leafLoad =>
    exact completes_atUnit s _ (of_isUnit (band h).1)
  | summitAck | cutReportTimeout | shadowDrain | stepReportTimeout | ceCoalesceTimer => exact completes_atUnit s _ (of_isUnit h)
  | fenceOrder | fenceDone | fenceStuck => exact completes_atCairn s _ (of_isUnit h)
  | mirrorUpdate | livenessFlit | spurLivenessTimeout | calSlot | spurCutAggregate | releaseAggregate | stepAggregate | freezeAggregate =>
    exact completes_atSpur s _ h
  | colLaneFail | slotFree | storeUc | sigMonTimeout => exact completes_if (of_decide_eq_true h) (completes_onHub _ _)
  | sigMonCheck => exact completes_if (of_decide_eq_true h) (completes_onHub _ _)
  | cairnRaise => exact completes_if (of_decide_eq_true (band h).2) (completes_atUnit s _ (of_isUnit (band h).1))
  | domainPowerUp | domainPowerDown => exact completes_atCairns s _ h
  | stepUnitComplete => exact completes_atCairns s _ (band h).1
  | cutEdge | resumeEdge | stepReleaseEdge | stepFreezeEdge | shadowLoad => exact completes_atDomain s _ h
  | divertedWrite | pageCopyDone => exact completes_store s _ h
  | linkRecord => exact completes_if (kindOf_isRing (band h).1) (completes_onHub _ _)
  | linkTimeout => exact completes_if (kindOf_isRing h) (completes_onHub _ _)
  | flowPacket | loss => exact completes_kind s _ (kindOf_isGc (band h).1) (by decide) rfl
  | droopEnter | vfReq => exact completes_kind s _ (kindOf_isRegion (band h).1) (by decide) rfl
  | droopExit | vfChangeStart | vfDone | pmInterval => exact completes_kind s _ (kindOf_isRegion h) (by decide) rfl
  | dispatchCase => exact completes_kind s _ (kindOf_isBmu (band h).1) (by decide) rfl
  | dispatchSummary | batchCancel => exact completes_kind s _ (kindOf_isBmu h) (by decide) rfl
  | faultDetect => exact completes_faultDetect _ _ _ _ s h
  | lagBlock => exact completes_atCore s _ (band (band h).1).1
  | remapBoundary | remapGateOpen => exact completes_atCore s _ h
  | laneLost | txIdle | blockLockGained => exact completes_atLane s _ h
  | prbStart | prbStop | pmDataWrite | pmDataRead | waitEnd | watchdogExpiry | rfParity
  | add | sub | iAnd | iOr | xor | shl | shr | mul | minu | maxu | addi | andi | movi | ldm | stm | aadd | beq | bne | bltu | bgeu
  | beqi | bnei | bltui | jal | jr | time | waitt | waitw | waitj | waitch | crd | cwr | vrd | vwr | errs | hrd | hwr | trig
  | cutStop | cutGlance | cutResume | cutAbandon | cutStep | cutStepTrigClose | trcStart | trcStop | dump | jobCensus | jobEcho
  | log | fence | remap | kick | halt => exact completes_withEngine h (completes_onHub _ _)
  | _ => exact completes_next _

/-- Settles O3: each command's checks are those that well-formedness makes. -/
theorem wellFormedCommandsComplete : Obligations.WellFormedCommandsComplete := exec_completes

/-! ### The queue and the supply -/

theorem pending_provTorn (s : State) (ob : List Byte) (n mask : Nat) : (s.provTorn ob n mask).pending = s.pending := by
  unfold State.provTorn
  dsimp only
  split <;> rfl

theorem pending_otpTorn (s : State) (n mask : Nat) : (s.otpTorn n mask).pending = s.pending := by
  unfold State.otpTorn
  split
  · split <;> rfl
  · split
    · split
      · exact pending_provTorn _ _ _ _
      · rfl
    · rfl

theorem pending_hubOff (s : State) (n mask : Nat) : (s.hubOff n mask).pending = s.pending := pending_otpTorn s n mask

theorem pending_hubOn (s : State) : s.hubOn.pending = s.pending := by
  unfold State.hubOn
  split <;> rfl

/-- What every command but the two of VDD_HUB leaves: the queue and the supply, and without the supply all (16 R492). -/
theorem exec_next_hub {c : Instr} {s t : State} (h : exec c s = .next t) (hup : c ≠ .vddHubPowerUp) (hloss : ∀ d k, c ≠ .vddHubLoss d k) :
    t.pending = s.pending ∧ t.rst.on = s.rst.on ∧ (s.rst.on = false → t = s) := by
  obtain ⟨k, hk⟩ | hfault := exec_hubShape c s hup hloss
  · obtain rfl : (if s.rst.on then s.keeping (k s) else s) = t := Outcome.next.inj (hk.symm.trans h)
    cases hon : s.rst.on <;> simp [hon]
  · rw [hfault] at h
    cases h

theorem exec_next_loss {s t : State} {d k : Nat} (h : exec (.vddHubLoss d k) s = .next t) : t = if s.rst.on then s.hubOff d k else s :=
  (Outcome.next.inj h).symm

theorem exec_next_powerUp {s t : State} (h : exec .vddHubPowerUp s = .next t) : t = s.hubOn := (Outcome.next.inj h).symm

/-- Settles O4: a happening at the hub keeps both, and so does each command of VDD_HUB where it should. -/
theorem commandsKeepTheQueueAndTheSupply : Obligations.CommandsKeepTheQueueAndTheSupply := by
  intro c s t h
  by_cases hup : c = .vddHubPowerUp
  · subst hup
    rw [exec_next_powerUp h]
    exact ⟨pending_hubOn s, fun _ hne => absurd rfl hne, fun hne => absurd rfl hne⟩
  by_cases hloss : ∃ d k, c = .vddHubLoss d k
  · obtain ⟨d, k, rfl⟩ := hloss
    rw [exec_next_loss h]
    refine ⟨?_, fun hoff _ => by simp [hoff], fun _ hne => absurd rfl (hne d k)⟩
    split
    · exact pending_hubOff s d k
    · rfl
  · obtain ⟨hpend, hon, hoff⟩ := exec_next_hub h hup fun d k e => hloss ⟨d, k, e⟩
    exact ⟨hpend, fun h0 _ => hoff h0, fun _ _ => hon⟩

/-! ### The dark hub -/

/-- The dark state keeps the queue, so a command taken from it changes nothing else. -/
theorem dark_pending {s : State} (l : List Instr) (h : s = s.dark) : { s with pending := l } = { s with pending := l }.dark := by
  rw [State.dark] at h
  rw [State.dark, h]

theorem darkOk_of_eq {s : State} (h : s = s.dark) : s.darkOk := fun _ => h

theorem dark_hubOff (s : State) (n mask : Nat) : s.hubOff n mask = (s.hubOff n mask).dark := rfl

theorem darkOk_of_on {s : State} (h : s.rst.on = true) : s.darkOk := fun hoff => by simp [h] at hoff

/-- A command keeps a dark hub dark: only a loss of the supply makes one, and it leaves just what outlasts it (R492). -/
theorem exec_darkOk {c : Instr} {s t : State} (hs : s.darkOk) (h : exec c s = .next t) : t.darkOk := by
  by_cases hup : c = .vddHubPowerUp
  · subst hup
    rw [exec_next_powerUp h, State.hubOn]
    cases hon : s.rst.on
    · exact darkOk_of_on rfl
    · exact hs
  by_cases hloss : ∃ d k, c = .vddHubLoss d k
  · obtain ⟨d, k, rfl⟩ := hloss
    rw [exec_next_loss h]
    split
    · exact darkOk_of_eq (dark_hubOff s d k)
    · exact hs
  · obtain ⟨-, hon, hoff⟩ := exec_next_hub h hup fun d k e => hloss ⟨d, k, e⟩
    intro ht
    obtain rfl := hoff (hon ▸ ht)
    exact hs ht

/-- Settles O5: a tick does nothing without the supply, and a command is carried out on a queue that a dark hub keeps. -/
theorem darkHubHoldsNothing : Obligations.DarkHubHoldsNothing := by
  intro s t hs h
  unfold step at h
  split at h
  next c rest _ => exact exec_darkOk (s := { s with pending := rest }) (fun hoff => dark_pending rest (hs hoff)) h
  next =>
    obtain rfl : (if s.rst.on then s.keeping s.idle else s) = t := Outcome.next.inj h
    cases hon : s.rst.on
    · exact hs
    · exact darkOk_of_on (by simp [hon])

/-! ### The step and the state after power-up -/

/-- Settles O1: it is the step's own first case. -/
theorem stepRunsTheFrontCommand : Obligations.StepRunsTheFrontCommand := fun _ _ _ => rfl

/-- Settles O2: the state after reset is written out, and each clause reads it. -/
theorem resetLeaves : Obligations.ResetLeaves := by
  unfold Obligations.ResetLeaves
  refine ⟨rfl, ?_, rfl, rfl, ?_, ?_, ?_, ?_, ?_, ?_, ?_, ?_, ?_, ?_, rfl, rfl, fun _ => rfl, ?_, darkOk_of_on rfl⟩ <;> decide +kernel

end Sys2Proof.Machine
end

section
/-! PROOFS: what the hub's operations leave of the stores that outlast a command: OTP, the MRAM, the stacks' interleave, and the canonical
form of stack memory. -/

namespace Sys2Proof.Machine

set_option Elab.async false

/-- Two states hold the same OTP, MRAM and interleave, and stack memory that is canonical in the first is in the second. -/
def Lasts (s t : State) : Prop :=
  t.otp = s.otp ∧ t.uid = s.uid ∧ t.gran = s.gran ∧ t.mram = s.mram ∧ (Memory.wf s.mem = true → Memory.wf t.mem = true)

variable {s₀ s : State}

theorem lasts_ite {p : Prop} [Decidable p] {a b : State} (ha : Lasts s₀ a) (hb : Lasts s₀ b) : Lasts s₀ (if p then a else b) := by
  split <;> assumption

theorem lasts_dite {p : Prop} [Decidable p] {a : p → State} {b : ¬p → State} (ha : ∀ h, Lasts s₀ (a h)) (hb : ∀ h, Lasts s₀ (b h)) :
    Lasts s₀ (if h : p then a h else b h) := by
  split
  · exact ha _
  · exact hb _

theorem lasts_ite_fst {α : Type} {p : Prop} [Decidable p] {a b : State × α} (ha : Lasts s₀ a.1) (hb : Lasts s₀ b.1) :
    Lasts s₀ (if p then a else b).1 := by
  split <;> assumption

theorem lasts_ite_snd {α : Type} {p : Prop} [Decidable p] {a b : α × State} (ha : Lasts s₀ a.2) (hb : Lasts s₀ b.2) :
    Lasts s₀ (if p then a else b).2 := by
  split <;> assumption

/-- Every other field of the state may be replaced. -/
theorem lasts_update {t : State} (h : Lasts s₀ t) {pending free regs sum rdg cut stp cou flt wch cen prb crs scr tal auth pass rst cairns
    retain doms} :
    Lasts s₀ ⟨pending, free, regs, sum, rdg, cut, stp, cou, flt, wch, cen, prb, crs, scr, tal, auth, pass, rst, cairns, retain, t.mem,
      t.gran, doms, t.uid, t.otp, t.mram⟩ := h

/-- Stack memory may be replaced by one that keeps the canonical form. -/
theorem lasts_mem {t : State} (h : Lasts s₀ t) {mem : SMap Byte} (hm : Memory.wf t.mem = true → Memory.wf mem = true) :
    Lasts s₀ { t with mem := mem } := by
  obtain ⟨hotp, huid, hgran, hmram, hmem⟩ := h
  exact ⟨hotp, huid, hgran, hmram, hm ∘ hmem⟩

theorem lasts_foldl {α : Type} {f : State → α → State} {l : List α} (hf : ∀ t x, Lasts s₀ t → Lasts s₀ (f t x)) (h : Lasts s₀ s) :
    Lasts s₀ (l.foldl f s) := foldl_keeps (Lasts s₀) f (fun t x => hf t x) l s h

/-! ### Ops -/

theorem lasts_wr (h : Lasts s₀ s) {a n} : Lasts s₀ (s.wr a n) := h

theorem lasts_setF (h : Lasts s₀ s) {f n} : Lasts s₀ (s.setF f n) := h

theorem lasts_wr64 (h : Lasts s₀ s) {lo n} : Lasts s₀ (s.wr64 lo n) := by
  unfold State.wr64
  exact lasts_wr (lasts_wr h)

theorem lasts_bump (h : Lasts s₀ s) {a} : Lasts s₀ (s.bump a) := h

theorem lasts_satAdd (h : Lasts s₀ s) {f n} : Lasts s₀ (s.satAdd f n) := h

theorem lasts_wrapAdd (h : Lasts s₀ s) {f n} : Lasts s₀ (s.wrapAdd f n) := h

theorem lasts_satAddR (h : Lasts s₀ s) {a n} : Lasts s₀ (s.satAddR a n) := h

theorem lasts_takeFree (h : Lasts s₀ s) : Lasts s₀ (s.takeFree).2 := h

theorem lasts_setCairn (h : Lasts s₀ s) {id c} : Lasts s₀ (s.setCairn id c) := h

theorem lasts_modC (h : Lasts s₀ s) {id g} : Lasts s₀ (s.modC id g) := h

theorem lasts_forEach {ids : List Nat} {f : State → Nat → State} (hf : ∀ t x, Lasts s₀ t → Lasts s₀ (f t x)) (h : Lasts s₀ s) :
    Lasts s₀ (s.forEach ids f) := lasts_foldl hf h

theorem lasts_touch (h : Lasts s₀ s) {id} : Lasts s₀ (s.touch id) :=
  lasts_ite h (lasts_ite (lasts_setF (lasts_update h)) (lasts_setF (lasts_update h)))

theorem lasts_raise (h : Lasts s₀ s) {n src data sec} : Lasts s₀ (s.raise n src data sec) := h

theorem lasts_raiseC (h : Lasts s₀ s) {id n stamp data sec} : Lasts s₀ (s.raiseC id n stamp data sec) :=
  lasts_touch (lasts_modC h)

theorem lasts_fifoPut (h : Lasts s₀ s) {p e} : Lasts s₀ (s.fifoPut p e) :=
  lasts_ite (lasts_update h) (lasts_update h)

theorem lasts_spurPut (h : Lasts s₀ s) {p e} : Lasts s₀ (s.spurPut p e) :=
  lasts_ite (lasts_fifoPut h) (lasts_ite (lasts_update h) (lasts_update h))

theorem lasts_fifoFill (h : Lasts s₀ s) {p} : Lasts s₀ (s.fifoFill p) := by
  unfold State.fifoFill
  dsimp only
  split
  · exact h
  · exact lasts_ite (lasts_fifoPut (lasts_ite (lasts_update h) (lasts_update h))) h

theorem lasts_raiseSpur (h : Lasts s₀ s) {id n data stamp} : Lasts s₀ (s.raiseSpur id n data stamp) :=
  lasts_spurPut (lasts_ite h (lasts_modC h))

theorem lasts_fatalPins (h : Lasts s₀ s) : Lasts s₀ (s.fatalPins) := h

theorem lasts_fatalDirect (h : Lasts s₀ s) {i src} : Lasts s₀ (s.fatalDirect i src) :=
  lasts_ite (lasts_fatalPins h) (lasts_setF (lasts_update (lasts_fatalPins h)))

theorem lasts_hubFault (h : Lasts s₀ s) {page b rflags causeSeq detail detail2} : Lasts s₀ (s.hubFault page b rflags causeSeq detail detail2) :=
  lasts_ite h (lasts_ite (lasts_update h) (lasts_update (lasts_ite (lasts_fatalDirect (lasts_update h)) (lasts_update h))))

theorem lasts_hubMemFault (h : Lasts s₀ s) {page b a scrub} : Lasts s₀ (s.hubMemFault page b a scrub) :=
  lasts_hubFault (lasts_takeFree (lasts_takeFree h))

theorem lasts_cairnFault (h : Lasts s₀ s) {id i} : Lasts s₀ (s.cairnFault id i) :=
  lasts_ite h (lasts_touch (lasts_setCairn h))

theorem lasts_spurFault (h : Lasts s₀ s) {id b} : Lasts s₀ (s.spurFault id b) :=
  lasts_ite (lasts_ite (lasts_setCairn h) h) (lasts_spurPut (lasts_ite (lasts_setCairn h) h))

theorem lasts_latentFault (h : Lasts s₀ s) {id b a} : Lasts s₀ (s.latentFault id b a) :=
  lasts_cairnFault (lasts_takeFree h)

theorem lasts_unitRuns (h : Lasts s₀ s) {id} : Lasts s₀ (s.unitRuns id) :=
  lasts_ite h (lasts_update (lasts_modC h))

theorem lasts_takePlace (h : Lasts s₀ s) {a} : Lasts s₀ (s.takePlace a) := h

theorem lasts_dropPlace (h : Lasts s₀ s) {p} : Lasts s₀ (s.dropPlace p) := h

theorem lasts_newNumber (h : Lasts s₀ s) {n} : Lasts s₀ (s.newNumber n) :=
  lasts_foldl (fun _ _ h1 => lasts_modC h1) h

theorem lasts_send (h : Lasts s₀ s) {m} : Lasts s₀ (s.send m).2 :=
  lasts_newNumber (lasts_update h)

theorem lasts_setMst (h : Lasts s₀ s) {m x} : Lasts s₀ (s.setMst m x) := by
  unfold State.setMst
  dsimp only
  split <;> exact lasts_update h

/-! ### Ridge -/

theorem lasts_realign (h : Lasts s₀ s) : Lasts s₀ (s.realign) :=
  lasts_ite h (lasts_raise (lasts_setF h))

theorem lasts_setSlew (h : Lasts s₀ s) {d} : Lasts s₀ (s.setSlew d) :=
  lasts_ite (lasts_raise (lasts_setF (lasts_wr (lasts_update h)))) (lasts_setF (lasts_wr (lasts_update h)))

theorem lasts_slewPoint (h : Lasts s₀ s) : Lasts s₀ (s.slewPoint) :=
  lasts_realign (lasts_update (lasts_setSlew (lasts_update h)))

theorem lasts_tick (h : Lasts s₀ s) : Lasts s₀ (s.tick) :=
  lasts_ite h (lasts_ite (lasts_slewPoint h) (lasts_ite (lasts_setF (lasts_update h)) (lasts_update h)))

theorem lasts_badEpoch (h : Lasts s₀ s) {edge} : Lasts s₀ (s.badEpoch edge) := by
  unfold State.badEpoch
  dsimp only
  split
  · exact lasts_hubFault (lasts_satAdd h)
  · exact lasts_ite (lasts_setF (lasts_hubFault (lasts_satAdd h))) (lasts_hubFault (lasts_satAdd h))

theorem lasts_setOffOk (h : Lasts s₀ s) {b} : Lasts s₀ (s.setOffOk b) := h

theorem lasts_timeLoad (h : Lasts s₀ s) {tk lE} : Lasts s₀ (s.timeLoad tk lE) := h

theorem lasts_offset (h : Lasts s₀ s) {tk lE} : Lasts s₀ (s.offset tk lE) :=
  lasts_ite (lasts_timeLoad (lasts_setSlew (lasts_setF (lasts_setOffOk (lasts_wr h))))) (lasts_ite (lasts_setF (lasts_setOffOk (lasts_wr h))) (lasts_ite (lasts_hubFault (lasts_setSlew (lasts_setF (lasts_setOffOk (lasts_wr h))))) (lasts_setSlew (lasts_setF (lasts_setOffOk (lasts_wr h))))))

theorem lasts_acceptEpoch (h : Lasts s₀ s) {edge tk lE flags} : Lasts s₀ (s.acceptEpoch edge tk lE flags) :=
  lasts_realign (lasts_update (lasts_ite (lasts_setOffOk (lasts_timeLoad (lasts_setF (lasts_wr (lasts_wr64 h))))) (lasts_offset (lasts_setF (lasts_wr (lasts_wr64 h))))))

theorem lasts_tsync (h : Lasts s₀ s) {high low edge lE start frame} : Lasts s₀ (s.tsync high low edge lE start frame) :=
  lasts_ite h (lasts_ite (lasts_acceptEpoch h) (lasts_badEpoch h))

theorem lasts_tsyncLoss (h : Lasts s₀ s) : Lasts s₀ (s.tsyncLoss) :=
  lasts_realign (lasts_update (lasts_hubFault (lasts_setF h)))

theorem lasts_refclkLost (h : Lasts s₀ s) : Lasts s₀ (s.refclkLost) :=
  lasts_realign (lasts_update (lasts_hubFault (lasts_setF (lasts_setF h))))

theorem lasts_refclkGlitch (h : Lasts s₀ s) : Lasts s₀ (s.refclkGlitch) :=
  lasts_ite (lasts_refclkLost (lasts_update (lasts_hubFault (lasts_satAdd h)))) (lasts_update (lasts_hubFault (lasts_satAdd h)))

theorem lasts_pllRelock (h : Lasts s₀ s) : Lasts s₀ (s.pllRelock) :=
  lasts_realign (lasts_update (lasts_setF (lasts_setF h)))

theorem lasts_setSweep (h : Lasts s₀ s) {p w} : Lasts s₀ (s.setSweep p w) :=
  lasts_ite (lasts_setF (lasts_ite (lasts_setF (lasts_ite (lasts_update h) (lasts_update h))) (lasts_ite (lasts_update h) (lasts_update h)))) (lasts_ite (lasts_setF (lasts_ite (lasts_update h) (lasts_update h))) (lasts_ite (lasts_update h) (lasts_update h)))

theorem lasts_sweepStart (h : Lasts s₀ s) : Lasts s₀ (s.sweepStart) :=
  lasts_setSweep (lasts_setSweep h)

theorem lasts_sweepCut (h : Lasts s₀ s) : Lasts s₀ (s.sweepCut) :=
  lasts_sweepStart (lasts_setF h)

theorem lasts_calSweep (h : Lasts s₀ s) : Lasts s₀ (s.calSweep) :=
  lasts_ite h (lasts_sweepStart (lasts_setF h))

theorem lasts_calFail (h : Lasts s₀ s) {id} : Lasts s₀ (s.calFail id) :=
  lasts_ite (lasts_spurFault (lasts_ite (lasts_satAdd (lasts_update h)) (lasts_update h))) (lasts_update h)

theorem lasts_calibrate (h : Lasts s₀ s) {id trip} : Lasts s₀ (s.calibrate id trip) :=
  lasts_ite (lasts_update (lasts_modC (lasts_takeFree h))) (lasts_calFail h)

theorem lasts_calSlot (h : Lasts s₀ s) {p trip xing} : Lasts s₀ (s.calSlot p trip xing) :=
  lasts_ite (lasts_sweepStart (lasts_setF (lasts_bump (lasts_setSweep (lasts_ite (lasts_calibrate (lasts_ite (lasts_setF h) h)) (lasts_ite (lasts_setF h) h)))))) (lasts_setSweep (lasts_ite (lasts_calibrate (lasts_ite (lasts_setF h) h)) (lasts_ite (lasts_setF h) h)))

theorem lasts_reload (h : Lasts s₀ s) : Lasts s₀ (s.reload) :=
  lasts_ite h (lasts_setF h)

theorem lasts_rdgCtrl (h : Lasts s₀ s) {v} : Lasts s₀ (s.rdgCtrl v) :=
  lasts_ite (lasts_reload (lasts_ite (lasts_calSweep (lasts_ite (lasts_sweepStart (lasts_setF (lasts_setF h))) (lasts_setF (lasts_setF h)))) (lasts_ite (lasts_sweepStart (lasts_setF (lasts_setF h))) (lasts_setF (lasts_setF h))))) (lasts_ite (lasts_calSweep (lasts_ite (lasts_sweepStart (lasts_setF (lasts_setF h))) (lasts_setF (lasts_setF h)))) (lasts_ite (lasts_sweepStart (lasts_setF (lasts_setF h))) (lasts_setF (lasts_setF h))))

/-! ### Summit -/

theorem lasts_setSpur (h : Lasts s₀ s) {p st} : Lasts s₀ (s.setSpur p st) := h

theorem lasts_liveMiss (h : Lasts s₀ s) {p} : Lasts s₀ (s.liveMiss p) := h

theorem lasts_liveFlit (h : Lasts s₀ s) {p} : Lasts s₀ (s.liveFlit p) :=
  lasts_ite (lasts_update (lasts_liveMiss h)) (lasts_update (lasts_liveMiss h))

theorem lasts_mirrorSend (h : Lasts s₀ s) {p} : Lasts s₀ (s.mirrorSend p) := by
  unfold State.mirrorSend
  dsimp only
  split
  · exact h
  · exact lasts_setF (lasts_ite (lasts_update (lasts_update h)) (lasts_update (lasts_update h)))

theorem lasts_recordErr (h : Lasts s₀ s) {m code addr sel} : Lasts s₀ (s.recordErr m code addr sel) :=
  lasts_ite (lasts_raise (lasts_setMst (lasts_ite (lasts_wr (lasts_setF (lasts_setF (lasts_satAdd h)))) (lasts_satAdd h)))) (lasts_ite (lasts_wr (lasts_setF (lasts_setF (lasts_satAdd h)))) (lasts_satAdd h))

theorem lasts_complete (h : Lasts s₀ s) {m addr code data} : Lasts s₀ (s.complete m addr code data) :=
  lasts_ite (lasts_setMst h) (lasts_recordErr (lasts_setMst h))

theorem lasts_touchWin (h : Lasts s₀ s) {id} : Lasts s₀ (s.touchWin id) :=
  lasts_ite h (lasts_touch h)

theorem lasts_apComplete (h : Lasts s₀ s) {a code data} : Lasts s₀ (s.apComplete a code data) :=
  lasts_ite (lasts_touchWin (lasts_bump (lasts_setF (lasts_setMst h)))) (lasts_recordErr (lasts_bump (lasts_touchWin (lasts_bump (lasts_setF (lasts_setMst h))))))

theorem lasts_apFlush (h : Lasts s₀ s) {m} : Lasts s₀ (s.apFlush m) :=
  lasts_foldl (fun _ _ h1 => lasts_apComplete h1) (lasts_update h)

theorem lasts_apFate (h : Lasts s₀ s) {p code} : Lasts s₀ (s.apFate p code) :=
  lasts_apFlush (lasts_apFlush (lasts_update h))

theorem lasts_apEnter (h : Lasts s₀ s) {a} : Lasts s₀ (s.apEnter a) :=
  lasts_apFlush (lasts_touchWin (lasts_update h))

theorem lasts_waitSort (h : Lasts s₀ s) : Lasts s₀ (s.waitSort) := h

theorem lasts_lossNumbered (h : Lasts s₀ s) : Lasts s₀ (s.lossNumbered) := h

theorem lasts_spurLost (h : Lasts s₀ s) {p rflags} : Lasts s₀ (s.spurLost p rflags) :=
  lasts_apFate (lasts_waitSort (lasts_ite (lasts_hubFault (lasts_ite (lasts_lossNumbered (lasts_update (lasts_hubFault (lasts_setSpur (lasts_update h))))) (lasts_update (lasts_hubFault (lasts_setSpur (lasts_update h)))))) (lasts_ite (lasts_lossNumbered (lasts_update (lasts_hubFault (lasts_setSpur (lasts_update h))))) (lasts_update (lasts_hubFault (lasts_setSpur (lasts_update h)))))))

theorem lasts_resend (h : Lasts s₀ s) {id} : Lasts s₀ (s.resend id) := h

theorem lasts_promote (h : Lasts s₀ s) {q} : Lasts s₀ (s.promote q) := h

theorem lasts_takeoverDone (h : Lasts s₀ s) {p} : Lasts s₀ (s.takeoverDone p) :=
  lasts_sweepCut (lasts_foldl (fun _ _ h1 => lasts_resend h1) (lasts_update (lasts_setF (lasts_setF (lasts_promote (lasts_setSpur h))))))

theorem lasts_countDormant (h : Lasts s₀ s) {id up} : Lasts s₀ (s.countDormant id up) := h

theorem lasts_colLane (h : Lasts s₀ s) {g} : Lasts s₀ (s.colLane g) :=
  lasts_ite (lasts_hubFault (lasts_setF (lasts_setF (lasts_setF h)))) (lasts_hubFault (lasts_satAdd (lasts_setF h)))

theorem lasts_exclEnd (h : Lasts s₀ s) {cause} : Lasts s₀ (s.exclEnd cause) :=
  lasts_ite (lasts_raise (lasts_setF (lasts_setF h))) h

theorem lasts_exclPass (h : Lasts s₀ s) {v} : Lasts s₀ (s.exclPass v) :=
  lasts_ite (lasts_exclEnd (lasts_ite (lasts_ite (lasts_setF (lasts_setF h)) (lasts_setF (lasts_setF h))) (lasts_setF h))) (lasts_ite (lasts_ite (lasts_setF (lasts_setF h)) (lasts_setF (lasts_setF h))) (lasts_setF h))

theorem lasts_exclHost (h : Lasts s₀ s) {v} : Lasts s₀ (s.exclHost v) :=
  lasts_ite (lasts_raise (lasts_setF h)) h

/-! ### Couloir -/

theorem lasts_stackWrite (h : Lasts s₀ s) {a bytes} : Lasts s₀ (s.stackWrite a bytes) :=
  lasts_ite (lasts_hubFault h) (lasts_ite (lasts_hubFault h) (lasts_mem h fun hm => smWf_smSetList _ _ hm))

theorem lasts_putBytes (h : Lasts s₀ s) {at_ bs} : Lasts s₀ (s.putBytes at_ bs) := lasts_mem h (memory_putBytes s at_ bs)

theorem lasts_putMeta (h : Lasts s₀ s) {o bs} : Lasts s₀ (s.putMeta o bs) :=
  lasts_putBytes h

theorem lasts_zeroMeta (h : Lasts s₀ s) : Lasts s₀ s.zeroMeta := lasts_mem h (memory_zeroMeta s)

theorem lasts_zeroManifest (h : Lasts s₀ s) {n} : Lasts s₀ (s.zeroManifest n) := lasts_mem h (memory_zeroManifest s n)

theorem lasts_couShow (h : Lasts s₀ s) : Lasts s₀ (s.couShow) :=
  lasts_foldl (fun _ _ h1 => lasts_setF (lasts_setF (lasts_setF (lasts_setF (lasts_setF h1))))) (lasts_wr (lasts_wr (lasts_setF (lasts_setF h))))

theorem lasts_setSlot (h : Lasts s₀ s) {n x} : Lasts s₀ (s.setSlot n x) :=
  lasts_couShow (lasts_update h)

theorem lasts_putCopy (h : Lasts s₀ s) {o bs} : Lasts s₀ (s.putCopy o bs) :=
  lasts_update (lasts_putMeta h)

theorem lasts_hdrWrite (h : Lasts s₀ s) {n} : Lasts s₀ (s.hdrWrite n) :=
  lasts_putCopy (lasts_setSlot h)

theorem lasts_slotFreed (h : Lasts s₀ s) {n} : Lasts s₀ (s.slotFreed n) :=
  lasts_hdrWrite (lasts_setSlot h)

theorem lasts_capState (h : Lasts s₀ s) {v} : Lasts s₀ (s.capState v) := h

theorem lasts_couSync (h : Lasts s₀ s) : Lasts s₀ (s.couSync) := by
  unfold State.couSync
  dsimp only
  split
  · exact h
  · exact lasts_ite (lasts_capState (lasts_setSlot h)) h

theorem lasts_dumpRefuse (h : Lasts s₀ s) {code cutCode src} : Lasts s₀ (s.dumpRefuse code cutCode src) := h

theorem lasts_slotOpen (h : Lasts s₀ s) {n prof w kind src} : Lasts s₀ (s.slotOpen n prof w kind src) :=
  lasts_wr (lasts_wr (lasts_wr (lasts_capState (lasts_setF (lasts_setSlot (lasts_update h))))))

theorem lasts_slotUndo (h : Lasts s₀ s) {n} : Lasts s₀ (s.slotUndo n) :=
  lasts_capState (lasts_setSlot (lasts_update h))

theorem lasts_dumpOpened (h : Lasts s₀ s) {n t cutId src} : Lasts s₀ (s.dumpOpened n t cutId src) :=
  lasts_raise (lasts_hdrWrite (lasts_update (lasts_setSlot h)))

theorem lasts_chunkClose (h : Lasts s₀ s) : Lasts s₀ (s.chunkClose) := h

theorem lasts_capShow (h : Lasts s₀ s) {n} : Lasts s₀ (s.capShow n) := h

theorem lasts_addEntry (h : Lasts s₀ s) {e u} : Lasts s₀ (s.addEntry e u) := by
  unfold State.addEntry
  dsimp only
  split
  · exact h
  · exact lasts_ite (lasts_chunkClose (lasts_couShow (lasts_update h))) (lasts_couShow (lasts_update h))

theorem lasts_missedPages (h : Lasts s₀ s) : Lasts s₀ (s.missedPages) := by
  unfold State.missedPages
  dsimp only
  split
  · exact h
  · exact lasts_foldl (fun _ _ h1 => lasts_addEntry h1) h

theorem lasts_finalClose (h : Lasts s₀ s) : Lasts s₀ (s.finalClose) :=
  lasts_capState (lasts_chunkClose (lasts_update (lasts_missedPages h)))

theorem lasts_captureTail (h : Lasts s₀ s) : Lasts s₀ (s.captureTail) :=
  lasts_ite (lasts_ite (lasts_finalClose h) (lasts_capState h)) h

/-! ### Cut -/

theorem lasts_setCutState (h : Lasts s₀ s) {v} : Lasts s₀ (s.setCutState v) := h

theorem lasts_cutRefuse (h : Lasts s₀ s) {code src} : Lasts s₀ (s.cutRefuse code src).1 := h

theorem lasts_cutMerge (h : Lasts s₀ s) : Lasts s₀ (s.cutMerge).1 := h

theorem lasts_cutT (h : Lasts s₀ s) {t} : Lasts s₀ (s.cutT t) :=
  lasts_ite h (lasts_wr64 h)

theorem lasts_cutPlan (h : Lasts s₀ s) {kind src t clamped xdev st} : Lasts s₀ (s.cutPlan kind src t clamped xdev st) :=
  lasts_raise (lasts_update (lasts_takePlace (lasts_wr (lasts_cutT (lasts_setCutState (lasts_setF (lasts_setF (lasts_setF (lasts_setF (lasts_setF h))))))))))

theorem lasts_resumePlan (h : Lasts s₀ s) {src t clamped xdev} : Lasts s₀ (s.resumePlan src t clamped xdev) := h

theorem lasts_stopPlan (h : Lasts s₀ s) {src abs x st} : Lasts s₀ (s.stopPlan src abs x st).1 :=
  lasts_ite_fst (lasts_cutRefuse h) (lasts_cutPlan h)

theorem lasts_glancePlan (h : Lasts s₀ s) {src abs x} : Lasts s₀ (s.glancePlan src abs x).1 := by
  unfold State.glancePlan
  dsimp only
  exact lasts_ite_fst (lasts_cutRefuse h) (by
    split
    · exact lasts_ite_fst (lasts_dumpOpened (lasts_update (lasts_cutPlan (lasts_setSlot (lasts_slotOpen h))))) (lasts_cutRefuse (lasts_dumpRefuse h))
    · exact lasts_cutRefuse (lasts_dumpRefuse h))

theorem lasts_stopReq (h : Lasts s₀ s) {src abs x} : Lasts s₀ (s.stopReq src abs x).1 :=
  lasts_ite_fst (lasts_stopPlan h) (lasts_ite_fst (lasts_ite_fst (lasts_cutMerge h) (lasts_stopPlan h)) (lasts_ite_fst (lasts_stopPlan h) (lasts_ite_fst (lasts_ite_fst (lasts_cutMerge h) (lasts_stopPlan h)) (lasts_cutMerge h))))

theorem lasts_glanceReq (h : Lasts s₀ s) {src abs x} : Lasts s₀ (s.glanceReq src abs x).1 :=
  lasts_ite_fst (lasts_glancePlan h) (lasts_ite_fst (lasts_cutMerge h) (lasts_cutRefuse h))

theorem lasts_resumeReq (h : Lasts s₀ s) {src abs x} : Lasts s₀ (s.resumeReq src abs x).1 :=
  lasts_ite_fst (lasts_cutMerge h) (lasts_ite_fst (lasts_cutRefuse h) (lasts_ite_fst (lasts_cutRefuse h) (lasts_ite_fst (lasts_cutRefuse h) (lasts_ite_fst (lasts_cutRefuse h) (lasts_resumePlan h)))))

theorem lasts_uncaptShow (h : Lasts s₀ s) {id} : Lasts s₀ (s.uncaptShow id) :=
  lasts_ite (lasts_modC (lasts_wr h)) (lasts_wr h)

theorem lasts_recordBare (h : Lasts s₀ s) {pgs disp} : Lasts s₀ (s.recordBare pgs disp) := by
  unfold State.recordBare
  dsimp only
  split
  · exact h
  · exact lasts_foldl (fun _ _ h1 => lasts_foldl (fun _ _ h2 => lasts_addEntry h2) h1) h

theorem lasts_shadowHold (h : Lasts s₀ s) {id all} : Lasts s₀ (s.shadowHold id all) :=
  lasts_ite (lasts_update (lasts_modC h)) h

theorem lasts_shadowLoad (h : Lasts s₀ s) {id all} : Lasts s₀ (s.shadowLoad id all) :=
  lasts_uncaptShow (lasts_ite (lasts_recordBare (lasts_recordBare (lasts_shadowHold (lasts_ite h (lasts_unitRuns h))))) (lasts_update (lasts_recordBare (lasts_shadowHold (lasts_ite h (lasts_unitRuns h))))))

theorem lasts_heldApply (h : Lasts s₀ s) {w} : Lasts s₀ (s.heldApply w) :=
  lasts_ite (lasts_stackWrite h) (lasts_modC h)

theorem lasts_heldShow (h : Lasts s₀ s) : Lasts s₀ (s.heldShow) := h

theorem lasts_heldSettle (h : Lasts s₀ s) : Lasts s₀ (s.heldSettle) :=
  lasts_heldShow (lasts_foldl (fun _ _ h1 => lasts_heldApply h1) (lasts_update h))

theorem lasts_queueShow (h : Lasts s₀ s) : Lasts s₀ (s.queueShow) := h

theorem lasts_queuePut (h : Lasts s₀ s) {pg} : Lasts s₀ (s.queuePut pg) :=
  lasts_ite h (lasts_ite (lasts_ite h (lasts_update h)) (lasts_ite (lasts_queueShow (lasts_update (lasts_update h))) (lasts_queueShow (lasts_update (lasts_update h)))))

theorem lasts_queueDrop (h : Lasts s₀ s) {pg} : Lasts s₀ (s.queueDrop pg) :=
  lasts_queueShow (lasts_foldl (fun _ _ h1 => lasts_queuePut h1) (lasts_update h))

theorem lasts_captureCheck (h : Lasts s₀ s) : Lasts s₀ (s.captureCheck) := by
  unfold State.captureCheck
  dsimp only
  exact lasts_ite (by
    split
    · exact lasts_heldShow (lasts_update (lasts_ite (lasts_setCutState (lasts_raise h)) (lasts_ite (lasts_setCutState (lasts_raise h)) (lasts_raise h))))
    · exact lasts_captureTail (lasts_update (lasts_setSlot (lasts_heldShow (lasts_update (lasts_ite (lasts_setCutState (lasts_raise h)) (lasts_ite (lasts_setCutState (lasts_raise h)) (lasts_raise h)))))))) h

theorem lasts_abandon (h : Lasts s₀ s) : Lasts s₀ (s.abandon) := by
  unfold State.abandon
  dsimp only
  exact lasts_captureCheck (by
    split
    · exact lasts_setSlot (lasts_raise (lasts_setF (lasts_queueShow (lasts_heldSettle (lasts_wr (lasts_foldl (fun _ _ h1 => lasts_uncaptShow h1) (lasts_update (lasts_recordBare h))))))))
    · exact lasts_raise (lasts_setF (lasts_queueShow (lasts_heldSettle (lasts_wr (lasts_foldl (fun _ _ h1 => lasts_uncaptShow h1) (lasts_update (lasts_recordBare h))))))))

theorem lasts_abandonReq (h : Lasts s₀ s) : Lasts s₀ (s.abandonReq).1 :=
  lasts_ite_fst (lasts_abandon h) h

theorem lasts_cutDeal (h : Lasts s₀ s) {kind src abs x} : Lasts s₀ (s.cutDeal kind src abs x).1 := by
  unfold State.cutDeal
  split
  · exact lasts_stopReq h
  · exact lasts_glanceReq h
  · exact lasts_resumeReq h
  · exact lasts_abandonReq h

theorem lasts_modJob (h : Lasts s₀ s) {k id g} : Lasts s₀ (s.modJob k id g) := h

theorem lasts_dumpT (h : Lasts s₀ s) {k id old t} : Lasts s₀ (s.dumpT k id old t) := by
  unfold State.dumpT
  dsimp only
  split
  · exact h
  · exact lasts_ite (lasts_setSlot (lasts_update h)) (lasts_ite (lasts_setSlot h) h)

theorem lasts_jobIssue (h : Lasts s₀ s) {k id} : Lasts s₀ (s.jobIssue k id).1 := by
  unfold State.jobIssue
  dsimp only
  split
  · exact h
  · exact lasts_dumpT (lasts_modJob (lasts_send (lasts_takePlace (lasts_dropPlace (lasts_ite (lasts_wr64 (lasts_ite (lasts_setF h) h)) (lasts_cutT (lasts_ite (lasts_setF h) h)))))))

theorem lasts_deliver (h : Lasts s₀ s) {id n leaf m} : Lasts s₀ (s.deliver id n leaf m) :=
  lasts_ite (lasts_raiseC (lasts_modC h)) (lasts_modC h)

theorem lasts_actsReach (h : Lasts s₀ s) {id leaf} : Lasts s₀ (s.actsReach id leaf) := h

theorem lasts_shoot (h : Lasts s₀ s) {id} : Lasts s₀ (s.shoot id) := h

theorem lasts_cutOne (h : Lasts s₀ s) {a r} : Lasts s₀ (s.cutOne a r) :=
  lasts_ite (lasts_shadowLoad (lasts_ite (lasts_shoot (lasts_modJob (lasts_modC h))) (lasts_modJob (lasts_modC h)))) (lasts_ite (lasts_shoot (lasts_modJob (lasts_modC h))) (lasts_modJob (lasts_modC h)))

theorem lasts_mapMark (h : Lasts s₀ s) {a} : Lasts s₀ (s.mapMark a) :=
  lasts_ite (lasts_update h) h

theorem lasts_cutEdge (h : Lasts s₀ s) {reps} : Lasts s₀ (s.cutEdge reps) := by
  unfold State.cutEdge
  split
  · exact h
  · split
    · exact h
    · exact lasts_foldl (fun _ _ h1 => lasts_cutOne h1) (lasts_mapMark (lasts_couSync h))

theorem lasts_aggIn (h : Lasts s₀ s) {j p} : Lasts s₀ (s.aggIn j p) := h

theorem lasts_addAcks (h : Lasts s₀ s) {j p} : Lasts s₀ (s.addAcks j p) :=
  lasts_foldl (fun _ _ h1 => lasts_satAdd (lasts_satAdd h1)) (lasts_ite h (lasts_wr h))

theorem lasts_cutDone (h : Lasts s₀ s) {j} : Lasts s₀ (s.cutDone j) := by
  unfold State.cutDone
  extract_lets s1 c1 s2 c2 s3 s4
  have h3 : Lasts s₀ s3 := lasts_ite (lasts_update (lasts_update (lasts_raise h))) (lasts_update (lasts_raise h))
  exact lasts_captureCheck
    (lasts_ite h3 (lasts_ite (lasts_setCutState h3) (lasts_ite h3 (lasts_setCutState h3))))

theorem lasts_cutAggregate (h : Lasts s₀ s) {p} : Lasts s₀ (s.cutAggregate p) := by
  unfold State.cutAggregate
  dsimp only
  split
  · exact h
  · exact lasts_ite (lasts_ite (lasts_cutDone (lasts_aggIn (lasts_addAcks h))) (lasts_aggIn (lasts_addAcks h))) h

theorem lasts_cutTimeout (h : Lasts s₀ s) {id} : Lasts s₀ (s.cutTimeout id) := by
  unfold State.cutTimeout
  split
  · exact h
  · exact lasts_ite (lasts_spurFault (lasts_modJob h)) h

theorem lasts_resumeOne (h : Lasts s₀ s) {a r} : Lasts s₀ (s.resumeOne a r) :=
  lasts_modJob (lasts_update (lasts_ite (lasts_unitRuns (lasts_modC h)) (lasts_modC h)))

theorem lasts_resumeEdge (h : Lasts s₀ s) {reps} : Lasts s₀ (s.resumeEdge reps) := by
  unfold State.resumeEdge
  split
  · exact h
  · split
    · exact h
    · exact lasts_heldSettle (lasts_foldl (fun _ _ h1 => lasts_resumeOne h1) h)

theorem lasts_resumed (h : Lasts s₀ s) {j} : Lasts s₀ (s.resumed j) := by
  unfold State.resumed
  dsimp only
  split
  · exact lasts_wr64 (lasts_setCutState (lasts_heldShow (lasts_update (lasts_raise h))))
  · exact lasts_setCutState (lasts_heldShow (lasts_update (lasts_raise h)))

theorem lasts_releaseAggregate (h : Lasts s₀ s) {p} : Lasts s₀ (s.releaseAggregate p).1 := by
  unfold State.releaseAggregate
  dsimp only
  split
  · exact h
  · exact lasts_ite_fst (lasts_ite_fst (lasts_resumed (lasts_aggIn (lasts_addAcks h))) (lasts_aggIn (lasts_addAcks h))) h

theorem lasts_cutEnd (h : Lasts s₀ s) : Lasts s₀ (s.cutEnd) :=
  lasts_wr (lasts_queueShow (lasts_setF (lasts_dropPlace (lasts_foldl (fun _ _ h1 => lasts_uncaptShow h1) (lasts_update (lasts_setCutState h))))))

theorem lasts_xRefuse (h : Lasts s₀ s) {code} : Lasts s₀ (s.xRefuse code) := h

theorem lasts_xOut (h : Lasts s₀ s) {out} : Lasts s₀ (s.xOut out) := h

theorem lasts_xcutReceive (h : Lasts s₀ s) {kind t} : Lasts s₀ (s.xcutReceive kind t).1 :=
  lasts_ite_fst (lasts_ite_fst h (lasts_ite_fst (lasts_xRefuse (lasts_cutRefuse h)) (lasts_resumeReq h))) (lasts_ite_fst (lasts_xOut (lasts_xRefuse (lasts_cutRefuse h))) (lasts_ite_fst (lasts_xOut (lasts_xRefuse (lasts_cutRefuse h))) (lasts_ite_fst (lasts_xOut (lasts_xRefuse (lasts_cutDeal h))) (lasts_xOut (lasts_xRefuse (lasts_cutDeal h))))))

theorem lasts_xcutAnswer (h : Lasts s₀ s) {hub code} : Lasts s₀ (s.xcutAnswer hub code) :=
  lasts_ite (lasts_satAdd (lasts_update h)) (lasts_raise (lasts_satAdd (lasts_update h)))

/-! ### Stepping -/

theorem lasts_stepRefuse (h : Lasts s₀ s) {code src} : Lasts s₀ (s.stepRefuse code src).1 := h

theorem lasts_stepReq (h : Lasts s₀ s) {src abs trig} : Lasts s₀ (s.stepReq src abs trig).1 :=
  lasts_ite_fst (lasts_stepRefuse h) (lasts_ite_fst (lasts_stepRefuse h) (lasts_ite_fst (lasts_stepRefuse h) (lasts_raise (lasts_update (lasts_wr (lasts_wr (lasts_wr (lasts_takePlace (lasts_wr64 (lasts_setF (lasts_setF (lasts_setF (lasts_setF h)))))))))))))

theorem lasts_stepIssue (h : Lasts s₀ s) : Lasts s₀ (s.stepIssue).1 :=
  lasts_ite_fst (lasts_send (lasts_update (lasts_setF (lasts_takePlace (lasts_dropPlace (lasts_wr64 (lasts_ite (lasts_setF h) h))))))) h

theorem lasts_engineJudge (h : Lasts s₀ s) {id} : Lasts s₀ (s.engineJudge id) :=
  lasts_ite (lasts_update h) h

theorem lasts_stepLatch (h : Lasts s₀ s) {id} : Lasts s₀ (s.stepLatch id) :=
  lasts_update (lasts_ite (lasts_setF (lasts_modC (lasts_engineJudge h))) (lasts_modC (lasts_engineJudge h)))

theorem lasts_modUnit (h : Lasts s₀ s) {id g} : Lasts s₀ (s.modUnit id g) := h

theorem lasts_releaseOne (h : Lasts s₀ s) {id} : Lasts s₀ (s.releaseOne id) := by
  unfold State.releaseOne
  dsimp only
  split
  · exact h
  · exact lasts_ite h (lasts_modUnit (lasts_ite h (lasts_unitRuns (lasts_modC h))))

theorem lasts_stepRelease (h : Lasts s₀ s) {reps} : Lasts s₀ (s.stepRelease reps) := by
  unfold State.stepRelease
  dsimp only
  split
  · exact h
  · exact lasts_ite (lasts_heldSettle (lasts_foldl (fun _ _ h1 => lasts_modC (lasts_releaseOne h1)) (lasts_ite (lasts_setF h) h))) h

theorem lasts_closeIssue (h : Lasts s₀ s) : Lasts s₀ (s.closeIssue) :=
  lasts_send (lasts_wr64 (lasts_setF (lasts_update (lasts_takePlace h))))

theorem lasts_stepClose (h : Lasts s₀ s) {cause} : Lasts s₀ (s.stepClose cause) :=
  lasts_ite h (lasts_ite (lasts_update (lasts_setF h)) (lasts_closeIssue (lasts_setF h)))

theorem lasts_unitComplete (h : Lasts s₀ s) {id leaf} : Lasts s₀ (s.unitComplete id leaf) := by
  unfold State.unitComplete
  dsimp only
  split
  · exact h
  · exact lasts_modUnit (lasts_modC h)

theorem lasts_freezeOne (h : Lasts s₀ s) {leaf id} : Lasts s₀ (s.freezeOne leaf id) := by
  unfold State.freezeOne
  dsimp only
  split
  · exact h
  · exact lasts_ite h (lasts_modUnit (lasts_modC h))

theorem lasts_stepFreeze (h : Lasts s₀ s) {reps} : Lasts s₀ (s.stepFreeze reps) := by
  unfold State.stepFreeze
  dsimp only
  split
  · exact h
  · exact lasts_ite (lasts_foldl (fun _ _ h1 => lasts_modC (lasts_freezeOne h1)) h) h

theorem lasts_stepDeadline (h : Lasts s₀ s) : Lasts s₀ (s.stepDeadline) :=
  lasts_ite (lasts_setF (lasts_foldl (fun _ _ h1 => lasts_freezeOne h1) (lasts_update (lasts_ite (lasts_ite (lasts_setF h) h) (lasts_wr64 (lasts_ite (lasts_setF h) h)))))) h

theorem lasts_stepFinish (h : Lasts s₀ s) {cause} : Lasts s₀ (s.stepFinish cause) :=
  lasts_update (lasts_foldl (fun _ _ h1 => lasts_modC h1) (lasts_dropPlace (lasts_raise (lasts_setF (lasts_setF (lasts_setF (lasts_setF (lasts_setF h))))))))

theorem lasts_stepHalf (h : Lasts s₀ s) {half} : Lasts s₀ (s.stepHalf half) := by
  unfold State.stepHalf
  extract_lets us all s1
  have h1 : Lasts s₀ s1 := lasts_ite h (lasts_satAdd (lasts_satAdd h))
  exact lasts_ite (lasts_update h1) (lasts_update h1)

theorem lasts_stepAggregate (h : Lasts s₀ s) {p} : Lasts s₀ (s.stepAggregate p) :=
  lasts_ite h (lasts_ite (lasts_stepClose (lasts_foldl (fun _ _ h1 => lasts_stepHalf h1) h)) (lasts_foldl (fun _ _ h1 => lasts_stepHalf h1) h))

theorem lasts_freezeAggregate (h : Lasts s₀ s) {p} : Lasts s₀ (s.freezeAggregate p) :=
  lasts_ite (lasts_ite (lasts_stepFinish (lasts_update h)) (lasts_update h)) h

theorem lasts_stepTimeout (h : Lasts s₀ s) {id} : Lasts s₀ (s.stepTimeout id) :=
  lasts_ite (lasts_satAdd (lasts_modUnit (lasts_update h))) h

theorem lasts_stepEnd (h : Lasts s₀ s) : Lasts s₀ (s.stepEnd) := h

theorem lasts_cutReq (h : Lasts s₀ s) {kind src abs x} : Lasts s₀ (s.cutReq kind src abs x).1 :=
  lasts_ite_fst (lasts_stepClose (lasts_cutDeal h)) (lasts_cutDeal h)

theorem lasts_releaseIn (h : Lasts s₀ s) {p} : Lasts s₀ (s.releaseIn p) :=
  lasts_ite (lasts_ite (lasts_stepFinish (lasts_releaseAggregate h)) (lasts_stepFinish (lasts_wr64 (lasts_releaseAggregate h)))) (lasts_releaseAggregate h)

/-! ### Dump -/

theorem lasts_cutForDump (h : Lasts s₀ s) {kind src} : Lasts s₀ (s.cutForDump kind src).1 :=
  lasts_ite_fst (lasts_cutReq h) (lasts_ite_fst (lasts_ite_fst (lasts_cutRefuse h) (lasts_cutPlan h)) (lasts_ite_fst (lasts_cutMerge h) (lasts_cutRefuse h)))

theorem lasts_capBegin (h : Lasts s₀ s) {id} : Lasts s₀ (s.capBegin id) := h

theorem lasts_loadPlan (h : Lasts s₀ s) {n src} : Lasts s₀ (s.loadPlan n src).1 :=
  lasts_ite_fst (lasts_dumpRefuse (lasts_slotUndo h)) (lasts_dumpOpened (lasts_setSlot (lasts_update (lasts_capBegin (lasts_send (lasts_takePlace h))))))

theorem lasts_dumpReq (h : Lasts s₀ s) {src prof} : Lasts s₀ (s.dumpReq src prof).1 := by
  unfold State.dumpReq
  dsimp only
  split
  · exact lasts_dumpRefuse h
  · exact lasts_ite_fst (lasts_dumpRefuse h) (lasts_ite_fst (lasts_loadPlan (lasts_slotOpen h)) (lasts_ite_fst (lasts_dumpOpened (lasts_capBegin (lasts_cutForDump (lasts_slotOpen h)))) (lasts_dumpRefuse (lasts_slotUndo (lasts_cutForDump (lasts_slotOpen h))))))

theorem lasts_dumpNumbered (h : Lasts s₀ s) {id seq epoch} : Lasts s₀ (s.dumpNumbered id seq epoch) := by
  unfold State.dumpNumbered
  dsimp only
  split
  · exact lasts_ite (lasts_setSlot (lasts_update h)) (lasts_update h)
  · exact lasts_update h

theorem lasts_loadEdge (h : Lasts s₀ s) {reps} : Lasts s₀ (s.loadEdge reps) := by
  unfold State.loadEdge
  dsimp only
  split
  · exact h
  · split
    · exact h
    · exact lasts_captureCheck (lasts_ite (lasts_update (lasts_foldl (fun _ _ h1 => lasts_shadowLoad (lasts_update (lasts_shoot (lasts_modC h1)))) (lasts_couSync h))) (lasts_foldl (fun _ _ h1 => lasts_shadowLoad (lasts_update (lasts_shoot (lasts_modC h1)))) (lasts_couSync h)))

theorem lasts_setStaged (h : Lasts s₀ s) {p l} : Lasts s₀ (s.setStaged p l) :=
  lasts_setF (lasts_setF (lasts_ite (lasts_update h) (lasts_update h)))

theorem lasts_shadowDrain (h : Lasts s₀ s) {id} : Lasts s₀ (s.shadowDrain id) :=
  lasts_ite (lasts_captureCheck (lasts_setStaged (lasts_update (lasts_modC h)))) h

theorem lasts_stageLost (h : Lasts s₀ s) {p} : Lasts s₀ (s.stageLost p) := by
  unfold State.stageLost
  dsimp only
  exact lasts_captureTail (by
    split
    · exact lasts_ite (lasts_foldl (fun _ _ h1 => lasts_addEntry h1) (lasts_update (lasts_ite (lasts_update h) (lasts_update h)))) (lasts_setSlot (lasts_foldl (fun _ _ h1 => lasts_addEntry h1) (lasts_update (lasts_ite (lasts_update h) (lasts_update h)))))
    · exact lasts_foldl (fun _ _ h1 => lasts_addEntry h1) (lasts_update (lasts_ite (lasts_update h) (lasts_update h))))

theorem lasts_divertFull (h : Lasts s₀ s) : Lasts s₀ (s.divertFull) := by
  unfold State.divertFull
  dsimp only
  exact lasts_ite h (lasts_ite (lasts_abandon (lasts_raise h)) (lasts_ite (lasts_stepClose (lasts_setCutState (lasts_heldShow (lasts_update (lasts_raise h))))) (lasts_setCutState (by
    split
    · exact lasts_setSlot (lasts_ite (lasts_heldShow (lasts_update (lasts_raise h))) (lasts_stopPlan (lasts_heldShow (lasts_update (lasts_raise h)))))
    · exact lasts_ite (lasts_heldShow (lasts_update (lasts_raise h))) (lasts_stopPlan (lasts_heldShow (lasts_update (lasts_raise h))))))))

theorem lasts_divertWrite (h : Lasts s₀ s) {pg addr bytes} : Lasts s₀ (s.divertWrite pg addr bytes) :=
  lasts_ite (lasts_heldShow (lasts_queuePut (lasts_modC (lasts_satAddR (lasts_update h))))) (lasts_divertFull (lasts_heldShow (lasts_queuePut (lasts_modC (lasts_satAddR (lasts_update h))))))

theorem lasts_copyDone (h : Lasts s₀ s) {pg} : Lasts s₀ (s.copyDone pg) :=
  lasts_captureCheck (lasts_ite (lasts_divertFull (lasts_heldSettle (lasts_queueDrop (lasts_uncaptShow (lasts_update h))))) (lasts_heldSettle (lasts_queueDrop (lasts_uncaptShow (lasts_update h)))))

theorem lasts_noBlock (h : Lasts s₀ s) : Lasts s₀ (s.noBlock) :=
  lasts_ite (lasts_ite h (lasts_raise (lasts_capState (lasts_update h)))) (lasts_divertFull h)

theorem lasts_pageStore (h : Lasts s₀ s) {n ord raw cen memUc} : Lasts s₀ (s.pageStore n ord raw cen memUc) :=
  lasts_captureCheck (lasts_captureTail (lasts_ite (lasts_capState (lasts_update (lasts_addEntry (lasts_ite (lasts_update (lasts_setStaged (lasts_ite h (lasts_putBytes h)))) (lasts_ite h (lasts_putBytes h)))))) (lasts_addEntry (lasts_ite (lasts_update (lasts_setStaged (lasts_ite h (lasts_putBytes h)))) (lasts_ite h (lasts_putBytes h))))))

theorem lasts_commitEntries (h : Lasts s₀ s) {n c} : Lasts s₀ (s.commitEntries n c) :=
  lasts_foldl (fun _ _ h1 => lasts_ite (lasts_putMeta (lasts_putMeta h1)) (lasts_putMeta h1)) (lasts_ite (lasts_foldl (fun _ _ h1 => lasts_putMeta h1) (lasts_foldl (fun _ _ h1 => lasts_putMeta h1) h)) (lasts_foldl (fun _ _ h1 => lasts_putMeta h1) h))

theorem lasts_setRef (h : Lasts s₀ s) {n} : Lasts s₀ (s.setRef n) := by
  unfold State.setRef
  extract_lets x old bank s1 c s2 body s3 s4 s5 lo
  have h5 : Lasts s₀ s5 :=
    lasts_raise (lasts_setSlot (lasts_putCopy (lasts_update (lasts_wr64 (lasts_setF (lasts_setF h))))))
  exact lasts_mem h5 fun hm => smWf_smKeep _ hm

theorem lasts_drainStart (h : Lasts s₀ s) {n} : Lasts s₀ (s.drainStart n) :=
  lasts_ite h (lasts_raise (lasts_setF (lasts_setF (lasts_wr (lasts_update h)))))

theorem lasts_drainEnd (h : Lasts s₀ s) {cause} : Lasts s₀ (s.drainEnd cause) := by
  unfold State.drainEnd
  dsimp only
  split
  · exact h
  · exact lasts_raise (lasts_setF (lasts_setF (lasts_setF (lasts_update h))))

theorem lasts_closedEvent (h : Lasts s₀ s) {n} : Lasts s₀ (s.closedEvent n) := h

theorem lasts_dumpClose (h : Lasts s₀ s) {n} : Lasts s₀ (s.dumpClose n) :=
  lasts_ite (lasts_drainStart (lasts_ite (lasts_cutReq (lasts_closedEvent (lasts_hdrWrite (lasts_capState (lasts_setSlot (lasts_update (lasts_ite (lasts_setRef h) h))))))) (lasts_closedEvent (lasts_hdrWrite (lasts_capState (lasts_setSlot (lasts_update (lasts_ite (lasts_setRef h) h)))))))) (lasts_ite (lasts_cutReq (lasts_closedEvent (lasts_hdrWrite (lasts_capState (lasts_setSlot (lasts_update (lasts_ite (lasts_setRef h) h))))))) (lasts_closedEvent (lasts_hdrWrite (lasts_capState (lasts_setSlot (lasts_update (lasts_ite (lasts_setRef h) h)))))))

theorem lasts_commitStep (h : Lasts s₀ s) : Lasts s₀ (s.commitStep) := by
  unfold State.commitStep
  dsimp only
  split
  · exact lasts_ite (lasts_update h) (lasts_ite (lasts_commitEntries (lasts_update h)) (lasts_ite (lasts_putMeta (lasts_update h)) (lasts_ite (lasts_dumpClose (lasts_wr (lasts_hdrWrite (lasts_capShow (lasts_setSlot (lasts_update (lasts_update h))))))) (lasts_wr (lasts_hdrWrite (lasts_capShow (lasts_setSlot (lasts_update (lasts_update h)))))))))
  · exact h

theorem lasts_chunkTimer (h : Lasts s₀ s) : Lasts s₀ (s.chunkTimer) := by
  unfold State.chunkTimer
  split
  · exact lasts_ite (lasts_chunkClose h) h
  · exact h

theorem lasts_linkRecord (h : Lasts s₀ s) {blk dev peer rx} : Lasts s₀ (s.linkRecord blk dev peer rx) :=
  lasts_captureTail (lasts_update h)

theorem lasts_linkTimeout (h : Lasts s₀ s) {blk} : Lasts s₀ (s.linkTimeout blk) :=
  lasts_captureTail (lasts_update h)

theorem lasts_releaseTo (h : Lasts s₀ s) {n k} : Lasts s₀ (s.releaseTo n k) :=
  lasts_ite (lasts_capState (lasts_update (lasts_hdrWrite (lasts_setSlot h)))) (lasts_hdrWrite (lasts_setSlot h))

theorem lasts_couRelease (h : Lasts s₀ s) {m v} : Lasts s₀ (s.couRelease m v) :=
  lasts_ite (lasts_raise h) (lasts_raise (lasts_ite h (lasts_releaseTo h)))

theorem lasts_slotFree (h : Lasts s₀ s) {n} : Lasts s₀ (s.slotFree n) :=
  lasts_ite (lasts_slotFreed (lasts_zeroManifest h)) h

theorem lasts_drainAck (h : Lasts s₀ s) {k} : Lasts s₀ (s.drainAck k) := by
  unfold State.drainAck
  dsimp only
  split
  · exact h
  · exact lasts_ite h (lasts_ite (lasts_drainEnd (lasts_ite (lasts_raise (lasts_releaseTo (lasts_setSlot h))) (lasts_hdrWrite (lasts_setSlot h)))) (lasts_ite (lasts_raise (lasts_releaseTo (lasts_setSlot h))) (lasts_hdrWrite (lasts_setSlot h))))

theorem lasts_couEnable (h : Lasts s₀ s) : Lasts s₀ (s.couEnable) := by
  unfold State.couEnable
  dsimp only
  exact lasts_couShow (lasts_setF (lasts_setF (lasts_zeroMeta (lasts_update (lasts_setF (lasts_setF h))))))

theorem lasts_initDone (h : Lasts s₀ s) : Lasts s₀ (s.initDone) := h

theorem lasts_couAbort (h : Lasts s₀ s) : Lasts s₀ (s.couAbort) := by
  unfold State.couAbort
  dsimp only
  split
  · exact lasts_couSync h
  · exact lasts_ite (lasts_ite (lasts_setSlot (lasts_couSync h)) (lasts_abandon (lasts_setSlot (lasts_couSync h)))) (lasts_couSync h)

theorem lasts_couCtrl (h : Lasts s₀ s) {v rights} : Lasts s₀ (s.couCtrl v rights) := by
  unfold State.couCtrl
  dsimp only
  exact lasts_ite h (lasts_ite (lasts_couAbort (lasts_ite (lasts_wr (lasts_ite (lasts_couEnable (lasts_setF (lasts_setF (lasts_setF h)))) (lasts_ite (lasts_couShow (lasts_setF (lasts_setF (lasts_setF (lasts_setF h))))) (lasts_setF (lasts_setF (lasts_setF h)))))) (lasts_ite (lasts_couEnable (lasts_setF (lasts_setF (lasts_setF h)))) (lasts_ite (lasts_couShow (lasts_setF (lasts_setF (lasts_setF (lasts_setF h))))) (lasts_setF (lasts_setF (lasts_setF h))))))) (lasts_ite (lasts_wr (lasts_ite (lasts_couEnable (lasts_setF (lasts_setF (lasts_setF h)))) (lasts_ite (lasts_couShow (lasts_setF (lasts_setF (lasts_setF (lasts_setF h))))) (lasts_setF (lasts_setF (lasts_setF h)))))) (lasts_ite (lasts_couEnable (lasts_setF (lasts_setF (lasts_setF h)))) (lasts_ite (lasts_couShow (lasts_setF (lasts_setF (lasts_setF (lasts_setF h))))) (lasts_setF (lasts_setF (lasts_setF h)))))))

theorem lasts_drainCtrl (h : Lasts s₀ s) {v} : Lasts s₀ (s.drainCtrl v) :=
  lasts_ite (lasts_drainEnd (lasts_ite (lasts_drainStart (lasts_setF (lasts_setF h))) (lasts_setF (lasts_setF h)))) (lasts_ite (lasts_drainStart (lasts_setF (lasts_setF h))) (lasts_setF (lasts_setF h)))

theorem lasts_dumpDrop (h : Lasts s₀ s) : Lasts s₀ (s.dumpDrop) := by
  unfold State.dumpDrop
  dsimp only
  split
  · exact h
  · exact lasts_capState (lasts_setStaged (lasts_setStaged (lasts_update h)))

theorem lasts_slotCut (h : Lasts s₀ s) {n} : Lasts s₀ (s.slotCut n) :=
  lasts_ite (lasts_ite (lasts_slotFreed (lasts_closedEvent (lasts_setSlot h))) (lasts_closedEvent (lasts_hdrWrite (lasts_setSlot h)))) h

theorem lasts_dumpTruncate (h : Lasts s₀ s) : Lasts s₀ (s.dumpTruncate) := by
  unfold State.dumpTruncate
  dsimp only
  split
  · exact lasts_couSync h
  · exact lasts_slotCut (lasts_dumpDrop (lasts_couSync h))

theorem lasts_slotBad (h : Lasts s₀ s) {n} : Lasts s₀ (s.slotBad n) :=
  lasts_slotFreed (lasts_zeroManifest (lasts_ite (lasts_dumpDrop (lasts_ite (lasts_drainEnd h) h)) (lasts_ite (lasts_drainEnd h) h)))

theorem lasts_slotRead (h : Lasts s₀ s) {n} : Lasts s₀ (s.slotRead n) := by
  unfold State.slotRead
  split
  · exact lasts_setSlot h
  · exact lasts_ite (lasts_setSlot h) (lasts_slotBad (lasts_hubFault h))

theorem lasts_refRead (h : Lasts s₀ s) : Lasts s₀ (s.refRead) := by
  unfold State.refRead
  dsimp only
  split
  · exact lasts_setF h
  · exact lasts_wr64 (lasts_setF (lasts_setF h))

theorem lasts_couRebuild (h : Lasts s₀ s) : Lasts s₀ (s.couRebuild) := by
  unfold State.couRebuild
  dsimp only
  exact lasts_couShow (lasts_foldl (fun _ _ h1 => lasts_slotCut h1) (lasts_ite (lasts_refRead (lasts_foldl (fun _ _ h1 => lasts_slotRead h1) (lasts_dumpDrop h))) (lasts_dumpDrop h)))

theorem lasts_copyUc (h : Lasts s₀ s) {o} : Lasts s₀ (s.copyUc o) := by
  unfold State.copyUc
  dsimp only
  split
  · exact lasts_ite (lasts_slotBad (lasts_hubFault (lasts_update h))) (lasts_update h)
  · exact lasts_ite (lasts_setF (lasts_update h)) (lasts_update h)

/-! ### Views -/

theorem lasts_setViewByte (h : Lasts s₀ s) {id sp a b} : Lasts s₀ (s.setViewByte id sp a b) :=
  lasts_ite (lasts_mem h fun hm => smWf_smSet _ _ hm) (lasts_modC h)

theorem lasts_setViewWord (h : Lasts s₀ s) {id sp a v} : Lasts s₀ (s.setViewWord id sp a v) :=
  lasts_foldl (fun _ _ h1 => lasts_setViewByte h1) h

theorem lasts_spaceRead (h : Lasts s₀ s) {id sp a sec} : Lasts s₀ (s.spaceRead id sp a sec).1 := by
  unfold State.spaceRead
  dsimp only
  exact lasts_ite_fst h (lasts_ite_fst h (lasts_ite_fst h (lasts_ite_fst (by
    split
    · exact lasts_latentFault h
    · exact h) (lasts_ite_fst (lasts_takeFree h) h))))

theorem lasts_deposited (h : Lasts s₀ s) {id who sp a leaf} : Lasts s₀ (s.deposited id who sp a leaf) :=
  lasts_ite h (lasts_raiseC (lasts_modC h))

theorem lasts_spaceWrite (h : Lasts s₀ s) {id sp a v who leaf sec} : Lasts s₀ (s.spaceWrite id sp a v who leaf sec).1 := by
  unfold State.spaceWrite
  dsimp only
  exact lasts_ite_fst h (lasts_ite_fst h (lasts_ite_fst h (lasts_ite_fst h (lasts_ite_fst h (lasts_ite_fst h (lasts_ite_fst (by
    split
    · exact lasts_queuePut h
    · exact h) (lasts_deposited (lasts_setViewWord h))))))))

theorem lasts_summaryRead (h : Lasts s₀ s) {id o sec} : Lasts s₀ (s.summaryRead id o sec).1 :=
  lasts_ite_fst h (lasts_ite_fst (lasts_takeFree h) h)

theorem lasts_summaryWrite (h : Lasts s₀ s) {id o v who leaf sec} : Lasts s₀ (s.summaryWrite id o v who leaf sec).1 :=
  lasts_ite_fst h (lasts_ite_fst h (lasts_ite_fst h (lasts_deposited (lasts_modC h))))

theorem lasts_viewStat (h : Lasts s₀ s) {m id res live} : Lasts s₀ (s.viewStat m id res live) := h

theorem lasts_viewRead (h : Lasts s₀ s) {m id o} : Lasts s₀ (s.viewRead m id o).1 :=
  lasts_ite_fst (lasts_viewStat (lasts_summaryRead h)) (lasts_viewStat (lasts_spaceRead h))

theorem lasts_viewWrite (h : Lasts s₀ s) {m id o v} : Lasts s₀ (s.viewWrite m id o v) :=
  lasts_viewStat (lasts_ite_fst (lasts_summaryWrite h) (lasts_spaceWrite h))

/-! ### Spares -/

theorem lasts_posShow (h : Lasts s₀ s) {id} : Lasts s₀ (s.posShow id) :=
  lasts_ite h (lasts_modC h)

theorem lasts_setPm (h : Lasts s₀ s) {a v} : Lasts s₀ (s.setPm a v) := h

theorem lasts_putPm (h : Lasts s₀ s) {a bs} : Lasts s₀ (s.putPm a bs) :=
  lasts_foldl (fun _ _ h1 => lasts_setPm h1) h

/-! ### Census -/

theorem lasts_cenShow (h : Lasts s₀ s) : Lasts s₀ (s.cenShow) :=
  lasts_foldl (fun _ _ h1 => lasts_setF h1) (lasts_setF (lasts_setF (lasts_setF (lasts_setF h))))

theorem lasts_setJobs (h : Lasts s₀ s) {l} : Lasts s₀ (s.setJobs l) :=
  lasts_cenShow (lasts_update h)

theorem lasts_modJobs (h : Lasts s₀ s) {id g} : Lasts s₀ (s.modJobs id g) := lasts_setJobs h

theorem lasts_makeRoom (h : Lasts s₀ s) {src} : Lasts s₀ (s.makeRoom src) := by
  unfold State.makeRoom
  dsimp only
  exact lasts_ite h (by
    split
    · exact lasts_setJobs h
    · exact h)

theorem lasts_raiseJob (h : Lasts s₀ s) {id n data} : Lasts s₀ (s.raiseJob id n data) :=
  lasts_ite (lasts_raiseSpur h) (lasts_raiseC h)

theorem lasts_jobEnd (h : Lasts s₀ s) {j status reason summary count keep verdict} : Lasts s₀ (s.jobEnd j status reason summary count keep verdict) :=
  lasts_ite (lasts_update (lasts_ite (lasts_setF (lasts_setF (lasts_setF (lasts_bump (lasts_modJobs (lasts_putPm h)))))) (lasts_bump (lasts_modJobs (lasts_putPm h))))) (lasts_raiseJob (lasts_ite (lasts_setF (lasts_setF (lasts_setF (lasts_bump (lasts_modJobs (lasts_putPm h)))))) (lasts_bump (lasts_modJobs (lasts_putPm h)))))

theorem lasts_setBusy (h : Lasts s₀ s) {id b} : Lasts s₀ (s.setBusy id b) :=
  lasts_ite (lasts_modC h) h

theorem lasts_jobReq (h : Lasts s₀ s) {echo src rights a} : Lasts s₀ (s.jobReq echo src rights a).1 := by
  unfold State.jobReq
  dsimp only
  exact lasts_ite_fst h (by
    split
    · exact lasts_setBusy (lasts_setBusy (lasts_putPm (lasts_setJobs (lasts_update (lasts_makeRoom h)))))
    · exact lasts_putPm (lasts_setJobs (lasts_update (lasts_makeRoom h))))

theorem lasts_latent (h : Lasts s₀ s) {a n} : Lasts s₀ (s.latent a n) :=
  lasts_foldl (fun _ _ h1 => lasts_latentFault h1) h

theorem lasts_addBytes (h : Lasts s₀ s) {n} : Lasts s₀ (s.addBytes n) := h

theorem lasts_readRegion (h : Lasts s₀ s) {d r} : Lasts s₀ (s.readRegion d r) := by
  unfold State.readRegion
  dsimp only
  split
  · exact h
  · exact lasts_addBytes (lasts_latent h)

theorem lasts_censusDone (h : Lasts s₀ s) {id sec} : Lasts s₀ (s.censusDone id sec) := by
  unfold State.censusDone
  dsimp only
  split
  · exact h
  · exact lasts_ite h (lasts_jobEnd (lasts_putPm (lasts_foldl (fun _ _ h1 => lasts_readRegion h1) h)))

theorem lasts_jobAbort (h : Lasts s₀ s) {j reason keep} : Lasts s₀ (s.jobAbort j reason keep) := by
  unfold State.jobAbort
  dsimp only
  split
  · exact lasts_jobEnd h
  · exact lasts_jobEnd (lasts_satAdd (lasts_putPm (lasts_setBusy (lasts_setBusy h))))

theorem lasts_abortJobs (h : Lasts s₀ s) {p reason keep} : Lasts s₀ (s.abortJobs p reason keep) :=
  lasts_foldl (fun _ _ h1 => lasts_jobAbort h1) h

theorem lasts_masterAbort (h : Lasts s₀ s) {echo id} : Lasts s₀ (s.masterAbort echo id) :=
  lasts_abortJobs h

theorem lasts_echoTargetLost (h : Lasts s₀ s) {id} : Lasts s₀ (s.echoTargetLost id) :=
  lasts_abortJobs h

theorem lasts_echoSpareLost (h : Lasts s₀ s) {id} : Lasts s₀ (s.echoSpareLost id) :=
  lasts_abortJobs h

theorem lasts_echoPreempt (h : Lasts s₀ s) {id} : Lasts s₀ (s.echoPreempt id) :=
  lasts_abortJobs h

theorem lasts_modEcho (h : Lasts s₀ s) {id g} : Lasts s₀ (s.modEcho id g) := lasts_modJobs h

theorem lasts_echoIssue (h : Lasts s₀ s) {id leaf relaxed int32} : Lasts s₀ (s.echoIssue id leaf relaxed int32) := by
  unfold State.echoIssue
  dsimp only
  split
  · exact h
  · split
    · exact h
    · exact lasts_ite h (lasts_ite (lasts_modEcho (lasts_unitRuns h)) (lasts_modEcho (lasts_unitRuns h)))

theorem lasts_echoCaptured (h : Lasts s₀ s) {id leaf out} : Lasts s₀ (s.echoCaptured id leaf out) := by
  unfold State.echoCaptured
  dsimp only
  split
  · exact h
  · split
    · exact h
    · exact lasts_ite h (lasts_raiseC (lasts_modEcho (lasts_modC h)))

theorem lasts_echoWrite (h : Lasts s₀ s) {id off bytes} : Lasts s₀ (s.echoWrite id off bytes) := by
  unfold State.echoWrite
  dsimp only
  split
  · exact h
  · split
    · exact h
    · exact lasts_ite h (lasts_ite (lasts_jobAbort (lasts_modC h)) (lasts_modEcho (lasts_modC h)))

theorem lasts_echoReplayed (h : Lasts s₀ s) {id spare out} : Lasts s₀ (s.echoReplayed id spare out) := by
  unfold State.echoReplayed
  dsimp only
  split
  · exact h
  · split
    · exact h
    · exact lasts_ite h (lasts_modEcho (lasts_modC (lasts_unitRuns h)))

theorem lasts_countVerdict (h : Lasts s₀ s) {v} : Lasts s₀ (s.countVerdict v) := by
  unfold State.countVerdict
  split <;> exact lasts_satAdd h

theorem lasts_echoCompared (h : Lasts s₀ s) {id} : Lasts s₀ (s.echoCompared id) := by
  unfold State.echoCompared
  dsimp only
  split
  · exact h
  · split
    · exact h
    · split
      · exact h
      · exact lasts_ite h (lasts_ite (lasts_ite (lasts_cairnFault (lasts_jobEnd (lasts_countVerdict (lasts_putPm (lasts_setBusy (lasts_setBusy h)))))) (lasts_ite (lasts_cairnFault (lasts_jobEnd (lasts_countVerdict (lasts_putPm (lasts_setBusy (lasts_setBusy h)))))) (lasts_ite (lasts_cairnFault (lasts_jobEnd (lasts_countVerdict (lasts_putPm (lasts_setBusy (lasts_setBusy h)))))) (lasts_jobEnd (lasts_countVerdict (lasts_putPm (lasts_setBusy (lasts_setBusy h)))))))) (lasts_jobEnd (lasts_countVerdict (lasts_putPm (lasts_setBusy (lasts_setBusy h))))))

theorem lasts_echoTimeout (h : Lasts s₀ s) {id} : Lasts s₀ (s.echoTimeout id) :=
  lasts_abortJobs h

theorem lasts_echoHold (h : Lasts s₀ s) {n} : Lasts s₀ (s.echoHold n) := h

theorem lasts_deferRaise (h : Lasts s₀ s) : Lasts s₀ (s.deferRaise) :=
  lasts_foldl (fun _ _ h1 => lasts_raiseJob h1) (lasts_update h)

theorem lasts_cenDrop (h : Lasts s₀ s) : Lasts s₀ (s.cenDrop) := by
  unfold State.cenDrop
  dsimp only
  exact lasts_cenShow (lasts_update (lasts_foldl (fun _ _ h1 => by
    split
    · exact lasts_setBusy (lasts_setBusy h1)
    · exact h1) h))

/-! ### Watch -/

theorem lasts_coreBit (h : Lasts s₀ s) {f core b} : Lasts s₀ (s.coreBit f core b) := h

theorem lasts_lagBlock (h : Lasts s₀ s) {core opTk lags mixed} : Lasts s₀ (s.lagBlock core opTk lags mixed) := h

theorem lasts_lagReset (h : Lasts s₀ s) : Lasts s₀ (s.lagReset) := h

theorem lasts_remapBegin (h : Lasts s₀ s) {core pos src dst cause seq} : Lasts s₀ (s.remapBegin core pos src dst cause seq) :=
  lasts_coreBit (lasts_update (lasts_echoPreempt h))

theorem lasts_remapReq (h : Lasts s₀ s) {array field cause seq} : Lasts s₀ (s.remapReq array field cause seq).1 := by
  unfold State.remapReq
  dsimp only
  split
  · exact h
  · exact lasts_ite_fst h (lasts_ite_fst h (lasts_ite_fst (by
    split
    · exact lasts_remapBegin h
    · exact h) (lasts_ite_fst (lasts_remapBegin h) h)))

theorem lasts_unmapReq (h : Lasts s₀ s) {id} : Lasts s₀ (s.unmapReq id).1 := by
  unfold State.unmapReq
  dsimp only
  split
  · exact h
  · exact lasts_ite_fst h (lasts_ite_fst h (lasts_ite_fst h (lasts_remapBegin h)))

theorem lasts_modRemap (h : Lasts s₀ s) {core g} : Lasts s₀ (s.modRemap core g) := h

theorem lasts_mapChange (h : Lasts s₀ s) {r} : Lasts s₀ (s.mapChange r) :=
  lasts_echoTargetLost (lasts_posShow (lasts_posShow (lasts_update h)))

theorem lasts_copyArray (h : Lasts s₀ s) {src dst} : Lasts s₀ (s.copyArray src dst) := h

theorem lasts_remapBoundary (h : Lasts s₀ s) {core} : Lasts s₀ (s.remapBoundary core) := by
  unfold State.remapBoundary
  split
  · exact h
  · exact lasts_ite h (lasts_modRemap (lasts_mapChange (lasts_copyArray h)))

theorem lasts_remapDrop (h : Lasts s₀ s) {core} : Lasts s₀ (s.remapDrop core) := h

theorem lasts_remapRaise (h : Lasts s₀ s) {r} : Lasts s₀ (s.remapRaise r) :=
  lasts_ite (lasts_raiseSpur (lasts_ite (lasts_update (lasts_ite (lasts_satAdd (lasts_remapDrop h)) (lasts_satAdd (lasts_remapDrop h)))) (lasts_ite (lasts_satAdd (lasts_remapDrop h)) (lasts_satAdd (lasts_remapDrop h))))) (lasts_raiseC (lasts_ite (lasts_update (lasts_ite (lasts_satAdd (lasts_remapDrop h)) (lasts_satAdd (lasts_remapDrop h)))) (lasts_ite (lasts_satAdd (lasts_remapDrop h)) (lasts_satAdd (lasts_remapDrop h)))))

theorem lasts_gateOpen (h : Lasts s₀ s) {core} : Lasts s₀ (s.gateOpen core) := by
  unfold State.gateOpen
  split
  · exact h
  · exact lasts_ite h (lasts_remapRaise h)

theorem lasts_remapAtWake (h : Lasts s₀ s) {core} : Lasts s₀ (s.remapAtWake core) := by
  unfold State.remapAtWake
  dsimp only
  split
  · exact h
  · exact lasts_remapRaise (lasts_ite h (lasts_mapChange h))

theorem lasts_setVf (h : Lasts s₀ s) {id v} : Lasts s₀ (s.setVf id v) := h

theorem lasts_droopEnter (h : Lasts s₀ s) {id kind mv mhz} : Lasts s₀ (s.droopEnter id kind mv mhz) := by
  unfold State.droopEnter
  dsimp only
  exact lasts_ite h (lasts_setVf (by
    split
    · exact lasts_ite (lasts_raiseC (lasts_raiseC h)) (lasts_raiseC h)
    · exact lasts_raiseC h))

theorem lasts_droopExit (h : Lasts s₀ s) {id stretched bubbles} : Lasts s₀ (s.droopExit id stretched bubbles) :=
  lasts_ite h (lasts_setVf (lasts_raiseC h))

theorem lasts_vfReq (h : Lasts s₀ s) {id kind target} : Lasts s₀ (s.vfReq id kind target) := by
  unfold State.vfReq
  dsimp only
  split
  · exact lasts_setVf (lasts_raiseC (lasts_raiseC h))
  · exact lasts_ite (lasts_setVf (lasts_raiseC h)) (lasts_setVf (lasts_raiseC (lasts_raiseC h)))

theorem lasts_vfStart (h : Lasts s₀ s) {id} : Lasts s₀ (s.vfStart id) := by
  unfold State.vfStart
  dsimp only
  split
  · exact h
  · exact lasts_ite (lasts_setVf h) h

theorem lasts_vfDone (h : Lasts s₀ s) {id} : Lasts s₀ (s.vfDone id) := by
  unfold State.vfDone
  dsimp only
  split
  · exact h
  · exact lasts_raiseC (lasts_modC (lasts_setVf h))

theorem lasts_pmInterval (h : Lasts s₀ s) {id est meas limit} : Lasts s₀ (s.pmInterval id est meas limit) :=
  lasts_ite (lasts_setVf h) (lasts_ite h (lasts_ite (lasts_setVf h) (lasts_raiseC (lasts_cairnFault (lasts_wr (lasts_setVf h))))))

theorem lasts_vfWarm (h : Lasts s₀ s) : Lasts s₀ (s.vfWarm) := h

theorem lasts_setDisp (h : Lasts s₀ s) {id d} : Lasts s₀ (s.setDisp id d) := h

theorem lasts_dispCase (h : Lasts s₀ s) {id case_ tag expert} : Lasts s₀ (s.dispCase id case_ tag expert) := by
  unfold State.dispCase
  dsimp only
  split
  · exact lasts_setDisp h
  · exact lasts_setDisp h
  · exact lasts_setDisp h
  · exact lasts_setDisp h
  · split
    · exact lasts_raiseC (lasts_setDisp h)
    · exact lasts_setDisp h

theorem lasts_dispSummary (h : Lasts s₀ s) {id} : Lasts s₀ (s.dispSummary id) :=
  lasts_ite h (lasts_ite (lasts_raiseC (lasts_setDisp h)) (lasts_setDisp h))

theorem lasts_batchCancel (h : Lasts s₀ s) {id old new tenant ctx} : Lasts s₀ (s.batchCancel id old new tenant ctx) :=
  lasts_raiseC (lasts_setDisp h)

theorem lasts_wchCount (h : Lasts s₀ s) {e} : Lasts s₀ (s.wchCount e) := by
  unfold State.wchCount
  dsimp only
  split
  · exact lasts_wr (lasts_wr (lasts_wr (lasts_wr (lasts_wr h))))
  · exact lasts_bump h
  · exact lasts_satAddR h
  · exact lasts_bump h
  · exact h

theorem lasts_watchHold (h : Lasts s₀ s) {n} : Lasts s₀ (s.watchHold n) := h

/-! ### Faults -/

theorem lasts_svcUpdate (h : Lasts s₀ s) : Lasts s₀ (s.svcUpdate) :=
  lasts_ite (lasts_setF (lasts_setF h)) (lasts_raise (lasts_setF (lasts_wr (lasts_setF (lasts_setF h)))))

theorem lasts_svcPersist (h : Lasts s₀ s) {b} : Lasts s₀ (s.svcPersist b) :=
  lasts_ite h (lasts_raise (lasts_setF (lasts_setF h)))

theorem lasts_setFence (h : Lasts s₀ s) {id r} : Lasts s₀ (s.setFence id r) := h

theorem lasts_fenceMark (h : Lasts s₀ s) {id lead cause causeSeq engine} : Lasts s₀ (s.fenceMark id lead cause causeSeq engine) := h

theorem lasts_fenceEvent (h : Lasts s₀ s) {id} : Lasts s₀ (s.fenceEvent id) := h

theorem lasts_fenceRefuse (h : Lasts s₀ s) {id src fromFault} : Lasts s₀ (s.fenceRefuse id src fromFault) :=
  lasts_ite (lasts_hubFault (lasts_raise h)) (lasts_raise h)

theorem lasts_fenceReq (h : Lasts s₀ s) {id cause causeSeq src} : Lasts s₀ (s.fenceReq id cause causeSeq src).1 :=
  lasts_ite_fst (lasts_fenceEvent (lasts_fenceMark h)) (lasts_ite_fst (lasts_fenceRefuse h) h)

theorem lasts_remapCancel (h : Lasts s₀ s) {r why} : Lasts s₀ (s.remapCancel r why) :=
  lasts_ite (lasts_raiseSpur (lasts_remapDrop h)) (lasts_raiseC (lasts_remapDrop h))

theorem lasts_engineFence (h : Lasts s₀ s) {core lead causeSeq} : Lasts s₀ (s.engineFence core lead causeSeq) := by
  unfold State.engineFence
  dsimp only
  exact lasts_ite h (lasts_svcUpdate (lasts_ite (lasts_foldl (fun _ _ h1 => lasts_fenceMark h1) (lasts_update (by
    split
    · exact lasts_remapCancel (lasts_coreBit (lasts_update h))
    · exact lasts_coreBit (lasts_update h)))) (lasts_fenceEvent (lasts_foldl (fun _ _ h1 => lasts_fenceMark h1) (lasts_update (by
    split
    · exact lasts_remapCancel (lasts_coreBit (lasts_update h))
    · exact lasts_coreBit (lasts_update h)))))))

theorem lasts_remapFence (h : Lasts s₀ s) {id seq} : Lasts s₀ (s.remapFence id seq) := by
  unfold State.remapFence
  dsimp only
  split
  · exact lasts_ite h (lasts_update h)
  · exact lasts_ite (lasts_remapReq h) (lasts_engineFence h)

theorem lasts_remapNext (h : Lasts s₀ s) {core} : Lasts s₀ (s.remapNext core) :=
  lasts_foldl (fun _ _ h1 => lasts_ite h1 (lasts_ite (lasts_remapFence (lasts_update h1)) (lasts_fenceReq (lasts_update h1)))) h

theorem lasts_spareLost (h : Lasts s₀ s) {id} : Lasts s₀ (s.spareLost id) := by
  unfold State.spareLost
  dsimp only
  split
  · exact h
  · exact lasts_ite (lasts_remapFence (lasts_remapCancel h)) (lasts_remapNext (lasts_remapCancel h))

theorem lasts_modFences (h : Lasts s₀ s) {ids g} : Lasts s₀ (s.modFences ids g) :=
  lasts_foldl (fun _ _ h1 => lasts_setFence h1) h

theorem lasts_fenceNumbered (h : Lasts s₀ s) {id seq} : Lasts s₀ (s.fenceNumbered id seq) :=
  lasts_ite h (lasts_svcUpdate (lasts_foldl (fun _ _ h1 => lasts_touch (lasts_spareLost (lasts_echoSpareLost (lasts_echoTargetLost h1)))) (lasts_foldl (fun _ _ h1 => lasts_setFence h1) h)))

theorem lasts_fenceOrder (h : Lasts s₀ s) {id} : Lasts s₀ (s.fenceOrder id) :=
  lasts_ite h (lasts_foldl (fun _ _ h1 => lasts_ite (lasts_setFence h1) (lasts_setFence (lasts_modC h1))) h)

theorem lasts_fenceDrained (h : Lasts s₀ s) {id drain} : Lasts s₀ (s.fenceDrained id drain) :=
  lasts_ite h (lasts_ite (lasts_raiseSpur (lasts_setFence h)) (lasts_raiseC (lasts_setFence h)))

theorem lasts_fenceComplete (h : Lasts s₀ s) {id} : Lasts s₀ (s.fenceComplete id) :=
  lasts_svcUpdate (lasts_modFences h)

theorem lasts_fenceStuck (h : Lasts s₀ s) {id} : Lasts s₀ (s.fenceStuck id) :=
  lasts_ite (lasts_hubFault (lasts_setFence h)) h

theorem lasts_fenceWake (h : Lasts s₀ s) {id} : Lasts s₀ (s.fenceWake id) :=
  lasts_ite h (lasts_ite (lasts_setFence (lasts_modC h)) (lasts_modC h))

theorem lasts_fenceWakeDone (h : Lasts s₀ s) {id} : Lasts s₀ (s.fenceWakeDone id) :=
  lasts_ite (lasts_fenceDrained (lasts_setFence h)) h

theorem lasts_unfence (h : Lasts s₀ s) {id who} : Lasts s₀ (s.unfence id who) :=
  lasts_ite h (lasts_ite h (lasts_svcUpdate (lasts_raise (lasts_foldl (fun _ _ h1 => lasts_touch (lasts_ite (lasts_setFence h1) (lasts_modC (lasts_setFence h1)))) (lasts_ite (lasts_coreBit (lasts_update h)) h)))))

theorem lasts_ringShow (h : Lasts s₀ s) : Lasts s₀ (s.ringShow) := h

theorem lasts_escShow (h : Lasts s₀ s) : Lasts s₀ (s.escShow) := h

theorem lasts_histAdd (h : Lasts s₀ s) {r} : Lasts s₀ (s.histAdd r) := h

theorem lasts_ceRecord (h : Lasts s₀ s) {r} : Lasts s₀ (s.ceRecord r) :=
  lasts_ite (lasts_ite (lasts_hubFault (lasts_setF (lasts_satAddR (lasts_ite (lasts_setF (lasts_wr h)) (lasts_setF (lasts_update (lasts_wr h))))))) (lasts_satAddR (lasts_ite (lasts_setF (lasts_wr h)) (lasts_setF (lasts_update (lasts_wr h)))))) (lasts_ringShow (lasts_setF (lasts_update (lasts_ite (lasts_setF (lasts_wr h)) (lasts_setF (lasts_update (lasts_wr h)))))))

theorem lasts_ucRecord (h : Lasts s₀ s) {r} : Lasts s₀ (s.ucRecord r) :=
  lasts_ite (lasts_hubFault (lasts_escShow (lasts_ite (lasts_setF (lasts_ite (lasts_setF (lasts_histAdd (lasts_wr h))) (lasts_setF (lasts_setF (lasts_update (lasts_histAdd (lasts_wr h))))))) (lasts_ite (lasts_setF (lasts_histAdd (lasts_wr h))) (lasts_setF (lasts_setF (lasts_update (lasts_histAdd (lasts_wr h))))))))) (lasts_escShow (lasts_ite (lasts_setF (lasts_ite (lasts_setF (lasts_histAdd (lasts_wr h))) (lasts_setF (lasts_setF (lasts_update (lasts_histAdd (lasts_wr h))))))) (lasts_ite (lasts_setF (lasts_histAdd (lasts_wr h))) (lasts_setF (lasts_setF (lasts_update (lasts_histAdd (lasts_wr h))))))))

theorem lasts_fatalFill (h : Lasts s₀ s) {r t} (ht : s.fatalFill r = some t) : Lasts s₀ t := by
  unfold State.fatalFill at ht
  split at ht
  · split at ht
    · exact Option.some.inj ht ▸ lasts_update h
    · cases ht
  · cases ht

theorem lasts_fatalStop (h : Lasts s₀ s) : Lasts s₀ (s.fatalStop) :=
  lasts_ite (lasts_ite (lasts_dumpReq h) (lasts_ite (lasts_cutReq (lasts_dumpReq h)) (lasts_dumpReq h))) (lasts_ite (lasts_cutReq h) h)

theorem lasts_fatalRecord (h : Lasts s₀ s) {r} : Lasts s₀ (s.fatalRecord r).1 := by
  unfold State.fatalRecord
  extract_lets s1 dry
  have h1 : Lasts s₀ s1 := lasts_histAdd (lasts_wr h)
  split
  next t ht =>
    have hfill := lasts_fatalFill h1 ht
    exact lasts_ite hfill (lasts_fatalStop hfill)
  next =>
    exact lasts_ite_fst (lasts_setF h1) (lasts_ite (lasts_fatalPins (lasts_setF (lasts_update h1)))
      (lasts_fatalStop (lasts_fatalPins (lasts_setF (lasts_update h1)))))

theorem lasts_ctxFail (h : Lasts s₀ s) {id tenant ctx seq} : Lasts s₀ (s.ctxFail id tenant ctx seq) := h

theorem lasts_react (h : Lasts s₀ s) {id seq i} : Lasts s₀ (s.react id seq i).1 := by
  unfold State.react
  dsimp only
  exact lasts_ite_fst h (by
    split
    · exact lasts_ctxFail h
    · exact lasts_fenceReq (lasts_ite (lasts_ctxFail h) h)
    · exact lasts_ite_fst (lasts_remapFence (lasts_ite (lasts_ctxFail h) h)) (lasts_fenceReq (lasts_ite (lasts_ctxFail h) h))
    · exact h)

theorem lasts_faultNumbered (h : Lasts s₀ s) {seq epoch e i} : Lasts s₀ (s.faultNumbered seq epoch e i).1 := by
  unfold State.faultNumbered
  dsimp only
  split
  · exact lasts_ceRecord h
  · exact lasts_ucRecord (lasts_react h)
  · exact lasts_fatalRecord h

theorem lasts_fltAck (h : Lasts s₀ s) {v who} : Lasts s₀ (s.fltAck v who) := by
  unfold State.fltAck
  dsimp only
  split
  · exact lasts_ite (lasts_setF (lasts_setF h)) h
  · exact lasts_ite (lasts_raise (lasts_escShow (lasts_setF (lasts_setF (lasts_ite (lasts_setF (lasts_setF h)) h))))) (lasts_ite (lasts_setF (lasts_setF h)) h)

theorem lasts_ceRd (h : Lasts s₀ s) {v} : Lasts s₀ (s.ceRd v) :=
  lasts_ite h (lasts_ite (lasts_raise (lasts_setF (lasts_ringShow (lasts_setF h)))) (lasts_ringShow (lasts_setF h)))

theorem lasts_ucWarmAck (h : Lasts s₀ s) : Lasts s₀ (s.ucWarmAck) := by
  unfold State.ucWarmAck
  dsimp only
  split
  · exact h
  · exact lasts_ite h (lasts_raise (lasts_escShow (lasts_setF (lasts_setF (lasts_setF (lasts_update h))))))

theorem lasts_sigCheck (h : Lasts s₀ s) {q ok} : Lasts s₀ (s.sigCheck q ok) :=
  lasts_ite (lasts_update h) (lasts_hubFault h)

theorem lasts_sigTimeout (h : Lasts s₀ s) {q} : Lasts s₀ (s.sigTimeout q) :=
  lasts_ite (lasts_hubFault h) h

theorem lasts_heartbeat (h : Lasts s₀ s) : Lasts s₀ (s.heartbeat) :=
  lasts_ite h (lasts_ite (lasts_update (lasts_update h)) (lasts_update h))

/-! ### Engine -/

theorem lasts_setEng (h : Lasts s₀ s) {e x} : Lasts s₀ (s.setEng e x) := h

theorem lasts_setP (h : Lasts s₀ s) {e n v} : Lasts s₀ (s.setP e n v) := h

theorem lasts_accErr (h : Lasts s₀ s) {e code result id} : Lasts s₀ (s.accErr e code result id) :=
  lasts_satAdd (lasts_ite h (lasts_setF (lasts_setF (lasts_setF (lasts_setF h)))))

theorem lasts_winFail (h : Lasts s₀ s) {e w code} : Lasts s₀ (s.winFail e w code) := by
  unfold State.winFail
  dsimp only
  split
  · exact lasts_setP (lasts_touchWin (lasts_accErr h))
  · exact lasts_touchWin (lasts_accErr h)

theorem lasts_winFlush (h : Lasts s₀ s) {e} : Lasts s₀ (s.winFlush e) :=
  lasts_ite h (lasts_foldl (fun _ _ h1 => lasts_winFail h1) (lasts_setEng h))

theorem lasts_winFate (h : Lasts s₀ s) {p code} : Lasts s₀ (s.winFate p code) :=
  lasts_foldl (fun _ _ h1 => lasts_ite (lasts_winFlush (lasts_setEng h1)) h1) h

theorem lasts_engStart (h : Lasts s₀ s) {e entry src rights} : Lasts s₀ (s.engStart e entry src rights) :=
  lasts_raise (lasts_setF (lasts_setEng (lasts_wr (lasts_wr (lasts_setF (lasts_setF (lasts_wr (lasts_setJobs (lasts_wr (lasts_wr h))))))))))

theorem lasts_engStop (h : Lasts s₀ s) {e code} : Lasts s₀ (s.engStop e code) := h

theorem lasts_engStopRun (h : Lasts s₀ s) {e code} : Lasts s₀ (s.engStopRun e code) :=
  lasts_ite h (lasts_engStop h)

theorem lasts_wdogExpire (h : Lasts s₀ s) {e} : Lasts s₀ (s.wdogExpire e) :=
  lasts_ite h (lasts_engStop (lasts_hubFault h))

theorem lasts_rfParity (h : Lasts s₀ s) {e} : Lasts s₀ (s.rfParity e) :=
  lasts_engStopRun (lasts_hubFault h)

theorem lasts_pmPutDouble (h : Lasts s₀ s) {a n} : Lasts s₀ (s.pmPutDouble a n) := h

theorem lasts_prbCtrl (h : Lasts s₀ s) {e v src rights} : Lasts s₀ (s.prbCtrl e v src rights) :=
  lasts_ite (lasts_engStopRun (lasts_ite (lasts_engStart (lasts_setF h)) (lasts_setF h))) (lasts_ite (lasts_engStart (lasts_setF h)) (lasts_setF h))

theorem lasts_pmStep (h : Lasts s₀ s) {m e} : Lasts s₀ (s.pmStep m e) :=
  lasts_ite (lasts_wrapAdd h) h

theorem lasts_pmDataWrite (h : Lasts s₀ s) {m e v} : Lasts s₀ (s.pmDataWrite m e v) :=
  lasts_pmStep (lasts_ite (lasts_setF h) (lasts_setPm h))

theorem lasts_pmDataRead (h : Lasts s₀ s) {m e} : Lasts s₀ (s.pmDataRead m e).1 :=
  lasts_ite_fst (lasts_pmStep (lasts_hubMemFault (lasts_setF h))) (lasts_pmStep h)

theorem lasts_pmUcStop (h : Lasts s₀ s) {e a} : Lasts s₀ (s.pmUcStop e a) :=
  lasts_engStop (lasts_hubMemFault h)

theorem lasts_prbWarm (h : Lasts s₀ s) : Lasts s₀ (s.prbWarm) :=
  lasts_foldl (fun _ _ h1 => lasts_ite h1 (lasts_ite (lasts_engStop h1) (lasts_wr h1))) h

theorem lasts_prbLifecycle (h : Lasts s₀ s) : Lasts s₀ (s.prbLifecycle) :=
  lasts_foldl (fun _ _ h1 => lasts_engStopRun h1) h

theorem lasts_prbSoft (h : Lasts s₀ s) : Lasts s₀ (s.prbSoft) := h

/-! ### Scree -/

theorem lasts_scrShow (h : Lasts s₀ s) : Lasts s₀ (s.scrShow) := by
  unfold State.scrShow
  dsimp only
  split
  · exact lasts_wr (lasts_setF (lasts_setF (lasts_setF (lasts_setF (lasts_setF (lasts_setF (lasts_setF (lasts_wr (by
    split
    · exact lasts_setF (lasts_wr h)
    · exact lasts_setF h)))))))))
  · exact lasts_setF (lasts_setF (lasts_setF (lasts_setF (lasts_setF (lasts_setF (lasts_setF (lasts_wr (by
    split
    · exact lasts_setF (lasts_wr h)
    · exact lasts_setF h))))))))

theorem lasts_blkDone (h : Lasts s₀ s) : Lasts s₀ (s.blkDone) := by
  unfold State.blkDone
  dsimp only
  split
  · exact h
  · exact lasts_update h

theorem lasts_blkOpen (h : Lasts s₀ s) : Lasts s₀ (s.blkOpen) := by
  unfold State.blkOpen
  dsimp only
  split
  · exact h
  · exact lasts_update h

theorem lasts_modBlk (h : Lasts s₀ s) {g} : Lasts s₀ (s.modBlk g) := h

theorem lasts_blkPut {fuel} (h : Lasts s₀ s) {bs sec} : Lasts s₀ (State.blkPut fuel s bs sec) := by
  induction fuel generalizing s bs with
  | zero => exact h
  | succ fuel ih =>
    unfold State.blkPut
    split
    · exact h
    · exact lasts_ite (ih (lasts_blkDone (lasts_modBlk (lasts_blkOpen h)))) (lasts_modBlk (lasts_blkOpen h))

theorem lasts_pktPut (h : Lasts s₀ s) {bs isSync sec} : Lasts s₀ (s.pktPut bs isSync sec) :=
  lasts_blkPut (lasts_modBlk (lasts_blkOpen h))

theorem lasts_syncPut (h : Lasts s₀ s) {flags time} : Lasts s₀ (s.syncPut flags time) :=
  lasts_update (lasts_pktPut h)

theorem lasts_boundary (h : Lasts s₀ s) : Lasts s₀ (s.boundary) :=
  lasts_ite (lasts_syncPut h) h

theorem lasts_gapPut (h : Lasts s₀ s) {cause lost} : Lasts s₀ (s.gapPut cause lost) :=
  lasts_ite h (lasts_raise (lasts_satAdd (lasts_update (lasts_syncPut (lasts_pktPut (lasts_boundary h))))))

theorem lasts_pktLost (h : Lasts s₀ s) : Lasts s₀ (s.pktLost) := h

theorem lasts_levelFull (h : Lasts s₀ s) : Lasts s₀ (s.levelFull) :=
  lasts_ite h (lasts_raise (lasts_update (lasts_satAddR (lasts_setF h))))

theorem lasts_timedPut (h : Lasts s₀ s) {p} : Lasts s₀ (s.timedPut p) :=
  lasts_update (lasts_pktPut (lasts_boundary (lasts_ite (lasts_satAdd (lasts_pktPut (lasts_boundary h))) (lasts_foldl (fun _ _ h1 => lasts_ite (lasts_update (lasts_pktPut (lasts_boundary h1))) h1) h))))

theorem lasts_pktWrite (h : Lasts s₀ s) {p} : Lasts s₀ (s.pktWrite p) :=
  lasts_ite h (lasts_ite (lasts_pktLost h) (lasts_ite (lasts_satAddR h) (lasts_ite (lasts_pktLost (lasts_levelFull h)) (lasts_ite (lasts_syncPut h) (lasts_timedPut h)))))

theorem lasts_stageIn (h : Lasts s₀ s) {p} : Lasts s₀ (s.stageIn p) := h

theorem lasts_stageRoomFor (h : Lasts s₀ s) : Lasts s₀ (s.stageRoomFor) := by
  unfold State.stageRoomFor
  dsimp only
  exact lasts_ite h (by
    split
    · exact h
    · exact lasts_pktWrite (lasts_update h))

theorem lasts_stateIn (h : Lasts s₀ s) {t cause} : Lasts s₀ (s.stateIn t cause) :=
  lasts_stageIn (lasts_stageRoomFor h)

theorem lasts_levelSet (h : Lasts s₀ s) {v} : Lasts s₀ (s.levelSet v) :=
  lasts_ite h (lasts_ite (lasts_levelFull h) (lasts_raise (lasts_ite (lasts_ite (lasts_update (lasts_gapPut (lasts_setF h))) (lasts_setF h)) (lasts_stateIn (lasts_ite (lasts_update (lasts_gapPut (lasts_setF h))) (lasts_setF h))))))

theorem lasts_levelFit (h : Lasts s₀ s) : Lasts s₀ (s.levelFit) :=
  lasts_scrShow (lasts_levelSet h)

theorem lasts_flushEnd (h : Lasts s₀ s) : Lasts s₀ (s.flushEnd) := by
  unfold State.flushEnd
  dsimp only
  split
  · exact lasts_ite (lasts_levelFit (by
    split
    · exact lasts_ite (lasts_update h) (lasts_blkDone (lasts_update h))
    · exact lasts_update h)) h
  · exact h

theorem lasts_writeOne (h : Lasts s₀ s) {full} : Lasts s₀ (s.writeOne full) := by
  unfold State.writeOne
  dsimp only
  split
  · exact lasts_flushEnd h
  · exact lasts_ite (lasts_flushEnd (lasts_levelFit (lasts_pktWrite (lasts_update (lasts_flushEnd h))))) (lasts_flushEnd h)

theorem lasts_stagePkt (h : Lasts s₀ s) {p} : Lasts s₀ (s.stagePkt p) :=
  lasts_ite h (lasts_stageIn (lasts_ite h (lasts_writeOne h)))

theorem lasts_redactIn (h : Lasts s₀ s) {u since t epoch seq isOpen} : Lasts s₀ (s.redactIn u since t epoch seq isOpen) :=
  lasts_stagePkt h

theorem lasts_secEnd (h : Lasts s₀ s) {n u} : Lasts s₀ (s.secEnd n u) := by
  unfold State.secEnd
  dsimp only
  split
  · exact h
  · exact lasts_update (lasts_ite h (lasts_redactIn h))

theorem lasts_secBegin (h : Lasts s₀ s) {t u} : Lasts s₀ (s.secBegin t u) :=
  lasts_ite h (lasts_update h)

theorem lasts_eventPkt (h : Lasts s₀ s) {n hide sec} : Lasts s₀ (s.eventPkt n hide sec) :=
  lasts_stagePkt h

theorem lasts_scrEvent (h : Lasts s₀ s) {n} : Lasts s₀ (s.scrEvent n) := by
  unfold State.scrEvent
  dsimp only
  split
  · exact lasts_ite (lasts_ite (lasts_eventPkt (lasts_secBegin h)) (lasts_secBegin h)) (lasts_eventPkt (lasts_secEnd h))
  · exact lasts_ite (lasts_ite (lasts_eventPkt (lasts_secBegin h)) (lasts_secBegin h)) (lasts_eventPkt (lasts_secEnd h))
  · exact lasts_eventPkt (lasts_foldl (fun _ _ h1 => lasts_secEnd h1) h)
  · exact lasts_eventPkt (lasts_ite (lasts_foldl (fun _ _ h1 => lasts_secBegin h1) h) h)
  · exact lasts_ite (lasts_ite (lasts_eventPkt h) h) (lasts_eventPkt h)

theorem lasts_unitEvent (h : Lasts s₀ s) {id leaf u} : Lasts s₀ (s.unitEvent id leaf u) := by
  unfold State.unitEvent
  dsimp only
  split
  · exact lasts_ite h (lasts_raiseC (lasts_foldl (fun _ _ h1 => lasts_modC h1) h))
  · exact lasts_ite h (lasts_raiseC (lasts_foldl (fun _ _ h1 => lasts_modC h1) h))
  · exact lasts_raiseC (lasts_modC h)
  · exact lasts_raiseC (lasts_modC h)

theorem lasts_traceReq (h : Lasts s₀ s) {start mask abs rights src} : Lasts s₀ (s.traceReq start mask abs rights src).1 :=
  lasts_ite_fst h (lasts_ite_fst h (lasts_ite (lasts_send (lasts_update h)) (lasts_update h)))

theorem lasts_maskTo (h : Lasts s₀ s) {m t cause src} : Lasts s₀ (s.maskTo m t cause src) := by
  unfold State.maskTo
  dsimp only
  exact lasts_ite h (lasts_scrShow (lasts_raise (lasts_update (lasts_stateIn (lasts_setF (lasts_ite (lasts_foldl (fun _ _ h1 => by
    split
    · exact lasts_redactIn h1
    · exact h1) (lasts_update h)) (lasts_update h)))))))

theorem lasts_traceOn (h : Lasts s₀ s) {a} : Lasts s₀ (s.traceOn a) :=
  lasts_ite h (lasts_scrShow (lasts_ite (lasts_stagePkt (lasts_maskTo (lasts_ite (lasts_foldl (fun _ _ h1 => lasts_modC h1) (lasts_update (lasts_ite (lasts_update (lasts_wr h)) (lasts_wr h)))) (lasts_ite (lasts_update (lasts_wr h)) (lasts_wr h))))) (lasts_maskTo (lasts_ite (lasts_foldl (fun _ _ h1 => lasts_modC h1) (lasts_update (lasts_ite (lasts_update (lasts_wr h)) (lasts_wr h)))) (lasts_ite (lasts_update (lasts_wr h)) (lasts_wr h))))))

theorem lasts_traceOff (h : Lasts s₀ s) {a} : Lasts s₀ (s.traceOff a) :=
  lasts_maskTo h

theorem lasts_traceEffect (h : Lasts s₀ s) : Lasts s₀ (s.traceEffect) := by
  unfold State.traceEffect
  dsimp only
  split
  · exact h
  · exact lasts_ite (lasts_traceOn (lasts_update h)) (lasts_traceOff (lasts_update h))

theorem lasts_scrCmd (h : Lasts s₀ s) {m v rights} : Lasts s₀ (s.scrCmd m v rights) :=
  lasts_ite h (lasts_setF (lasts_setF (lasts_traceReq h)))

theorem lasts_syncTimer (h : Lasts s₀ s) : Lasts s₀ (s.syncTimer) :=
  lasts_ite h (lasts_foldl (fun _ _ h1 => lasts_stagePkt h1) (lasts_update h))

theorem lasts_scrMark (h : Lasts s₀ s) {m v} : Lasts s₀ (s.scrMark m v) :=
  lasts_ite (lasts_stagePkt h) h

theorem lasts_flowRetire (h : Lasts s₀ s) {id pc n transfer target exc leaf} : Lasts s₀ (s.flowRetire id pc n transfer target exc leaf) :=
  lasts_ite (lasts_setCairn h) (lasts_ite (lasts_setCairn h) (lasts_ite (lasts_setCairn h) (lasts_ite (lasts_satAddR (lasts_setCairn h)) (lasts_setCairn h))))

theorem lasts_flowMove (h : Lasts s₀ s) {id} : Lasts s₀ (s.flowMove id) := by
  unfold State.flowMove
  dsimp only
  split
  · exact h
  · exact lasts_ite (lasts_setCairn h) (lasts_stagePkt (lasts_setCairn h))

theorem lasts_flowLoss (h : Lasts s₀ s) {id leaf} : Lasts s₀ (s.flowLoss id leaf) :=
  lasts_ite h (lasts_stagePkt (lasts_satAddR (lasts_setCairn h)))

theorem lasts_flowTick (h : Lasts s₀ s) : Lasts s₀ (s.flowTick) :=
  lasts_foldl (fun _ _ h1 => lasts_flowMove h1) h

theorem lasts_ringPut (h : Lasts s₀ s) : Lasts s₀ (s.ringPut) := by
  unfold State.ringPut
  dsimp only
  split
  · exact h
  · exact lasts_levelFit (lasts_wr (lasts_update (lasts_putBytes h)))

theorem lasts_ringStop (h : Lasts s₀ s) {no} : Lasts s₀ (s.ringStop no) :=
  lasts_ite h (lasts_raise (lasts_maskTo (lasts_setF h)))

theorem lasts_spill (h : Lasts s₀ s) : Lasts s₀ (s.spill) := by
  unfold State.spill
  dsimp only
  exact lasts_ite h (by
    split
    · exact h
    · exact lasts_ite (lasts_ite (lasts_ringStop h) (lasts_ringPut h)) (lasts_ite (lasts_ringPut h) h))

theorem lasts_padTimeout (h : Lasts s₀ s) : Lasts s₀ (s.padTimeout) := by
  unfold State.padTimeout
  split
  · exact lasts_ite (lasts_levelFit (lasts_blkDone h)) h
  · exact h

theorem lasts_bufUc (h : Lasts s₀ s) {no} : Lasts s₀ (s.bufUc no) :=
  lasts_ite (lasts_hubMemFault (lasts_update h)) h

theorem lasts_trDrainEnd (h : Lasts s₀ s) {cause} : Lasts s₀ (s.trDrainEnd cause) := by
  unfold State.trDrainEnd
  dsimp only
  split
  · exact h
  · exact lasts_raise (lasts_scrShow (lasts_setF (lasts_update h)))

theorem lasts_trDrainCtrl (h : Lasts s₀ s) {v} : Lasts s₀ (s.trDrainCtrl v) :=
  lasts_ite (lasts_trDrainEnd (lasts_ite (lasts_ite (lasts_trDrainEnd (lasts_scrShow (lasts_update (lasts_setF h)))) (lasts_scrShow (lasts_update (lasts_setF h)))) (lasts_setF h))) (lasts_ite (lasts_ite (lasts_trDrainEnd (lasts_scrShow (lasts_update (lasts_setF h)))) (lasts_scrShow (lasts_update (lasts_setF h)))) (lasts_setF h))

theorem lasts_trSent (h : Lasts s₀ s) {no} : Lasts s₀ (s.trSent no) := by
  unfold State.trSent
  dsimp only
  split
  · exact h
  · exact lasts_ite (lasts_trDrainEnd (lasts_wr (lasts_update h))) (lasts_wr (lasts_update h))

theorem lasts_trAck (h : Lasts s₀ s) {no} : Lasts s₀ (s.trAck no) := by
  unfold State.trAck
  dsimp only
  split
  · exact h
  · exact lasts_ite h (lasts_ite (lasts_scrShow (lasts_update h)) (lasts_levelFit (lasts_update (lasts_update h))))

theorem lasts_scrClear (h : Lasts s₀ s) : Lasts s₀ (s.scrClear) :=
  lasts_ite (lasts_levelFit (lasts_setF (lasts_update h))) h

theorem lasts_scrCtrl (h : Lasts s₀ s) {v} : Lasts s₀ (s.scrCtrl v) :=
  lasts_levelFit (lasts_setF (lasts_setF (lasts_setF (lasts_ite (lasts_setF (lasts_setF (lasts_ite (lasts_scrClear h) h))) (lasts_ite (lasts_scrClear h) h)))))

theorem lasts_scrUnsec (h : Lasts s₀ s) : Lasts s₀ (s.scrUnsec) :=
  lasts_scrShow (lasts_ite (lasts_update (lasts_wr h)) (lasts_stateIn (lasts_update (lasts_wr h))))

theorem lasts_scrWarm (h : Lasts s₀ s) : Lasts s₀ (s.scrWarm) :=
  lasts_scrUnsec (lasts_update (lasts_gapPut h))

theorem lasts_scrSpur (h : Lasts s₀ s) : Lasts s₀ (s.scrSpur) :=
  lasts_scrShow (lasts_gapPut h)

theorem lasts_scrSoft (h : Lasts s₀ s) : Lasts s₀ (s.scrSoft) := h

/-! ### Crest -/

theorem lasts_outRaise (h : Lasts s₀ s) {id n} : Lasts s₀ (s.outRaise id n) :=
  lasts_ite h (lasts_update (lasts_setCairn h))

theorem lasts_pendSet (h : Lasts s₀ s) {ch src} : Lasts s₀ (s.pendSet ch src) :=
  lasts_ite h (lasts_update (lasts_wr64 h))

theorem lasts_engSee (h : Lasts s₀ s) {ch} : Lasts s₀ (s.engSee ch) := by
  unfold State.engSee
  dsimp only
  exact lasts_foldl (fun _ _ h1 => by
    split
    · exact lasts_ite (lasts_setEng h1) h1
    · exact h1) h

theorem lasts_raiseCh (h : Lasts s₀ s) {ch src} : Lasts s₀ (s.raiseCh ch src) :=
  lasts_ite (lasts_update (lasts_satAddR (lasts_wr64 h))) (lasts_engSee (lasts_ite (lasts_pendSet (lasts_satAddR (lasts_wr64 h))) (lasts_satAddR (lasts_wr64 h))))

theorem lasts_chArrive (h : Lasts s₀ s) {num} : Lasts s₀ (s.chArrive num) := by
  unfold State.chArrive
  dsimp only
  split
  · exact h
  · exact lasts_ite (lasts_update h) (lasts_raiseCh (lasts_update h))

theorem lasts_cutReqAt (h : Lasts s₀ s) {kind src t} : Lasts s₀ (s.cutReqAt kind src t).1 :=
  lasts_wr64 (lasts_cutReq (lasts_wr64 h))

theorem lasts_stepReqAt (h : Lasts s₀ s) {src t trig} : Lasts s₀ (s.stepReqAt src t trig).1 :=
  lasts_wr64 (lasts_stepReq (lasts_wr64 h))

theorem lasts_actRefused (h : Lasts s₀ s) {code why} : Lasts s₀ (s.actRefused code why) := h

theorem lasts_saFire (h : Lasts s₀ s) : Lasts s₀ (s.saFire) :=
  lasts_ite h (lasts_setF (lasts_ite (lasts_ite (lasts_actRefused (lasts_traceReq (lasts_ite (lasts_cutReqAt h) h))) (lasts_traceReq (lasts_ite (lasts_cutReqAt h) h))) (lasts_ite (lasts_cutReqAt h) h)))

theorem lasts_actStopAfter (h : Lasts s₀ s) {p a} : Lasts s₀ (s.actStopAfter p a) :=
  lasts_ite (lasts_actRefused h) (lasts_saFire (lasts_raise (lasts_update (lasts_setF (lasts_wr64 h)))))

theorem lasts_actTrace (h : Lasts s₀ s) {start p a} : Lasts s₀ (s.actTrace start p a) :=
  lasts_ite (lasts_actRefused (lasts_traceReq h)) (lasts_raise (lasts_traceReq h))

theorem lasts_actDump (h : Lasts s₀ s) {p} : Lasts s₀ (s.actDump p) :=
  lasts_ite (lasts_dumpReq (lasts_raise h)) (lasts_raise (lasts_dumpReq (lasts_raise h)))

theorem lasts_actPitch (h : Lasts s₀ s) {p} : Lasts s₀ (s.actPitch p) :=
  lasts_ite (lasts_raise (lasts_engStart h)) (lasts_actRefused h)

theorem lasts_actPulse (h : Lasts s₀ s) {p a} : Lasts s₀ (s.actPulse p a) := h

theorem lasts_act (h : Lasts s₀ s) {code p a} : Lasts s₀ (s.act code p a) := by
  unfold State.act
  split
  · exact lasts_cutReq h
  · exact lasts_cutReq h
  · exact lasts_actStopAfter h
  · exact lasts_actTrace h
  · exact lasts_actTrace h
  · exact lasts_actDump h
  · exact lasts_actPitch h
  · exact lasts_actPulse h
  · exact h

theorem lasts_actNext (h : Lasts s₀ s) : Lasts s₀ (s.actNext) := by
  unfold State.actNext
  dsimp only
  split
  · exact h
  · exact lasts_act (lasts_update h)

theorem lasts_seqCounters (h : Lasts s₀ s) {snap} : Lasts s₀ (s.seqCounters snap).1 := by
  unfold State.seqCounters
  refine foldl_keeps (fun x : State × Nat => Lasts s₀ x.1) _ ?_ _ (s, 0) h
  intro x k hx
  exact lasts_wr hx

theorem lasts_seqEnter (h : Lasts s₀ s) {st} : Lasts s₀ (s.seqEnter st) :=
  lasts_ite (lasts_wr64 (lasts_update (lasts_setF h))) (lasts_update (lasts_setF h))

theorem lasts_seqTake (h : Lasts s₀ s) {t src} : Lasts s₀ (s.seqTake t src) :=
  lasts_seqEnter (lasts_ite (lasts_wr64 (lasts_act (lasts_update (lasts_setF (lasts_setF (lasts_setF (lasts_setF (lasts_raise h)))))))) (lasts_act (lasts_update (lasts_setF (lasts_setF (lasts_setF (lasts_setF (lasts_raise h))))))))

theorem lasts_seqEval (h : Lasts s₀ s) : Lasts s₀ s.seqEval := by
  unfold State.seqEval
  extract_lets s1 fresh raised c0 s2 s3 s4 live snap raiser r c1 c2 s5
  have h4 : Lasts s₀ s4 := lasts_foldl (fun _ _ h => lasts_ite (lasts_pendSet h) h)
    (lasts_foldl (fun _ _ h => lasts_engSee h) (lasts_update (lasts_actNext h)))
  have h5 : Lasts s₀ s5 := lasts_update (lasts_seqCounters h4)
  refine lasts_ite (lasts_actNext h) (lasts_ite (lasts_setF (lasts_update h5)) ?_)
  split
  · exact h5
  · exact lasts_seqTake h5

theorem lasts_runEvent (h : Lasts s₀ s) {v} : Lasts s₀ (s.runEvent v) := h

theorem lasts_seqSettle (h : Lasts s₀ s) : Lasts s₀ (s.seqSettle) :=
  lasts_update (lasts_foldl (fun _ _ h1 => lasts_ite (lasts_wr h1) h1) (lasts_foldl (fun _ _ h1 => lasts_engSee (lasts_ite (lasts_pendSet h1) h1)) h))

theorem lasts_runClear (h : Lasts s₀ s) : Lasts s₀ (s.runClear) :=
  lasts_ite h (lasts_runEvent (lasts_setF (lasts_setF (lasts_seqSettle h))))

theorem lasts_runSet (h : Lasts s₀ s) {rights} : Lasts s₀ (s.runSet rights) := by
  unfold State.runSet
  dsimp only
  exact lasts_ite h (by
    split
    · exact lasts_setF (lasts_setF (lasts_setF h))
    · exact lasts_runEvent (lasts_seqEnter (lasts_update (lasts_setF (lasts_setF (lasts_wr (lasts_setF (lasts_setF (lasts_setF (lasts_setF (lasts_setF h)))))))))))

theorem lasts_saCancel (h : Lasts s₀ s) {cause} : Lasts s₀ (s.saCancel cause) :=
  lasts_ite h (lasts_raise (lasts_setF h))

theorem lasts_crsCtrl (h : Lasts s₀ s) {v rights} : Lasts s₀ (s.crsCtrl v rights) :=
  lasts_ite (lasts_runSet (lasts_ite (lasts_saCancel (lasts_setF h)) (lasts_setF h))) (lasts_runClear (lasts_ite (lasts_saCancel (lasts_setF h)) (lasts_setF h)))

theorem lasts_cfgParity (h : Lasts s₀ s) : Lasts s₀ (s.cfgParity) :=
  lasts_runClear (lasts_hubFault h)

theorem lasts_pulseEdge (h : Lasts s₀ s) : Lasts s₀ (s.pulseEdge).1 := by
  unfold State.pulseEdge
  dsimp only
  split
  · exact h
  · exact lasts_ite_fst (lasts_update h) (lasts_update h)

theorem lasts_retainWrite (h : Lasts s₀ s) {id o v} : Lasts s₀ (s.retainWrite id o v) :=
  lasts_ite h (lasts_update h)

theorem lasts_retainLost (h : Lasts s₀ s) {half} : Lasts s₀ (s.retainLost half) :=
  lasts_update h

theorem lasts_crestRestore (h : Lasts s₀ s) {id} : Lasts s₀ (s.crestRestore id) :=
  lasts_ite h (lasts_ite (lasts_raise (lasts_modC h)) (lasts_modC h))

theorem lasts_restoreLate (h : Lasts s₀ s) {half} : Lasts s₀ (s.restoreLate half) :=
  lasts_foldl (fun _ _ h1 => lasts_crestRestore h1) h

theorem lasts_crsWarm (h : Lasts s₀ s) : Lasts s₀ (s.crsWarm) :=
  lasts_wr (lasts_saCancel (lasts_wr64 h))

theorem lasts_crsSoft (h : Lasts s₀ s) : Lasts s₀ (s.crsSoft) :=
  lasts_update (lasts_ite (lasts_runEvent (lasts_saCancel h)) (lasts_saCancel h))

/-! ### Talus -/

theorem lasts_modTal (h : Lasts s₀ s) {g} : Lasts s₀ (s.modTal g) := h

theorem lasts_talAdd (h : Lasts s₀ s) {off size n} : Lasts s₀ (s.talAdd off size n) := h

theorem lasts_talShow (h : Lasts s₀ s) : Lasts s₀ (s.talShow) :=
  lasts_setF (lasts_setF (lasts_setF (lasts_setF (lasts_setF (lasts_setF (lasts_wr (lasts_wr64 (lasts_setF (lasts_setF (lasts_setF (lasts_setF h)))))))))))

theorem lasts_talPersist (h : Lasts s₀ s) : Lasts s₀ (s.talPersist) :=
  lasts_svcPersist (lasts_talShow h)

theorem lasts_persistEvent (h : Lasts s₀ s) {id cls map old new} : Lasts s₀ (s.persistEvent id cls map old new) :=
  lasts_ite h (lasts_raise h)

theorem lasts_trkEval (h : Lasts s₀ s) {id} : Lasts s₀ (s.trkEval id) := by
  unfold State.trkEval
  dsimp only
  split
  · exact h
  · exact lasts_talPersist (lasts_persistEvent (lasts_persistEvent (lasts_modTal h)))

theorem lasts_trkMod (h : Lasts s₀ s) {id g} : Lasts s₀ (s.trkMod id g) :=
  lasts_ite (lasts_trkEval (lasts_modTal h)) h

theorem lasts_trkAdmit (h : Lasts s₀ s) {id} : Lasts s₀ (s.trkAdmit id) :=
  lasts_ite h (lasts_ite (lasts_talShow (lasts_modTal h)) (lasts_ite (lasts_raise (lasts_talShow (lasts_talAdd h))) (lasts_talShow (lasts_talAdd h))))

theorem lasts_talCe (h : Lasts s₀ s) {id stamp i} : Lasts s₀ (s.talCe id stamp i) :=
  lasts_ite (lasts_trkMod h) (lasts_ite (lasts_trkMod (lasts_trkAdmit (lasts_update h))) (lasts_update h))

theorem lasts_talUc (h : Lasts s₀ s) {id stamp i} : Lasts s₀ (s.talUc id stamp i) :=
  lasts_trkMod (lasts_trkAdmit h)

theorem lasts_talFault (h : Lasts s₀ s) {e i} : Lasts s₀ (s.talFault e i) :=
  lasts_ite h (lasts_ite (lasts_ite (lasts_talAdd (lasts_ite (lasts_talAdd (lasts_talAdd h)) (lasts_talAdd h))) (lasts_ite (lasts_talAdd (lasts_talAdd h)) (lasts_talAdd h))) (lasts_ite (lasts_talCe (lasts_ite (lasts_talAdd (lasts_ite (lasts_talAdd (lasts_ite (lasts_talAdd (lasts_talAdd h)) (lasts_talAdd h))) (lasts_ite (lasts_talAdd (lasts_talAdd h)) (lasts_talAdd h)))) (lasts_ite (lasts_talAdd (lasts_ite (lasts_talAdd (lasts_talAdd h)) (lasts_talAdd h))) (lasts_ite (lasts_talAdd (lasts_talAdd h)) (lasts_talAdd h))))) (lasts_talUc (lasts_ite (lasts_talAdd (lasts_ite (lasts_talAdd (lasts_ite (lasts_talAdd (lasts_talAdd h)) (lasts_talAdd h))) (lasts_ite (lasts_talAdd (lasts_talAdd h)) (lasts_talAdd h)))) (lasts_ite (lasts_talAdd (lasts_ite (lasts_talAdd (lasts_talAdd h)) (lasts_talAdd h))) (lasts_ite (lasts_talAdd (lasts_talAdd h)) (lasts_talAdd h)))))))

theorem lasts_fenceRecord (h : Lasts s₀ s) {n id engine cause causeSeq bitPage} : Lasts s₀ (s.fenceRecord n id engine cause causeSeq bitPage) := h

theorem lasts_watchRecord (h : Lasts s₀ s) {n} : Lasts s₀ (s.watchRecord n) := h

theorem lasts_talEvent (h : Lasts s₀ s) {n} : Lasts s₀ (s.talEvent n) := by
  unfold State.talEvent
  dsimp only
  split
  · split
    · exact lasts_talFault h
    · exact h
  · exact lasts_talAdd h
  · exact lasts_trkMod (lasts_trkAdmit (lasts_trkMod (lasts_trkAdmit (lasts_ite (lasts_talAdd h) (lasts_talAdd (lasts_talAdd h))))))
  · exact lasts_trkMod (lasts_trkAdmit (lasts_ite (lasts_talAdd (lasts_fenceRecord h)) (lasts_fenceRecord h)))
  · exact lasts_trkMod (lasts_fenceRecord h)
  · exact lasts_talAdd (lasts_talAdd h)
  · exact lasts_talAdd h
  · split
    · exact lasts_talAdd (lasts_talAdd h)
    · exact lasts_talAdd (lasts_talAdd h)
    · exact lasts_talAdd (lasts_talAdd h)
    · exact lasts_talAdd (lasts_talAdd h)
    · exact lasts_talAdd h
  · exact lasts_ite (lasts_watchRecord h) h
  · exact lasts_talAdd h
  · exact lasts_talAdd h
  · exact h

theorem lasts_talCount (h : Lasts s₀ s) : Lasts s₀ (s.talCount) := by
  unfold State.talCount
  dsimp only
  exact lasts_ite h (by
    split
    · exact h
    · exact lasts_talShow (lasts_talEvent (lasts_update h)))

theorem lasts_talLag (h : Lasts s₀ s) {core beyond} : Lasts s₀ (s.talLag core beyond) :=
  lasts_ite h (lasts_foldl (fun _ _ h1 => lasts_trkMod (lasts_trkAdmit h1)) (lasts_talAdd h))

theorem lasts_milli (h : Lasts s₀ s) {off size} : Lasts s₀ (s.milli off size) :=
  lasts_ite (lasts_talAdd (lasts_update h)) (lasts_update h)

theorem lasts_sampleRegion (h : Lasts s₀ s) {r x} : Lasts s₀ (s.sampleRegion r x) :=
  lasts_ite (lasts_milli h) (lasts_milli (lasts_milli (lasts_milli h)))

theorem lasts_talSample (h : Lasts s₀ s) {regs} : Lasts s₀ (s.talSample regs) :=
  lasts_ite h (lasts_foldl (fun _ _ h1 => lasts_sampleRegion h1) (lasts_milli (lasts_update h)))

theorem lasts_talSnap (h : Lasts s₀ s) : Lasts s₀ (s.talSnap) :=
  lasts_talShow (lasts_update h)

theorem lasts_talReq (h : Lasts s₀ s) {cause} : Lasts s₀ (s.talReq cause) :=
  lasts_ite h (lasts_talShow (lasts_update h))

theorem lasts_talSpent (h : Lasts s₀ s) : Lasts s₀ (s.talSpent) :=
  lasts_talPersist (lasts_hubFault (lasts_setF (lasts_update h)))

theorem lasts_commitNumbered (h : Lasts s₀ s) {seq epoch} : Lasts s₀ (s.commitNumbered seq epoch) := by
  unfold State.commitNumbered
  dsimp only
  split
  · exact lasts_ite h (lasts_update h)
  · exact h

theorem lasts_talSchedule (h : Lasts s₀ s) : Lasts s₀ (s.talSchedule) :=
  lasts_ite h (lasts_talReq (lasts_update h))

theorem lasts_talCtrl (h : Lasts s₀ s) {v} : Lasts s₀ (s.talCtrl v) :=
  lasts_ite (lasts_talReq (lasts_ite (lasts_talSnap h) h)) (lasts_ite (lasts_talSnap h) h)

theorem lasts_talTrack (h : Lasts s₀ s) {v} : Lasts s₀ (s.talTrack v) :=
  lasts_ite h (lasts_talShow (lasts_trkMod (lasts_trkAdmit h)))

theorem lasts_talClear (h : Lasts s₀ s) {who v} : Lasts s₀ (s.talClear who v) :=
  lasts_ite h (lasts_talReq (lasts_raise (lasts_talPersist (lasts_update (lasts_modTal h)))))

theorem lasts_talBoot (h : Lasts s₀ s) : Lasts s₀ (s.talBoot) :=
  lasts_talReq (lasts_talShow (lasts_foldl (fun _ _ h1 => lasts_trkEval h1) (lasts_update (lasts_modTal h))))

/-! ### Life -/

theorem lasts_authShow (h : Lasts s₀ s) : Lasts s₀ (s.authShow) := h

theorem lasts_lcyShow (h : Lasts s₀ s) : Lasts s₀ (s.lcyShow) := by
  unfold State.lcyShow
  dsimp only
  exact lasts_setF (lasts_setF (lasts_setF (by
    split
    · exact lasts_setF (lasts_foldl (fun _ _ h1 => lasts_wr h1) (lasts_wr (lasts_setF (lasts_setF (lasts_setF (lasts_setF (lasts_setF (lasts_setF (lasts_setF (lasts_setF (lasts_setF (lasts_wr h))))))))))))
    · exact lasts_foldl (fun _ _ h1 => lasts_wr h1) (lasts_wr (lasts_setF (lasts_setF (lasts_setF (lasts_setF (lasts_setF (lasts_setF (lasts_setF (lasts_setF (lasts_setF (lasts_wr h))))))))))))))

theorem lasts_lcyDecide (h : Lasts s₀ s) : Lasts s₀ (s.lcyDecide) :=
  lasts_authShow (lasts_ite (lasts_hubFault (lasts_setF (lasts_lcyShow (lasts_update (lasts_foldl (fun _ _ h1 => lasts_hubFault h1) h))))) (lasts_setF (lasts_lcyShow (lasts_update (lasts_foldl (fun _ _ h1 => lasts_hubFault h1) h)))))

theorem lasts_lcySettle (h : Lasts s₀ s) : Lasts s₀ (s.lcySettle) :=
  lasts_authShow (lasts_setF (lasts_lcyDecide h))

theorem lasts_chalDrop (h : Lasts s₀ s) {m} : Lasts s₀ (s.chalDrop m) :=
  lasts_foldl (fun _ _ h1 => lasts_wr h1) (lasts_wr h)

theorem lasts_grantsEnd (h : Lasts s₀ s) {m cause cert} : Lasts s₀ (s.grantsEnd m cause cert) :=
  lasts_raise (lasts_authShow (lasts_chalDrop (lasts_wr (lasts_ite (lasts_wr (lasts_wr64 (lasts_wr h))) h))))

theorem lasts_lcyHalt (h : Lasts s₀ s) : Lasts s₀ (s.lcyHalt) :=
  lasts_scrUnsec (lasts_wr (lasts_abortJobs (lasts_prbLifecycle (lasts_runClear (lasts_grantsEnd (lasts_grantsEnd h))))))

theorem lasts_lcyBegin (h : Lasts s₀ s) {to_ token who} : Lasts s₀ (s.lcyBegin to_ token who) :=
  lasts_lcyHalt (lasts_update (lasts_setF (lasts_setF (lasts_setF (lasts_raise h)))))

theorem lasts_lcyDone (h : Lasts s₀ s) {r} : Lasts s₀ (s.lcyDone r) :=
  lasts_raise (lasts_authShow (lasts_wr64 (lasts_setF (lasts_setF (lasts_setF (lasts_setF (lasts_update h)))))))

theorem lasts_lcyStall (h : Lasts s₀ s) : Lasts s₀ (s.lcyStall) :=
  lasts_setF (lasts_hubFault h)

theorem lasts_tornToken (h : Lasts s₀ s) : Lasts s₀ (s.tornToken).2 := by
  unfold State.tornToken
  dsimp only
  split
  · exact h
  · exact lasts_takeFree h

theorem lasts_lcyResume (h : Lasts s₀ s) : Lasts s₀ (s.lcyResume) := by
  unfold State.lcyResume
  dsimp only
  split
  · exact h
  · exact lasts_ite h (lasts_raise (lasts_authShow (lasts_update (lasts_setF (lasts_setF (lasts_setF (lasts_setF (lasts_tornToken h))))))))

theorem lasts_setResult (h : Lasts s₀ s) {lcy m op status code} : Lasts s₀ (s.setResult lcy m op status code) := h

theorem lasts_authRefuse (h : Lasts s₀ s) {lcy m op code} : Lasts s₀ (s.authRefuse lcy m op code) :=
  lasts_raise (lasts_ite (lasts_chalDrop (lasts_satAdd (lasts_setResult h))) (lasts_satAdd (lasts_setResult h)))

theorem lasts_bufStep (h : Lasts s₀ s) {m} : Lasts s₀ (s.bufStep m) :=
  lasts_ite (lasts_wrapAdd h) h

theorem lasts_bufRead (h : Lasts s₀ s) {m} : Lasts s₀ (s.bufRead m).1 :=
  lasts_bufStep h

theorem lasts_bufWrite (h : Lasts s₀ s) {m v} : Lasts s₀ (s.bufWrite m v) :=
  lasts_bufStep (by split <;> exact lasts_update h)

theorem lasts_submit (h : Lasts s₀ s) {m lcy op kind} : Lasts s₀ (s.submit m lcy op kind) := by
  unfold State.submit
  dsimp only
  exact lasts_ite (lasts_authRefuse h) (lasts_ite (lasts_authRefuse h) (lasts_ite (lasts_authRefuse h) (lasts_setResult (lasts_update h))))

theorem lasts_certAccept (h : Lasts s₀ s) {m ob} : Lasts s₀ (s.certAccept m ob) :=
  lasts_raise (lasts_authShow (lasts_wr (lasts_wr64 (lasts_wr h))))

theorem lasts_jexAccept (h : Lasts s₀ s) {m ob} : Lasts s₀ (s.jexAccept m ob) :=
  lasts_raise (lasts_authShow (lasts_chalDrop (lasts_wr h)))

theorem lasts_verifyParity (h : Lasts s₀ s) : Lasts s₀ (s.verifyParity) := by
  unfold State.verifyParity
  dsimp only
  split
  · exact h
  · exact lasts_authRefuse (lasts_update h)

theorem lasts_lcyCmd (h : Lasts s₀ s) {m v} : Lasts s₀ (s.lcyCmd m v) := by
  unfold State.lcyCmd
  split
  · exact lasts_submit h
  · exact lasts_submit h
  · exact h

theorem lasts_drawChal (h : Lasts s₀ s) {m} : Lasts s₀ (s.drawChal m) :=
  lasts_foldl (fun _ _ h1 => lasts_wr (lasts_takeFree h1)) h

theorem lasts_challenge (h : Lasts s₀ s) {m req} : Lasts s₀ (s.challenge m req) :=
  lasts_ite (lasts_authRefuse h) (lasts_ite (lasts_authRefuse h) (lasts_ite (lasts_authRefuse h) (lasts_ite (lasts_authRefuse h) (lasts_ite (lasts_authRefuse h) (lasts_ite (lasts_authRefuse h) (lasts_raise (by split <;> exact lasts_update (lasts_setF (lasts_setF (lasts_setResult (lasts_drawChal h)))))))))))

theorem lasts_authDrop (h : Lasts s₀ s) {m} : Lasts s₀ (s.authDrop m) :=
  lasts_ite (lasts_authRefuse h) (lasts_ite (lasts_authRefuse h) (lasts_grantsEnd (lasts_setResult h)))

theorem lasts_authCmd (h : Lasts s₀ s) {m v} : Lasts s₀ (s.authCmd m v) := by
  unfold State.authCmd
  split
  · exact lasts_submit h
  · exact lasts_challenge h
  · exact lasts_submit h
  · exact lasts_authDrop h
  · exact h

theorem lasts_chalExpire (h : Lasts s₀ s) : Lasts s₀ (s.chalExpire) :=
  lasts_ite (lasts_chalDrop (lasts_ite (lasts_chalDrop h) h)) (lasts_ite (lasts_chalDrop h) h)

theorem lasts_trng (h : Lasts s₀ s) {ok} : Lasts s₀ (s.trng ok) :=
  lasts_ite (lasts_update h) (lasts_hubFault (lasts_update h))

theorem lasts_authWarm (h : Lasts s₀ s) : Lasts s₀ (s.authWarm) :=
  lasts_grantsEnd (lasts_grantsEnd h)

theorem lasts_authSoft (h : Lasts s₀ s) : Lasts s₀ (s.authSoft) :=
  lasts_update (lasts_ite (lasts_setF (lasts_setF (lasts_setF (lasts_setF (lasts_grantsEnd (lasts_grantsEnd h)))))) (lasts_grantsEnd (lasts_grantsEnd h)))

/-! ### Pass -/

theorem lasts_modPass (h : Lasts s₀ s) {g} : Lasts s₀ (s.modPass g) := h

theorem lasts_frameOut (h : Lasts s₀ s) {ftype dev words} : Lasts s₀ (s.frameOut ftype dev words) := h

theorem lasts_setRate (h : Lasts s₀ s) {rate lanes} : Lasts s₀ (s.setRate rate lanes) := h

theorem lasts_setMember (h : Lasts s₀ s) {dev m} : Lasts s₀ (s.setMember dev m) := h

theorem lasts_fabShow (h : Lasts s₀ s) : Lasts s₀ (s.fabShow) := h

theorem lasts_leadEnd (h : Lasts s₀ s) : Lasts s₀ (s.leadEnd) :=
  lasts_ite (lasts_raise (lasts_fabShow (lasts_setF (lasts_modPass (lasts_setF h))))) h

theorem lasts_discover (h : Lasts s₀ s) {first} : Lasts s₀ (s.discover first) := h

theorem lasts_leadSelf (h : Lasts s₀ s) : Lasts s₀ (s.leadSelf) := h

theorem lasts_leadClaim (h : Lasts s₀ s) {lead rival} : Lasts s₀ (s.leadClaim lead rival) :=
  lasts_ite (lasts_setF h) (lasts_ite (lasts_raise (lasts_setF (lasts_setF h))) (lasts_raise (lasts_leadSelf (lasts_discover (lasts_setF (lasts_setF h))))))

theorem lasts_fabCtrl (h : Lasts s₀ s) {v lead rival} : Lasts s₀ (s.fabCtrl v lead rival) :=
  lasts_ite (lasts_discover (lasts_ite (lasts_leadEnd (lasts_ite (lasts_leadClaim h) h)) (lasts_ite (lasts_leadClaim h) h))) (lasts_ite (lasts_leadEnd (lasts_ite (lasts_leadClaim h) h)) (lasts_ite (lasts_leadClaim h) h))

theorem lasts_sessOpen (h : Lasts s₀ s) {kind rate lanes} : Lasts s₀ (s.sessOpen kind rate lanes) :=
  lasts_raise (lasts_authShow (lasts_modPass (lasts_wr64 (lasts_setF (lasts_setF (lasts_setF h))))))

theorem lasts_sessEnd (h : Lasts s₀ s) {cause} : Lasts s₀ (s.sessEnd cause) :=
  lasts_ite h (lasts_raise (lasts_authShow (lasts_modPass (lasts_setF (lasts_setRate (lasts_setF (lasts_setF (lasts_ite (lasts_leadEnd (lasts_trDrainEnd (lasts_drainEnd (lasts_grantsEnd (lasts_exclEnd h))))) (lasts_trDrainEnd (lasts_drainEnd (lasts_grantsEnd (lasts_exclEnd h))))))))))))

theorem lasts_takeAck (h : Lasts s₀ s) {t} : Lasts s₀ (s.takeAck t) := h

theorem lasts_accept (h : Lasts s₀ s) {t} : Lasts s₀ (s.accept t) := h

theorem lasts_frameBad (h : Lasts s₀ s) {crc} : Lasts s₀ (s.frameBad crc) :=
  lasts_ite (lasts_hubFault (lasts_satAdd (lasts_modPass h))) (lasts_modPass h)

theorem lasts_frameIn (h : Lasts s₀ s) {t k} (hk : ∀ t, Lasts s₀ t → Lasts s₀ (k t)) : Lasts s₀ (s.frameIn t k) :=
  lasts_ite (lasts_ite (hk _ (lasts_accept h)) (lasts_frameBad h)) (lasts_ite (hk _ (lasts_bump h)) h)

theorem lasts_helloRefuse (h : Lasts s₀ s) {status} : Lasts s₀ (s.helloRefuse status) := h

theorem lasts_hello (h : Lasts s₀ s) {proto rate lanes tool t} : Lasts s₀ (s.hello proto rate lanes tool t) :=
  lasts_ite (lasts_helloRefuse (lasts_wr (lasts_modPass (lasts_bump h)))) (lasts_ite (lasts_helloRefuse (lasts_wr (lasts_modPass (lasts_bump h)))) (lasts_ite (lasts_frameOut (lasts_sessOpen (lasts_setRate (lasts_modPass (lasts_sessEnd (lasts_wr (lasts_modPass (lasts_bump h)))))))) (lasts_modPass (lasts_setF (lasts_frameOut (lasts_sessOpen (lasts_setRate (lasts_modPass (lasts_sessEnd (lasts_wr (lasts_modPass (lasts_bump h))))))))))))

theorem lasts_trained (h : Lasts s₀ s) {rate lanes cause} : Lasts s₀ (s.trained rate lanes cause) := h

theorem lasts_rateTrain (h : Lasts s₀ s) {ok} : Lasts s₀ (s.rateTrain ok) := by
  unfold State.rateTrain
  split
  · exact h
  · exact lasts_ite h (lasts_ite (lasts_trained h) (lasts_ite (lasts_modPass h) (lasts_trained h)))

theorem lasts_laneLost (h : Lasts s₀ s) {n} : Lasts s₀ (s.laneLost n) :=
  lasts_ite (lasts_raise (lasts_modPass (lasts_setRate (lasts_hubFault h)))) h

theorem lasts_linkLoss (h : Lasts s₀ s) : Lasts s₀ (s.linkLoss) :=
  lasts_ite (lasts_sessEnd (lasts_modPass h)) h

theorem lasts_lockGained (h : Lasts s₀ s) {n} : Lasts s₀ (s.lockGained n) := h

theorem lasts_txIdle (h : Lasts s₀ s) {n on} : Lasts s₀ (s.txIdle n on) :=
  lasts_ite h (lasts_ite h (lasts_modPass h))

theorem lasts_txDone (h : Lasts s₀ s) {f} : Lasts s₀ (s.txDone f) := h

theorem lasts_frameSend (h : Lasts s₀ s) : Lasts s₀ (s.frameSend) := by
  unfold State.frameSend
  dsimp only
  exact lasts_ite h (by
    split
    · exact h
    · exact lasts_txDone h
    · exact lasts_ite (lasts_sessEnd (lasts_modPass (lasts_txDone (lasts_satAdd h)))) (lasts_modPass (lasts_txDone (lasts_satAdd h)))
    · exact lasts_modPass (lasts_txDone h))

theorem lasts_retxTimeout (h : Lasts s₀ s) : Lasts s₀ (s.retxTimeout) :=
  lasts_ite (lasts_modPass h) h

theorem lasts_kaSend (h : Lasts s₀ s) : Lasts s₀ (s.kaSend) :=
  lasts_ite (lasts_modPass (lasts_frameOut h)) h

theorem lasts_kaTimeout (h : Lasts s₀ s) : Lasts s₀ (s.kaTimeout) :=
  lasts_ite (lasts_sessEnd h) h

theorem lasts_markSend (h : Lasts s₀ s) {t} : Lasts s₀ (s.markSend t) :=
  lasts_ite (lasts_modPass h) h

theorem lasts_portBufUc (h : Lasts s₀ s) : Lasts s₀ (s.portBufUc) :=
  lasts_sessEnd (lasts_hubMemFault h)

theorem lasts_dumpFrame (h : Lasts s₀ s) {slot part chunk o held dam last bs} : Lasts s₀ (s.dumpFrame slot part chunk o held dam last bs) := h

theorem lasts_dumpPart (h : Lasts s₀ s) {slot part chunk bs held dam} : Lasts s₀ (s.dumpPart slot part chunk bs held dam) :=
  lasts_foldl (fun _ _ h1 => lasts_dumpFrame h1) h

theorem lasts_dumpSend (h : Lasts s₀ s) {uc} : Lasts s₀ (s.dumpSend uc) := by
  unfold State.dumpSend
  dsimp only
  split
  · exact h
  · exact lasts_ite h (by
    split
    · exact lasts_slotBad (lasts_hubFault h)
    · exact lasts_ite (lasts_update (lasts_dumpPart h)) (lasts_ite (lasts_ite h (by
      split
      · exact h
      · exact lasts_setF (lasts_update (lasts_ite (lasts_dumpPart (lasts_dumpPart h)) (lasts_hubMemFault (lasts_dumpPart (lasts_dumpPart h))))))) (lasts_ite (lasts_update (lasts_dumpPart h)) h)))

theorem lasts_traceSend (h : Lasts s₀ s) : Lasts s₀ (s.traceSend) := by
  unfold State.traceSend
  dsimp only
  exact lasts_ite h (by
    split
    · exact h
    · exact lasts_ite h (lasts_trSent (by split <;> exact lasts_frameOut h)))

theorem lasts_tapLoad (h : Lasts s₀ s) {code} : Lasts s₀ (s.tapLoad code) := h

theorem lasts_tapReset (h : Lasts s₀ s) : Lasts s₀ (s.tapReset) :=
  lasts_ite (lasts_sessEnd (lasts_modPass h)) (lasts_modPass h)

theorem lasts_xcutSend (h : Lasts s₀ s) {kind src} : Lasts s₀ (s.xcutSend kind src).1 :=
  lasts_ite_fst (lasts_update (lasts_setF (lasts_setF (lasts_cutReq h)))) (lasts_ite_fst (lasts_update (lasts_cutReq h)) (lasts_cutReq h))

theorem lasts_xcutReq (h : Lasts s₀ s) {kind src} : Lasts s₀ (s.xcutReq kind src).1 :=
  lasts_ite_fst (lasts_cutRefuse h) (lasts_ite_fst (lasts_ite_fst (lasts_xcutSend h) (lasts_modPass h)) (lasts_ite_fst (lasts_update h) (lasts_cutRefuse h)))

theorem lasts_memberUp (h : Lasts s₀ s) {dev uid status} : Lasts s₀ (s.memberUp dev uid status) :=
  lasts_ite (lasts_fabShow (lasts_setMember h)) (lasts_raise (lasts_fabShow (lasts_setMember h)))

theorem lasts_assign (h : Lasts s₀ s) {uid status} : Lasts s₀ (s.assign uid status) := by
  unfold State.assign
  split
  · exact lasts_memberUp h
  · split
    · exact h
    · exact lasts_memberUp (lasts_modPass h)

theorem lasts_announce (h : Lasts s₀ s) {uid dev status} : Lasts s₀ (s.announce uid dev status) :=
  lasts_ite (lasts_ite h (lasts_ite (lasts_modPass h) (lasts_assign h))) (lasts_ite (lasts_setF (lasts_setF h)) h)

theorem lasts_discoverEnd (h : Lasts s₀ s) : Lasts s₀ (s.discoverEnd) := by
  unfold State.discoverEnd
  dsimp only
  split
  · exact h
  · exact lasts_ite h (lasts_raise (lasts_modPass (lasts_setF (lasts_foldl (fun _ _ h1 => lasts_assign h1) h))))

theorem lasts_memberDown (h : Lasts s₀ s) {dev cause} : Lasts s₀ (s.memberDown dev cause) := by
  unfold State.memberDown
  split
  · exact lasts_ite (lasts_raise (lasts_fabShow (lasts_setMember h))) h
  · exact h

theorem lasts_memberTimeout (h : Lasts s₀ s) {dev} : Lasts s₀ (s.memberTimeout dev) := by
  unfold State.memberTimeout
  split
  · exact lasts_ite (lasts_memberDown h) h
  · exact h

theorem lasts_linksUp (h : Lasts s₀ s) : Lasts s₀ (s.linksUp) :=
  lasts_ite (lasts_foldl (fun _ _ h1 => lasts_xcutSend h1) (lasts_modPass (lasts_discover (lasts_leadSelf h)))) h

theorem lasts_carry (h : Lasts s₀ s) {dev ftype words} : Lasts s₀ (s.carry dev ftype words) := h

theorem lasts_relayOne (h : Lasts s₀ s) {share ok busy dev} : Lasts s₀ (State.relayOne share ok busy s dev) := by
  unfold State.relayOne
  dsimp only
  exact lasts_frameOut (by
    split
    · exact lasts_ite (lasts_fabShow (lasts_setMember (lasts_ite (lasts_carry h) h))) (lasts_ite (lasts_carry h) h)
    · exact lasts_ite (lasts_carry h) h)

theorem lasts_relayOpen (h : Lasts s₀ s) {dev all share ok busy} : Lasts s₀ (s.relayOpen dev all share ok busy) :=
  lasts_foldl (fun _ _ h1 => lasts_relayOne h1) h

theorem lasts_relayClose (h : Lasts s₀ s) {dev all} : Lasts s₀ (s.relayClose dev all) := by
  unfold State.relayClose
  exact lasts_ite (lasts_ite (lasts_sessEnd h) h) (lasts_fabShow (lasts_foldl (fun _ _ h1 => by
    split
    · exact lasts_setMember (lasts_ite (lasts_carry h1) h1)
    · exact h1) h))

theorem lasts_relayed (h : Lasts s₀ s) {share} : Lasts s₀ (s.relayed share) :=
  lasts_ite (lasts_sessOpen (lasts_modPass (lasts_setF h))) h

theorem lasts_relayKa (h : Lasts s₀ s) : Lasts s₀ (s.relayKa) :=
  lasts_ite (lasts_modPass h) h

theorem lasts_leadLost (h : Lasts s₀ s) : Lasts s₀ (s.leadLost) :=
  lasts_ite (lasts_sessEnd h) h

theorem lasts_devReset (h : Lasts s₀ s) : Lasts s₀ (s.devReset) := h

/-! ### Tfit -/

theorem lasts_tfApply (h : Lasts s₀ s) {step} : Lasts s₀ (s.tfApply step) :=
  lasts_ite (lasts_scrShow (lasts_stateIn (lasts_update (lasts_levelFit (lasts_setF (lasts_setF (lasts_setF h))))))) (lasts_update (lasts_levelFit (lasts_setF (lasts_setF (lasts_setF h)))))

theorem lasts_tfMove (h : Lasts s₀ s) {step} : Lasts s₀ (s.tfMove step) :=
  lasts_wrapAdd (lasts_tfApply h)

theorem lasts_tfWindow (h : Lasts s₀ s) : Lasts s₀ (s.tfWindow) :=
  lasts_update h

theorem lasts_tfBase (h : Lasts s₀ s) : Lasts s₀ (s.tfBase) := h

theorem lasts_tfEnable (h : Lasts s₀ s) {was} : Lasts s₀ (s.tfEnable was) :=
  lasts_ite (lasts_tfWindow (lasts_tfBase h)) (lasts_ite (lasts_tfApply h) h)

theorem lasts_tfEnd (h : Lasts s₀ s) : Lasts s₀ (s.tfEnd) :=
  lasts_ite (lasts_tfWindow h) (lasts_ite (lasts_ite (lasts_tfMove (lasts_setF (lasts_tfWindow h))) (lasts_update (lasts_setF (lasts_tfWindow h)))) (lasts_ite (lasts_ite (lasts_tfMove (lasts_update (lasts_setF (lasts_tfWindow h)))) (lasts_update (lasts_setF (lasts_tfWindow h)))) (lasts_update (lasts_setF (lasts_tfWindow h)))))

/-! ### Reset -/

theorem lasts_unitOff (h : Lasts s₀ s) {id} : Lasts s₀ (s.unitOff id) :=
  lasts_setCairn (lasts_ite (lasts_setFence h) h)

theorem lasts_warmCheck (h : Lasts s₀ s) : Lasts s₀ (s.warmCheck) :=
  lasts_ite (lasts_raise (lasts_setF h)) h

theorem lasts_unitUp (h : Lasts s₀ s) {id} : Lasts s₀ (s.unitUp id) :=
  lasts_ite h (lasts_touch (lasts_ite (lasts_posShow (lasts_ite (lasts_modC (lasts_takeFree (lasts_ite (lasts_remapAtWake (lasts_crestRestore (lasts_fenceWake (lasts_ite (lasts_countDormant (lasts_setCairn h)) (lasts_setCairn h))))) (lasts_crestRestore (lasts_fenceWake (lasts_ite (lasts_countDormant (lasts_setCairn h)) (lasts_setCairn h))))))) (lasts_ite (lasts_remapAtWake (lasts_crestRestore (lasts_fenceWake (lasts_ite (lasts_countDormant (lasts_setCairn h)) (lasts_setCairn h))))) (lasts_crestRestore (lasts_fenceWake (lasts_ite (lasts_countDormant (lasts_setCairn h)) (lasts_setCairn h))))))) (lasts_ite (lasts_modC (lasts_takeFree (lasts_ite (lasts_remapAtWake (lasts_crestRestore (lasts_fenceWake (lasts_ite (lasts_countDormant (lasts_setCairn h)) (lasts_setCairn h))))) (lasts_crestRestore (lasts_fenceWake (lasts_ite (lasts_countDormant (lasts_setCairn h)) (lasts_setCairn h))))))) (lasts_ite (lasts_remapAtWake (lasts_crestRestore (lasts_fenceWake (lasts_ite (lasts_countDormant (lasts_setCairn h)) (lasts_setCairn h))))) (lasts_crestRestore (lasts_fenceWake (lasts_ite (lasts_countDormant (lasts_setCairn h)) (lasts_setCairn h))))))))

theorem lasts_domainUp (h : Lasts s₀ s) {ids} : Lasts s₀ (s.domainUp ids) :=
  lasts_ite (lasts_foldl (fun _ _ h1 => lasts_unitUp h1) h) h

theorem lasts_wakeActs (h : Lasts s₀ s) {id} : Lasts s₀ (s.wakeActs id) := by
  unfold State.wakeActs
  extract_lets issued ahead past held cutAhead freed s1 c1 s2
  have h2 : Lasts s₀ s2 := lasts_update (lasts_modC h)
  exact lasts_ite (lasts_update h2) h2

theorem lasts_startRun (h : Lasts s₀ s) {id} : Lasts s₀ (s.startRun id) :=
  lasts_ite h (lasts_unitRuns h)

theorem lasts_leafLoad (h : Lasts s₀ s) {id val trip} : Lasts s₀ (s.leafLoad id val trip) :=
  lasts_ite h (lasts_warmCheck (lasts_deferRaise (lasts_touch (lasts_fenceWakeDone (lasts_ite (lasts_update (lasts_startRun (lasts_wakeActs (lasts_satAdd (lasts_modC (lasts_calibrate (lasts_setCairn h))))))) (lasts_raiseSpur (lasts_startRun (lasts_wakeActs (lasts_satAdd (lasts_modC (lasts_calibrate (lasts_setCairn h))))))))))))

theorem lasts_unitDown (h : Lasts s₀ s) {id} : Lasts s₀ (s.unitDown id) :=
  lasts_ite (lasts_deferRaise (lasts_touch (lasts_unitOff (lasts_ite (lasts_countDormant (lasts_update h)) (lasts_update h))))) (lasts_ite h (lasts_touch (lasts_winFate (lasts_apFate (lasts_ite (lasts_countDormant (lasts_raiseSpur (lasts_unitOff (lasts_ite (lasts_setF h) h)))) (lasts_raiseSpur (lasts_unitOff (lasts_ite (lasts_setF h) h))))))))

theorem lasts_spareDown (h : Lasts s₀ s) {ids id} : Lasts s₀ (s.spareDown ids id) :=
  lasts_ite h (lasts_spareLost h)

theorem lasts_domainDown (h : Lasts s₀ s) {ids} : Lasts s₀ (s.domainDown ids) := by
  unfold State.domainDown
  dsimp only
  exact lasts_ite (lasts_warmCheck (lasts_foldl (fun _ _ h1 => lasts_spareDown h1) (lasts_foldl (fun _ _ h1 => lasts_echoSpareLost h1) (lasts_foldl (fun _ _ h1 => lasts_echoTargetLost h1) (lasts_foldl (fun _ _ h1 => lasts_unitDown h1) h))))) h

theorem lasts_pllLock (h : Lasts s₀ s) : Lasts s₀ (s.pllLock) :=
  lasts_ite (lasts_setF (lasts_setF (lasts_update h))) h

theorem lasts_startLcy (h : Lasts s₀ s) : Lasts s₀ (s.startLcy) :=
  lasts_ite (lasts_setF (lasts_lcySettle h)) (lasts_lcySettle h)

theorem lasts_sprCounts (h : Lasts s₀ s) : Lasts s₀ (s.sprCounts) :=
  lasts_foldl (fun _ _ h1 => lasts_setF (lasts_setF h1)) h

theorem lasts_startSpur (h : Lasts s₀ s) {p ok} : Lasts s₀ (s.startSpur p ok) :=
  lasts_ite h (lasts_svcUpdate (lasts_spurLost (lasts_setF h)))

theorem lasts_startDone (h : Lasts s₀ s) : Lasts s₀ (s.startDone) :=
  lasts_raise (lasts_authShow (lasts_setF (lasts_update (lasts_ite (lasts_setF (lasts_wr h)) (lasts_setF (lasts_setF (lasts_wr h)))))))

theorem lasts_chainNext (h : Lasts s₀ s) : Lasts s₀ (s.chainNext) := by
  unfold State.chainNext
  dsimp only
  split
  · exact lasts_update h
  · exact h

theorem lasts_chained (h : Lasts s₀ s) {g} (hg : ∀ t, Lasts s₀ t → Lasts s₀ (g t)) : Lasts s₀ (s.chained g) :=
  lasts_update (hg _ h)

theorem lasts_warmReset (h : Lasts s₀ s) : Lasts s₀ (s.warmReset) :=
  lasts_ite h (lasts_chainNext (lasts_winFate (lasts_apFate (lasts_devReset (lasts_update (lasts_wr (lasts_update (lasts_setF (lasts_setF (lasts_vfWarm (lasts_lagReset (lasts_foldl (fun _ _ h1 => lasts_unitOff h1) (lasts_abortJobs (lasts_update (lasts_cutEnd (lasts_stepEnd (lasts_chained (lasts_chained (lasts_chained (lasts_chained (lasts_chained (lasts_chained (lasts_chained (lasts_wr64 (lasts_setF (lasts_setF (lasts_setF h)))) (fun _ h1 => lasts_raise h1)) (fun _ h1 => lasts_ucWarmAck h1)) (fun _ h1 => lasts_authWarm h1)) (fun _ h1 => lasts_prbWarm h1)) (fun _ h1 => lasts_crsWarm h1)) (fun _ h1 => lasts_dumpTruncate h1)) (fun _ h1 => lasts_scrWarm h1))))))))))))))))))

theorem lasts_bmuReady (h : Lasts s₀ s) : Lasts s₀ (s.bmuReady) :=
  lasts_ite h (lasts_warmCheck (lasts_deferRaise (lasts_update h)))

theorem lasts_softRegs (h : Lasts s₀ s) : Lasts s₀ (s.softRegs) :=
  lasts_update h

theorem lasts_softChecked (h : Lasts s₀ s) : Lasts s₀ (s.softChecked) := h

theorem lasts_softApply (h : Lasts s₀ s) : Lasts s₀ (s.softApply) := by
  unfold State.softApply
  dsimp only
  split
  · exact h
  · exact lasts_ite h (lasts_softChecked (lasts_authShow (lasts_softRegs (lasts_modPass (lasts_setMst (lasts_setMst (lasts_devReset (lasts_sweepCut (lasts_setF (lasts_update (lasts_lagReset (lasts_leadEnd (lasts_scrSoft (lasts_cenDrop (lasts_drainEnd (lasts_crsSoft (lasts_prbSoft (lasts_cutEnd (lasts_stepEnd (lasts_foldl (fun _ _ h1 => lasts_ite (lasts_unitRuns (lasts_modC h1)) (lasts_modC h1)) (lasts_foldl (fun _ _ h1 => lasts_heldApply h1) (lasts_authSoft (lasts_exclEnd (lasts_sessEnd (lasts_raise (lasts_setF (lasts_setF (lasts_update h))))))))))))))))))))))))))))

theorem lasts_softSpur (h : Lasts s₀ s) {p ok} : Lasts s₀ (s.softSpur p ok) :=
  lasts_ite (lasts_ite (lasts_setStaged (lasts_ite (lasts_update (lasts_setSpur h)) (lasts_update (lasts_setSpur h)))) (lasts_setSpur h)) (lasts_ite h (lasts_spurLost h))

theorem lasts_mirrorAll (h : Lasts s₀ s) : Lasts s₀ (s.mirrorAll) :=
  lasts_foldl (fun _ _ h1 => lasts_touch h1) h

theorem lasts_softDone (h : Lasts s₀ s) {ok0 ok1} : Lasts s₀ (s.softDone ok0 ok1) := by
  unfold State.softDone
  dsimp only
  split
  · exact h
  · exact lasts_ite h (lasts_update (lasts_setF (lasts_softChecked (lasts_couRebuild (lasts_lcyResume (lasts_lcySettle (lasts_svcUpdate (lasts_sweepCut (lasts_sprCounts (lasts_ite (lasts_mirrorAll (lasts_waitSort (lasts_ite (lasts_ite (lasts_softSpur (lasts_softSpur h)) (lasts_update (lasts_softSpur (lasts_softSpur h)))) (lasts_ite (lasts_setSpur (lasts_ite (lasts_setSpur (lasts_ite (lasts_softSpur (lasts_softSpur h)) (lasts_update (lasts_softSpur (lasts_softSpur h))))) (lasts_ite (lasts_softSpur (lasts_softSpur h)) (lasts_update (lasts_softSpur (lasts_softSpur h)))))) (lasts_ite (lasts_setSpur (lasts_ite (lasts_softSpur (lasts_softSpur h)) (lasts_update (lasts_softSpur (lasts_softSpur h))))) (lasts_ite (lasts_softSpur (lasts_softSpur h)) (lasts_update (lasts_softSpur (lasts_softSpur h))))))))) (lasts_waitSort (lasts_ite (lasts_ite (lasts_softSpur (lasts_softSpur h)) (lasts_update (lasts_softSpur (lasts_softSpur h)))) (lasts_ite (lasts_setSpur (lasts_ite (lasts_setSpur (lasts_ite (lasts_softSpur (lasts_softSpur h)) (lasts_update (lasts_softSpur (lasts_softSpur h))))) (lasts_ite (lasts_softSpur (lasts_softSpur h)) (lasts_update (lasts_softSpur (lasts_softSpur h)))))) (lasts_ite (lasts_setSpur (lasts_ite (lasts_softSpur (lasts_softSpur h)) (lasts_update (lasts_softSpur (lasts_softSpur h))))) (lasts_ite (lasts_softSpur (lasts_softSpur h)) (lasts_update (lasts_softSpur (lasts_softSpur h))))))))))))))))))

theorem lasts_idleWatch (h : Lasts s₀ s) : Lasts s₀ (s.idleWatch) :=
  lasts_ite h (lasts_ite (lasts_ite h (lasts_update h)) (lasts_ite (lasts_setF (lasts_ite (lasts_update h) h)) (lasts_ite (lasts_update h) h)))

theorem lasts_hubIdle (h : Lasts s₀ s) : Lasts s₀ (s.hubIdle) := by
  unfold State.hubIdle
  split
  · exact lasts_ite (lasts_setF h) h
  · exact h

/-! ### Access -/

theorem lasts_setHolding (h : Lasts s₀ s) {g cap held} : Lasts s₀ (s.setHolding g cap held) := by
  unfold State.setHolding
  dsimp only
  split
  · exact lasts_setMst h
  · exact lasts_setEng h

theorem lasts_engRead (h : Lasts s₀ s) {e a} : Lasts s₀ (s.engRead e a).1 := by
  unfold State.engRead
  dsimp only
  exact lasts_ite_fst h (by
    split
    · exact h
    · exact lasts_ite_fst h (lasts_ite_fst (lasts_takeFree h) (by split <;> exact h)))

theorem lasts_hwmRestart (h : Lasts s₀ s) {a} : Lasts s₀ (s.hwmRestart a) :=
  lasts_ite (lasts_setF (lasts_ite (lasts_setF h) h)) (lasts_ite (lasts_setF h) h)

theorem lasts_mstRead (h : Lasts s₀ s) {m a} : Lasts s₀ (s.mstRead m a).1 := by
  unfold State.mstRead
  dsimp only
  exact lasts_ite_fst h (by
    split
    · exact h
    · exact h
    · exact lasts_ite_fst (lasts_bufRead h) (lasts_ite_fst (lasts_pmDataRead h) (by
      split
      · exact h
      · exact lasts_ite_fst h (lasts_ite_fst (lasts_ite (lasts_setMst (lasts_wr h)) (lasts_wr h)) (lasts_hwmRestart h)))))

theorem lasts_regRead (h : Lasts s₀ s) {g a} : Lasts s₀ (s.regRead g a).1 := by
  unfold State.regRead
  split
  · exact lasts_mstRead h
  · exact lasts_engRead h

theorem lasts_putReg (h : Lasts s₀ s) {g a v} : Lasts s₀ (s.putReg g a v) := by
  unfold State.putReg
  dsimp only
  split
  · exact h
  · exact lasts_ite (by
    split
    · split
      · exact lasts_wr h
      · exact lasts_wr h
      · exact lasts_wr h
      · exact h
    · exact h) (by
    split
    · exact lasts_wr h
    · exact lasts_wr h
    · exact lasts_wr h
    · exact h)

theorem lasts_loseSpur (h : Lasts s₀ s) {p rflags} : Lasts s₀ (s.loseSpur p rflags) :=
  lasts_ite h (lasts_svcUpdate (lasts_scrSpur (lasts_stageLost (lasts_winFate (lasts_spurLost h)))))

theorem lasts_topoCtrl (h : Lasts s₀ s) {v} : Lasts s₀ (s.topoCtrl v) :=
  lasts_ite h (lasts_ite (lasts_loseSpur (lasts_wr (lasts_ite (lasts_loseSpur (lasts_wr h)) h))) (lasts_ite (lasts_loseSpur (lasts_wr h)) h))

theorem lasts_cutCmd (h : Lasts s₀ s) {src v} : Lasts s₀ (s.cutCmd src v) :=
  lasts_ite (lasts_xcutReq h) (lasts_cutReq h)

theorem lasts_stepCmd (h : Lasts s₀ s) {src v} : Lasts s₀ (s.stepCmd src v) :=
  lasts_ite (lasts_stepReq h) h

theorem lasts_mayHave (h : Lasts s₀ s) {write g} (hg : ∀ t, Lasts s₀ t → Lasts s₀ (g t)) : Lasts s₀ (s.mayHave write g) :=
  lasts_ite (lasts_ite (hg _ (lasts_takeFree h)) (lasts_takeFree h)) h

theorem lasts_crnForce (h : Lasts s₀ s) {id v} : Lasts s₀ (s.crnForce id v) :=
  lasts_foldl (fun _ _ h1 => lasts_ite (lasts_cairnFault h1) h1) h

theorem lasts_freeView (h : Lasts s₀ s) {o} : Lasts s₀ (s.freeView o).2 := h

theorem lasts_crnGet (h : Lasts s₀ s) {g id o sec} : Lasts s₀ (s.crnGet g id o sec).1 := by
  unfold State.crnGet
  dsimp only
  exact lasts_ite_fst (by
    split
    · exact lasts_ite_fst (lasts_takeFree h) (lasts_ite (lasts_modC h) h)
    · exact lasts_ite (lasts_modC h) h
    · exact h) (by
    split
    · exact lasts_viewRead h
    · exact lasts_ite_fst (lasts_summaryRead h) (lasts_spaceRead (lasts_freeView h)))

theorem lasts_crnPut (h : Lasts s₀ s) {g id o v sec} : Lasts s₀ (s.crnPut g id o v sec).1 := by
  unfold State.crnPut
  dsimp only
  exact lasts_ite_fst (lasts_ite (lasts_modC h) (lasts_ite (lasts_modC h) (lasts_ite (lasts_crnForce h) h))) (lasts_ite_fst (by
    split
    · exact h
    · exact lasts_ite_fst (lasts_modC h) (lasts_ite_fst h (lasts_ite_fst (by
      split
      · exact lasts_modC h
      · exact h) (lasts_ite (lasts_retainWrite (lasts_modC h)) (lasts_modC h))))) (by
    split
    · exact lasts_viewWrite h
    · exact lasts_ite_fst (lasts_summaryWrite h) (lasts_spaceWrite (lasts_freeView h))))

theorem lasts_crnAccess (h : Lasts s₀ s) {g id o write v sec} : Lasts s₀ (s.crnAccess g id o write v sec).1 := by
  unfold State.crnAccess
  dsimp only
  exact lasts_ite_fst (lasts_ite_fst (lasts_setHolding (lasts_setHolding h)) (lasts_crnPut (by
    split
    · exact lasts_ite (lasts_crnPut (lasts_setHolding h)) (lasts_setHolding h)
    · exact lasts_setHolding h))) (by
    split
    · exact lasts_setHolding h
    · exact lasts_ite_fst (lasts_setHolding (lasts_crnGet (lasts_setHolding h))) (lasts_crnGet (lasts_setHolding h)))

theorem lasts_apPerhaps (h : Lasts s₀ s) {a} : Lasts s₀ (s.apPerhaps a) :=
  lasts_ite h (lasts_mayHave h (fun _ h1 => lasts_crnPut h1))

theorem lasts_softRequest (h : Lasts s₀ s) {m v} : Lasts s₀ (s.softRequest m v) :=
  lasts_ite h (lasts_foldl (fun _ _ h1 => lasts_ite (lasts_apComplete h1) (lasts_complete h1)) (lasts_update (lasts_apFate (lasts_foldl (fun _ _ h1 => lasts_apPerhaps h1) (lasts_sessEnd (lasts_update (lasts_setF (lasts_setF (lasts_setF h)))))))))

theorem lasts_sumPut (h : Lasts s₀ s) {m a v} : Lasts s₀ (s.sumPut m a v) := by
  unfold State.sumPut
  exact lasts_ite (lasts_topoCtrl h) (lasts_ite (by
    split
    · exact lasts_exclPass h
    · exact lasts_exclHost h) (lasts_ite (lasts_cutCmd h) (lasts_ite (lasts_stepCmd h) (lasts_ite (lasts_softRequest h) (lasts_putReg h)))))

theorem lasts_crsPut (h : Lasts s₀ s) {g a v} : Lasts s₀ (s.crsPut g a v) :=
  lasts_ite (lasts_crsCtrl h) (lasts_ite (lasts_raiseCh h) (lasts_ite (lasts_ite (lasts_setF h) h) (lasts_putReg h)))

theorem lasts_prbPut (h : Lasts s₀ s) {m a v} : Lasts s₀ (s.prbPut m a v) :=
  lasts_ite (lasts_prbCtrl h) (lasts_ite (lasts_pmDataWrite h) (lasts_ite h (lasts_putReg h)))

theorem lasts_couPut (h : Lasts s₀ s) {g a v} : Lasts s₀ (s.couPut g a v) :=
  lasts_ite (lasts_couCtrl h) (lasts_ite (lasts_ite h (lasts_putReg h)) (lasts_ite (lasts_ite (lasts_dumpReq h) h) (lasts_ite (lasts_couRelease h) (lasts_ite (lasts_drainCtrl h) (lasts_ite (lasts_drainAck h) (lasts_putReg h))))))

theorem lasts_jobSubmit (h : Lasts s₀ s) {echo g v} : Lasts s₀ (s.jobSubmit echo g v) := by
  unfold State.jobSubmit
  dsimp only
  split
  · exact lasts_setF (lasts_setF (lasts_jobReq h))
  · exact lasts_jobReq h

theorem lasts_cenPut (h : Lasts s₀ s) {g a v} : Lasts s₀ (s.cenPut g a v) :=
  lasts_ite (lasts_jobSubmit h) (lasts_ite (lasts_jobSubmit h) (lasts_ite (lasts_masterAbort h) (lasts_ite (lasts_masterAbort h) (lasts_putReg h))))

theorem lasts_scrCmdBy (h : Lasts s₀ s) {g v} : Lasts s₀ (s.scrCmdBy g v) := by
  unfold State.scrCmdBy
  dsimp only
  split
  · exact lasts_scrCmd h
  · exact lasts_ite h (lasts_traceReq h)

theorem lasts_scrPut (h : Lasts s₀ s) {g a v} : Lasts s₀ (s.scrPut g a v) := by
  unfold State.scrPut
  exact lasts_ite (lasts_ite (lasts_tfBase (lasts_scrCtrl h)) (lasts_scrCtrl h)) (lasts_ite (lasts_scrCmdBy h) (lasts_ite (by
    split
    · exact lasts_scrMark h
    · exact lasts_ite (lasts_stagePkt h) h) (lasts_ite (lasts_ite (lasts_putReg h) h) (lasts_ite (lasts_trDrainCtrl h) (lasts_ite (lasts_trAck h) (lasts_putReg h))))))

theorem lasts_fenceCmd (h : Lasts s₀ s) {g v} : Lasts s₀ (s.fenceCmd g v) := by
  unfold State.fenceCmd
  dsimp only
  split
  · exact lasts_setF (lasts_fenceReq h)
  · exact lasts_fenceReq h

theorem lasts_fltPut (h : Lasts s₀ s) {g a v} : Lasts s₀ (s.fltPut g a v) :=
  lasts_ite (lasts_fltAck h) (lasts_ite (lasts_ceRd h) (lasts_ite (lasts_fenceCmd h) (lasts_ite (lasts_ite (lasts_unfence (lasts_putReg h)) h) (lasts_ite (lasts_svcUpdate (lasts_putReg h)) (lasts_putReg h)))))

theorem lasts_remapCmd (h : Lasts s₀ s) {g v} : Lasts s₀ (s.remapCmd g v) := by
  unfold State.remapCmd
  dsimp only
  split
  · exact lasts_setF (lasts_setF (lasts_remapReq h))
  · exact lasts_remapReq h

theorem lasts_unmapCmd (h : Lasts s₀ s) {g v} : Lasts s₀ (s.unmapCmd g v) := by
  unfold State.unmapCmd
  dsimp only
  exact lasts_ite (by
    split
    · exact lasts_setF (lasts_setF (lasts_unmapReq (lasts_putReg h)))
    · exact lasts_unmapReq (lasts_putReg h)) h

theorem lasts_wchPut (h : Lasts s₀ s) {g a v} : Lasts s₀ (s.wchPut g a v) := by
  unfold State.wchPut
  dsimp only
  exact lasts_ite (lasts_remapCmd h) (lasts_ite (lasts_unmapCmd h) (lasts_ite (lasts_tfEnable (lasts_putReg h)) (lasts_ite (by
    split
    · exact lasts_putReg h
    · exact lasts_update h) (lasts_putReg h))))

theorem lasts_talPut (h : Lasts s₀ s) {m a v} : Lasts s₀ (s.talPut m a v) :=
  lasts_ite (lasts_talCtrl h) (lasts_ite (lasts_talTrack h) (lasts_ite (lasts_talClear h) (lasts_ite (lasts_modTal (lasts_putReg h)) (lasts_ite (lasts_modTal (lasts_putReg h)) (lasts_putReg h)))))

theorem lasts_portPut (h : Lasts s₀ s) {m a v} : Lasts s₀ (s.portPut m a v) :=
  lasts_ite (lasts_lcyCmd h) (lasts_ite (lasts_authCmd h) (lasts_ite (lasts_bufWrite h) (lasts_ite (lasts_ite (lasts_ite (lasts_fabCtrl (lasts_takeFree h)) (lasts_fabCtrl (lasts_takeFree h))) (lasts_fabCtrl h)) (lasts_putReg h))))

theorem lasts_forceEffect (h : Lasts s₀ s) {p b} : Lasts s₀ (s.forceEffect p b) := by
  unfold State.forceEffect
  dsimp only
  split
  · exact lasts_realign (lasts_update (lasts_setF (lasts_setF h)))
  · exact lasts_realign (lasts_update (lasts_setF h))
  · exact lasts_runClear h
  · exact lasts_abortJobs h
  · exact lasts_ite (lasts_setF h) h
  · exact lasts_update h
  · exact lasts_verifyParity h
  · exact lasts_sessEnd h
  · exact lasts_engStopRun h
  · exact lasts_engStopRun h
  · exact lasts_engStopRun h
  · exact lasts_engStopRun h
  · exact lasts_engStopRun h
  · exact lasts_engStopRun h
  · exact lasts_engStopRun h
  · exact lasts_engStopRun h
  · exact lasts_engStopRun h
  · exact lasts_engStopRun h
  · exact lasts_engStopRun h
  · exact lasts_engStopRun h
  · exact h

theorem lasts_hubForce (h : Lasts s₀ s) {p v} : Lasts s₀ (s.hubForce p v) :=
  lasts_foldl (fun _ _ h1 => lasts_ite h1 (lasts_ite (lasts_hubFault h1) (lasts_ite (lasts_loseSpur h1) (lasts_forceEffect (lasts_hubFault h1))))) h

theorem lasts_headPut (h : Lasts s₀ s) {p o v} : Lasts s₀ (s.headPut p o v) :=
  lasts_ite h (lasts_ite (lasts_wr h) (lasts_ite (lasts_update h) (lasts_ite (lasts_hubForce h) h)))

theorem lasts_regWrite (h : Lasts s₀ s) {g a v} : Lasts s₀ (s.regWrite g a v) := by
  unfold State.regWrite
  exact lasts_ite (lasts_headPut h) (by
    split
    · exact lasts_sumPut h
    · exact lasts_ite (lasts_rdgCtrl h) (lasts_putReg h)
    · exact lasts_crsPut h
    · exact lasts_prbPut h
    · exact lasts_prbPut h
    · exact lasts_prbPut h
    · exact lasts_prbPut h
    · exact lasts_couPut h
    · exact lasts_cenPut h
    · exact lasts_cenPut h
    · exact lasts_scrPut h
    · exact lasts_fltPut h
    · exact lasts_wchPut h
    · exact lasts_talPut h
    · exact lasts_portPut h
    · exact lasts_portPut h
    · exact lasts_portPut h
    · exact lasts_putReg h)

theorem lasts_hubDo (h : Lasts s₀ s) {g a write v} : Lasts s₀ (s.hubDo g a write v).1 := by
  unfold State.hubDo
  dsimp only
  exact lasts_ite_fst (lasts_ite_fst (lasts_setHolding (lasts_setHolding h)) (lasts_regWrite (by
    split
    · exact lasts_ite (lasts_regWrite (lasts_setHolding h)) (lasts_setHolding h)
    · exact lasts_setHolding h))) (by
    split
    · exact lasts_setHolding h
    · exact lasts_ite_fst (lasts_setHolding (lasts_regRead (lasts_setHolding h))) (lasts_regRead (lasts_setHolding h)))

theorem lasts_hubMiss (h : Lasts s₀ s) {g} : Lasts s₀ (s.hubMiss g) :=
  lasts_setHolding h

theorem lasts_hubGrant (h : Lasts s₀ s) {x} : Lasts s₀ (s.hubGrant x) := by
  unfold State.hubGrant
  dsimp only
  split
  · exact lasts_complete (lasts_hubMiss h)
  · exact lasts_ite (lasts_complete (lasts_ite (lasts_mayHave (lasts_hubMiss h) (fun _ h1 => lasts_hubDo h1)) (lasts_hubMiss h))) (lasts_ite (lasts_complete (lasts_hubDo h)) (lasts_complete (lasts_hubMiss h)))

theorem lasts_apGrant (h : Lasts s₀ s) {x} : Lasts s₀ (s.apGrant x) := by
  unfold State.apGrant
  dsimp only
  exact lasts_apEnter (by
    split
    · exact lasts_hubMiss (lasts_ite (lasts_apPerhaps h) h)
    · exact lasts_ite (lasts_apPerhaps h) h)

theorem lasts_arbTurn (h : Lasts s₀ s) {m} : Lasts s₀ (s.arbTurn m) :=
  lasts_ite (lasts_update h) (lasts_update h)

theorem lasts_grant (h : Lasts s₀ s) {x} : Lasts s₀ (s.grant x) :=
  lasts_ite (lasts_apGrant (lasts_ite (lasts_update (lasts_arbTurn h)) (lasts_arbTurn h))) (lasts_hubGrant (lasts_ite (lasts_update (lasts_arbTurn h)) (lasts_arbTurn h)))

theorem lasts_pumpN {n} (h : Lasts s₀ s) : Lasts s₀ (State.pumpN n s) := by
  induction n generalizing s with
  | zero => exact h
  | succ n ih =>
    unfold State.pumpN
    split
    · exact h
    · exact ih (lasts_grant (lasts_update h))

theorem lasts_pump (h : Lasts s₀ s) : Lasts s₀ (s.pump) :=
  lasts_pumpN h

theorem lasts_issue (h : Lasts s₀ s) {m a write v fate} : Lasts s₀ (s.issue m a write v fate) :=
  lasts_ite (lasts_update (lasts_pump h)) (lasts_grant (lasts_pump h))

theorem lasts_masterAccess (h : Lasts s₀ s) {m addr width write v} : Lasts s₀ (s.masterAccess m addr width write v) :=
  lasts_ite (lasts_issue h) (lasts_ite (lasts_issue (lasts_issue h)) (lasts_issue h))

theorem lasts_masterWrite (h : Lasts s₀ s) {m a v} : Lasts s₀ (s.masterWrite m a v) :=
  lasts_masterAccess h

theorem lasts_masterRead (h : Lasts s₀ s) {m a} : Lasts s₀ (s.masterRead m a) :=
  lasts_masterAccess h

theorem lasts_apEnd (h : Lasts s₀ s) {x code data} : Lasts s₀ (s.apEnd x code data) :=
  lasts_pump (lasts_apFlush (lasts_apComplete (lasts_update h)))

theorem lasts_apAnswer (h : Lasts s₀ s) {m} : Lasts s₀ (s.apAnswer m) := by
  unfold State.apAnswer
  dsimp only
  split
  · exact h
  · exact lasts_ite h (lasts_ite (lasts_ite (lasts_apEnd (lasts_hubMiss h)) (lasts_ite (lasts_apEnd (lasts_hubMiss h)) (lasts_apEnd (lasts_hubMiss h)))) (lasts_ite h (lasts_apEnd (lasts_crnAccess h))))

theorem lasts_apTimeout (h : Lasts s₀ s) {m} : Lasts s₀ (s.apTimeout m) := by
  unfold State.apTimeout
  split
  · exact h
  · exact lasts_ite (lasts_apEnd (lasts_hubMiss h)) h

theorem lasts_accessAns (h : Lasts s₀ s) {m a write v} : Lasts s₀ (s.accessAns m a write v) :=
  lasts_ite (lasts_masterAccess h) (lasts_apAnswer (lasts_masterAccess h))

theorem lasts_engHub (h : Lasts s₀ s) {e a write v} : Lasts s₀ (s.engHub e a write v).1 :=
  lasts_ite_fst (lasts_hubDo h) (lasts_accErr (lasts_hubMiss h))

theorem lasts_winEnter (h : Lasts s₀ s) {e w} : Lasts s₀ (s.winEnter e w) :=
  lasts_winFlush (lasts_touchWin (lasts_setEng (lasts_update (lasts_ite (lasts_hubMiss h) h))))

theorem lasts_engWin (h : Lasts s₀ s) {e w} : Lasts s₀ (s.engWin e w).1 :=
  lasts_ite_fst (lasts_ite_fst (lasts_hubMiss h) (lasts_ite_fst (lasts_hubMiss h) (lasts_hubMiss h))) (lasts_ite_fst (lasts_crnAccess h) (lasts_ite_fst (lasts_ite_fst (lasts_spaceWrite (lasts_spaceWrite (lasts_hubMiss h))) (lasts_spaceWrite (lasts_hubMiss h))) (lasts_ite_fst (lasts_spaceRead (lasts_spaceRead (lasts_hubMiss h))) (lasts_spaceRead (lasts_hubMiss h)))))

theorem lasts_engAnswer (h : Lasts s₀ s) {e w} : Lasts s₀ (s.engAnswer e w) := by
  unfold State.engAnswer
  dsimp only
  split
  · exact lasts_setP (lasts_touchWin (lasts_ite (lasts_foldl (fun _ _ h1 => lasts_accErr h1) (lasts_engWin h)) (lasts_accErr (lasts_engWin h))))
  · exact lasts_touchWin (lasts_ite (lasts_foldl (fun _ _ h1 => lasts_accErr h1) (lasts_engWin h)) (lasts_accErr (lasts_engWin h)))

/-! ### Arbiter -/

theorem lasts_popHead (h : Lasts s₀ s) {x} : Lasts s₀ (s.popHead x) := by
  unfold State.popHead
  split
  · exact lasts_fifoFill (lasts_fifoFill (lasts_update h))
  · exact lasts_fifoFill (lasts_fifoFill (lasts_update h))
  · exact lasts_update h

theorem lasts_atNumber (h : Lasts s₀ s) {seq epoch e} : Lasts s₀ (s.atNumber seq epoch e).1 := by
  unfold State.atNumber
  dsimp only
  split
  · exact lasts_dumpNumbered (lasts_update (lasts_wr (lasts_jobIssue h)))
  · exact lasts_jobIssue h
  · exact lasts_stepIssue h
  · split
    · exact h
    · exact lasts_ite (lasts_lossNumbered (lasts_ite (lasts_talAdd (lasts_ite (lasts_talReq (lasts_faultNumbered h)) (lasts_faultNumbered h))) (lasts_ite (lasts_talReq (lasts_faultNumbered h)) (lasts_faultNumbered h)))) (lasts_ite (lasts_talAdd (lasts_ite (lasts_talReq (lasts_faultNumbered h)) (lasts_faultNumbered h))) (lasts_ite (lasts_talReq (lasts_faultNumbered h)) (lasts_faultNumbered h)))
  · exact h

theorem lasts_remapNumbered (h : Lasts s₀ s) {core} : Lasts s₀ (s.remapNumbered core) :=
  lasts_remapNext (lasts_foldl (fun _ _ h1 => lasts_fenceReq h1) (lasts_update h))

theorem lasts_afterNumber (h : Lasts s₀ s) {seq epoch e} : Lasts s₀ (s.afterNumber seq epoch e) := by
  unfold State.afterNumber
  dsimp only
  split
  · exact lasts_fenceNumbered h
  · exact lasts_fenceComplete h
  · exact lasts_ite (lasts_fenceEvent (lasts_setFence h)) h
  · exact lasts_remapNumbered h
  · exact lasts_wr h
  · exact lasts_commitNumbered h
  · exact h

theorem lasts_giveNumber (h : Lasts s₀ s) {seq epoch e} : Lasts s₀ (s.giveNumber seq epoch e) :=
  lasts_ite (lasts_chainNext (lasts_update (lasts_afterNumber (lasts_ite (lasts_modC (lasts_update (lasts_wchCount (lasts_scrEvent (lasts_atNumber h))))) (lasts_update (lasts_wchCount (lasts_scrEvent (lasts_atNumber h)))))))) (lasts_afterNumber (lasts_ite (lasts_modC (lasts_update (lasts_wchCount (lasts_scrEvent (lasts_atNumber h))))) (lasts_update (lasts_wchCount (lasts_scrEvent (lasts_atNumber h))))))

theorem lasts_takeNumber (h : Lasts s₀ s) {e} : Lasts s₀ (s.takeNumber e) :=
  lasts_ite (lasts_giveNumber (lasts_wr h)) (lasts_giveNumber (lasts_bump (lasts_wr (lasts_wr (lasts_giveNumber (lasts_wr h))))))

theorem lasts_arbitrate (h : Lasts s₀ s) : Lasts s₀ (s.arbitrate) := by
  unfold State.arbitrate
  split
  · exact h
  · exact lasts_takeNumber (lasts_popHead h)

theorem lasts_reportSend (h : Lasts s₀ s) {id} : Lasts s₀ (s.reportSend id) := by
  unfold State.reportSend
  dsimp only
  exact lasts_ite h (by
    split
    · exact h
    · exact lasts_fifoPut (lasts_setCairn h))

theorem lasts_sendDrop (h : Lasts s₀ s) {id} : Lasts s₀ (s.sendDrop id) := h

theorem lasts_sendHeld (h : Lasts s₀ s) {id} : Lasts s₀ (s.sendHeld id) := h

theorem lasts_ackEntry (h : Lasts s₀ s) {id} : Lasts s₀ (s.ackEntry id) :=
  lasts_ite h (lasts_touch (lasts_ite (lasts_sendHeld (lasts_setCairn h)) (lasts_ite (lasts_sendDrop (lasts_setCairn h)) (lasts_ite (lasts_sendHeld (lasts_takeFree (lasts_setCairn h))) (lasts_sendDrop (lasts_takeFree (lasts_setCairn h)))))))

/-! ### Rows -/

theorem lasts_keeping {t : State} (h : Lasts s₀ t) : Lasts s₀ (s.keeping t) := h

theorem lasts_remapSettle (h : Lasts s₀ s) : Lasts s₀ (s.remapSettle) :=
  lasts_foldl (fun _ _ h1 => lasts_ite h1 (lasts_remapNumbered h1)) h

theorem lasts_accPump (h : Lasts s₀ s) : Lasts s₀ (s.accPump) :=
  lasts_ite (lasts_modPass h) h

theorem lasts_regPumpN {n} (h : Lasts s₀ s) : Lasts s₀ (State.regPumpN n s) := by
  induction n generalizing s with
  | zero => exact h
  | succ n ih =>
    unfold State.regPumpN
    split
    · exact h
    · split
      · exact ih (lasts_modPass (lasts_frameOut h))
      · exact lasts_ite (lasts_ite (ih (lasts_modPass h)) h) (ih (lasts_masterAccess (lasts_modPass h)))

theorem lasts_passPump (h : Lasts s₀ s) : Lasts s₀ (s.passPump) :=
  lasts_regPumpN (lasts_accPump h)

/-! ### CutRows -/

theorem lasts_unitWrite (h : Lasts s₀ s) {id page addr bytes} : Lasts s₀ (s.unitWrite id page addr bytes) :=
  lasts_ite h (lasts_ite (lasts_heldApply h) (lasts_ite (lasts_divertWrite h) (lasts_heldApply h)))

/-! ### DumpRows -/

theorem lasts_pageCe (h : Lasts s₀ s) {x ord o} : Lasts s₀ (s.pageCe x ord o) := by
  unfold State.pageCe
  split
  · exact h
  · split
    · exact lasts_latentFault h
    · exact h

theorem lasts_bmuWrite (h : Lasts s₀ s) {half ord uc ce} : Lasts s₀ (s.bmuWrite half ord uc ce) := by
  unfold State.bmuWrite
  dsimp only
  split
  · exact lasts_couSync h
  · exact lasts_ite (lasts_couSync h) (lasts_ite (lasts_pageStore (lasts_couSync h)) (lasts_ite (lasts_noBlock (lasts_couSync h)) (lasts_pageStore (lasts_foldl (fun _ _ h1 => lasts_pageCe h1) (lasts_foldl (fun _ _ h1 => by
    split
    · exact lasts_latentFault h1
    · exact h1) (lasts_ite (lasts_couSync h) (lasts_addBytes (lasts_bump (lasts_couSync h)))))))))

/-! ### FaultRows -/

theorem lasts_detectAt (h : Lasts s₀ s) {id b tenant ctx detail detail2} : Lasts s₀ (s.detectAt id b tenant ctx detail detail2) :=
  lasts_cairnFault (lasts_ite (lasts_modC h) h)

theorem lasts_stageUc (h : Lasts s₀ s) {p ord} : Lasts s₀ (s.stageUc p ord) := by
  unfold State.stageUc
  dsimp only
  exact lasts_ite h (lasts_captureTail (by
    split
    · exact lasts_setSlot (lasts_addEntry (lasts_update (lasts_setStaged h)))
    · exact lasts_addEntry (lasts_update (lasts_setStaged h))))

theorem lasts_ringDamage (h : Lasts s₀ s) {k} : Lasts s₀ (s.ringDamage k) :=
  lasts_ite (lasts_update h) (lasts_update h)

theorem lasts_detectEffect (h : Lasts s₀ s) {page b detail detail2} : Lasts s₀ (s.detectEffect page b detail detail2) := by
  unfold State.detectEffect
  dsimp only
  split
  · exact lasts_stageUc h
  · exact lasts_stageUc h
  · exact lasts_ringDamage h
  · exact lasts_ite (lasts_copyUc h) h
  · exact lasts_ite (lasts_slotBad h) h
  · exact lasts_verifyParity h
  · exact lasts_ite (lasts_satAdd h) h
  · exact lasts_ite (lasts_satAdd h) h
  · exact lasts_ite (lasts_satAdd h) h
  · exact lasts_ite (lasts_satAdd h) h
  · exact lasts_engStopRun (lasts_ite h (lasts_update h))
  · exact lasts_engStopRun (lasts_ite h (lasts_update h))
  · exact lasts_engStopRun (lasts_ite h (lasts_update h))
  · exact lasts_engStopRun (lasts_ite h (lasts_update h))
  · exact h

theorem lasts_detectHub (h : Lasts s₀ s) {page b detail detail2} : Lasts s₀ (s.detectHub page b detail detail2) :=
  lasts_ite h (lasts_detectEffect (lasts_ite (lasts_hubMemFault h) (lasts_hubFault h)))

theorem lasts_ceTimer (h : Lasts s₀ s) {id b} : Lasts s₀ (s.ceTimer id b) := by
  unfold State.ceTimer
  dsimp only
  split
  · exact h
  · exact lasts_ite h (lasts_ite (lasts_setCairn h) (lasts_touch (lasts_setCairn h)))

theorem lasts_headerWrite (h : Lasts s₀ s) {m addr v} : Lasts s₀ (s.headerWrite m addr v) :=
  lasts_ite (lasts_accessAns h) (lasts_masterWrite h)

/-! ### PassRows -/

theorem lasts_regReq (h : Lasts s₀ s) {tag stop ops loc dev} : Lasts s₀ (s.regReq tag stop ops loc dev) :=
  lasts_ite (lasts_ite (lasts_frameOut h) (lasts_passPump (lasts_modPass h))) (lasts_ite (lasts_carry h) (lasts_frameOut h))

theorem lasts_trigIn (h : Lasts s₀ s) {xdev} : Lasts s₀ (s.trigIn xdev) :=
  lasts_raise (lasts_setF (lasts_ite_fst (lasts_recordErr (lasts_hubMiss (lasts_update h))) (lasts_ite_fst (lasts_xcutReq (lasts_hubMiss (lasts_update h))) (lasts_cutReq (lasts_hubMiss (lasts_update h))))))

theorem lasts_passAcc (h : Lasts s₀ s) {v} : Lasts s₀ (s.passAcc v) := by
  unfold State.passAcc
  dsimp only
  exact lasts_ite (lasts_modPass (lasts_tapLoad h)) (lasts_ite (lasts_modPass (lasts_ite (lasts_modPass (lasts_tapLoad h)) (lasts_tapLoad h))) (lasts_ite (lasts_modPass (lasts_ite (lasts_modPass (lasts_tapLoad h)) (lasts_tapLoad h))) (lasts_passPump (lasts_masterAccess (lasts_modPass (lasts_ite (lasts_ite (lasts_modPass (lasts_tapLoad h)) (lasts_tapLoad h)) (lasts_sessOpen (lasts_ite (lasts_modPass (lasts_tapLoad h)) (lasts_tapLoad h)))))))))

theorem lasts_fabWrite (h : Lasts s₀ s) {m v lead rival} : Lasts s₀ (s.fabWrite m v lead rival) :=
  lasts_ite (lasts_masterWrite h) (lasts_complete (lasts_fabCtrl (lasts_hubMiss (lasts_ite (lasts_update (lasts_arbTurn (lasts_pump h))) (lasts_arbTurn (lasts_pump h))))))

/-! ### Pitch -/

theorem lasts_setPc (h : Lasts s₀ s) {e n} : Lasts s₀ (s.setPc e n) := h

theorem lasts_retireTo (h : Lasts s₀ s) {e n} : Lasts s₀ (s.retireTo e n) := h

theorem lasts_goOn (h : Lasts s₀ s) {e} : Lasts s₀ (s.goOn e) := h

theorem lasts_pSet (h : Lasts s₀ s) {e d v} : Lasts s₀ (s.pSet e d v) := h

theorem lasts_fetch (h : Lasts s₀ s) {e t} (ht : s.fetch e = .error t) : Lasts s₀ t := by
  unfold State.fetch at ht
  dsimp only at ht
  split at ht
  · exact Except.error.inj ht ▸ lasts_engStop h
  · split at ht
    · exact Except.error.inj ht ▸ lasts_pmUcStop h
    · split at ht
      · exact Except.error.inj ht ▸ lasts_engStop h
      · cases ht

theorem lasts_issueP (h : Lasts s₀ s) {e} {k : PInstr → Option (State → State)} (hk : ∀ i g, k i = some g → Lasts s₀ (g s)) :
    Lasts s₀ (s.issueP e k) := by
  unfold State.issueP
  refine lasts_ite h ?_
  split
  next t ht => exact lasts_fetch h ht
  next i _ =>
    split
    · exact h
    next g hg => exact lasts_ite (lasts_bump h) (lasts_ite (lasts_engStop h) (hk i g hg))

theorem lasts_alu (h : Lasts s₀ s) {e fn d a b} : Lasts s₀ (s.alu e fn d a b) := h

theorem lasts_branch (h : Lasts s₀ s) {e taken off} : Lasts s₀ (s.branch e taken off) :=
  lasts_ite (lasts_retireTo h) (lasts_goOn h)

theorem lasts_br (h : Lasts s₀ s) {e fn a b off} : Lasts s₀ (s.br e fn a b off) :=
  lasts_branch h

theorem lasts_bri (h : Lasts s₀ s) {e fn a imm off} : Lasts s₀ (s.bri e fn a imm off) :=
  lasts_branch h

theorem lasts_jal (h : Lasts s₀ s) {e d nolink target} : Lasts s₀ (s.jal e d nolink target) :=
  lasts_retireTo (lasts_ite h (lasts_setP h))

theorem lasts_ldm (h : Lasts s₀ s) {e d a} : Lasts s₀ (s.ldm e d a) := by
  unfold State.ldm
  exact lasts_ite (lasts_engStop h) (by
    split
    · exact lasts_pmUcStop h
    · exact lasts_pSet h)

theorem lasts_stm (h : Lasts s₀ s) {e d a} : Lasts s₀ (s.stm e d a) :=
  lasts_ite (lasts_engStop h) (lasts_goOn (lasts_pmPutDouble h))

theorem lasts_aadd (h : Lasts s₀ s) {e d b a} : Lasts s₀ (s.aadd e d b a) := by
  unfold State.aadd
  dsimp only
  exact lasts_ite (lasts_engStop h) (by
    split
    · exact lasts_pmUcStop h
    · exact lasts_pSet (lasts_pmPutDouble h))

theorem lasts_waitOn (h : Lasts s₀ s) {e w} : Lasts s₀ (s.waitOn e w) := h

theorem lasts_waitt (h : Lasts s₀ s) {e t} : Lasts s₀ (s.waitt e t) :=
  lasts_ite (lasts_goOn h) (lasts_waitOn h)

theorem lasts_waitw (h : Lasts s₀ s) {e} : Lasts s₀ (s.waitw e) :=
  lasts_ite (lasts_goOn h) (lasts_waitOn h)

theorem lasts_waitj (h : Lasts s₀ s) {e d id t} : Lasts s₀ (s.waitj e d id t) :=
  lasts_ite (lasts_pSet h) (lasts_waitOn h)

theorem lasts_waitch (h : Lasts s₀ s) {e d ch t} : Lasts s₀ (s.waitch e d ch t) :=
  lasts_ite (lasts_pSet h) (lasts_waitOn h)

theorem lasts_waitEnd (h : Lasts s₀ s) {e} : Lasts s₀ (s.waitEnd e) := by
  unfold State.waitEnd
  dsimp only
  exact lasts_ite h (by
    split
    · exact h
    · split
      · exact h
      · split
        · exact lasts_goOn (lasts_setP (lasts_setF (lasts_setEng (lasts_wr h))))
        · exact lasts_goOn (lasts_setF (lasts_setEng (lasts_wr h))))

theorem lasts_winIssue (h : Lasts s₀ s) {e w} : Lasts s₀ (s.winIssue e w) :=
  lasts_goOn (lasts_winEnter h)

theorem lasts_crd (h : Lasts s₀ s) {e d a off} : Lasts s₀ (s.crd e d a off) :=
  lasts_ite (lasts_engStop h) (lasts_winIssue h)

theorem lasts_cwr (h : Lasts s₀ s) {e d a off} : Lasts s₀ (s.cwr e d a off) :=
  lasts_ite (lasts_engStop h) (lasts_winIssue h)

theorem lasts_vrd (h : Lasts s₀ s) {e d a space addr wide} : Lasts s₀ (s.vrd e d a space addr wide) :=
  lasts_ite (lasts_engStop h) (lasts_winIssue h)

theorem lasts_vwr (h : Lasts s₀ s) {e d a space addr wide} : Lasts s₀ (s.vwr e d a space addr wide) :=
  lasts_ite (lasts_engStop h) (lasts_winIssue h)

theorem lasts_hrd (h : Lasts s₀ s) {e d addr} : Lasts s₀ (s.hrd e d addr) :=
  lasts_ite (lasts_engStop h) (lasts_pSet (lasts_engHub h))

theorem lasts_hwr (h : Lasts s₀ s) {e d addr} : Lasts s₀ (s.hwr e d addr) :=
  lasts_ite (lasts_engStop h) (lasts_goOn (lasts_engHub h))

theorem lasts_errs (h : Lasts s₀ s) {e d} : Lasts s₀ (s.errs e d) := h

theorem lasts_trig (h : Lasts s₀ s) {e ch} : Lasts s₀ (s.trig e ch) :=
  lasts_goOn (lasts_raiseCh h)

theorem lasts_cutP (h : Lasts s₀ s) {e d a kind abs xdev} : Lasts s₀ (s.cutP e d a kind abs xdev) :=
  lasts_pSet (lasts_ite_fst (lasts_xcutReq h) (lasts_ite_fst (lasts_cutReqAt h) (lasts_cutReq h)))

theorem lasts_stepP (h : Lasts s₀ s) {e d a abs trig} : Lasts s₀ (s.stepP e d a abs trig) :=
  lasts_pSet (lasts_ite_fst (lasts_stepReqAt h) (lasts_stepReq h))

theorem lasts_trcP (h : Lasts s₀ s) {e d a start} : Lasts s₀ (s.trcP e d a start) :=
  lasts_ite (lasts_pSet (lasts_takeFree (lasts_traceReq h))) (lasts_pSet (lasts_traceReq h))

theorem lasts_dumpP (h : Lasts s₀ s) {e d prof} : Lasts s₀ (s.dumpP e d prof) :=
  lasts_pSet (lasts_dumpReq h)

theorem lasts_jobP (h : Lasts s₀ s) {e d a echo} : Lasts s₀ (s.jobP e d a echo) := by
  unfold State.jobP
  dsimp only
  exact lasts_ite (lasts_engStop h) (lasts_ite (lasts_pmUcStop h) (lasts_ite (lasts_engStop h) (by
    split
    · exact lasts_pmUcStop h
    · exact lasts_ite (lasts_engStop h) (lasts_ite (lasts_pSet h) (lasts_pSet (lasts_jobReq h))))))

theorem lasts_logP (h : Lasts s₀ s) {e a b talus tag} : Lasts s₀ (s.logP e a b talus tag) := h

theorem lasts_fenceP (h : Lasts s₀ s) {e d id} : Lasts s₀ (s.fenceP e d id) :=
  lasts_pSet (lasts_ite (lasts_fenceMark (lasts_raise h)) (lasts_ite (lasts_fenceRefuse (lasts_raise h)) (lasts_raise h)))

theorem lasts_remapP (h : Lasts s₀ s) {e d array spare} : Lasts s₀ (s.remapP e d array spare) :=
  lasts_pSet (lasts_raise (lasts_remapReq h))

theorem lasts_kick (h : Lasts s₀ s) {e} : Lasts s₀ (s.kick e) := h

theorem lasts_haltP (h : Lasts s₀ s) {e arg} : Lasts s₀ (s.haltP e arg) :=
  lasts_engStop (lasts_setF (lasts_bump h))

/-! ### Tick -/

theorem lasts_winTick (h : Lasts s₀ s) {e} : Lasts s₀ (s.winTick e) := by
  unfold State.winTick
  dsimp only
  exact lasts_ite h (by
    split
    · exact lasts_winFlush (lasts_winFail (lasts_hubMiss (lasts_setEng h)))
    · split
      · exact lasts_ite (lasts_winFlush (lasts_engAnswer (lasts_setEng (lasts_takeFree h)))) (lasts_takeFree h)
      · exact h)

theorem lasts_idle (h : Lasts s₀ s) : Lasts s₀ (s.idle) :=
  lasts_ite h (lasts_winTick (lasts_winTick (lasts_winTick (lasts_winTick (lasts_idleWatch (lasts_passPump (lasts_pump (lasts_flowTick (lasts_watchHold (lasts_echoHold (lasts_couSync (lasts_tick h))))))))))))

/-! ### Step -/

theorem lasts_withFetchWord (h : Lasts s₀ s) {nbits w} : Lasts s₀ (s.withFetchWord nbits w) := by
  unfold State.withFetchWord
  split
  · exact lasts_update h
  · exact h

end Sys2Proof.Machine
end

section
/-! PROOFS: what writes OTP and the MRAM, and that no bit of OTP is cleared. -/

namespace Sys2Proof.Machine

set_option Elab.async false

/-! ### Bits that are only set -/

theorem bitsKept_iff {x y : Nat} : bitsKept x y ↔ ∀ i, x.testBit i = true → y.testBit i = true := by
  constructor
  · intro h i hi
    have hbit : (x &&& y).testBit i = true := (congrArg (Nat.testBit · i) h).trans hi
    rw [Nat.testBit_and, hi, Bool.true_and] at hbit
    exact hbit
  · intro h
    apply Nat.eq_of_testBit_eq
    intro i
    rw [show Nat.land x y = x &&& y from rfl, Nat.testBit_and]
    cases hx : x.testBit i with
    | false => rfl
    | true => exact h i hx

theorem bitsKept_refl (x : Nat) : bitsKept x x := Nat.and_self x

theorem bitsKept_trans {x y z : Nat} (hxy : bitsKept x y) (hyz : bitsKept y z) : bitsKept x z :=
  bitsKept_iff.2 fun i hi => bitsKept_iff.1 hyz i (bitsKept_iff.1 hxy i hi)

theorem bitsKept_lor (x v : Nat) : bitsKept x (Nat.lor x v) :=
  bitsKept_iff.2 fun i hi => by rw [show Nat.lor x v = x ||| v from rfl, Nat.testBit_or, hi, Bool.true_or]

theorem Tri.kept_refl (x : Tri) : x.kept x := ⟨bitsKept_refl _, bitsKept_refl _, bitsKept_refl _⟩

theorem Tri.kept_trans {x y z : Tri} (hxy : x.kept y) (hyz : y.kept z) : x.kept z := by
  obtain ⟨ha, hb, hc⟩ := hxy
  obtain ⟨ha', hb', hc'⟩ := hyz
  exact ⟨bitsKept_trans ha ha', bitsKept_trans hb hb', bitsKept_trans hc hc'⟩

theorem Tri.kept_set (x : Tri) (copy v : Nat) : x.kept (x.set copy v) := by
  unfold Tri.set
  split
  · exact ⟨bitsKept_lor _ _, bitsKept_refl _, bitsKept_refl _⟩
  · exact ⟨bitsKept_refl _, bitsKept_lor _ _, bitsKept_refl _⟩
  · exact ⟨bitsKept_refl _, bitsKept_refl _, bitsKept_lor _ _⟩

theorem Tri.kept_setAll (x : Tri) (v : Nat) : x.kept (x.setAll v) :=
  Tri.kept_trans (Tri.kept_trans (Tri.kept_set x 0 v) (Tri.kept_set _ 1 v)) (Tri.kept_set _ 2 v)

theorem OtpSt.kept_refl (o : OtpSt) : o.kept o :=
  ⟨fun _ => ⟨Tri.kept_refl _, Tri.kept_refl _, Tri.kept_refl _⟩, fun _ => bitsKept_refl _, fun _ => Tri.kept_refl _,
    fun _ => Tri.kept_refl _, Tri.kept_refl _⟩

theorem OtpSt.kept_trans {o p q : OtpSt} (hop : o.kept p) (hpq : p.kept q) : o.kept q := by
  obtain ⟨hlog, hfields, hwritten, hconsumed, hepoch⟩ := hop
  obtain ⟨hlog', hfields', hwritten', hconsumed', hepoch'⟩ := hpq
  refine ⟨fun n => ?_, fun k => bitsKept_trans (hfields k) (hfields' k), fun k => Tri.kept_trans (hwritten k) (hwritten' k),
    fun k => Tri.kept_trans (hconsumed k) (hconsumed' k), Tri.kept_trans hepoch hepoch'⟩
  obtain ⟨hstate, htgt, hpm⟩ := hlog n
  obtain ⟨hstate', htgt', hpm'⟩ := hlog' n
  exact ⟨Tri.kept_trans hstate hstate', Tri.kept_trans htgt htgt', Tri.kept_trans hpm hpm'⟩

/-- An entry of a table of copies grows: every entry is kept. -/
theorem kept_smSet {m : SMap Tri} {k : Nat} {v : Tri} (hv : (smGet Tri.zero m k).kept v) (j : Nat) :
    (smGet Tri.zero m j).kept (smGet Tri.zero (smSet Tri.zero m k v) j) := by
  rw [smGet_smSet]
  split
  next hj => exact hj ▸ hv
  next => exact Tri.kept_refl _

theorem OtpSt.kept_log {o : OtpSt} {n : Nat} {x : LogSlot} (hstate : (o.slot n).state.kept x.state) (htgt : (o.slot n).tgt.kept x.tgt)
    (hpm : (o.slot n).pm.kept x.pm) : o.kept { o with log := smSet LogSlot.empty o.log n x } := by
  obtain ⟨_, hfields, hwritten, hconsumed, hepoch⟩ := OtpSt.kept_refl o
  refine ⟨fun j => ?_, hfields, hwritten, hconsumed, hepoch⟩
  have hslot : OtpSt.slot { o with log := smSet LogSlot.empty o.log n x } j = if j = n then x else o.slot j := smGet_smSet ..
  rw [hslot]
  split
  next hj => exact hj ▸ ⟨hstate, htgt, hpm⟩
  next => exact ⟨Tri.kept_refl _, Tri.kept_refl _, Tri.kept_refl _⟩

theorem OtpSt.kept_consumed {o : OtpSt} {k : Nat} {v : Tri} (hv : (smGet Tri.zero o.consumed k).kept v) :
    o.kept { o with consumed := smSet Tri.zero o.consumed k v } := by
  obtain ⟨hlog, hfields, hwritten, _, hepoch⟩ := OtpSt.kept_refl o
  exact ⟨hlog, hfields, hwritten, kept_smSet hv, hepoch⟩

theorem OtpSt.kept_written {o : OtpSt} {k : Nat} {v : Tri} (hv : (smGet Tri.zero o.written k).kept v) :
    o.kept { o with written := smSet Tri.zero o.written k v } := by
  obtain ⟨hlog, hfields, _, hconsumed, hepoch⟩ := OtpSt.kept_refl o
  exact ⟨hlog, hfields, kept_smSet hv, hconsumed, hepoch⟩

theorem OtpSt.kept_field (o : OtpSt) (k v : Nat) :
    o.kept { o with fields := smSet 0 o.fields k (Nat.lor (smGet 0 o.fields k) v) } := by
  obtain ⟨hlog, _, hwritten, hconsumed, hepoch⟩ := OtpSt.kept_refl o
  refine ⟨hlog, fun j => ?_, hwritten, hconsumed, hepoch⟩
  rw [show smGet 0 (OtpSt.fields { o with fields := smSet 0 o.fields k (Nat.lor (smGet 0 o.fields k) v) }) j = _ from smGet_smSet ..]
  split
  next hj => exact hj ▸ bitsKept_lor _ _
  next => exact bitsKept_refl _

theorem OtpSt.kept_epoch (o : OtpSt) (v : Nat) : o.kept { o with epoch := o.epoch.setAll v } := by
  obtain ⟨hlog, hfields, hwritten, hconsumed, _⟩ := OtpSt.kept_refl o
  exact ⟨hlog, hfields, hwritten, hconsumed, Tri.kept_setAll _ _⟩

theorem OtpSt.kept_put (o : OtpSt) (r : LcyRun) (w : OtpWr) : o.kept (o.put r w) := by
  unfold OtpSt.put
  dsimp only
  split
  · exact OtpSt.kept_log (Tri.kept_refl _) (Tri.kept_set _ _ _) (Tri.kept_refl _)
  · exact OtpSt.kept_log (Tri.kept_set _ _ _) (Tri.kept_refl _) (Tri.kept_refl _)
  · exact OtpSt.kept_log (Tri.kept_refl _) (Tri.kept_refl _) (Tri.kept_set _ _ _)
  · exact OtpSt.kept_consumed (Tri.kept_set _ _ _)

theorem OtpSt.kept_puts (o : OtpSt) (r : LcyRun) (ws : List OtpWr) : o.kept (o.puts r ws) :=
  foldl_keeps o.kept (fun o w => o.put r w) (fun o' w h => OtpSt.kept_trans h (OtpSt.kept_put o' r w)) ws o (OtpSt.kept_refl o)

theorem OtpSt.kept_torn (o : OtpSt) (r : LcyRun) (n mask : Nat) : o.kept (o.torn r n mask) := by
  unfold OtpSt.torn
  dsimp only
  split
  · exact OtpSt.kept_trans (OtpSt.kept_puts _ _ _) (OtpSt.kept_put _ _ _)
  · exact OtpSt.kept_puts _ _ _

/-! ### The operations that write OTP or the MRAM -/

/-- What lasts is that of `s`, but for OTP, whose bits are kept, for DEVICE_UID and for the MRAM. -/
def LastsBut (s t : State) (o : OtpSt) (u : Nat) (m : SMap (Option TalImg)) : Prop :=
  s.otp.kept o ∧ bitsKept s.uid u ∧ Lasts { s with otp := o, uid := u, mram := m } t

variable {s₀ s t : State}

theorem lastsBut_of_lasts (h : Lasts s t) : LastsBut s t s.otp s.uid s.mram := ⟨OtpSt.kept_refl _, bitsKept_refl _, h⟩

theorem lasts_trans {r : State} (hst : Lasts s t) (htr : Lasts t r) : Lasts s r := by
  obtain ⟨hotp, huid, hgran, hmram, hmem⟩ := hst
  obtain ⟨hotp', huid', hgran', hmram', hmem'⟩ := htr
  exact ⟨hotp'.trans hotp, huid'.trans huid, hgran'.trans hgran, hmram'.trans hmram, hmem' ∘ hmem⟩

theorem lasts_setOtp {o : OtpSt} (h : Lasts s t) : Lasts { s with otp := o } { t with otp := o } := by
  obtain ⟨_, huid, hgran, hmram, hmem⟩ := h
  exact ⟨rfl, huid, hgran, hmram, hmem⟩

theorem lasts_setUid {u : Nat} (h : Lasts s t) : Lasts { s with uid := u } { t with uid := u } := by
  obtain ⟨hotp, _, hgran, hmram, hmem⟩ := h
  exact ⟨hotp, rfl, hgran, hmram, hmem⟩

theorem lasts_setMram {m : SMap (Option TalImg)} (h : Lasts s t) : Lasts { s with mram := m } { t with mram := m } := by
  obtain ⟨hotp, huid, hgran, _, hmem⟩ := h
  exact ⟨hotp, huid, hgran, rfl, hmem⟩

theorem lasts_setAuth (h : Lasts s t) (a : AuthSt) : Lasts s { t with auth := a } := h

theorem lasts_setTal (h : Lasts s t) (a : TalSt) : Lasts s { t with tal := a } := h

theorem lasts_self (s : State) : Lasts s s := ⟨rfl, rfl, rfl, rfl, id⟩

/-- Step 4 of a transition may write OTP, and nothing else that lasts. -/
theorem lcyStep_lasts (s : State) (ok : Bool) : ∃ o, s.otp.kept o ∧ Lasts { s with otp := o } (s.lcyStep ok) := by
  have hsame : ∀ t, Lasts s t → ∃ o, s.otp.kept o ∧ Lasts { s with otp := o } t := fun t h => ⟨s.otp, OtpSt.kept_refl _, h⟩
  unfold State.lcyStep
  split
  · exact hsame _ (lasts_self s)
  next r _ =>
    split
    · exact hsame _ (lasts_self s)
    split
    · exact hsame _ (lasts_lcyStall (lasts_self s))
    refine ⟨(if r.step = 7 then s.otp.repair r else s.otp).puts r r.writes, ?_, ?_⟩
    · refine OtpSt.kept_trans ?_ (OtpSt.kept_puts _ _ _)
      split
      · exact OtpSt.kept_puts _ _ _
      · exact OtpSt.kept_refl _
    · dsimp only
      refine lasts_ite (lasts_lcyDone ?commit) (lasts_setAuth ?commit _)
      refine lasts_ite (lasts_raise ?decide) ?decide
      refine lasts_lcyDecide (lasts_ite (lasts_raise ?burn) ?burn)
      exact lasts_ite (lasts_setAuth (lasts_self _) _) (lasts_self _)

/-- OTP's fields, WRITTEN flags and DEVICE_UID as a write of field `k` leaves them. -/
theorem fieldWrite_lasts (s : State) (k v : Nat) {w : Tri} (hw : (smGet Tri.zero s.otp.written k).kept w) :
    let s1 := if k = fdUid then { s with uid := Nat.lor s.uid v }
      else { s with otp := { s.otp with fields := smSet 0 s.otp.fields k (Nat.lor (smGet 0 s.otp.fields k) v) } }
    ∃ o u, LastsBut s { s1 with otp := { s1.otp with written := smSet Tri.zero s1.otp.written k w } } o u s.mram := by
  dsimp only
  split
  · exact ⟨_, _, OtpSt.kept_written hw, bitsKept_lor _ _, lasts_self _⟩
  · exact ⟨_, _, OtpSt.kept_trans (OtpSt.kept_field _ _ _) (OtpSt.kept_written hw), bitsKept_refl _, lasts_self _⟩

theorem provision_lasts (s : State) (ob : List Byte) : ∃ o u, LastsBut s (s.provision ob) o u s.mram := by
  have hw : (if provKey ob = fdUid then { s with uid := Nat.lor s.uid (provValue ob) }
      else { s with otp := { s.otp with fields := smSet 0 s.otp.fields (provKey ob) (Nat.lor (smGet 0 s.otp.fields (provKey ob)) (provValue ob)) } }).otp.written
      = s.otp.written := by split <;> rfl
  obtain ⟨o, u, hotp, huid, h⟩ := fieldWrite_lasts s (provKey ob) (provValue ob) (Tri.kept_setAll _ 1)
  refine ⟨o, u, hotp, huid, ?_⟩
  unfold State.provision
  dsimp only
  rw [hw]
  rw [hw] at h
  exact lasts_raise (lasts_authShow (lasts_lcyShow h))

theorem provTorn_lasts (s : State) (ob : List Byte) (n mask : Nat) : ∃ o u, LastsBut s (s.provTorn ob n mask) o u s.mram := by
  unfold State.provTorn
  dsimp only
  generalize (if n = 0 then Nat.land (provValue ob) mask else provValue ob) = v
  have hw : (if provKey ob = fdUid then { s with uid := Nat.lor s.uid v }
      else { s with otp := { s.otp with fields := smSet 0 s.otp.fields (provKey ob) (Nat.lor (smGet 0 s.otp.fields (provKey ob)) v) } }).otp.written
      = s.otp.written := by split <;> rfl
  have hfold := foldl_keeps (smGet Tri.zero s.otp.written (provKey ob)).kept (fun t c => t.set c 1)
    (fun t c h => Tri.kept_trans h (Tri.kept_set t c 1)) (List.range (min (n - 1) 3)) _ (Tri.kept_refl _)
  have h := fieldWrite_lasts s (provKey ob) v hfold
  dsimp only at h
  rw [hw] at h ⊢
  exact h

theorem otpTorn_lasts (s : State) (n mask : Nat) : ∃ o u, LastsBut s (s.otpTorn n mask) o u s.mram := by
  have hsame : ∃ o u, LastsBut s s o u s.mram := ⟨_, _, lastsBut_of_lasts (lasts_self s)⟩
  unfold State.otpTorn
  split
  · split
    · exact hsame
    · exact ⟨_, _, OtpSt.kept_torn _ _ _ _, bitsKept_refl _, lasts_self _⟩
  · split
    · split
      · exact provTorn_lasts _ _ _ _
      · exact hsame
    · exact hsame

theorem authVerify_lasts (s : State) : ∃ o u, LastsBut s s.authVerify o u s.mram := by
  have hsame : ∀ t, Lasts s t → ∃ o u, LastsBut s t o u s.mram := fun t h => ⟨_, _, lastsBut_of_lasts h⟩
  unfold State.authVerify
  split
  · exact hsame _ (lasts_self s)
  next j _ =>
    have hjob : Lasts s { s with auth := { s.auth with job := none } } := lasts_self s
    dsimp only
    split
    · exact hsame _ (lasts_authRefuse hjob)
    have hres : Lasts s (State.setResult { s with auth := { s.auth with job := none } } j.lcy j.master j.op 2 0) := lasts_setResult hjob
    split
    · exact hsame _ (lasts_lcyBegin hres)
    · exact hsame _ (lasts_certAccept hres)
    · exact hsame _ (lasts_jexAccept hres)
    · obtain ⟨o, u, hotp, huid, hlasts⟩ := provision_lasts (State.setResult { s with auth := { s.auth with job := none } } j.lcy j.master j.op 2 0) j.obj
      obtain ⟨hotp', huid', -, hmram', -⟩ := id hres
      rw [hotp'] at hotp
      rw [huid'] at huid
      rw [hmram'] at hlasts
      exact ⟨o, u, hotp, huid, lasts_trans (lasts_setMram (lasts_setUid (lasts_setOtp hres))) hlasts⟩

theorem commitBegin_lasts (s : State) (cause : Nat) : ∃ m, Lasts { s with mram := m } (s.commitBegin cause) := by
  unfold State.commitBegin
  dsimp only
  split
  · exact ⟨s.mram, lasts_talSpent (lasts_self s)⟩
  next slot _ =>
    exact ⟨smSet none s.mram slot none, lasts_raise (lasts_talShow (lasts_setTal (lasts_self { s with mram := smSet none s.mram slot none }) _))⟩

/-- A commit begun in a state that holds the same leaves the same but the MRAM. -/
theorem lasts_commitBegin (h : Lasts s₀ s) (cause : Nat) : ∃ m, Lasts { s₀ with mram := m } (s.commitBegin cause) := by
  obtain ⟨m, hm⟩ := commitBegin_lasts s cause
  exact ⟨m, lasts_trans (lasts_setMram (m := m) h) hm⟩

theorem commitStart_lasts (s : State) : ∃ m, Lasts { s with mram := m } s.commitStart := by
  unfold State.commitStart
  split
  · exact ⟨s.mram, lasts_self s⟩
  · exact lasts_commitBegin (lasts_setTal (lasts_self s) _) _

theorem commitVerify_lasts (s : State) (ok : Bool) : ∃ m, Lasts { s with mram := m } (s.commitVerify ok) := by
  unfold State.commitVerify
  split
  · exact ⟨s.mram, lasts_self s⟩
  split
  · exact ⟨s.mram, lasts_self s⟩
  split
  next c _ _ _ =>
    refine ⟨smSet none s.mram c.img.slot (some c.img), ?_⟩
    have h := lasts_setTal (lasts_self { s with mram := smSet none s.mram c.img.slot (some c.img) }) { s.tal with commit := none, gen := c.img.gen }
    exact lasts_talShow (lasts_ite (lasts_setF (lasts_wr64 h)) (lasts_wr64 h))
  next => exact lasts_commitBegin (lasts_setTal (lasts_hubFault (lasts_modTal (lasts_self s))) _) _

end Sys2Proof.Machine
end

section
/-! PROOFS: what each command leaves of the stores that outlast it, and of stack memory's form. -/

namespace Sys2Proof.Machine

set_option Elab.async false

variable {s₀ s t : State}

/-! ### The shapes of the commands' meanings -/

/-- Every state that an outcome answers holds what lasts of `s`. -/
def LastsOut (s : State) (o : Out) : Prop := ∀ t, o = .next t → Lasts s t

theorem lastsOut_fault (s : State) (r : Fault) : LastsOut s (.fault r) := fun _ h => nomatch h

theorem lastsOut_if {p : Prop} [Decidable p] {o : Out} {r : Fault} (h : LastsOut s o) : LastsOut s (if p then o else .fault r) := by
  split
  · exact h
  · exact lastsOut_fault s r

theorem lastsOut_onHub {k : State → State} (hk : Lasts s (k s)) : LastsOut s (onHub s k) := by
  rintro t ht
  obtain rfl : (if s.rst.on then s.keeping (k s) else s) = t := Host.Outcome.next.inj ht
  exact lasts_ite (lasts_keeping hk) (lasts_self s)

theorem lastsOut_atCairn {id : Nat} {k : State → State} (hk : Lasts s (k s)) : LastsOut s (atCairn id s k) := by
  unfold atCairn withCairn
  split
  · exact lastsOut_fault s _
  · exact lastsOut_onHub hk

theorem lastsOut_atUnit {id : Nat} {k : State → State} (hk : Lasts s (k s)) : LastsOut s (atUnit id s k) :=
  lastsOut_atCairn (lasts_ite (lasts_self s) hk)

theorem lastsOut_atKind {ks : List Nat} {id : Nat} {k : State → State} (hk : Lasts s (k s)) : LastsOut s (atKind ks id s k) :=
  lastsOut_if (lastsOut_atUnit hk)

theorem lastsOut_inUnit {ks : List Nat} {id : Nat} {k : State → State} (hk : Lasts s (k s)) : LastsOut s (inUnit ks id s k) :=
  lastsOut_atKind (lasts_ite (lasts_self s) hk)

theorem lastsOut_atSpur {p : Nat} {k : State → State} (hk : Lasts s (k s)) : LastsOut s (atSpur p s k) :=
  lastsOut_if (lastsOut_onHub (lasts_ite (lasts_self s) hk))

theorem lastsOut_atCairns {is : List Nat} {k : State → State} (hk : Lasts s (k s)) : LastsOut s (atCairns is s k) :=
  lastsOut_if (r := .noSuchPart) (lastsOut_onHub hk)

theorem lastsOut_atDomain {reps : List EdgeRep} {k : State → State} (hk : Lasts s (k s)) : LastsOut s (atDomain reps s k) :=
  lastsOut_atCairns (lasts_ite hk (lasts_self s))

theorem lastsOut_inPort {k : State → State} (hk : Lasts s (k s)) : LastsOut s (inPort s k) :=
  lastsOut_onHub (lasts_ite (lasts_self s) hk)

theorem lastsOut_atCore {core : Nat} {k : State → State} (hk : Lasts s (k s)) : LastsOut s (atCore core s k) :=
  lastsOut_if (r := .noSuchPart) (lastsOut_onHub hk)

theorem lastsOut_atRing {blk : Nat} {k : State → State} (hk : Lasts s (k s)) : LastsOut s (atRing blk s k) :=
  lastsOut_if (r := .noSuchPart) (lastsOut_onHub hk)

theorem lastsOut_atLane {lane : Nat} {k : State → State} (hk : Lasts s (k s)) : LastsOut s (atLane lane s k) :=
  lastsOut_if (lastsOut_inPort hk)

theorem lastsOut_withEngine {e : Nat} {o : Out} (h : LastsOut s o) : LastsOut s (withEngine e o) := lastsOut_if h

theorem lastsOut_writeRow (m : Master) (a : Nat) (v : Word) (s : State) : LastsOut s (writeRow m a v s) :=
  lastsOut_onHub (lasts_masterWrite (lasts_self s))

theorem lastsOut_pitch {e : Nat} {k : PInstr → Option (State → State)} (hk : ∀ i g, k i = some g → Lasts s (g s)) :
    LastsOut s (pitch e s k) :=
  lastsOut_withEngine (lastsOut_onHub (lasts_issueP (lasts_self s) hk))

/-! ### The commands -/

/-- May a command write OTP or the MRAM, or give or take the supply? -/
inductive WritesLasting : Instr → Prop
  | startupPhaseDone (a b : Bool) (uc : List Nat) : WritesLasting (.startupPhaseDone a b uc)
  | vddHubLoss (d k : Nat) : WritesLasting (.vddHubLoss d k)
  | vddHubPowerUp : WritesLasting .vddHubPowerUp
  | authVerifyDone : WritesLasting .authVerifyDone
  | lcyStepDone (ok : Bool) : WritesLasting (.lcyStepDone ok)
  | talusCommitStart : WritesLasting .talusCommitStart
  | talusCommitVerify (ok : Bool) : WritesLasting (.talusCommitVerify ok)

/-- A command that is none of those leaves what lasts as it was. -/
theorem exec_lasts (c : Instr) (s : State) (hc : ¬WritesLasting c) : LastsOut s (exec c s) := by
  have h := lasts_self s
  unfold exec
  cases c with
  | startupPhaseDone | vddHubLoss | vddHubPowerUp | authVerifyDone | lcyStepDone | talusCommitStart | talusCommitVerify =>
    exact absurd (by constructor) hc
  | forceSpurLoss | exclAcquire | exclRelease | hostReq | reload | calSweep | cutCmdStop | cutCmdGlance | cutCmdResume | cutCmdAbandon | cutCmdXdev
  | stepGo | xtrig | run | saCancel | couEnable | dumpGo | drainStart | drainStop | drainAck | couRelease | autoArm | abort | cenSubmit | echSubmit
  | cenAbort | echAbort | scrCmdStart | scrCmdStop | scrMark | clear | scrDrainStart | scrDrainStop | scrDrainAck | fltAckUc | fltAckCe | ceRd
  | fenceCmd | unfence | remapCmd | unmap | talCommit | talSnap | talTrack | talClear | lcyTransition | lcyProvision | cert | challenge | respond
  | drop | leadDrop | discover | softResetRequest =>
    exact lastsOut_writeRow _ _ _ s
  | add | sub | iAnd | iOr | xor | shl | shr | mul | minu | maxu =>
    exact lastsOut_pitch fun i g hk => by split at hk <;> cases hk; exact lasts_alu h
  | addi | andi | movi | time =>
    exact lastsOut_pitch fun i g hk => by split at hk <;> cases hk; exact lasts_pSet h
  | ldm =>
    exact lastsOut_pitch fun i g hk => by split at hk <;> cases hk; exact lasts_ldm h
  | stm =>
    exact lastsOut_pitch fun i g hk => by split at hk <;> cases hk; exact lasts_stm h
  | aadd =>
    exact lastsOut_pitch fun i g hk => by split at hk <;> cases hk; exact lasts_aadd h
  | beq | bne | bltu | bgeu =>
    exact lastsOut_pitch fun i g hk => by split at hk <;> cases hk; exact lasts_br h
  | beqi | bnei | bltui =>
    exact lastsOut_pitch fun i g hk => by split at hk <;> cases hk; exact lasts_bri h
  | jal =>
    exact lastsOut_pitch fun i g hk => by split at hk <;> cases hk; exact lasts_jal h
  | jr =>
    exact lastsOut_pitch fun i g hk => by split at hk <;> cases hk; exact lasts_retireTo h
  | waitt =>
    exact lastsOut_pitch fun i g hk => by split at hk <;> cases hk; exact lasts_waitt h
  | waitw =>
    exact lastsOut_pitch fun i g hk => by split at hk <;> cases hk; exact lasts_waitw h
  | waitj =>
    exact lastsOut_pitch fun i g hk => by split at hk <;> cases hk; exact lasts_waitj h
  | waitch =>
    exact lastsOut_pitch fun i g hk => by split at hk <;> cases hk; exact lasts_waitch h
  | crd =>
    exact lastsOut_pitch fun i g hk => by split at hk <;> cases hk; exact lasts_crd h
  | cwr =>
    exact lastsOut_pitch fun i g hk => by split at hk <;> cases hk; exact lasts_cwr h
  | vrd =>
    exact lastsOut_pitch fun i g hk => by split at hk <;> cases hk; exact lasts_vrd h
  | vwr =>
    exact lastsOut_pitch fun i g hk => by split at hk <;> cases hk; exact lasts_vwr h
  | errs =>
    exact lastsOut_pitch fun i g hk => by split at hk <;> cases hk; exact lasts_errs h
  | hrd =>
    exact lastsOut_pitch fun i g hk => by split at hk <;> cases hk; exact lasts_hrd h
  | hwr =>
    exact lastsOut_pitch fun i g hk => by split at hk <;> cases hk; exact lasts_hwr h
  | trig =>
    exact lastsOut_pitch fun i g hk => by split at hk <;> cases hk; exact lasts_trig h
  | cutStop | cutGlance | cutResume | cutAbandon =>
    exact lastsOut_pitch fun i g hk => by split at hk <;> cases hk; exact lasts_cutP h
  | cutStep | cutStepTrigClose =>
    exact lastsOut_pitch fun i g hk => by split at hk <;> cases hk; exact lasts_stepP h
  | trcStart | trcStop =>
    exact lastsOut_pitch fun i g hk => by split at hk <;> cases hk; exact lasts_trcP h
  | dump =>
    exact lastsOut_pitch fun i g hk => by split at hk <;> cases hk; exact lasts_dumpP h
  | jobCensus | jobEcho =>
    exact lastsOut_pitch fun i g hk => by split at hk <;> cases hk; exact lasts_jobP h
  | log =>
    exact lastsOut_pitch fun i g hk => by split at hk <;> cases hk; exact lasts_logP h
  | fence =>
    exact lastsOut_pitch fun i g hk => by split at hk <;> cases hk; exact lasts_fenceP h
  | remap =>
    exact lastsOut_pitch fun i g hk => by split at hk <;> cases hk; exact lasts_remapP h
  | kick =>
    exact lastsOut_pitch fun i g hk => by split at hk <;> cases hk; exact lasts_kick h
  | halt =>
    exact lastsOut_pitch fun i g hk => by split at hk <;> cases hk; exact lasts_haltP h
  | class1Report =>
    refine lastsOut_atUnit ?_
    split
    · exact lasts_ite (lasts_unitEvent h) h
    · exact lasts_reportSend h
  | summitAck => exact lastsOut_atUnit (lasts_ackEntry h)
  | mirrorUpdate => exact lastsOut_atSpur (lasts_ite h (lasts_mirrorSend h))
  | livenessFlit => exact lastsOut_atSpur (lasts_liveFlit h)
  | spurLivenessTimeout => exact lastsOut_atSpur (lasts_ite (lasts_loseSpur (lasts_liveMiss h)) h)
  | colLaneFail => exact lastsOut_if (lastsOut_onHub (lasts_colLane h))
  | registerWrite | apertureAccess | registerRead => exact lastsOut_onHub (lasts_masterAccess h)
  | readClear => exact lastsOut_onHub (lasts_masterRead h)
  | apertureAnswer => exact lastsOut_onHub (lasts_passPump (lasts_apAnswer h))
  | apertureTimeout => exact lastsOut_onHub (lasts_passPump (lasts_apTimeout h))
  | tsyncEpoch => exact lastsOut_onHub (lasts_ite (lasts_tsync h) h)
  | calSlot => exact lastsOut_atSpur (lasts_ite (lasts_calSlot h) h)
  | leafLoad => exact lastsOut_atUnit (lasts_leafLoad h)
  | domainPowerUp => exact lastsOut_atCairns (lasts_domainUp h)
  | domainPowerDown => exact lastsOut_atCairns (lasts_remapSettle (lasts_domainDown h))
  | scheduledActionEffect => exact lastsOut_atUnit (lasts_ite (lasts_actsReach h) h)
  | channelRaise => exact lastsOut_onHub (lasts_chArrive h)
  | cutMessage =>
    refine lastsOut_atUnit ?_
    split
    · exact lasts_ite (lasts_deliver h) h
    · exact h
  | cutEdge => exact lastsOut_atDomain (lasts_cutEdge h)
  | spurCutAggregate => exact lastsOut_atSpur (lasts_cutAggregate h)
  | cutReportTimeout => exact lastsOut_atUnit (lasts_cutTimeout h)
  | resumeEdge => exact lastsOut_atDomain (lasts_resumeEdge h)
  | releaseAggregate => exact lastsOut_atSpur (lasts_releaseIn h)
  | shadowDrain => exact lastsOut_atUnit (lasts_shadowDrain h)
  | divertedWrite => exact lastsOut_atKind (lasts_unitWrite h)
  | pageCopyDone => exact lastsOut_atKind (lasts_ite (lasts_copyDone h) h)
  | xcutReceive => exact lastsOut_onHub (lasts_ite h (lasts_ite (lasts_xcutReq h) (lasts_xcutReceive h)))
  | xcutAnswer => exact lastsOut_onHub (lasts_ite (lasts_xcutAnswer h) h)
  | stepMessage =>
    refine lastsOut_atUnit ?_
    split
    · exact h
    · exact lasts_ite h (lasts_ite (lasts_stepLatch (lasts_deliver h)) (lasts_ite (lasts_deliver h) h))
  | stepReleaseEdge => exact lastsOut_atDomain (lasts_stepRelease h)
  | stepReportTimeout => exact lastsOut_atUnit (lasts_stepTimeout h)
  | stepUnitComplete => exact lastsOut_atCairns (lasts_ite (lasts_foldl (fun _ _ h1 => lasts_unitComplete h1) h) h)
  | stepAggregate => exact lastsOut_atSpur (lasts_stepAggregate h)
  | stepFreezeEdge => exact lastsOut_atDomain (lasts_stepFreeze h)
  | freezeAggregate => exact lastsOut_atSpur (lasts_freezeAggregate h)
  | viewRead | viewDeposit => exact lastsOut_onHub (lasts_accessAns h)
  | cairnRaise => exact lastsOut_if (lastsOut_atUnit (lasts_outRaise h))
  | prbStart | prbStop | pmDataWrite => exact lastsOut_withEngine (lastsOut_writeRow _ _ _ s)
  | pmDataRead => exact lastsOut_withEngine (lastsOut_onHub (lasts_masterRead h))
  | waitEnd => exact lastsOut_withEngine (lastsOut_onHub (lasts_waitEnd h))
  | watchdogExpiry => exact lastsOut_withEngine (lastsOut_onHub (lasts_wdogExpire h))
  | rfParity => exact lastsOut_withEngine (lastsOut_onHub (lasts_rfParity h))
  | ccIntrude | spillIntrude => exact lastsOut_onHub (lasts_ite (lasts_hubFault h) h)
  | shadowLoad => exact lastsOut_atDomain (lasts_loadEdge h)
  | bmuPageWrite => exact lastsOut_onHub (lasts_bmuWrite h)
  | linkRecord => exact lastsOut_atRing (lasts_ite (lasts_linkRecord h) h)
  | linkTimeout => exact lastsOut_atRing (lasts_ite (lasts_linkTimeout h) h)
  | dumpDrainSend => exact lastsOut_onHub (lasts_dumpSend h)
  | slotFree => exact lastsOut_if (lastsOut_onHub (lasts_slotFree h))
  | censusJobDone => exact lastsOut_onHub (lasts_censusDone h)
  | echoCaptureComplete => exact lastsOut_onHub (lasts_ite (lasts_echoCaptured (lasts_foldl (fun _ _ h1 => lasts_echoWrite h1) h)) h)
  | echoReplayDone => exact lastsOut_onHub (lasts_echoReplayed h)
  | echoCompareDone => exact lastsOut_onHub (lasts_echoCompared h)
  | echoTimeout => exact lastsOut_onHub (lasts_echoTimeout h)
  | storeUc =>
    refine lastsOut_if (lastsOut_onHub ?_)
    dsimp only
    split
    · exact lasts_jobAbort (lasts_hubMemFault h)
    · exact lasts_hubMemFault h
  | flowPacket => exact lastsOut_atKind (lasts_ite h (lasts_flowRetire (lasts_unitRuns h)))
  | loss => exact lastsOut_atKind (lasts_ite (lasts_flowLoss h) h)
  | bufUc => exact lastsOut_onHub (lasts_bufUc h)
  | faultDetect =>
    dsimp only [execFaultDetect]
    split
    · exact lastsOut_atUnit (lasts_ite h (lasts_detectAt h))
    · exact lastsOut_if (lastsOut_onHub (lasts_detectHub h))
  | ceCoalesceTimer => exact lastsOut_atUnit (lasts_ceTimer h)
  | fltForce | fltPageAck => exact lastsOut_onHub (lasts_headerWrite h)
  | sigMonCheck => exact lastsOut_if (lastsOut_onHub (lasts_ite (lasts_sigCheck h) h))
  | sigMonTimeout => exact lastsOut_if (lastsOut_onHub (lasts_ite h (lasts_sigTimeout h)))
  | fenceOrder => exact lastsOut_atCairn (lasts_fenceOrder h)
  | fenceDone => exact lastsOut_atCairn (lasts_fenceDrained h)
  | fenceStuck => exact lastsOut_atCairn (lasts_fenceStuck h)
  | lagBlock => exact lastsOut_atCore (lasts_ite h (lasts_talLag (lasts_lagBlock h)))
  | remapBoundary => exact lastsOut_atCore (lasts_remapBoundary h)
  | remapGateOpen => exact lastsOut_atCore (lasts_remapSettle (lasts_gateOpen h))
  | droopEnter => exact lastsOut_atKind (lasts_droopEnter h)
  | droopExit => exact lastsOut_atKind (lasts_droopExit h)
  | vfReq => exact lastsOut_inUnit (lasts_vfReq h)
  | vfChangeStart => exact lastsOut_inUnit (lasts_vfStart h)
  | vfDone => exact lastsOut_atKind (lasts_vfDone h)
  | pmInterval => exact lastsOut_inUnit (lasts_pmInterval h)
  | dispatchCase => exact lastsOut_inUnit (lasts_dispCase h)
  | dispatchSummary => exact lastsOut_inUnit (lasts_dispSummary h)
  | batchCancel => exact lastsOut_inUnit (lasts_batchCancel h)
  | talusSample => exact lastsOut_onHub (lasts_talSample h)
  | authBufData => exact lastsOut_onHub (lasts_ite (lasts_masterWrite h) (lasts_masterRead h))
  | hello => exact lastsOut_inPort (lasts_hello h)
  | keepalive | reservedFrame => exact lastsOut_inPort (lasts_frameIn h (fun _ h1 => h1))
  | bye => exact lastsOut_inPort (lasts_frameIn h (fun _ h1 => lasts_sessEnd h1))
  | ack => exact lastsOut_inPort (lasts_ite (lasts_takeAck h) h)
  | regReq => exact lastsOut_inPort (lasts_frameIn h (fun _ h1 => lasts_regReq h1))
  | triggerIn => exact lastsOut_inPort (lasts_frameIn h (fun _ h1 => lasts_ite (lasts_trigIn h1) (lasts_ite (lasts_carry h1) h1)))
  | relayOpen => exact lastsOut_inPort (lasts_frameIn h (fun _ h1 => lasts_relayOpen h1))
  | relayClose => exact lastsOut_inPort (lasts_frameIn h (fun _ h1 => lasts_relayClose h1))
  | frameBad => exact lastsOut_inPort (lasts_ite (lasts_frameBad h) h)
  | rateTrain => exact lastsOut_inPort (lasts_rateTrain h)
  | laneLost => exact lastsOut_atLane (lasts_laneLost h)
  | txIdle => exact lastsOut_atLane (lasts_txIdle h)
  | passAcc => exact lastsOut_onHub (lasts_passAcc h)
  | leadClaim => exact lastsOut_onHub (lasts_fabWrite h)
  | hubAnnounce => exact lastsOut_inPort (lasts_announce h)
  | memberTimeout => exact lastsOut_inPort (lasts_memberTimeout h)
  | softResetDone => exact lastsOut_onHub (lasts_softDone h)
  | observationPointEdge => exact lastsOut_atUnit (lasts_ite h (lasts_modC h))
  | echoCaptureIssue => exact lastsOut_onHub (lasts_ite (lasts_echoIssue h) h)
  | tooLong => exact lastsOut_onHub (lasts_echoWrite h)
  | blockLockGained => exact lastsOut_atLane (lasts_lockGained h)
  | hokuingLinksDown => exact lastsOut_inPort (lasts_memberDown h)
  | relaySessionOpen => exact lastsOut_inPort (lasts_relayed h)
  | arbiterNumber => exact lastsOut_onHub (lasts_arbitrate h)
  | takeoverComplete =>
    refine lastsOut_onHub ?_
    split
    · exact lasts_ite h (lasts_restoreLate (lasts_retainLost (lasts_takeoverDone h)))
    · exact h
  | exclLeaseExpiry => exact lastsOut_onHub (lasts_ite (lasts_exclEnd h) h)
  | tsyncLost => exact lastsOut_onHub (lasts_ite (lasts_tsyncLoss h) h)
  | slewPoint => exact lastsOut_onHub (lasts_ite (lasts_slewPoint h) h)
  | refclkGlitch => exact lastsOut_onHub (lasts_ite (lasts_refclkGlitch h) h)
  | refclkLost => exact lastsOut_onHub (lasts_ite (lasts_refclkLost h) h)
  | pllRelock => exact lastsOut_onHub (lasts_ite (lasts_pllRelock h) h)
  | stepCloseIssue => exact lastsOut_onHub (lasts_ite (lasts_closeIssue h) h)
  | stepDeadline => exact lastsOut_onHub (lasts_stepDeadline h)
  | sequencerEval => exact lastsOut_onHub (lasts_seqEval h)
  | stopAfterFire => exact lastsOut_onHub (lasts_saFire h)
  | pinPulseEdge =>
    refine lastsOut_onHub ?_
    split
    next t tick heq => exact lasts_markSend (heq ▸ lasts_pulseEdge h : Lasts s (t, some tick).1)
    next t heq => exact (heq ▸ lasts_pulseEdge h : Lasts s (t, none).1)
  | cfgParity => exact lastsOut_onHub (lasts_cfgParity h)
  | couInitDone => exact lastsOut_onHub (lasts_initDone h)
  | chunkTimer => exact lastsOut_onHub (lasts_chunkTimer h)
  | chunkCommitStepAck => exact lastsOut_onHub (lasts_ite h (lasts_commitStep h))
  | jobParity => exact lastsOut_onHub (lasts_abortJobs (lasts_hubFault h))
  | traceActionEffect => exact lastsOut_onHub (lasts_traceEffect h)
  | packetWrite => exact lastsOut_onHub (lasts_writeOne h)
  | syncTimer => exact lastsOut_onHub (lasts_syncTimer h)
  | blockPadTimeout => exact lastsOut_onHub (lasts_padTimeout h)
  | spillBlockWrite => exact lastsOut_onHub (lasts_spill h)
  | traceDrainSend => exact lastsOut_onHub (lasts_traceSend h)
  | heartbeatToggle => exact lastsOut_onHub (lasts_ite (lasts_heartbeat h) h)
  | tfitWindow => exact lastsOut_onHub (lasts_ite (lasts_tfEnd h) h)
  | talusCount => exact lastsOut_onHub (lasts_talCount h)
  | talusSchedule => exact lastsOut_onHub (lasts_talSchedule h)
  | challengeExpiry => exact lastsOut_onHub (lasts_chalExpire h)
  | trngFail | trngHealthPass => exact lastsOut_onHub (lasts_trng h)
  | frameSend => exact lastsOut_inPort (lasts_frameSend h)
  | retransmitTimeout => exact lastsOut_inPort (lasts_retxTimeout h)
  | keepaliveSend => exact lastsOut_inPort (lasts_kaSend h)
  | keepaliveTimeout => exact lastsOut_inPort (lasts_kaTimeout h)
  | linkLoss => exact lastsOut_inPort (lasts_linkLoss h)
  | tapReset => exact lastsOut_onHub (lasts_tapReset h)
  | extest | samplePreload | idcode | highz | clamp | bypass => exact lastsOut_onHub (lasts_tapLoad h)
  | discoveryTimeout => exact lastsOut_inPort (lasts_discoverEnd h)
  | relayKeepalive => exact lastsOut_inPort (lasts_relayKa h)
  | leadLost => exact lastsOut_inPort (lasts_leadLost h)
  | portBufUc => exact lastsOut_inPort (lasts_portBufUc h)
  | pllLock => exact lastsOut_onHub (lasts_pllLock h)
  | chipWarmReset => exact lastsOut_onHub (lasts_remapSettle (lasts_warmReset h))
  | bmuReady => exact lastsOut_onHub (lasts_bmuReady h)
  | softResetApply => exact lastsOut_onHub (lasts_softApply h)
  | hubIdle => exact lastsOut_onHub (lasts_hubIdle h)
  | hokuingLinksUp => exact lastsOut_inPort (lasts_linksUp h)

/-! ### What OTP keeps -/

/-- OTP and DEVICE_UID keep their bits, the interleave stands, and stack memory that is canonical stays so. -/
def Grows (s t : State) : Prop :=
  s.otp.kept t.otp ∧ bitsKept s.uid t.uid ∧ t.gran = s.gran ∧ (Memory.wf s.mem = true → Memory.wf t.mem = true)

theorem grows_trans {r : State} (hst : Grows s t) (htr : Grows t r) : Grows s r := by
  obtain ⟨hotp, huid, hgran, hmem⟩ := hst
  obtain ⟨hotp', huid', hgran', hmem'⟩ := htr
  exact ⟨OtpSt.kept_trans hotp hotp', bitsKept_trans huid huid', hgran'.trans hgran, hmem' ∘ hmem⟩

theorem grows_of_lastsBut {o : OtpSt} {u : Nat} {m : SMap (Option TalImg)} (h : LastsBut s t o u m) : Grows s t := by
  obtain ⟨hotp, huid, ⟨hotp', huid', hgran, -, hmem⟩⟩ := h
  exact ⟨hotp' ▸ hotp, huid' ▸ huid, hgran, hmem⟩

theorem grows_of_lasts (h : Lasts s t) : Grows s t := grows_of_lastsBut (lastsBut_of_lasts h)

theorem grows_self (s : State) : Grows s s := grows_of_lasts (lasts_self s)

theorem grows_ite {p : Prop} [Decidable p] {a b : State} (ha : Grows s a) (hb : Grows s b) : Grows s (if p then a else b) := by
  split <;> assumption

/-! ### Start-up and the supply -/

theorem grows_mram (s : State) (m : SMap (Option TalImg)) : Grows s { s with mram := m } :=
  ⟨OtpSt.kept_refl _, bitsKept_refl _, rfl, id⟩

theorem grows_epoch (s : State) (v : Nat) : Grows s { s with otp := { s.otp with epoch := s.otp.epoch.setAll v } } :=
  ⟨OtpSt.kept_epoch _ _, bitsKept_refl _, rfl, id⟩

theorem grows_talLoad (s : State) (uc : List Nat) : Grows s (s.talLoad uc) := by
  have hslots : ∀ l : List Nat, Grows s (l.foldl (fun s k => { s with mram := smSet none s.mram k none }) s) := fun l =>
    foldl_keeps (Grows s) _ (fun t k h => grows_trans h (grows_mram t _)) l s (grows_self s)
  unfold State.talLoad
  dsimp only
  refine grows_trans (hslots (uc.filter (· < 8)).eraseDups) (grows_of_lasts (lasts_talPersist (lasts_setF ?_)))
  split
  · exact lasts_wr (lasts_wr (lasts_setTal (lasts_foldl (fun _ _ h => lasts_hubMemFault h) (lasts_self _)) _))
  · exact lasts_hubFault (lasts_setF (lasts_setTal (lasts_foldl (fun _ _ h => lasts_hubMemFault h) (lasts_self _)) _))

theorem grows_epochCheck (s : State) : Grows s s.epochCheck := by
  unfold State.epochCheck
  dsimp only
  split
  · exact grows_self s
  split
  · exact grows_of_lasts (lasts_setF (lasts_self s))
  · exact grows_trans (grows_epoch s _) (grows_of_lasts (lasts_raise (lasts_setF (lasts_setF (lasts_self _)))))

/-- What start-up does before it completes the EPOCH copies. -/
theorem grows_startLedger (s : State) (ok0 ok1 : Bool) (uc : List Nat) : Grows s (s.startLedger ok0 ok1 uc) := by
  unfold State.startLedger
  dsimp only
  refine grows_trans ?_ (grows_of_lasts (lasts_ite (lasts_setF (lasts_lcyResume (lasts_self _))) (lasts_lcyResume (lasts_self _))))
  refine grows_trans ?_ (grows_epochCheck _)
  refine grows_trans ?_ (grows_of_lasts (lasts_setF (lasts_self _)))
  refine grows_trans ?_ (grows_talLoad _ uc)
  refine grows_trans ?_ (grows_of_lasts (lasts_setF (lasts_self _)))
  refine grows_trans ?_ (grows_epoch _ _)
  exact grows_of_lasts (lasts_sprCounts (lasts_setF (lasts_setF (lasts_sweepStart (lasts_setF (lasts_update (lasts_takeFree
    (lasts_update (lasts_startSpur (lasts_startSpur (lasts_self s)))))))))))

theorem grows_startPhase (s : State) (ok0 ok1 : Bool) (uc : List Nat) : Grows s (s.startPhase ok0 ok1 uc) := by
  have h := lasts_self s
  unfold State.startPhase
  dsimp only
  split
  · exact grows_self s
  split
  · exact grows_of_lasts (lasts_setF (lasts_modPass h))
  · exact grows_of_lasts (lasts_setF (lasts_startLcy h))
  · exact grows_trans (grows_startLedger s ok0 ok1 uc) (grows_of_lasts (lasts_setF (lasts_self _)))
  · exact grows_of_lasts (lasts_ite (lasts_setF (lasts_talBoot h)) h)
  · exact grows_of_lasts (lasts_ite (lasts_startDone h) h)
  · exact grows_self s

theorem grows_fromPower (s : State) : Grows s s.fromPower := ⟨OtpSt.kept_refl _, bitsKept_refl _, rfl, fun _ => rfl⟩

theorem grows_hubOff (s : State) (n mask : Nat) : Grows s (s.hubOff n mask) := by
  obtain ⟨o, u, h⟩ := otpTorn_lasts s n mask
  obtain ⟨hotp, huid, hgran, hmem⟩ := grows_trans (grows_of_lastsBut h) (grows_fromPower _)
  exact ⟨hotp, huid, hgran, hmem⟩

/-! ### Every step -/

/-- A happening at the hub that keeps the bits of OTP. -/
theorem grows_onHub {k : State → State} (hk : Grows s (k s)) (h : onHub s k = .next t) : Grows s t := by
  obtain rfl : (if s.rst.on then s.keeping (k s) else s) = t := Host.Outcome.next.inj h
  exact grows_ite hk (grows_self s)

theorem exec_grows (c : Instr) (s : State) (h : exec c s = .next t) : Grows s t := by
  by_cases hc : WritesLasting c
  · cases hc with
    | startupPhaseDone self0 self1 uc => exact grows_onHub (k := fun s => s.startPhase self0 self1 uc) (grows_startPhase s self0 self1 uc) h
    | vddHubLoss d k =>
      obtain rfl := exec_next_loss h
      exact grows_ite (grows_hubOff s d k) (grows_self s)
    | vddHubPowerUp =>
      obtain rfl := exec_next_powerUp h
      exact grows_ite (grows_self s) (grows_fromPower s)
    | authVerifyDone =>
      obtain ⟨o, u, hverify⟩ := authVerify_lasts s
      exact grows_onHub (k := fun s => if s.heldSeq 3 then s else s.authVerify) (grows_ite (grows_self s) (grows_of_lastsBut hverify)) h
    | lcyStepDone ok =>
      obtain ⟨o, ho, hstep⟩ := lcyStep_lasts s ok
      have hbut : LastsBut s (s.lcyStep ok) o s.uid s.mram := ⟨ho, bitsKept_refl _, hstep⟩
      exact grows_onHub (k := fun s => if s.heldSeq 3 then s else s.lcyStep ok) (grows_ite (grows_self s) (grows_of_lastsBut hbut)) h
    | talusCommitStart =>
      obtain ⟨m, hstart⟩ := commitStart_lasts s
      have hbut : LastsBut s s.commitStart s.otp s.uid m := ⟨OtpSt.kept_refl _, bitsKept_refl _, hstart⟩
      exact grows_onHub (k := fun s => if s.softPending then s else s.commitStart) (grows_ite (grows_self s) (grows_of_lastsBut hbut)) h
    | talusCommitVerify ok =>
      obtain ⟨m, hverify⟩ := commitVerify_lasts s ok
      have hbut : LastsBut s (s.commitVerify ok).authShow s.otp s.uid m := ⟨OtpSt.kept_refl _, bitsKept_refl _, lasts_authShow hverify⟩
      exact grows_onHub (k := fun s => (s.commitVerify ok).authShow) (grows_of_lastsBut hbut) h
  · exact grows_of_lasts (exec_lasts c s hc t h)

theorem step_grows (h : step s = .next t) : Grows s t := by
  unfold step at h
  split at h
  next c rest _ => exact exec_grows c { s with pending := rest } h
  next => exact grows_onHub (grows_of_lasts (lasts_idle (lasts_self s))) h

/-- Settles O6: every operation writes stack memory through operations that keep its form. -/
theorem stackMemoryStaysCanonical : Obligations.StackMemoryStaysCanonical := by
  intro s t hwf h
  obtain ⟨-, -, -, hmem⟩ := step_grows h
  exact hmem hwf

/-- Settles O46: OTP is written by setting bits only, and most operations do not write it. -/
theorem otpBitsAreOnlySet : Obligations.OtpBitsAreOnlySet := by
  intro s t h
  obtain ⟨hotp, huid, -, -⟩ := step_grows h
  exact ⟨hotp, huid⟩

/-- A happening at the hub that may be held back leaves all as it was, or what its operation leaves. -/
theorem lasts_of_onHub {p : Prop} [Decidable p] {s₁ : State} {k : State → State} (hk : Lasts s₁ (k s))
    (h : onHub s (fun s => if p then s else k s) = .next t) : Lasts s t ∨ Lasts s₁ t := by
  obtain rfl : (if s.rst.on then s.keeping (if p then s else k s) else s) = t := Host.Outcome.next.inj h
  by_cases hp : p
  · exact .inl (by rw [if_pos hp]; exact lasts_ite (lasts_keeping (lasts_self s)) (lasts_self s))
  · rw [if_neg hp]
    split
    · exact .inr (lasts_keeping hk)
    · exact .inl (lasts_self s)

theorem authVerifyDone_lasts (h : exec .authVerifyDone s = .next t) : t.mram = s.mram ∧ t.gran = s.gran := by
  obtain ⟨o, u, -, -, hverify⟩ := authVerify_lasts s
  obtain ⟨-, -, hgran, hmram, -⟩ | ⟨-, -, hgran, hmram, -⟩ := lasts_of_onHub (p := s.heldSeq 3 = true) (k := State.authVerify) hverify h
  · exact ⟨hmram, hgran⟩
  · exact ⟨hmram, hgran⟩

theorem lcyStepDone_lasts {ok : Bool} (h : exec (.lcyStepDone ok) s = .next t) : t.uid = s.uid ∧ t.mram = s.mram ∧ t.gran = s.gran := by
  obtain ⟨o, -, hstep⟩ := lcyStep_lasts s ok
  obtain ⟨-, huid, hgran, hmram, -⟩ | ⟨-, huid, hgran, hmram, -⟩ :=
    lasts_of_onHub (p := s.heldSeq 3 = true) (k := fun s => s.lcyStep ok) hstep h
  · exact ⟨huid, hmram, hgran⟩
  · exact ⟨huid, hmram, hgran⟩

theorem talusCommitStart_lasts (h : exec .talusCommitStart s = .next t) : t.otp = s.otp ∧ t.uid = s.uid ∧ t.gran = s.gran := by
  obtain ⟨m, hstart⟩ := commitStart_lasts s
  obtain ⟨hotp, huid, hgran, -, -⟩ | ⟨hotp, huid, hgran, -, -⟩ :=
    lasts_of_onHub (p := s.softPending = true) (k := State.commitStart) hstart h
  · exact ⟨hotp, huid, hgran⟩
  · exact ⟨hotp, huid, hgran⟩

theorem talusCommitVerify_lasts {ok : Bool} (h : exec (.talusCommitVerify ok) s = .next t) :
    t.otp = s.otp ∧ t.uid = s.uid ∧ t.gran = s.gran := by
  obtain ⟨m, hverify⟩ := commitVerify_lasts s ok
  obtain ⟨hotp, huid, hgran, -, -⟩ | ⟨hotp, huid, hgran, -, -⟩ :=
    lasts_of_onHub (p := False) (k := fun s => (s.commitVerify ok).authShow) (lasts_authShow hverify) 
      (by simpa only [if_false] using (show onHub s (fun s => (s.commitVerify ok).authShow) = .next t from h))
  · exact ⟨hotp, huid, hgran⟩
  · exact ⟨hotp, huid, hgran⟩

/-- Settles O7: each command but those named leaves all four stores; each of those named writes its own. -/
theorem lastingStoresFrame : Obligations.LastingStoresFrame := by
  intro c s t h hphase hloss hup
  by_cases hc : WritesLasting c
  · cases hc with
    | startupPhaseDone => exact absurd rfl (hphase _ _ _)
    | vddHubLoss => exact absurd rfl (hloss _ _)
    | vddHubPowerUp => exact absurd rfl hup
    | authVerifyDone =>
      obtain ⟨hmram, hgran⟩ := authVerifyDone_lasts h
      exact ⟨fun hne => absurd rfl hne, fun hne => absurd rfl hne, fun _ _ => hmram, hgran⟩
    | lcyStepDone =>
      obtain ⟨huid, hmram, hgran⟩ := lcyStepDone_lasts h
      exact ⟨fun _ hne => absurd rfl (hne _), fun _ => huid, fun _ _ => hmram, hgran⟩
    | talusCommitStart =>
      obtain ⟨hotp, huid, hgran⟩ := talusCommitStart_lasts h
      exact ⟨fun _ _ => hotp, fun _ => huid, fun hne => absurd rfl hne, hgran⟩
    | talusCommitVerify =>
      obtain ⟨hotp, huid, hgran⟩ := talusCommitVerify_lasts h
      exact ⟨fun _ _ => hotp, fun _ => huid, fun _ hne => absurd rfl (hne _), hgran⟩
  · obtain ⟨hotp, huid, hgran, hmram, -⟩ := exec_lasts c s hc t h
    exact ⟨fun _ _ => hotp, fun _ => huid, fun _ _ => hmram, hgran⟩

end Sys2Proof.Machine
end

section
/-! PROOFS: what a chain of updates leaves alone, update by update. -/

namespace Sys2Proof.Machine

set_option Elab.async false

variable {s t : State} {r g : List Nat} {q : List Part}

/-- A register that a frame lists, itself or with its page. -/
def Listed (r g : List Nat) (a : Nat) : Prop := a ∈ r ∨ a / 0x1000 ∈ g

/-- A frame goes on through an update whose own frame lists no more. -/
theorem State.frame.next {u : State} {r' : List Nat} {q' : List Part} (h : s.frame t r g q) (k : t.frame u r' [] q')
    (hr : ∀ a ∈ r', Listed r g a) (hq : q' ⊆ q) : s.frame u r g q :=
  h.andThen k hr (by simp) hq

theorem State.frame.wr (h : s.frame t r g q) (a n : Nat) (ha : Listed r g a) : s.frame (t.wr a n) r g q :=
  h.next (frame_wr t a n) (by simpa using ha) (by simp)

theorem State.frame.setF (h : s.frame t r g q) (f : Fld) (n : Nat) (hf : Listed r g f.addr) : s.frame (t.setF f n) r g q :=
  h.next (frame_setF t f n) (by simpa using hf) (by simp)

theorem State.frame.bump (h : s.frame t r g q) (a : Nat) (ha : Listed r g a) : s.frame (t.bump a) r g q := h.wr a _ ha

theorem State.frame.satAdd (h : s.frame t r g q) (f : Fld) (n : Nat) (hf : Listed r g f.addr) : s.frame (t.satAdd f n) r g q :=
  h.setF f _ hf

theorem State.frame.wrapAdd (h : s.frame t r g q) (f : Fld) (n : Nat) (hf : Listed r g f.addr) : s.frame (t.wrapAdd f n) r g q :=
  h.setF f _ hf

theorem State.frame.satAddR (h : s.frame t r g q) (a n : Nat) (ha : Listed r g a) : s.frame (t.satAddR a n) r g q := h.wr a _ ha

theorem State.frame.wr64 (h : s.frame t r g q) (a n : Nat) (ha : Listed r g a) (ha4 : Listed r g (a + 4)) : s.frame (t.wr64 a n) r g q :=
  (h.wr a _ ha).wr (a + 4) _ ha4

theorem State.frame.raise (h : s.frame t r g q) (n : EvName) (src : Nat) (d : List EvVal)
    (ha : Listed r g (evPage src n * 0x1000 + 0x24)) (hq : .intq ∈ q) : s.frame (t.raise n src d) r g q :=
  h.next (frame_raise t n src d) (by simpa using ha) (by simpa using hq)

theorem frame_setEng (s : State) (e : Nat) (x : EngSt) : s.frame (s.setEng e x) [] [] [.prb] :=
  ⟨rfl, fun _ _ _ => rfl, fun p hp => by cases p <;> simp_all [Part.same]⟩

theorem State.frame.setEng (h : s.frame t r g q) (e : Nat) (x : EngSt) (hq : .prb ∈ q) : s.frame (t.setEng e x) r g q :=
  h.next (frame_setEng t e x) (by simp) (by simpa using hq)

theorem frame_setPm (s : State) (a v : Nat) : s.frame (s.setPm a v) [] [] [.prb] :=
  ⟨rfl, fun _ _ _ => rfl, fun p hp => by cases p <;> simp_all [Part.same, State.setPm]⟩

theorem State.frame.setPm (h : s.frame t r g q) (a v : Nat) (hq : .prb ∈ q) : s.frame (t.setPm a v) r g q :=
  h.next (frame_setPm t a v) (by simp) (by simpa using hq)

theorem State.frame.ite {p : Prop} [Decidable p] {u : State} (ht : p → s.frame t r g q) (hu : ¬p → s.frame u r g q) :
    s.frame (if p then t else u) r g q := by
  split
  next hp => exact ht hp
  next hp => exact hu hp

end Sys2Proof.Machine
end

section
/-! PROOFS: how a Pitch engine issues and retires an instruction (07 R208 to R217). -/

namespace Sys2Proof.Machine

set_option Elab.async false

variable {s t : State} {r g : List Nat} {q : List Part} {e : Nat}

/-- What an engine that issues an instruction shows. -/
theorem issues_iff {i : PInstr} : s.issues e i = true ↔
    s.rst.on = true ∧ e < 4 ∧ s.engState e = 1 ∧ s.inCodeOf e (s.pc e) = true ∧ s.pmBad (s.pc e) = false
      ∧ PInstr.decode (BitVec.ofNat 32 (s.pmWord (s.pc e))) = some i ∧ s.stalled e i = false ∧ s.lacks e i = false := by
  simp [State.issues, and_assoc]

theorem fetch_of_issues {i : PInstr} (h : s.issues e i = true) : s.fetch e = .ok i := by
  obtain ⟨-, -, -, hcode, hbad, hdec, -, -⟩ := issues_iff.1 h
  simp [State.fetch, hcode, hbad, hdec]

theorem issueP_of_issues {i : PInstr} {k : PInstr → Option (State → State)} {f : State → State} (h : s.issues e i = true)
    (hk : k i = some f) : s.issueP e k = f s := by
  obtain ⟨-, -, hrun, -, -, -, hstall, hlack⟩ := issues_iff.1 h
  simp [State.issueP, hrun, fetch_of_issues h, hk, hstall, hlack]

/-- The command of an instruction that is issued has the instruction's effect. -/
theorem runs_pitch {c : Instr} {i : PInstr} {k : PInstr → Option (State → State)} {f : State → State} {P : State → Prop}
    (h : s.issues e i = true) (hc : exec c s = pitch e s k) (hk : k i = some f) (hf : s.frame (f s) r g q) (hq : .rst ∉ q)
    (hP : P (f s)) : runs c s P := by
  obtain ⟨hon, he, -⟩ := issues_iff.1 h
  have hgo : (s.issueP e k) = f s := issueP_of_issues h hk
  refine runs_onHub (k := fun s => s.issueP e k) ?_ hon (hgo ▸ hf) hq (hgo ▸ hP)
  rw [hc, pitch, withEngine, if_pos he]

/-! ### The p registers and the pc -/

theorem p_wr_ne {a n d : Nat} (hlo : R.PRB_P e (2 * d) ≠ a) (hhi : R.PRB_P e (2 * d + 1) ≠ a) : (s.wr a n).p e d = s.p e d := by
  simp [State.p, rd_wr_ne s n hlo, rd_wr_ne s n hhi]

theorem p_setP_same (s : State) (e d v : Nat) : (s.setP e d v).p e d = v % 2 ^ 64 := by
  have hne : R.PRB_P e (2 * d) ≠ R.PRB_P e (2 * d + 1) := by unfold R.PRB_P; omega
  simp only [State.p, State.setP, rd_wr_same, rd_wr_ne _ _ hne]
  omega

theorem p_lt (s : State) (e d : Nat) : s.p e d < 2 ^ 64 := by
  have hlo : s.rd (R.PRB_P e (2 * d)) < 2 ^ 32 := (smGet 0 s.regs _).isLt
  have hhi : s.rd (R.PRB_P e (2 * d + 1)) < 2 ^ 32 := (smGet 0 s.regs _).isLt
  unfold State.p
  omega

@[simp] theorem pWord_toNat (s : State) (e : Nat) (a : BitVec 4) : (s.pWord e a).toNat = s.p e a.toNat := by
  have hlt := p_lt s e a.toNat
  simp only [State.pWord, BitVec.toNat_ofNat]
  omega

theorem pc_lt (s : State) (e : Nat) : s.pc e < 65536 := Nat.mod_lt _ (by decide)

/-- The two registers that hold register pn. -/
def pRegs (e n : Nat) : List Nat := [R.PRB_P e (2 * n), R.PRB_P e (2 * n + 1)]

theorem frame_setP (s : State) (e n v : Nat) : s.frame (s.setP e n v) (pRegs e n) [] [] :=
  ((State.frame.refl s _ _ _).wr _ _ (.inl (by simp [pRegs]))).wr _ _ (.inl (by simp [pRegs]))

theorem pc_eq_of_frame (h : s.frame t r g q) (hr : R.PRB_PC e ∉ r) (hg : R.PRB_PC e / 0x1000 ∉ g) : t.pc e = s.pc e := by
  obtain ⟨-, hregs, -⟩ := h
  rw [State.pc, hregs _ hr hg, State.pc]

@[simp] theorem pc_setP (s : State) (e v : Nat) (d : BitVec 4) : (s.setP e d.toNat v).pc e = s.pc e :=
  pc_eq_of_frame (frame_setP s e d.toNat v) (by have := d.isLt; simp only [pRegs, R.PRB_PC, R.PRB_P, List.mem_cons, List.not_mem_nil, or_false]; omega)
    (by simp)

@[simp] theorem retired_setP (s : State) (e v : Nat) (d : BitVec 4) :
    (s.setP e d.toNat v).rd (R.PRB_RETIRED e) = s.rd (R.PRB_RETIRED e) := by
  obtain ⟨-, hregs, -⟩ := frame_setP s e d.toNat v
  exact hregs _ (by have := d.isLt; simp only [pRegs, R.PRB_RETIRED, R.PRB_P, List.mem_cons, List.not_mem_nil, or_false]; omega) (by simp)

theorem frame_retireTo (s : State) (e n : Nat) : s.frame (s.retireTo e n) [R.PRB_PC e, R.PRB_RETIRED e] [] [] :=
  ((State.frame.refl s _ _ _).bump _ (.inl (by simp))).wr _ _ (.inl (by simp))

theorem p_retireTo (s : State) (e n : Nat) (d : BitVec 4) : (s.retireTo e n).p e d.toNat = s.p e d.toNat := by
  obtain ⟨-, hregs, -⟩ := frame_retireTo s e n
  have hd := d.isLt
  simp only [State.p]
  rw [hregs _ _ (by simp), hregs _ _ (by simp)] <;>
  · simp only [R.PRB_PC, R.PRB_RETIRED, R.PRB_P, List.mem_cons, List.not_mem_nil, or_false]
    omega

/-- An instruction whose effect on the state leads to `t` retires. -/
theorem retired_retireTo {ds regs : List Nat} (h : s.frame t (regs ++ ds.flatMap fun n => pRegs e n) [] q) (n : Nat)
    (hret : t.rd (R.PRB_RETIRED e) = s.rd (R.PRB_RETIRED e)) : s.retired (t.retireTo e n) e n ds regs q := by
  have hne : R.PRB_RETIRED e ≠ R.PRB_PC e := by unfold R.PRB_RETIRED R.PRB_PC; omega
  refine ⟨?_, ?_, ?_⟩
  · simp only [State.pc, State.retireTo, State.setPc, rd_wr_same]
    omega
  · rw [State.retireTo, State.setPc, rd_wr_ne _ _ hne, State.bump, rd_wr_same, hret, Nat.mod_mod]
  · have hmono : s.frame t ([R.PRB_PC e, R.PRB_RETIRED e] ++ regs ++ ds.flatMap fun n => pRegs e n) [] q :=
      h.mono (by rw [List.append_assoc]; exact List.subset_append_right _ _) (List.Subset.refl _) (List.Subset.refl _)
    exact hmono.next (frame_retireTo t e n) (fun a ha => .inl (by rw [List.append_assoc]; exact List.mem_append_left _ ha)) (by simp)

theorem retired_goOn (s : State) (e : Nat) : s.retired (s.goOn e) e (s.pc e + 1) [] [] [] :=
  retired_retireTo (State.frame.refl s _ _ _) _ rfl

theorem retired_pSet (s : State) (e v : Nat) (d : BitVec 4) : s.retired (s.pSet e d v) e (s.pc e + 1) [d.toNat] [] [] := by
  have h := retired_retireTo (s := s) (ds := [d.toNat]) (regs := []) (by simpa using frame_setP s e d.toNat v) (s.pc e + 1) (retired_setP s e v d)
  rwa [State.pSet, State.goOn, pc_setP]

theorem p_pSet (s : State) (e v : Nat) (d : BitVec 4) : (s.pSet e d v).p e d.toNat = v % 2 ^ 64 := by
  rw [State.pSet, State.goOn, p_retireTo, p_setP_same]

theorem State.retired.frame {pc : Nat} {ds regs : List Nat} (h : s.retired t e pc ds regs q) :
    s.frame t ([R.PRB_PC e, R.PRB_RETIRED e] ++ regs ++ ds.flatMap fun n => pRegs e n) [] q := h.2.2

/-- An instruction that only retires. -/
theorem runs_retired {c : Instr} {i : PInstr} {k : PInstr → Option (State → State)} {f : State → State} {P : State → Prop} {pc : Nat}
    {ds regs : List Nat} (h : s.issues e i = true) (hc : exec c s = pitch e s k) (hk : k i = some f)
    (hf : s.retired (f s) e pc ds regs q) (hq : .rst ∉ q) (hP : P (f s)) : runs c s P :=
  runs_pitch h hc hk hf.frame hq hP

/-- An instruction that writes one register and goes on. -/
theorem runs_pSet {c : Instr} {i : PInstr} {k : PInstr → Option (State → State)} {d : BitVec 4} {v w : Nat} {f : State → State}
    (h : s.issues e i = true) (hc : exec c s = pitch e s k) (hk : k i = some f) (hf : f s = s.pSet e d v) (hv : v % 2 ^ 64 = w) :
    runs c s fun t => t.p e d.toNat = w ∧ s.retired t e (s.pc e + 1) [d.toNat] [] [] :=
  runs_retired h hc hk (hf ▸ retired_pSet s e v d) (by simp) (hf ▸ ⟨by rw [p_pSet, hv], retired_pSet s e v d⟩)

/-! ### Branches (R213, R214) -/

theorem branch_target (pc : Nat) {n : Nat} (off : BitVec n) :
    (pc + (off.signExtend 16).toNat) % 65536 = (((pc : Int) + off.toInt) % 65536).toNat := by
  have hsx : (off.signExtend 16).toNat = (off.toInt % (2 ^ 16 : Nat)).toNat := BitVec.toNat_ofInt ..
  omega

theorem retiredTo_congr {m n : Nat} {ds regs : List Nat} (h : s.retired t e m ds regs q) (hmn : m % 65536 = n % 65536) :
    s.retired t e n ds regs q := by
  obtain ⟨hpc, hret, hframe⟩ := h
  exact ⟨hpc.trans hmn, hret, hframe⟩

theorem retired_retireTo_self (s : State) (e n : Nat) : s.retired (s.retireTo e n) e n [] [] [] :=
  retired_retireTo (State.frame.refl s _ _ _) n rfl

/-- A branch goes to its target or to the next word. -/
theorem retired_branch (s : State) (e : Nat) (taken : Bool) {n : Nat} (off : BitVec n) :
    s.retired (s.branch e taken (off.signExtend 16).toNat) e
      (if taken then (((s.pc e : Int) + off.toInt) % 65536).toNat else s.pc e + 1) [] [] [] := by
  cases taken with
  | false => exact retired_goOn s e
  | true => exact retiredTo_congr (retired_retireTo_self s e _) (by rw [branch_target, if_pos rfl]; omega)

theorem brTaken_eq (s : State) (e : Nat) (fn : BrFn) (a b : BitVec 4) :
    fn.taken (s.p e a.toNat) (s.p e b.toNat) = match fn with
      | .beq => s.pWord e a == s.pWord e b | .bne => s.pWord e a != s.pWord e b
      | .bltu => decide (s.pWord e a < s.pWord e b) | .bgeu => decide (s.pWord e b ≤ s.pWord e a) := by
  cases fn <;> simp [BrFn.taken, BitVec.lt_def, BitVec.le_def, beq_eq_decide, bne, ← BitVec.toNat_inj]

theorem briTaken_eq (s : State) (e : Nat) (fn : BriFn) (a : BitVec 4) (imm : BitVec 8) :
    fn.taken (s.p e a.toNat) imm.toNat = match fn with
      | .beqi => s.pWord e a == imm.setWidth 64 | .bnei => s.pWord e a != imm.setWidth 64
      | .bltui => decide (s.pWord e a < imm.setWidth 64) := by
  have himm : imm.toNat % 18446744073709551616 = imm.toNat := Nat.mod_eq_of_lt (by have := imm.isLt; omega)
  cases fn <;> simp [BriFn.taken, BitVec.lt_def, beq_eq_decide, bne, ← BitVec.toNat_inj, himm]

theorem runs_br {fn : BrFn} {a b : BitVec 4} {off : BitVec 18} {c : Instr} {k : PInstr → Option (State → State)} {taken : Bool}
    (h : s.issues e (.br fn a b off) = true) (hc : exec c s = pitch e s k)
    (hk : k (.br fn a b off) = some fun s => s.br e fn a b off) (htaken : fn.taken (s.p e a.toNat) (s.p e b.toNat) = taken) :
    runs c s fun t => s.retired t e (if taken then (((s.pc e : Int) + off.toInt) % 65536).toNat else s.pc e + 1) [] [] [] := by
  subst htaken
  exact runs_retired h hc hk (retired_branch s e _ off) (by simp) (retired_branch s e _ off)

theorem runs_bri {fn : BriFn} {a : BitVec 4} {imm : BitVec 8} {off : BitVec 14} {c : Instr} {k : PInstr → Option (State → State)}
    {taken : Bool} (h : s.issues e (.bri fn a imm off) = true) (hc : exec c s = pitch e s k)
    (hk : k (.bri fn a imm off) = some fun s => s.bri e fn a imm off) (htaken : fn.taken (s.p e a.toNat) imm.toNat = taken) :
    runs c s fun t => s.retired t e (if taken then (((s.pc e : Int) + off.toInt) % 65536).toNat else s.pc e + 1) [] [] [] := by
  subst htaken
  exact runs_retired h hc hk (retired_branch s e _ off) (by simp) (retired_branch s e _ off)

/-- JAL with a link: the register and the pc. -/
theorem retired_jal_link (s : State) (e : Nat) (d : BitVec 4) (target : BitVec 16) :
    s.retired (s.jal e d 0 target) e target.toNat [d.toNat] [] [] :=
  retired_retireTo (ds := [d.toNat]) (regs := []) (by simpa using frame_setP s e d.toNat _) _ (retired_setP s e _ d)

/-- Settles O28: each branch retires to its target or to the next word. -/
theorem pitchBranches : Obligations.PitchBranches := by
  refine ⟨?_, ?_, ?_, ?_, ?_⟩
  · intro e fn a b off s h
    cases fn
    · exact runs_br h rfl rfl (brTaken_eq s e .beq a b)
    · exact runs_br h rfl rfl (brTaken_eq s e .bne a b)
    · exact runs_br h rfl rfl (brTaken_eq s e .bltu a b)
    · exact runs_br h rfl rfl (brTaken_eq s e .bgeu a b)
  · intro e fn a imm off s h
    cases fn
    · exact runs_bri h rfl rfl (briTaken_eq s e .beqi a imm)
    · exact runs_bri h rfl rfl (briTaken_eq s e .bnei a imm)
    · exact runs_bri h rfl rfl (briTaken_eq s e .bltui a imm)
  · intro e d target s h
    have hlink : (s.jal e d 0 target).p e d.toNat = (s.pc e + 1) % 65536 := by
      have hp : (s.jal e d 0 target).p e d.toNat = (s.pc e + 1) % 65536 % 2 ^ 64 := (p_retireTo _ e _ d).trans (p_setP_same s e _ _)
      omega
    exact runs_retired h rfl rfl (retired_jal_link s e d target) (by simp) ⟨hlink, retired_jal_link s e d target⟩
  · intro e d target s h
    exact runs_retired h rfl rfl (retired_retireTo_self s e _) (by simp) (retired_retireTo_self s e _)
  · intro e a s h
    exact runs_retired h rfl rfl (retired_retireTo_self s e _) (by simp) (retired_retireTo_self s e _)

end Sys2Proof.Machine
end

section
/-! PROOFS: the data instructions of Pitch (07 R207, R213, R214). -/

namespace Sys2Proof.Machine

set_option Elab.async false

variable {s t : State} {r g : List Nat} {q : List Part} {e : Nat}

/-! ### Arithmetic -/

theorem aluWord_toNat (x y : BitVec 64) (fn : AluFn) : (aluWord x y fn).toNat = fn.run x.toNat y.toNat % 2 ^ 64 := by
  have hx := x.isLt
  have hy := y.isLt
  cases fn with
  | add => exact BitVec.toNat_add x y
  | sub => rw [aluWord, BitVec.toNat_sub]; congr 1; simp only [AluFn.run]; omega
  | and_ => exact (Nat.mod_eq_of_lt (BitVec.isLt (x &&& y))).symm
  | or_ => exact (Nat.mod_eq_of_lt (BitVec.isLt (x ||| y))).symm
  | xor => exact (Nat.mod_eq_of_lt (BitVec.isLt (x ^^^ y))).symm
  | shl => rw [aluWord, BitVec.toNat_shiftLeft, Nat.shiftLeft_eq]; rfl
  | shr =>
    rw [aluWord, BitVec.toNat_ushiftRight, Nat.shiftRight_eq_div_pow]
    exact (Nat.mod_eq_of_lt (Nat.lt_of_le_of_lt (Nat.div_le_self _ _) hx)).symm
  | mul => exact BitVec.toNat_mul x y
  | minu =>
    rw [Nat.mod_eq_of_lt (by simp only [AluFn.run]; omega)]
    simp only [aluWord, AluFn.run, BitVec.le_def, Nat.min_def]
    split <;> rfl
  | maxu =>
    rw [Nat.mod_eq_of_lt (by simp only [AluFn.run]; omega)]
    simp only [aluWord, AluFn.run, BitVec.le_def, Nat.max_def]
    split <;> rfl

theorem runs_alu (fn : AluFn) {d a b : BitVec 4} (h : s.issues e (.alu fn d a b) = true) :
    runs (aluCmd e fn) s fun t =>
      t.p e d.toNat = (aluWord (s.pWord e a) (s.pWord e b) fn).toNat ∧ s.retired t e (s.pc e + 1) [d.toNat] [] [] := by
  have hv : fn.run (s.p e a.toNat) (s.p e b.toNat) % 2 ^ 64 % 2 ^ 64 = (aluWord (s.pWord e a) (s.pWord e b) fn).toNat := by
    rw [Nat.mod_mod, aluWord_toNat, pWord_toNat, pWord_toNat]
  cases fn <;> exact runs_pSet h rfl rfl rfl hv

/-- The sum of a register and a signed immediate, as a number. -/
theorem addr_eq (s : State) (e : Nat) (a : BitVec 4) (imm : BitVec 18) : s.addr e a imm = (s.pWord e a + imm.signExtend 64).toNat := by
  rw [BitVec.toNat_add, pWord_toNat, State.addr]

/-! ### Program memory -/

theorem pmWord_setPm (s : State) (a v b : Nat) : (s.setPm a v).pmWord b = if b = a then v % 2 ^ 32 else s.pmWord b := by
  by_cases hb : b = a
  · subst hb
    have hclean : (s.prb.pmUc.filter (· ≠ b)).contains b = false := by simp
    simp only [State.pmWord, State.setPm, hclean, smGet_smSet_same, BitVec.toNat_ofNat, if_true, Bool.false_eq_true, if_false]
  · have huc : (s.prb.pmUc.filter (· ≠ a)).contains b = s.prb.pmUc.contains b := by simp [List.contains_eq_mem, hb]
    simp only [State.pmWord, State.setPm, huc, smGet_smSet_ne _ _ hb, hb, if_false]

theorem pmWord_lt (s : State) (a : Nat) : s.pmWord a < 2 ^ 32 := by
  unfold State.pmWord
  split
  · decide
  · exact (smGet 0 s.prb.pm a).isLt

theorem pmWord_pmPutDouble (s : State) (a n b : Nat) (hn : n < 2 ^ 64) :
    (s.pmPutDouble a n).pmWord b = if b = a then n % 2 ^ 32 else if b = a + 1 then n / 2 ^ 32 else s.pmWord b := by
  simp only [State.pmPutDouble, pmWord_setPm]
  by_cases ha : b = a
  · simp [ha]
  · by_cases hb : b = a + 1
    · simp only [hb, if_true, show ¬ a + 1 = a by omega, if_false]
      omega
    · simp [ha, hb]

theorem frame_pmPutDouble (s : State) (a n : Nat) : s.frame (s.pmPutDouble a n) [] [] [.prb] :=
  ((State.frame.refl s _ _ _).setPm _ _ (by simp)).setPm _ _ (by simp)

theorem pmWord_eq_of_prb (h : t.prb = s.prb) (a : Nat) : t.pmWord a = s.pmWord a := by simp [State.pmWord, h]

@[simp] theorem prb_setP (s : State) (e n v : Nat) : (s.setP e n v).prb = s.prb := rfl
@[simp] theorem prb_retireTo (s : State) (e n : Nat) : (s.retireTo e n).prb = s.prb := rfl
@[simp] theorem prb_goOn (s : State) (e : Nat) : (s.goOn e).prb = s.prb := rfl
@[simp] theorem prb_pSet (s : State) (e v : Nat) (d : BitVec 4) : (s.pSet e d v).prb = s.prb := rfl

theorem dataOk_iff {a : Nat} : s.dataOk e a = true ↔ a ≤ 0xFFFF ∧ a % 2 = 0 ∧ s.inData e a = true := by
  simp [State.dataOk, and_assoc]

theorem badWord_none {a : Nat} (h : s.pmBad a = false) (h1 : s.pmBad (a + 1) = false) : s.badWord a = none := by
  simp [State.badWord, List.find?, h, h1]

theorem ldm_good {d : BitVec 4} {a : Nat} (hok : s.dataOk e a = true) (h : s.pmBad a = false) (h1 : s.pmBad (a + 1) = false) :
    s.ldm e d a = s.pSet e d (s.pmWord a + 2 ^ 32 * s.pmWord (a + 1)) := by
  simp [State.ldm, hok, badWord_none h h1, State.pmDouble]

theorem stm_good {d : BitVec 4} {a : Nat} (hok : s.dataOk e a = true) (h : s.inCode a = false) (h1 : s.inCode (a + 1) = false) :
    s.stm e d a = (s.pmPutDouble a (s.p e d.toNat)).goOn e := by
  simp [State.stm, State.codeHit, hok, h, h1]

theorem aadd_good {d b : BitVec 4} {a : Nat} (hok : s.dataOk e a = true) (hc : s.inCode a = false) (hc1 : s.inCode (a + 1) = false)
    (h : s.pmBad a = false) (h1 : s.pmBad (a + 1) = false) :
    s.aadd e d b a = (s.pmPutDouble a ((s.pmDouble a + s.p e b.toNat) % 2 ^ 64)).pSet e d (s.pmDouble a) := by
  simp [State.aadd, State.codeHit, hok, hc, hc1, badWord_none h h1]

/-- A store retires as what follows it does. -/
theorem retired_of_prb {pc : Nat} {ds regs : List Nat} {u : State} (hu : s.frame u [] [] [.prb]) (h : u.retired t e pc ds regs []) :
    s.retired t e pc ds regs [.prb] := by
  obtain ⟨hpc, hret, hframe⟩ := h
  refine ⟨hpc, ?_, ?_⟩
  · rw [hret, rd_eq_of_frame hu _ (by simp) (by simp)]
  · exact (hu.mono (by simp) (by simp) (by simp)).next hframe (fun a ha => .inl ha) (by simp)

theorem pc_pmPutDouble (s : State) (e a n : Nat) : (s.pmPutDouble a n).pc e = s.pc e := rfl

theorem retired_store (s : State) (e a n : Nat) : s.retired ((s.pmPutDouble a n).goOn e) e (s.pc e + 1) [] [] [.prb] :=
  retired_of_prb (frame_pmPutDouble s a n) (retired_goOn (s.pmPutDouble a n) e)

theorem retired_store_pSet (s : State) (e a n v : Nat) (d : BitVec 4) :
    s.retired ((s.pmPutDouble a n).pSet e d v) e (s.pc e + 1) [d.toNat] [] [.prb] :=
  retired_of_prb (frame_pmPutDouble s a n) (retired_pSet (s.pmPutDouble a n) e v d)

/-! ### A stop -/

theorem evPage_engStop {e : Nat} (he : e < 4) : evPage (engSrc e) .engStop = 3 + e := by
  interval_cases e <;> rfl

/-- The addresses of an engine's page. -/
theorem listed_engPage {pages : List Nat} {a : Nat} (hp : 3 + e ∈ pages) (hlo : 0x3000 + 0x1000 * e ≤ a) (hhi : a < 0x4000 + 0x1000 * e) :
    Listed r pages a := by
  have hpage : a / 0x1000 = 3 + e := by omega
  exact .inr (hpage ▸ hp)

/-- What a stop leaves: the engine's own page, its part and the event. -/
theorem frame_engStop (s : State) (code : Nat) (he : e < 4) : s.frame (s.engStop e code) [] [3 + e] [.intq, .prb] := by
  unfold State.engStop
  refine (((((State.frame.refl s _ _ _).wr _ _ ?_).setF _ _ ?_).wr64 _ _ ?_ ?_).setEng _ _ (by simp)).setF _ _ ?_ |>.raise _ _ _ ?_ (by simp)
  case refine_6 => exact .inr (by rw [evPage_engStop he]; simp; omega)
  all_goals
    refine listed_engPage (e := e) (by simp) ?_ ?_ <;>
      simp only [R.PRB_STALL, R.PRB_STOP_T_LO, F.PRB_STAT_STATE, F.PRB_STAT_STOP_CODE, R.PRB_STAT] <;> omega

/-- No register of an engine but PG_EVT_CNT lies where a stop counts its event. -/
theorem ne_evCount_engStop {a : Nat} (he : e < 4) (ha : a ≠ 0x3024 + 0x1000 * e) : a ≠ evPage (engSrc e) .engStop * 0x1000 + 0x24 := by
  rw [evPage_engStop he]
  omega

theorem engState_engStop (s : State) (code : Nat) (he : e < 4) : (s.engStop e code).engState e = 0 := by
  unfold State.engStop State.engState
  dsimp only
  rw [f_raise _ _ _ _ _ _ (ne_evCount_engStop he (by simp only [F.PRB_STAT_STATE, R.PRB_STAT]; omega))]
  exact f_setF_same _ _ _ (by simp [F.PRB_STAT_STATE])

theorem stopCode_engStop (s : State) (code : Nat) (he : e < 4) : (s.engStop e code).f (F.PRB_STAT_STOP_CODE e) = code % 16 := by
  have hlo : (F.PRB_STAT_STOP_CODE e).addr ≠ R.PRB_STOP_T_LO e := by simp only [F.PRB_STAT_STOP_CODE, R.PRB_STAT, R.PRB_STOP_T_LO]; omega
  have hhi : (F.PRB_STAT_STOP_CODE e).addr ≠ R.PRB_STOP_T_LO e + 4 := by
    simp only [F.PRB_STAT_STOP_CODE, R.PRB_STAT, R.PRB_STOP_T_LO]; omega
  unfold State.engStop
  dsimp only
  rw [f_raise _ _ _ _ _ _ (ne_evCount_engStop he (by simp only [F.PRB_STAT_STOP_CODE, R.PRB_STAT]; omega)),
    f_setF_other _ _ _ _ (by simp [F.PRB_STAT_STATE]) (by simp [F.PRB_STAT_STATE, F.PRB_STAT_STOP_CODE])]
  show (State.wr64 _ _ _).f _ = _
  rw [State.wr64, f_wr_ne _ _ _ _ hhi, f_wr_ne _ _ _ _ hlo]
  exact f_setF_same _ _ _ (by simp [F.PRB_STAT_STOP_CODE])

theorem pc_engStop (s : State) (code : Nat) (he : e < 4) : (s.engStop e code).pc e = s.pc e := by
  have hraise : R.PRB_PC e ≠ evPage (engSrc e) .engStop * 0x1000 + 0x24 := ne_evCount_engStop he (by simp only [R.PRB_PC]; omega)
  simp only [State.pc, State.engStop]
  rw [rd_eq_of_frame (frame_raise _ _ _ _) _ (by simpa using hraise) (by simp), rd_setF_ne]
  · show (State.wr64 _ _ _).rd _ % 65536 = _
    rw [State.wr64, rd_wr_ne, rd_wr_ne, rd_setF_ne, rd_wr_ne] <;>
      simp only [R.PRB_PC, R.PRB_STALL, R.PRB_STOP_T_LO, F.PRB_STAT_STOP_CODE, R.PRB_STAT] <;> omega
  · simp only [R.PRB_PC, F.PRB_STAT_STATE, R.PRB_STAT]
    omega

theorem pmWord_engStop (s : State) (e code a : Nat) : (s.engStop e code).pmWord a = s.pmWord a := rfl

theorem engStop_mem (s : State) (e code : Nat) : ∃ v ∈ (s.engStop e code).sum.intq, v.name = .engStop ∧ v.src = 0x1002 + e :=
  ⟨_, List.mem_append_right _ (List.mem_singleton_self _), rfl, rfl⟩

theorem dataOk_false {a : Nat} (h : 0xFFFF < a ∨ a % 2 = 1 ∨ s.inData e a = false) : s.dataOk e a = false := by
  rw [Bool.eq_false_iff, ne_eq, dataOk_iff]
  rintro ⟨hle, heven, hin⟩
  rcases h with h | h | h
  · omega
  · omega
  · exact absurd hin (by simp [h])

/-- An instruction whose access the data window turns away stops the engine. -/
theorem runs_dataRange {c : Instr} {i : PInstr} {k : PInstr → Option (State → State)} {f : State → State}
    (h : s.issues e i = true) (hc : exec c s = pitch e s k) (hk : k i = some f) (hf : f s = s.engStop e 4) :
    runs c s fun t => t.engState e = 0 ∧ t.f (F.PRB_STAT_STOP_CODE e) = 4 ∧ t.pc e = s.pc e ∧ (∀ y, t.pmWord y = s.pmWord y)
      ∧ (∃ v ∈ t.sum.intq, v.name = .engStop ∧ v.src = 0x1002 + e) ∧ s.frame t [] [3 + e] [.intq, .prb] := by
  obtain ⟨-, he, -⟩ := issues_iff.1 h
  exact runs_pitch h hc hk (hf ▸ frame_engStop s 4 he) (by simp) (hf ▸ ⟨engState_engStop s 4 he, stopCode_engStop s 4 he,
    pc_engStop s 4 he, pmWord_engStop s e 4, engStop_mem s e 4, frame_engStop s 4 he⟩)

/-! ### The statement -/

theorem runs_ldm {d a : BitVec 4} {imm : BitVec 18} {x : Nat} (h : s.issues e (.ldm d a imm) = true) (hx : s.addr e a imm = x)
    (hok : s.dataOk e x = true) (hbad : s.pmBad x = false) (hbad1 : s.pmBad (x + 1) = false) :
    runs (.ldm e) s fun t => t.p e d.toNat = s.pmWord x + 2 ^ 32 * s.pmWord (x + 1) ∧ s.retired t e (s.pc e + 1) [d.toNat] [] [] := by
  have hlo := pmWord_lt s x
  have hhi := pmWord_lt s (x + 1)
  exact runs_pSet h rfl rfl (by rw [hx, ldm_good hok hbad hbad1]) (by omega)

theorem runs_stm {d a : BitVec 4} {imm : BitVec 18} {x : Nat} (h : s.issues e (.stm d a imm) = true) (hx : s.addr e a imm = x)
    (hok : s.dataOk e x = true) (hc : s.inCode x = false) (hc1 : s.inCode (x + 1) = false) :
    runs (.stm e) s fun t =>
      t.pmWord x = s.p e d.toNat % 2 ^ 32 ∧ t.pmWord (x + 1) = s.p e d.toNat / 2 ^ 32 ∧ (∀ y, y ≠ x ∧ y ≠ x + 1 → t.pmWord y = s.pmWord y)
      ∧ t.prb.eng = s.prb.eng ∧ s.retired t e (s.pc e + 1) [] [] [.prb] := by
  have hf : s.stm e d (s.addr e a imm) = (s.pmPutDouble x (s.p e d.toNat)).goOn e := by rw [hx, stm_good hok hc hc1]
  have hw : ∀ y, ((s.pmPutDouble x (s.p e d.toNat)).goOn e).pmWord y = _ := fun y =>
    (pmWord_eq_of_prb (prb_goOn _ e) y).trans (pmWord_pmPutDouble s x _ y (p_lt s e _))
  have hret := retired_store s e x (s.p e d.toNat)
  refine runs_retired h rfl rfl (hf ▸ hret) (by simp) (hf ▸ ⟨?_, ?_, ?_, rfl, hret⟩)
  · rw [hw, if_pos rfl]
  · rw [hw, if_neg (by omega), if_pos rfl]
  · rintro y ⟨hy, hy1⟩
    rw [hw, if_neg hy, if_neg hy1]

theorem runs_aadd {d a b : BitVec 4} {x : Nat} (h : s.issues e (.aadd d a b) = true) (hx : s.p e a.toNat = x)
    (hok : s.dataOk e x = true) (hc : s.inCode x = false) (hc1 : s.inCode (x + 1) = false) (hbad : s.pmBad x = false)
    (hbad1 : s.pmBad (x + 1) = false) :
    runs (.aadd e) s fun t =>
      t.p e d.toNat = s.pmDouble x ∧ t.pmWord x + 2 ^ 32 * t.pmWord (x + 1) = (s.pmDouble x + s.p e b.toNat) % 2 ^ 64
      ∧ (∀ y, y ≠ x ∧ y ≠ x + 1 → t.pmWord y = s.pmWord y) ∧ t.prb.eng = s.prb.eng ∧ s.retired t e (s.pc e + 1) [d.toNat] [] [.prb] := by
  have hlo := pmWord_lt s x
  have hhi := pmWord_lt s (x + 1)
  have hlt : (s.pmDouble x + s.p e b.toNat) % 2 ^ 64 < 2 ^ 64 := Nat.mod_lt _ (by decide)
  have hf : s.aadd e d b (s.p e a.toNat) = (s.pmPutDouble x ((s.pmDouble x + s.p e b.toNat) % 2 ^ 64)).pSet e d (s.pmDouble x) := by
    rw [hx, aadd_good hok hc hc1 hbad hbad1]
  have hw : ∀ y, ((s.pmPutDouble x ((s.pmDouble x + s.p e b.toNat) % 2 ^ 64)).pSet e d (s.pmDouble x)).pmWord y = _ := fun y =>
    (pmWord_eq_of_prb (prb_pSet _ e _ d) y).trans (pmWord_pmPutDouble s x _ y hlt)
  have hret := retired_store_pSet s e x ((s.pmDouble x + s.p e b.toNat) % 2 ^ 64) (s.pmDouble x) d
  refine runs_retired h rfl rfl (hf ▸ hret) (by simp) (hf ▸ ⟨?_, ?_, ?_, rfl, hret⟩)
  · rw [p_pSet]
    exact Nat.mod_eq_of_lt (by unfold State.pmDouble; omega)
  · rw [hw, hw, if_pos rfl, if_neg (by omega), if_pos rfl]
    exact Nat.mod_add_div _ _
  · rintro y ⟨hy, hy1⟩
    rw [hw, if_neg hy, if_neg hy1]

/-- Settles O27: each instruction writes its register or its doubleword and retires, or stops the engine. -/
theorem pitchDataInstructions : Obligations.PitchDataInstructions := by
  refine ⟨?_, ?_, ?_, ?_, ?_, ?_, ?_, ?_, ?_⟩
  · intro e fn d a b s h
    exact runs_alu fn h
  · intro e d a imm s h
    exact runs_pSet h rfl rfl rfl (by rw [addr_eq]; exact Nat.mod_eq_of_lt (BitVec.isLt _))
  · intro e d a imm s h
    have hand : (s.pWord e a &&& imm.setWidth 64).toNat = Nat.land (s.p e a.toNat) imm.toNat := by
      rw [BitVec.toNat_and, pWord_toNat, BitVec.toNat_setWidth, Nat.mod_eq_of_lt (Nat.lt_of_lt_of_le imm.isLt (by decide))]
      rfl
    exact runs_pSet h rfl rfl rfl (by rw [← hand]; exact Nat.mod_eq_of_lt (BitVec.isLt _))
  · intro e d imm s h
    exact runs_pSet h rfl rfl rfl (Nat.mod_eq_of_lt (BitVec.isLt _))
  · intro e d s h
    exact runs_pSet h rfl rfl rfl rfl
  · intro e d a imm s h x hx heven hin hbad hbad1
    exact runs_ldm h (addr_eq s e a imm) (dataOk_iff.2 ⟨hx, heven, hin⟩) hbad hbad1
  · intro e d a imm s h x hx heven hin hc hc1
    exact runs_stm h (addr_eq s e a imm) (dataOk_iff.2 ⟨hx, heven, hin⟩) hc hc1
  · intro e d a b s h x hx heven hin hc hc1 hbad hbad1 old
    exact runs_aadd h rfl (dataOk_iff.2 ⟨hx, heven, hin⟩) hc hc1 hbad hbad1
  · intro e d a imm i s hi h x hx
    have hbad : s.dataOk e (s.addr e a imm) = false := by rw [addr_eq]; exact dataOk_false hx
    rcases hi with rfl | rfl
    · rw [if_pos rfl]
      exact runs_dataRange h rfl rfl (by simp [State.ldm, hbad, stopDataRange])
    · rw [if_neg (by simp)]
      exact runs_dataRange h rfl rfl (by simp [State.stm, hbad, stopDataRange])

end Sys2Proof.Machine
end

section
/-! PROOFS: O12, a 64-bit read of a register pair that is not naturally aligned for 64 bits (02 R45). -/

namespace Sys2Proof.Machine

-- As for the tests: a thread per kernel evaluation, each with its own stack, would exceed the memory of one compile.
set_option Elab.async false

/-- A hub that has started, whose host holds OBSERVE. -/
def observingHub : State := (({ State.reset with regs := [] }).wr R.SUM_START_STAT 6).wr R.AUTH_HELD_HOST (2 ^ rtObserve)

theorem ready_observingHub : observingHub.ready .host (hubRead R.SUM_CUT_T_LO) R.SUM_CUT_T_LO = true := by
  decide +kernel

/-- SUM_CUT_T_LO lies at 0xDC: a 64-bit access there completes with ALIGN. -/
theorem resp_wideRead_observingHub : ((observingHub.after (.registerRead .host R.SUM_CUT_T_LO 8)).mst .host).resp = ⟨codeAlign, 0⟩ := by
  decide +kernel

theorem resp_pairRead_observingHub :
    (((observingHub.after (.registerRead .host R.SUM_CUT_T_LO 4)).after (.registerRead .host (R.SUM_CUT_T_LO + 4) 4)).mst .host).resp
      = ⟨codeOk, 0⟩ := by
  decide +kernel

/-- Refutes O12: its fourth clause has a 64-bit read of SUM_CUT_T_LO do what the two 32-bit reads do, but its address, 0xDC, is no
multiple of 8. -/
theorem not_accessWidthsAndPairs : ¬ Obligations.AccessWidthsAndPairs := by
  unfold Obligations.AccessWidthsAndPairs
  rintro ⟨-, -, -, hwide, -⟩
  obtain ⟨t, ht, u, hu, hboth⟩ := hwide R.SUM_CUT_T_LO observingHub (by decide) ready_observingHub
  have hpair := resp_pairRead_observingHub
  rw [after_eq_of_exec ht, after_eq_of_exec hu, ← after_eq_of_exec hboth, resp_wideRead_observingHub] at hpair
  exact absurd hpair (by decide)

end Sys2Proof.Machine
end

section
/-! PROOFS: the counting record of Census (09 R291, R303) -/

namespace Sys2Proof.Machine
set_option Elab.async false

/-! #### The sum of the histogram's bins -/

/-- The bins of the histogram added up. -/
def histSum (m : SMap Nat) : Nat := ((List.range 64).map (smGet 0 m)).sum

/-- One key of a map raised by 1 raises the sum over any keys that hold it once. -/
theorem sum_map_smSet_succ (m : SMap Nat) (b : Nat) : ∀ l : List Nat, l.Nodup → b ∈ l →
    (l.map (smGet 0 (smSet 0 m b (smGet 0 m b + 1)))).sum = (l.map (smGet 0 m)).sum + 1
  | [], _, hb => absurd hb List.not_mem_nil
  | x :: l, hl, hb => by
    obtain ⟨hx, hl⟩ := List.nodup_cons.mp hl
    rcases List.mem_cons.mp hb with rfl | hb
    · have hrest : l.map (smGet 0 (smSet 0 m b (smGet 0 m b + 1))) = l.map (smGet 0 m) :=
        List.map_congr_left fun y hy => smGet_smSet_ne m _ fun e => hx (e ▸ hy)
      simp only [List.map_cons, List.sum_cons, smGet_smSet_same, hrest]
      omega
    · have hne : x ≠ b := fun e => hx (e ▸ hb)
      simp only [List.map_cons, List.sum_cons, smGet_smSet_ne m _ hne, sum_map_smSet_succ m b l hl hb]
      omega

theorem histBin_lt (x : Dy) (hbase : Int) : histBin x hbase < 64 := by
  unfold histBin
  omega

theorem histSum_smSet_histBin (m : SMap Nat) (x : Dy) (hbase : Int) :
    histSum (smSet 0 m (histBin x hbase) (smGet 0 m (histBin x hbase) + 1)) = histSum m + 1 :=
  sum_map_smSet_succ m _ _ List.nodup_range (List.mem_range.mpr (histBin_lt x hbase))

/-! #### What a pass keeps of a tally -/

/-- A tally that accounts for each of `k` elements once. -/
structure Tally.Accounts (t : Tally) (r : Region) (k : Nat) : Prop where
  classes : t.zero + t.subn + t.norm + t.inf + t.nan = t.n
  elements : t.n + t.uc + t.red = k
  sat : t.sat ≤ t.norm
  hist : histSum t.hist = t.subn + t.norm
  int : r.fmt.top = .int → r.fmt.mx = false → t.subn = 0 ∧ t.inf = 0 ∧ t.nan = 0

theorem accounts_init (r : Region) : Tally.init.Accounts r 0 := by
  constructor <;> simp [Tally.init, histSum, smGet]

/-- Neither the close of a block nor the maximum touches a count. -/
theorem accounts_flush {t : Tally} {r : Region} {k b : Nat} (h : t.Accounts r k) : (t.flush b).Accounts r k := by
  obtain ⟨hc, he, hs, hh, hi⟩ := h
  exact ⟨hc, he, hs, hh, hi⟩

/-- What a finite element changes of a tally beside its sums and its maximum: the histogram, where it is counted there. -/
theorem accounts_finite {t : Tally} {r : Region} {k i : Nat} {hbase : Int} {counted : Bool}
    (hc : t.zero + t.subn + t.norm + t.inf + t.nan = t.n) (he : t.n + t.uc + t.red = k) (hs : t.sat ≤ t.norm)
    (hh : histSum t.hist + b2n counted = t.subn + t.norm)
    (hi : r.fmt.top = .int → r.fmt.mx = false → t.subn = 0 ∧ t.inf = 0 ∧ t.nan = 0) :
    (t.finite r hbase i counted).Accounts r k := by
  have htop : (t.top i (r.val i)).zero = t.zero ∧ (t.top i (r.val i)).subn = t.subn ∧ (t.top i (r.val i)).norm = t.norm
      ∧ (t.top i (r.val i)).inf = t.inf ∧ (t.top i (r.val i)).nan = t.nan ∧ (t.top i (r.val i)).n = t.n
      ∧ (t.top i (r.val i)).uc = t.uc ∧ (t.top i (r.val i)).red = t.red ∧ (t.top i (r.val i)).sat = t.sat
      ∧ (t.top i (r.val i)).hist = t.hist := by
    unfold Tally.top
    split <;> simp
  obtain ⟨h1, h2, h3, h4, h5, h6, h7, h8, h9, h10⟩ := htop
  cases counted with
  | false => constructor <;> simp_all [Tally.finite, b2n]
  | true => constructor <;> simp_all [Tally.finite, b2n, histSum_smSet_histBin]

/-- An integer format without a scale has no other class than ZERO and NORMAL. -/
theorem cls_of_int {r : Region} (i : Nat) (ht : r.fmt.top = .int) (hm : r.fmt.mx = false) : r.cls i = .zero ∨ r.cls i = .normal := by
  simp only [Region.cls, Region.scaleNan, hm, Bool.false_and, Bool.false_eq_true, if_false, Fmt.cls, ht]
  split <;> simp

theorem accounts_step {t : Tally} {r : Region} {k : Nat} (hbase : Int) (i : Nat) (h : t.Accounts r k) :
    (Tally.step r hbase t i).Accounts r (k + 1) := by
  have hb : (if i * r.fmt.bits / 32768 = t.blk then t else t.flush (i * r.fmt.bits / 32768)).Accounts r k := by
    split
    · exact h
    · exact accounts_flush h
  unfold Tally.step
  dsimp only
  generalize (if i * r.fmt.bits / 32768 = t.blk then t else t.flush (i * r.fmt.bits / 32768)) = u at hb ⊢
  obtain ⟨hc, he, hs, hh, hi⟩ := hb
  have hint := cls_of_int (r := r) i
  split
  · exact ⟨hc, by dsimp only; omega, hs, hh, hi⟩
  split
  · exact ⟨hc, by dsimp only; omega, hs, hh, hi⟩
  split
  case _ => exact accounts_finite (by dsimp only; omega) (by dsimp only; omega) hs (by simpa [b2n] using hh) hi
  case _ hsub =>
    refine accounts_finite (by dsimp only; omega) (by dsimp only; omega) hs (by simp [b2n, hh]; omega) fun ht hm => ?_
    simp [hsub] at hint
    exact absurd hm (by simp [hint ht])
  case _ => exact accounts_finite (by dsimp only; omega) (by dsimp only; omega) (by dsimp only; split <;> omega) (by simp [b2n, hh]; omega) hi
  case _ hinf => exact ⟨by dsimp only; omega, by dsimp only; omega, hs, hh, fun ht hm => by simp [hinf, ht, hm] at hint⟩
  case _ hnan => exact ⟨by dsimp only; omega, by dsimp only; omega, hs, hh, fun ht hm => by simp [hnan, ht, hm] at hint⟩

theorem accounts_foldl_step (r : Region) (hbase : Int) : ∀ len, ((List.range len).foldl (Tally.step r hbase) Tally.init).Accounts r len
  | 0 => accounts_init r
  | len + 1 => by
    rw [List.range_succ, List.foldl_append]
    exact accounts_step hbase len (accounts_foldl_step r hbase len)

theorem accounts_count (r : Region) (hbase : Int) (len : Nat) : (r.count hbase len).Accounts r len :=
  accounts_flush (accounts_foldl_step r hbase len)

/-- Settles O36: every element adds one to exactly one of the counts, and the histogram's bins follow the SUBNORMAL and NORMAL ones. -/
theorem censusCountsEveryElement : Obligations.CensusCountsEveryElement := by
  unfold Obligations.CensusCountsEveryElement
  intro r hbase len
  obtain ⟨hc, he, hs, hh, hi⟩ := accounts_count r hbase len
  exact ⟨hc, he, hs, hh, hi⟩

end Sys2Proof.Machine
end

section
/-! PROOFS: what a frame leaves out of sight, update by update, and the state that a master's write takes effect in. -/

namespace Sys2Proof.Machine
set_option Elab.async false

/-! #### A frame, part by part -/

/-- Two register files agree but for the registers and the pages listed. -/
def regsAgree (m m' : SMap Word) (r g : List Nat) : Prop :=
  ∀ a, a ∉ r → a / 0x1000 ∉ g → (smGet 0 m' a).toNat = (smGet 0 m a).toNat

section
variable {s t : State} {m : SMap Word} {r g : List Nat} {q : List Part}

@[simp] theorem regsAgree_refl : regsAgree m m r g := fun _ _ _ => rfl

theorem regsAgree.mono {r' g' : List Nat} {m' : SMap Word} (h : regsAgree m m' r' g') (hr : ∀ a ∈ r', a ∈ r ∨ a / 0x1000 ∈ g)
    (hg : g' ⊆ g) : regsAgree m m' r g :=
  fun a ha hp => h a (fun hm => (hr a hm).elim ha hp) fun hm => hp (hg hm)

theorem regsAgree.trans {m' m'' : SMap Word} (h : regsAgree m m' r g) (h' : regsAgree m' m'' r g) : regsAgree m m'' r g :=
  fun a ha hp => (h' a ha hp).trans (h a ha hp)

/-- A write of a register that is listed is out of sight. -/
@[simp] theorem regsAgree_wr (a n : Nat) (ha : a ∈ r ∨ a / 0x1000 ∈ g) : regsAgree m (t.wr a n).regs r g ↔ regsAgree m t.regs r g := by
  have hout (b : Nat) (hb : b ∉ r) (hp : b / 0x1000 ∉ g) : smGet 0 (t.wr a n).regs b = smGet 0 t.regs b :=
    smGet_smSet_ne _ _ fun e => ha.elim (e ▸ hb) (e ▸ hp)
  exact ⟨fun h b hb hp => by rw [← hout b hb hp]; exact h b hb hp, fun h b hb hp => by rw [hout b hb hp]; exact h b hb hp⟩

@[simp] theorem regsAgree_setF (f : Fld) (n : Nat) (hf : f.addr ∈ r ∨ f.addr / 0x1000 ∈ g) :
    regsAgree m (t.setF f n).regs r g ↔ regsAgree m t.regs r g := by
  have hout (b : Nat) (hb : b ∉ r) (hp : b / 0x1000 ∉ g) : smGet 0 (t.setF f n).regs b = smGet 0 t.regs b :=
    smGet_smSet_ne _ _ fun e => hf.elim (e ▸ hb) (e ▸ hp)
  exact ⟨fun h b hb hp => by rw [← hout b hb hp]; exact h b hb hp, fun h b hb hp => by rw [hout b hb hp]; exact h b hb hp⟩

@[simp] theorem regsAgree_bump (a : Nat) (ha : a ∈ r ∨ a / 0x1000 ∈ g) : regsAgree m (t.bump a).regs r g ↔ regsAgree m t.regs r g :=
  regsAgree_wr a _ ha

@[simp] theorem regsAgree_satAdd (f : Fld) (n : Nat) (hf : f.addr ∈ r ∨ f.addr / 0x1000 ∈ g) :
    regsAgree m (t.satAdd f n).regs r g ↔ regsAgree m t.regs r g := regsAgree_setF f _ hf

@[simp] theorem regsAgree_wrapAdd (f : Fld) (n : Nat) (hf : f.addr ∈ r ∨ f.addr / 0x1000 ∈ g) :
    regsAgree m (t.wrapAdd f n).regs r g ↔ regsAgree m t.regs r g := regsAgree_setF f _ hf

@[simp] theorem regsAgree_satAddR (a n : Nat) (ha : a ∈ r ∨ a / 0x1000 ∈ g) : regsAgree m (t.satAddR a n).regs r g ↔ regsAgree m t.regs r g :=
  regsAgree_wr a _ ha

@[simp] theorem regsAgree_wr64 (a n : Nat) (ha : a ∈ r ∨ a / 0x1000 ∈ g) (ha4 : a + 4 ∈ r ∨ (a + 4) / 0x1000 ∈ g) :
    regsAgree m (t.wr64 a n).regs r g ↔ regsAgree m t.regs r g :=
  (regsAgree_wr (a + 4) _ ha4).trans (regsAgree_wr a _ ha)

@[simp] theorem regsAgree_raise (n : EvName) (src : Nat) (d : List EvVal) (sec : Bool)
    (ha : evPage src n * 0x1000 + 0x24 ∈ r ∨ (evPage src n * 0x1000 + 0x24) / 0x1000 ∈ g) :
    regsAgree m (t.raise n src d sec).regs r g ↔ regsAgree m t.regs r g := regsAgree_wr _ _ ha

/-- Every part of a list is the same but those listed. -/
theorem forall_part {p : Part → Prop} : (∀ x, p x) ↔ p .free ∧ p .intq ∧ p .access ∧ p .tree ∧ p .rdg ∧ p .cut ∧ p .stp ∧ p .cou ∧ p .flt
    ∧ p .wch ∧ p .cen ∧ p .prb ∧ p .crs ∧ p .scr ∧ p .tal ∧ p .auth ∧ p .pass ∧ p .rst ∧ p .cairns ∧ p .retain ∧ p .mem ∧ p .otp
    ∧ p .mram := by
  constructor
  · intro h
    simp only [h, and_self]
  · rintro ⟨h1, h2, h3, h4, h5, h6, h7, h8, h9, h10, h11, h12, h13, h14, h15, h16, h17, h18, h19, h20, h21, h22, h23⟩ x
    cases x <;> assumption

/-- A frame is about the commands that wait, the registers and each part that is not listed. -/
theorem frame_iff : s.frame t r g q ↔ t.pending = s.pending ∧ regsAgree s.regs t.regs r g ∧ ∀ p, p ∉ q → p.same s t := Iff.rfl

@[simp] theorem sum_raise (n : EvName) (src : Nat) (d : List EvVal) (sec : Bool) : (s.raise n src d sec).sum
    = { s.sum with intq := s.sum.intq ++ [{ name := n, src := src, stamp := s.now, data := d, sec := sec }] } := rfl

/-! A state written out field by field: what is read of its registers. -/

variable {pending : List Instr} {free : Nat} {regs : SMap Word} {sum : SumSt} {rdg : RdgSt} {cut : CutSt} {stp : StepSt} {cou : CouSt}
  {flt : FltSt} {wch : WchSt} {cen : CenSt} {prb : PrbSt} {crs : CrsSt} {scr : ScrSt} {tal : TalSt} {auth : AuthSt} {pass : PassSt}
  {rst : RstSt} {cairns : SMap Cairn} {retain : SMap Retain} {mem : SMap Byte} {gran : Nat} {doms : SMap (Option (Nat × Nat))} {uid : Nat}
  {otp : OtpSt} {mram : SMap (Option TalImg)}

@[simp] theorem f_mk (f : Fld) : State.f ⟨pending, free, regs, sum, rdg, cut, stp, cou, flt, wch, cen, prb, crs, scr, tal, auth, pass, rst,
    cairns, retain, mem, gran, doms, uid, otp, mram⟩ f = f.get (smGet 0#32 regs f.addr) := rfl

@[simp] theorem rd_mk (a : Nat) : State.rd ⟨pending, free, regs, sum, rdg, cut, stp, cou, flt, wch, cen, prb, crs, scr, tal, auth, pass, rst,
    cairns, retain, mem, gran, doms, uid, otp, mram⟩ a = (smGet 0#32 regs a).toNat := rfl

@[simp] theorem cairn_mk (i : Nat) : State.cairn ⟨pending, free, regs, sum, rdg, cut, stp, cou, flt, wch, cen, prb, crs, scr, tal, auth, pass,
    rst, cairns, retain, mem, gran, doms, uid, otp, mram⟩ i = smGet Cairn.off cairns i := rfl

@[simp] theorem get_regs (s : State) (f : Fld) : f.get (smGet 0#32 s.regs f.addr) = s.f f := rfl

@[simp] theorem toNat_regs (s : State) (a : Nat) : (smGet 0#32 s.regs a).toNat = s.rd a := rfl

@[simp] theorem smGet_cairns (s : State) (i : Nat) : smGet Cairn.off s.cairns i = s.cairn i := rfl

end

/-! #### Bits of a number -/

theorem bit_setBit (n i j : Nat) : bit (setBit n i) j = (decide (j = i) || bit n j) := by
  have hadd (h : bit n i = false) : bit (n + 2 ^ i) j = (decide (j = i) || bit n j) := by
    simp only [bit, beq_eq_false_iff_ne, ne_eq] at h ⊢
    rcases Nat.lt_trichotomy j i with hji | rfl | hij
    · obtain ⟨k, rfl⟩ : ∃ k, i = j + 1 + k := ⟨i - (j + 1), by omega⟩
      have hdiv : (n + 2 ^ (j + 1 + k)) / 2 ^ j = n / 2 ^ j + 2 * 2 ^ k := by
        rw [show 2 ^ (j + 1 + k) = 2 ^ j * (2 * 2 ^ k) by ring, Nat.add_mul_div_left _ _ (by positivity)]
      have hne : ¬j = j + 1 + k := by omega
      simp [hdiv, hne]
    · rw [Nat.add_div_right n (by positivity)]
      have hone : (n / 2 ^ j + 1) % 2 = 1 := by omega
      simp [hone]
    · obtain ⟨k, rfl⟩ : ∃ k, j = i + 1 + k := ⟨j - (i + 1), by omega⟩
      have hdiv : (n + 2 ^ i) / 2 ^ (i + 1 + k) = n / 2 ^ (i + 1 + k) := by
        rw [show 2 ^ (i + 1 + k) = 2 ^ i * (2 * 2 ^ k) by ring, ← Nat.div_div_eq_div_mul, ← Nat.div_div_eq_div_mul,
          Nat.add_div_right n (by positivity), ← Nat.div_div_eq_div_mul, ← Nat.div_div_eq_div_mul]
        congr 1
        omega
      have hne : ¬i + 1 + k = i := by omega
      simp [hdiv, hne]
  unfold setBit
  split
  next h =>
    by_cases hj : j = i
    · simp [hj, h]
    · simp [hj]
  next h => exact hadd (by simpa using h)

theorem bit_eq_testBit (n i : Nat) : bit n i = n.testBit i := by
  rw [bit, Nat.testBit_eq_decide_div_mod_eq]
  rfl

theorem bit_mod_two_pow {n i w : Nat} (hi : i < w) : bit (n % 2 ^ w) i = bit n i := by
  simp [bit_eq_testBit, Nat.testBit_mod_two_pow, hi]

/-- The flag of a fault stands in its page's PG_FLT_FLAGS (02 R53). -/
theorem bit_pageFault (m : SMap Word) {o b cls : Nat} (hb : b < 32) : bit (smGet 0 (pageFault m o b cls) (o + 0x14)).toNat b = true := by
  have hflags (n : Nat) (h : bit n b = true) : bit (BitVec.ofNat 32 n).toNat b = true := by
    rw [BitVec.toNat_ofNat, bit_mod_two_pow hb, h]
  unfold pageFault
  dsimp only
  split
  · rw [smGet_smSet_same]
    exact hflags _ (by simp [bit_setBit])
  · rw [smGet_smSet_ne _ _ (by omega), smGet_smSet_same]
    exact hflags _ (by simp [bit_setBit])

theorem regsAgree_pageFault (m : SMap Word) (o b cls : Nat) : regsAgree m (pageFault m o b cls) [o + 0x10, o + 0x14] [] := by
  intro a ha _
  simp only [List.mem_cons, List.not_mem_nil, or_false, not_or] at ha
  unfold pageFault
  dsimp only
  split
  · rw [smGet_smSet_ne _ _ ha.2]
  · rw [smGet_smSet_ne _ _ ha.1, smGet_smSet_ne _ _ ha.2]

/-- A fault of a hub page other than SUM stands in the page's registers and, unless it is masked, waits for its number (02 R53). -/
theorem frame_hubFault (s : State) {page : Nat} (b rflags causeSeq detail detail2 : Nat) (hp : page ≠ 0) :
    s.frame (s.hubFault page b rflags causeSeq detail detail2) [page * 0x1000 + 0x10, page * 0x1000 + 0x14] [] [.intq] := by
  have hregs : s.frame { s with regs := pageFault s.regs (page * 0x1000) b (hubFlt page b) }
      [page * 0x1000 + 0x10, page * 0x1000 + 0x14] [] [.intq] :=
    ⟨rfl, regsAgree_pageFault s.regs _ b _, fun p _ => by cases p <;> simp [Part.same]⟩
  unfold State.hubFault
  dsimp only
  split
  · exact State.frame.refl _ _ _ _
  split
  · exact hregs
  · simp only [hp, if_false]
    exact hregs.trans ⟨rfl, fun _ _ _ => rfl, fun p hp => by cases p <;> simp_all [Part.same]⟩

/-! #### Frames of what happens at a Cairn and in the tree -/

theorem frame_setCairn (s : State) (id : Nat) (c : Cairn) : s.frame (s.setCairn id c) [] [] [.cairns] :=
  ⟨rfl, fun _ _ _ => rfl, fun p hp => by cases p <;> simp_all [Part.same, State.setCairn]⟩

theorem frame_modC (s : State) (id : Nat) (k : Cairn → Cairn) : s.frame (s.modC id k) [] [] [.cairns] := frame_setCairn s id _

theorem frame_tree (s : State) (fifo0 fifo1 wait0 wait1 : List Ev) (in0 in1 : Nat × Nat) (pend0 pend1 : List Nat) :
    s.frame { s with
      sum := { s.sum with
        fifo0 := fifo0, fifo1 := fifo1, wait0 := wait0, wait1 := wait1, in0 := in0, in1 := in1, mirPend0 := pend0, mirPend1 := pend1 } }
      [] [] [.tree] :=
  ⟨rfl, fun _ _ _ => rfl, fun p hp => by cases p <;> simp_all [Part.same]⟩

theorem frame_fifoPut (s : State) (p : Nat) (e : Ev) : s.frame (s.fifoPut p e) [] [] [.tree] := by
  unfold State.fifoPut
  dsimp only
  split
  · exact frame_tree s _ s.sum.fifo1 s.sum.wait0 s.sum.wait1 _ s.sum.in1 s.sum.mirPend0 s.sum.mirPend1
  · exact frame_tree s s.sum.fifo0 _ s.sum.wait0 s.sum.wait1 s.sum.in0 _ s.sum.mirPend0 s.sum.mirPend1

theorem frame_spurPut (s : State) (p : Nat) (e : Ev) : s.frame (s.spurPut p e) [] [] [.tree] := by
  unfold State.spurPut
  split
  · exact frame_fifoPut s p e
  split
  · exact frame_tree s s.sum.fifo0 s.sum.fifo1 _ s.sum.wait1 s.sum.in0 s.sum.in1 s.sum.mirPend0 s.sum.mirPend1
  · exact frame_tree s s.sum.fifo0 s.sum.fifo1 s.sum.wait0 _ s.sum.in0 s.sum.in1 s.sum.mirPend0 s.sum.mirPend1

/-- A Cairn's entry changes: the other Spur's mirror of it falls behind (01 R20). -/
theorem frame_touch (s : State) (id : Nat) : s.frame (s.touch id) mirrorRegs [] [.tree] := by
  unfold State.touch
  split
  · exact State.frame.refl _ _ _ _
  split
  · exact ((State.frame.refl s _ _ _).andThen (frame_tree s s.sum.fifo0 s.sum.fifo1 s.sum.wait0 s.sum.wait1 s.sum.in0 s.sum.in1 _
      s.sum.mirPend1)).andThen (frame_setF _ (F.SPR_STAT_MIRROR_OK 1) 0)
  · exact ((State.frame.refl s _ _ _).andThen (frame_tree s s.sum.fifo0 s.sum.fifo1 s.sum.wait0 s.sum.wait1 s.sum.in0 s.sum.in1
      s.sum.mirPend0 _)).andThen (frame_setF _ (F.SPR_STAT_MIRROR_OK 0) 0)

theorem frame_raiseC (s : State) (id : Nat) (n : EvName) (stamp : Nat) (d : List EvVal) (sec : Bool) :
    s.frame (s.raiseC id n stamp d sec) mirrorRegs [] [.tree, .cairns] :=
  ((State.frame.refl s _ _ _).andThen (frame_modC s id _) (by simp)).andThen (frame_touch _ id)

theorem frame_raiseSpur (s : State) (id : Nat) (n : EvName) (d : List EvVal) (t : Nat) :
    s.frame (s.raiseSpur id n d t) [] [] [.tree, .cairns] := by
  have hset : s.frame (if s.dormant id then s else s.modC id fun c => c.bump pgEvtCnt) [] [] [.tree, .cairns] := by
    split
    · exact State.frame.refl _ _ _ _
    · exact (State.frame.refl s _ _ _).andThen (frame_modC _ _ _) (by simp)
  exact hset.andThen (frame_spurPut _ _ _) (by simp)

theorem frame_spurFault (s : State) (id b : Nat) : s.frame (s.spurFault id b) [] [] [.tree, .cairns] := by
  have hset : s.frame (if (s.cairn id).powered then
      s.setCairn id { s.cairn id with regs := pageFault (s.cairn id).regs 0 b (cairnFlt (kindOf id) b).1 } else s) [] [] [.tree, .cairns] := by
    split
    · exact (State.frame.refl s _ _ _).andThen (frame_setCairn _ _ _) (by simp)
    · exact State.frame.refl _ _ _ _
  unfold State.spurFault
  dsimp only
  split
  · exact hset
  · exact hset.andThen (frame_spurPut _ _ _) (by simp)

theorem cairn_of_frame {s t : State} {r g : List Nat} {q : List Part} (h : s.frame t r g q) (hq : .cairns ∉ q := by decide) (j : Nat) :
    t.cairn j = s.cairn j := cairn_of_cairns (part_same_of_frame h .cairns hq) j

theorem cairn_spurFault_ne (s : State) {id j : Nat} (b : Nat) (h : j ≠ id) : (s.spurFault id b).cairn j = s.cairn j := by
  unfold State.spurFault
  dsimp only
  split
  · split
    · exact cairn_setCairn_ne _ _ h
    · rfl
  · rw [cairn_of_frame (frame_spurPut _ _ _)]
    split
    · exact cairn_setCairn_ne _ _ h
    · rfl

theorem cairn_spurFault_same (s : State) {id : Nat} (b : Nat) (h : (s.cairn id).powered = true) :
    (s.spurFault id b).cairn id = { s.cairn id with regs := pageFault (s.cairn id).regs 0 b (cairnFlt (kindOf id) b).1 } := by
  unfold State.spurFault
  simp only [h, if_true]
  split
  · exact cairn_setCairn_same _ _ _
  · rw [cairn_of_frame (frame_spurPut _ _ _), cairn_setCairn_same]

/-- A Cairn that has raised an event: its queue takes it, or counts it as dropped (01 R18; 02 R56). -/
def Cairn.raised (c : Cairn) (id : Nat) (n : EvName) (stamp : Nat) (d : List EvVal) (sec : Bool) : Cairn :=
  if (c.bump pgEvtCnt).queue.length < evQueueLen then
    (c.bump pgEvtCnt).enqueue { name := n, src := id, stamp := stamp, data := d, sec := sec }
  else { c.bump pgEvtCnt with dropped := (c.bump pgEvtCnt).dropped + 1 }

theorem cairn_raiseC_same (s : State) (id : Nat) (n : EvName) (stamp : Nat) (d : List EvVal) (sec : Bool) :
    (s.raiseC id n stamp d sec).cairn id = (s.cairn id).raised id n stamp d sec := by
  unfold State.raiseC
  rw [cairn_of_frame (frame_touch _ _), cairn_modC_same]
  rfl

theorem cairn_raiseC_ne (s : State) {id j : Nat} (n : EvName) (stamp : Nat) (d : List EvVal) (sec : Bool) (h : j ≠ id) :
    (s.raiseC id n stamp d sec).cairn j = s.cairn j := by
  unfold State.raiseC
  rw [cairn_of_frame (frame_touch _ _), cairn_modC_ne _ _ h]

section
variable (c : Cairn) (id : Nat) (n : EvName) (stamp : Nat) (d : List EvVal) (sec : Bool)

/-- Beside its queue and its counts a Cairn that raises an event keeps what it holds. -/
theorem raised_eq : ∃ queue tag dropped, c.raised id n stamp d sec
    = { c.bump pgEvtCnt with queue := queue, nextTag := tag, dropped := dropped } := by
  unfold Cairn.raised
  split
  · exact ⟨_, _, c.dropped, rfl⟩
  · exact ⟨c.queue, c.nextTag, _, rfl⟩

@[simp] theorem raised_rxMsgs : (c.raised id n stamp d sec).rxMsgs = c.rxMsgs := by
  obtain ⟨q, t, k, h⟩ := raised_eq c id n stamp d sec
  rw [h]; rfl

@[simp] theorem raised_acts : (c.raised id n stamp d sec).acts = c.acts := by
  obtain ⟨q, t, k, h⟩ := raised_eq c id n stamp d sec
  rw [h]; rfl

@[simp] theorem raised_due : (c.raised id n stamp d sec).due = c.due := by
  obtain ⟨q, t, k, h⟩ := raised_eq c id n stamp d sec
  rw [h]; rfl

theorem raised_f (f : Fld) (hf : f.addr ≠ pgEvtCnt) : (c.raised id n stamp d sec).f f = c.f f := by
  obtain ⟨q, t, k, h⟩ := raised_eq c id n stamp d sec
  rw [h]
  exact Cairn.f_wr_ne c pgEvtCnt _ f hf

theorem raised_rd (a : Nat) (ha : a ≠ pgEvtCnt) : (c.raised id n stamp d sec).rd a = c.rd a := by
  obtain ⟨q, t, k, h⟩ := raised_eq c id n stamp d sec
  rw [h]
  exact (Cairn.rd_wr c pgEvtCnt a _).trans (if_neg ha)

theorem raised_queue (h : c.queue.length < evQueueLen) : (c.raised id n stamp d sec).queue = c.queue
    ++ [⟨{ name := n, src := id, stamp := stamp, data := d, sec := sec || (c.bump pgEvtCnt).f CF.U_OWNER_SEC == 1, tag := c.nextTag },
      false, false⟩] := by
  have h' : (c.bump pgEvtCnt).queue.length < evQueueLen := h
  rw [Cairn.raised, if_pos h']
  rfl

end

/-! #### Where an access of a master has won arbitration -/

/-- The state with the masters' own parts, the lease and the arbiter's turn replaced. -/
def State.arbitrated (s : State) (x y : MstSt) (l : Nat) (w : Master) (n : Nat) : State :=
  { s with sum := { s.sum with passM := x, hostM := y, lastPass := l, rrTurn := w, rrUsed := n } }

section
variable (s : State) (x y : MstSt) (l : Nat) (w : Master) (n : Nat)

@[simp] theorem pending_arbitrated : (s.arbitrated x y l w n).pending = s.pending := rfl
@[simp] theorem free_arbitrated : (s.arbitrated x y l w n).free = s.free := rfl
@[simp] theorem regs_arbitrated : (s.arbitrated x y l w n).regs = s.regs := rfl
@[simp] theorem rdg_arbitrated : (s.arbitrated x y l w n).rdg = s.rdg := rfl
@[simp] theorem cut_arbitrated : (s.arbitrated x y l w n).cut = s.cut := rfl
@[simp] theorem stp_arbitrated : (s.arbitrated x y l w n).stp = s.stp := rfl
@[simp] theorem cou_arbitrated : (s.arbitrated x y l w n).cou = s.cou := rfl
@[simp] theorem flt_arbitrated : (s.arbitrated x y l w n).flt = s.flt := rfl
@[simp] theorem wch_arbitrated : (s.arbitrated x y l w n).wch = s.wch := rfl
@[simp] theorem cen_arbitrated : (s.arbitrated x y l w n).cen = s.cen := rfl
@[simp] theorem prb_arbitrated : (s.arbitrated x y l w n).prb = s.prb := rfl
@[simp] theorem crs_arbitrated : (s.arbitrated x y l w n).crs = s.crs := rfl
@[simp] theorem scr_arbitrated : (s.arbitrated x y l w n).scr = s.scr := rfl
@[simp] theorem tal_arbitrated : (s.arbitrated x y l w n).tal = s.tal := rfl
@[simp] theorem auth_arbitrated : (s.arbitrated x y l w n).auth = s.auth := rfl
@[simp] theorem pass_arbitrated : (s.arbitrated x y l w n).pass = s.pass := rfl
@[simp] theorem rst_arbitrated : (s.arbitrated x y l w n).rst = s.rst := rfl
@[simp] theorem cairns_arbitrated : (s.arbitrated x y l w n).cairns = s.cairns := rfl
@[simp] theorem retain_arbitrated : (s.arbitrated x y l w n).retain = s.retain := rfl
@[simp] theorem mem_arbitrated : (s.arbitrated x y l w n).mem = s.mem := rfl
@[simp] theorem gran_arbitrated : (s.arbitrated x y l w n).gran = s.gran := rfl
@[simp] theorem doms_arbitrated : (s.arbitrated x y l w n).doms = s.doms := rfl
@[simp] theorem uid_arbitrated : (s.arbitrated x y l w n).uid = s.uid := rfl
@[simp] theorem otp_arbitrated : (s.arbitrated x y l w n).otp = s.otp := rfl
@[simp] theorem mram_arbitrated : (s.arbitrated x y l w n).mram = s.mram := rfl
@[simp] theorem intq_arbitrated : (s.arbitrated x y l w n).sum.intq = s.sum.intq := rfl
@[simp] theorem fifo0_arbitrated : (s.arbitrated x y l w n).sum.fifo0 = s.sum.fifo0 := rfl
@[simp] theorem fifo1_arbitrated : (s.arbitrated x y l w n).sum.fifo1 = s.sum.fifo1 := rfl
@[simp] theorem wait0_arbitrated : (s.arbitrated x y l w n).sum.wait0 = s.sum.wait0 := rfl
@[simp] theorem wait1_arbitrated : (s.arbitrated x y l w n).sum.wait1 = s.sum.wait1 := rfl
@[simp] theorem in0_arbitrated : (s.arbitrated x y l w n).sum.in0 = s.sum.in0 := rfl
@[simp] theorem in1_arbitrated : (s.arbitrated x y l w n).sum.in1 = s.sum.in1 := rfl
@[simp] theorem msgNo_arbitrated : (s.arbitrated x y l w n).sum.msgNo = s.sum.msgNo := rfl
@[simp] theorem msgs_arbitrated : (s.arbitrated x y l w n).sum.msgs = s.sum.msgs := rfl
@[simp] theorem sched_arbitrated : (s.arbitrated x y l w n).sum.sched = s.sum.sched := rfl
@[simp] theorem live0_arbitrated : (s.arbitrated x y l w n).sum.live0 = s.sum.live0 := rfl
@[simp] theorem live1_arbitrated : (s.arbitrated x y l w n).sum.live1 = s.sum.live1 := rfl
@[simp] theorem takeover_arbitrated : (s.arbitrated x y l w n).sum.takeover = s.sum.takeover := rfl
@[simp] theorem lostT_arbitrated : (s.arbitrated x y l w n).sum.lostT = s.sum.lostT := rfl
@[simp] theorem lostNum_arbitrated : (s.arbitrated x y l w n).sum.lostNum = s.sum.lostNum := rfl
@[simp] theorem mirror_arbitrated : (s.arbitrated x y l w n).sum.mirror = s.sum.mirror := rfl
@[simp] theorem mirPend0_arbitrated : (s.arbitrated x y l w n).sum.mirPend0 = s.sum.mirPend0 := rfl
@[simp] theorem mirPend1_arbitrated : (s.arbitrated x y l w n).sum.mirPend1 = s.sum.mirPend1 := rfl
@[simp] theorem aps_arbitrated : (s.arbitrated x y l w n).sum.aps = s.sum.aps := rfl
@[simp] theorem held_arbitrated : (s.arbitrated x y l w n).sum.held = s.sum.held := rfl
@[simp] theorem arrNo_arbitrated : (s.arbitrated x y l w n).sum.arrNo = s.sum.arrNo := rfl
@[simp] theorem now_arbitrated : (s.arbitrated x y l w n).now = s.now := rfl
@[simp] theorem clk_arbitrated : (s.arbitrated x y l w n).clk = s.clk := rfl
@[simp] theorem excl_arbitrated : (s.arbitrated x y l w n).excl = s.excl := rfl
@[simp] theorem softPending_arbitrated : (s.arbitrated x y l w n).softPending = s.softPending := rfl
@[simp] theorem started_arbitrated : (s.arbitrated x y l w n).started = s.started := rfl
@[simp] theorem lcs_arbitrated : (s.arbitrated x y l w n).lcs = s.lcs := rfl
@[simp] theorem sess_arbitrated : (s.arbitrated x y l w n).sess = s.sess := rfl
@[simp] theorem isLead_arbitrated : (s.arbitrated x y l w n).isLead = s.isLead := rfl
@[simp] theorem rd_arbitrated (a : Nat) : (s.arbitrated x y l w n).rd a = s.rd a := rfl
@[simp] theorem rd64_arbitrated (a : Nat) : (s.arbitrated x y l w n).rd64 a = s.rd64 a := rfl
@[simp] theorem f_arbitrated (f : Fld) : (s.arbitrated x y l w n).f f = s.f f := rfl
@[simp] theorem cairn_arbitrated (i : Nat) : (s.arbitrated x y l w n).cairn i = s.cairn i := rfl

end

theorem setMst_eq_arbitrated (s : State) (m : Master) (z : MstSt) : ∃ x y l w n, s.setMst m z = s.arbitrated x y l w n := by
  cases m
  · exact ⟨z, s.sum.hostM, s.sum.lastPass, s.sum.rrTurn, s.sum.rrUsed, rfl⟩
  · exact ⟨s.sum.passM, z, s.sum.lastPass, s.sum.rrTurn, s.sum.rrUsed, rfl⟩

theorem granted_eq_arbitrated (s : State) (m : Master) : ∃ x y l w n, s.granted m = s.arbitrated x y l w n := by
  have hturn : ∃ w n, s.arbTurn m = s.arbitrated s.sum.passM s.sum.hostM s.sum.lastPass w n := by
    unfold State.arbTurn
    split
    · exact ⟨s.sum.rrTurn, s.sum.rrUsed + 1, rfl⟩
    · exact ⟨m, 1, rfl⟩
  obtain ⟨w, n, hturn⟩ := hturn
  unfold State.granted State.atTurn
  rw [hturn]
  cases m
  · exact ⟨_, s.sum.hostM, s.clk, w, n, rfl⟩
  · exact ⟨s.sum.passM, _, s.sum.lastPass, w, n, rfl⟩

/-- A happening that leaves the commands and the supply alone answers the state it makes. -/
theorem keeping_eq {s t : State} (hp : t.pending = s.pending) (hr : t.rst.on = s.rst.on) : s.keeping t = t := by
  simp only [State.keeping, ← hp, ← hr]

/-- A happening at a powered hub answers the state it makes. -/
theorem runs_hub {c : Instr} {s : State} {P : State → Prop} (k : State → State) (hc : exec c s = onHub s k) (hon : s.rst.on = true)
    (hr : (k s).rst.on = s.rst.on) (hp : (k s).pending = s.pending) (hP : P (k s)) : runs c s P :=
  ⟨k s, by rw [hc, onHub, if_pos hon, keeping_eq hp hr], hP⟩

/-- A happening at a unit that is powered. -/
theorem runs_atUnit {c : Instr} {id : Nat} {s : State} {P : State → Prop} (k : State → State) (hc : exec c s = atUnit id s k)
    (hon : s.rst.on = true) (hid : kindOf id ≠ 0) (hpow : (s.cairn id).powered = true) (hr : (k s).rst.on = s.rst.on)
    (hp : (k s).pending = s.pending) (hP : P (k s)) : runs c s P := by
  refine ⟨k s, ?_, hP⟩
  have hd : s.dormant id = false := by simp [State.dormant, hpow]
  rw [hc, atUnit, atCairn, withCairn, if_neg hid, onHub, if_pos hon, hd, if_neg Bool.false_ne_true, keeping_eq hp hr]

/-- A command of a Spur that is powered. -/
theorem runs_atSpur {c : Instr} {p : Nat} {s : State} {P : State → Prop} (k : State → State) (hc : exec c s = atSpur p s k)
    (hon : s.rst.on = true) (hp : p < 2) (hs : s.spur p ≠ 2) (hr : (k s).rst.on = s.rst.on) (hpend : (k s).pending = s.pending)
    (hP : P (k s)) : runs c s P := by
  refine ⟨k s, ?_, hP⟩
  rw [hc, atSpur, withSpur, if_pos hp, onHub, if_pos hon, if_neg hs, keeping_eq hpend hr]

/-- A master's write that takes effect at once: the effect `k` of its register, in a state that differs from the hub's in what the
masters' accesses leave, and so does the state it ends in. -/
theorem runs_write_of_eq {c : Instr} {m : Master} {a : Nat} {v : Word} {s : State} {P : State → Prop} (k : State → State)
    (hc : exec c s = writeRow m a v s) (hon : s.rst.on = true)
    (hw : s.masterWrite m a v.toNat = ((s.granted m).regWrite (.mst m) a v.toNat).complete m a codeOk 0)
    (hk : ∀ u : State, u.regWrite (.mst m) a v.toNat = k u)
    (hP : ∀ x y l w n x' y' l' w' n', (k (s.arbitrated x y l w n)).rst.on = s.rst.on ∧ (k (s.arbitrated x y l w n)).pending = s.pending
      ∧ P ((k (s.arbitrated x y l w n)).arbitrated x' y' l' w' n')) : runs c s P := by
  obtain ⟨x, y, l, w, n, hu⟩ := granted_eq_arbitrated s m
  obtain ⟨x', y', l', w', n', ht⟩ :=
    setMst_eq_arbitrated (k (s.arbitrated x y l w n)) m { (k (s.arbitrated x y l w n)).mst m with resp := ⟨codeOk, 0⟩ }
  have heq : s.masterWrite m a v.toNat = (k (s.arbitrated x y l w n)).arbitrated x' y' l' w' n' := by
    rw [hw, hk, hu, State.complete, if_pos rfl, ht]
  obtain ⟨hrst, hpend, hP⟩ := hP x y l w n x' y' l' w' n'
  refine ⟨(k (s.arbitrated x y l w n)).arbitrated x' y' l' w' n', ?_, hP⟩
  rw [hc, writeRow, onHub, if_pos hon, heq,
    keeping_eq ((pending_arbitrated _ _ _ _ _ _).trans hpend) ((congrArg (·.on) (rst_arbitrated _ _ _ _ _ _)).trans hrst)]

/-- An address that a 32-bit write can reach on its own: aligned, in the hub, no aperture, on a page that is there, no half of a pair. -/
def plainAddr (a : Nat) : Bool := decide (a % 4 = 0) && decide (a < 2 ^ 20) && !apAddr a && pageThere (a / 0x1000) && !hubLo a

/-- A 32-bit write that wins arbitration at once and passes the checks takes effect and completes (02 R46 to R48). -/
theorem masterWrite_of_hubCode {s : State} {m : Master} {a v : Nat} (ha : plainAddr a = true) (hv : v < 2 ^ 32) (hrst : s.inReset = false)
    (hng : s.nextGrant = none) (haps : s.apsOf m = []) (hheld : s.sum.held.any (fun y => y.master == m) = false)
    (hlo : ∀ h, (s.mst m).heldLo = some h → h.1 + 4 ≠ a) (hcode : (s.atTurn m).hubCode (.mst m) a true v = codeOk) :
    s.masterWrite m a v = ((s.granted m).regWrite (.mst m) a v).complete m a codeOk 0 := by
  simp only [plainAddr, Bool.and_eq_true, decide_eq_true_eq, Bool.not_eq_true'] at ha
  obtain ⟨⟨⟨⟨ha4, ha⟩, hap⟩, -⟩, hlow⟩ := ha
  have hmst : (s.atTurn m).mst m = s.mst m := by cases m <;> simp [State.mst]
  rw [State.masterWrite, masterAccess_hub s m a v true ha ha4 hap hng haps hheld, Nat.mod_eq_of_lt hv]
  simp only [State.hubGrant, atTurn_inReset, hrst, hcode, Bool.false_eq_true, if_false, if_true, State.hubDo, hlow, Bool.false_and,
    State.holding, hmst]
  cases hh : (s.mst m).heldLo with
  | none => rfl
  | some h =>
    simp only [if_neg (hlo h hh)]
    rfl

theorem on_of_ready {s : State} {m : Master} {r : Option Nat} {a : Nat} (h : s.ready m r a = true) : s.rst.on = true := by
  simp only [State.ready, Bool.and_eq_true] at h
  exact h.1.1.1.1.1.1.1

/-- A master's write that nothing holds up (02 R46 to R48). -/
theorem runs_write {c : Instr} {m : Master} {a : Nat} {v : Word} {r : Option Nat} {s : State} {P : State → Prop} (k : State → State)
    (hc : exec c s = writeRow m a v s) (h : s.ready m r a = true) (hk : ∀ u : State, u.regWrite (.mst m) a v.toNat = k u)
    (hr : hubWrite (.mst m) a = r) (hd : deniedWrite (.mst m) a v.toNat = false) (ha : plainAddr a = true)
    (hP : ∀ x y l w n x' y' l' w' n', (k (s.arbitrated x y l w n)).rst.on = s.rst.on ∧ (k (s.arbitrated x y l w n)).pending = s.pending
      ∧ P ((k (s.arbitrated x y l w n)).arbitrated x' y' l' w' n')) : runs c s P := by
  simp only [plainAddr, Bool.and_eq_true, decide_eq_true_eq, Bool.not_eq_true'] at ha
  obtain ⟨⟨⟨⟨ha4, ha⟩, hap⟩, hp⟩, hlo⟩ := ha
  exact runs_write_of_eq k hc (on_of_ready h) (masterWrite_ready s m r a _ h ha4 ha hap hp hd hr hlo v.isLt) hk hP

end Sys2Proof.Machine
end

section
/-! PROOFS: O15, the exclusive session (02 R72 to R75). -/

namespace Sys2Proof.Machine
set_option Elab.async false

theorem excl_eq_true_iff (s : State) : s.excl = true ↔ s.f F.SUM_EXCL_EXCL = 1 := by
  simp [State.excl]

/-- A Pass write with ACQUIRE starts the session or renews it (02 R72). -/
theorem runs_exclAcquire (v : Word) (s : State) (h : s.ready .pass (some rtExclusive) R.SUM_EXCL = true)
    (h1 : bit v.toNat 1 = true) (h2 : bit v.toNat 2 = false) : runs (.exclAcquire .pass v) s fun t =>
      t.f F.SUM_EXCL_EXCL = 1 ∧ t.f F.SUM_EXCL_LEASE_MS = v.toNat / 65536 ∧ (s.excl = true → t.f F.SUM_EXCL_HOST_REQ = 0)
      ∧ s.frame t [R.SUM_EXCL] [] [.access] := by
  refine runs_write (fun u => u.exclPass v.toNat) rfl h (fun _ => rfl) (by decide) rfl (by decide) ?_
  intro x y l w n x' y' l' w' n'
  have hv : v.toNat < 2 ^ 32 := v.isLt
  have hb : bits v.toNat 16 16 = v.toNat / 65536 := by
    unfold bits
    omega
  have hlease : v.toNat / 65536 % 2 ^ F.SUM_EXCL_LEASE_MS.width = v.toNat / 65536 := Nat.mod_eq_of_lt (show _ < 2 ^ 16 by omega)
  by_cases he : s.f F.SUM_EXCL_EXCL = 1
  · simp (disch := decide) [State.exclPass, h1, h2, he, hb, f_setF_same, f_setF_other, excl_eq_true_iff, frame_iff, forall_part, Part.same, hlease]
  · simp (disch := decide) [State.exclPass, h1, h2, he, hb, f_setF_same, f_setF_other, excl_eq_true_iff, frame_iff, forall_part, Part.same, hlease]

/-- A Pass write with RELEASE ends the session that there is (02 R75). -/
theorem runs_exclRelease (v : Word) (s : State) (h : s.ready .pass (some rtExclusive) R.SUM_EXCL = true)
    (h1 : bit v.toNat 1 = false) (h2 : bit v.toNat 2 = true) (he : s.excl = true) : runs (.exclRelease .pass v) s fun t =>
      t.f F.SUM_EXCL_EXCL = 0 ∧ t.f F.SUM_EXCL_HOST_REQ = 0 ∧ (∃ c, t.sum.intq = s.sum.intq ++ [s.ev .exclEnd 0x1009 [.w c]])
      ∧ s.frame t [R.SUM_EXCL, 0x11024] [] [.access, .intq] := by
  refine runs_write (fun u => u.exclPass v.toNat) rfl h (fun _ => rfl) (by decide) rfl (by decide) ?_
  intro x y l w n x' y' l' w' n'
  rw [excl_eq_true_iff] at he
  simp (disch := decide) [State.exclPass, State.exclEnd, h1, h2, he, f_setF_same, f_setF_other, f_raise, excl_eq_true_iff,
    frame_iff, forall_part, Part.same, State.ev, State.now]

/-- The host's request for the end of the session (02 R74), where nothing of the host stands before it. -/
theorem runs_hostReq (v : Word) (s : State) (hon : s.rst.on = true) (hrst : s.inReset = false) (hng : s.nextGrant = none)
    (haps : s.apsOf .host = []) (hheld : s.sum.held.any (fun y => y.master == .host) = false)
    (hlo : ∀ h, s.sum.hostM.heldLo = some h → h.1 + 4 ≠ R.SUM_EXCL) (h1 : bit v.toNat 1 = false) (h2 : bit v.toNat 2 = false)
    (h3 : bit v.toNat 3 = true) : runs (.hostReq .host v) s fun t =>
      t.f F.SUM_EXCL_HOST_REQ = 1 ∧ t.f F.SUM_EXCL_EXCL = s.f F.SUM_EXCL_EXCL
      ∧ t.sum.intq = s.sum.intq ++ [s.ev .exclRequest 0x1009 []] ∧ s.frame t [R.SUM_EXCL, 0x11024] [] [.access, .intq] := by
  have hcode : (s.atTurn .host).hubCode (.mst .host) R.SUM_EXCL true v.toNat = codeOk := by
    have hp : pageThere (R.SUM_EXCL / 0x1000) = true := by decide
    have hex : exclAllows R.SUM_EXCL true = true := by decide
    have hr : hubWrite (.mst .host) R.SUM_EXCL = none := by decide
    have hne : R.SUM_EXCL ≠ R.SUM_ARB_CTRL := by decide
    simp [State.hubCode, hp, hex, hr, hne, deniedWrite, h1, h2, State.may]
  have hw := masterWrite_of_hubCode (by decide) v.isLt hrst hng haps hheld hlo hcode
  refine runs_write_of_eq (fun u => u.exclHost v.toNat) rfl hon hw (fun _ => rfl) ?_
  intro x y l w n x' y' l' w' n'
  simp (disch := decide) [State.exclHost, h3, f_setF_same, f_setF_other, f_raise, frame_iff, forall_part, Part.same, State.ev, State.now]

/-- The lease runs out (02 R75). -/
theorem runs_exclLeaseExpiry (s : State) (hon : s.rst.on = true) (he : s.excl = true)
    (hl : s.sum.lastPass + max (s.f F.SUM_EXCL_LEASE_MS) 1 * 2500000 ≤ s.clk) : runs .exclLeaseExpiry s fun t =>
      t.f F.SUM_EXCL_EXCL = 0 ∧ t.f F.SUM_EXCL_HOST_REQ = 0 ∧ (∃ c, t.sum.intq = s.sum.intq ++ [s.ev .exclEnd 0x1009 [.w c]])
      ∧ s.frame t [R.SUM_EXCL, 0x11024] [] [.intq] := by
  have heq : (if s.excl ∧ s.leaseEnd ≤ s.clk then s.exclEnd exclByLease else s)
      = ((s.setF F.SUM_EXCL_EXCL 0).setF F.SUM_EXCL_HOST_REQ 0).raise .exclEnd 0x1009 [.w exclByLease] := by
    rw [if_pos ⟨he, hl⟩, State.exclEnd, if_pos he]
  refine runs_hub _ rfl hon ?_ ?_ ?_ <;> rw [heq]
  · simp
  · simp
  · simp (disch := decide) [f_setF_same, f_setF_other, f_raise, frame_iff, forall_part, Part.same, State.ev, State.now]

/-- Settles O15: the writes to SUM_EXCL and the lease's end, each one its own lemma. -/
theorem exclusiveSession : Obligations.ExclusiveSession := by
  unfold Obligations.ExclusiveSession
  exact ⟨runs_exclAcquire, runs_exclRelease, runs_hostReq, runs_exclLeaseExpiry⟩

end Sys2Proof.Machine
end

section
/-! PROOFS: O20, aggregates, missing Cairns and release (04 R121, R123). -/

namespace Sys2Proof.Machine
set_option Elab.async false

theorem frame_addAcks (s : State) (j : CutJob) (p : Nat) : s.frame (s.addAcks j p) [R.SUM_CUT_ACKS] [] [] := by
  have hstep (t : State) (h : Nat) (n d : Nat) :
      t.frame ((t.satAdd F.SUM_CUT_ACKS_REPORTED n).satAdd F.SUM_CUT_ACKS_DORMANT d) [R.SUM_CUT_ACKS] [] [] :=
    ((State.frame.refl _ _ _ _).satAdd _ _ (Or.inl (by decide))).satAdd _ _ (Or.inl (by decide))
  unfold State.addAcks
  refine State.frame.trans ?_ (frame_foldl _ _ fun t h _ => hstep t h _ _)
  split
  · exact State.frame.refl _ _ _ _
  · exact frame_wr _ _ _

/-- The open halves are those that the Spur answers for and that are not in. -/
theorem spur_ne_of_jobReady {s : State} {j : CutJob} {p : Nat} (h : s.jobReady j p = true) : s.spur p ≠ 2 := by
  intro hs
  simp [State.jobReady, State.openHalves, State.answers, hs] at h

theorem answers_of_frame {s t : State} (h : s.frame t [R.SUM_CUT_ACKS] [] []) (p k : Nat) : t.answers p k = s.answers p k := by
  have hs (x : Nat) : t.spur x = s.spur x := f_eq_of_frame h (spurFld x) (by unfold spurFld; split <;> decide) (by simp)
  simp only [State.answers, hs]

theorem bothIn_aggregateIn (s : State) (j : CutJob) (p : Nat) : ((s.addAcks j p).aggIn j p).bothIn j p = s.bothIn j p := by
  have ha (k : Nat) : ((s.addAcks j p).aggIn j p).answers p k = s.answers p k := answers_of_frame (frame_addAcks s j p) p k
  simp only [State.bothIn, ha]

/-- The Spur's aggregate goes in, and ends the cut where it is the last one (04 R121). -/
theorem cutAggregate_eq {s : State} {p : Nat} {j : CutJob} {js : List CutJob} (hj : s.cut.jobs = j :: js) (hk : j.kind ≠ .resume)
    (hr : s.jobReady j p = true) : s.cutAggregate p
      = if s.bothIn j p then ((s.addAcks j p).aggIn j p).cutDone j else (s.addAcks j p).aggIn j p := by
  simp only [State.cutAggregate, hj, hk, hr, bothIn_aggregateIn, ne_eq, not_false_eq_true, and_self, if_true]

/-- Without a capture there is none to end. -/
theorem captureCheck_of_not_cap {s : State} (h : s.cut.cap = false) : s.captureCheck = s := by
  simp [State.captureCheck, h]

theorem captureCheck_setF_of_not_cap {s : State} (f : Fld) (n : Nat) (h : s.cut.cap = false) : (s.setF f n).captureCheck = s.setF f n :=
  captureCheck_of_not_cap h

/-- What an aggregate leaves of the jobs. -/
def CutJob.aggregated (s : State) (j : CutJob) (p : Nat) (k : CutJob) : CutJob :=
  if k.kind == j.kind && k.id == j.id then { k with agg0 := k.agg0 || s.answers p 0, agg1 := k.agg1 || s.answers p 1 } else k

theorem frame_aggregateIn (s : State) (j : CutJob) (p : Nat) :
    s.frame ((s.addAcks j p).aggIn j p) [R.SUM_CUT_ACKS] [] [.cut] := by
  have h := (frame_addAcks s j p).mono (List.Subset.refl _) (List.Subset.refl _) (List.nil_subset [.cut])
  exact h.trans ⟨rfl, fun _ _ _ => rfl, fun p hp => by cases p <;> simp_all [Part.same, State.aggIn, State.modJob]⟩

theorem cut_aggregateIn (s : State) (j : CutJob) (p : Nat) :
    ((s.addAcks j p).aggIn j p).cut = { s.cut with jobs := s.cut.jobs.map (CutJob.aggregated s j p) } := by
  have hu := frame_addAcks s j p
  have hcut : (s.addAcks j p).cut = s.cut := part_same_of_frame hu .cut
  simp only [State.aggIn, State.modJob, hcut, answers_of_frame hu]
  rfl

theorem runs_spurCutAggregate_done (p : Nat) (j : CutJob) (js : List CutJob) (s : State) (hon : s.rst.on = true) (hp : p < 2)
    (hj : s.cut.jobs = j :: js) (hk : j.kind = .cutStop) (hr : s.jobReady j p = true) (hb : s.bothIn j p = true) (hcap : s.cut.cap = false) :
    runs (.spurCutAggregate p) s fun t =>
      t.cutState = (if s.cutState = 4 ∨ s.cutState = 5 then s.cutState else 2) ∧ t.cut.stop = true ∧ t.cut.jobs.length = js.length ∧ t.cut.noAck = j.missing
      ∧ t.sum.intq = s.sum.intq ++ [s.ev .cutDone 0x1001 [.w j.id, .w j.missing.length]]
      ∧ s.frame t [R.SUM_CUT_STAT, R.SUM_CUT_ACKS, 0x2024] [] [.intq, .cut] := by
  have hv := frame_aggregateIn s j p
  have hcut := cut_aggregateIn s j p
  have heq : s.cutAggregate p = ((s.addAcks j p).aggIn j p).cutDone j := by
    rw [cutAggregate_eq hj (by simp [hk]) hr, if_pos hb]
  generalize (s.addAcks j p).aggIn j p = v at hv hcut heq
  have hst : v.f F.SUM_CUT_STAT_STATE = s.f F.SUM_CUT_STAT_STATE := f_eq_of_frame hv _
  obtain ⟨hpend, hregs, hparts⟩ := frame_iff.mp hv
  have hregs : regsAgree s.regs v.regs [R.SUM_CUT_STAT, R.SUM_CUT_ACKS, 0x2024] [] := hregs.mono (by decide) (by decide)
  obtain ⟨hcapv, htail⟩ : v.cut.cap = false ∧ v.cut.jobs.length = js.length + 1 := by simp [hcut, hcap, hj]
  simp [forall_part, Part.same] at hparts
  have hraise (w : State) (d : List EvVal) : (w.raise .cutDone 0x1001 d).f F.SUM_CUT_STAT_STATE = w.f F.SUM_CUT_STAT_STATE :=
    f_raise _ _ _ _ _ _ (by decide)
  refine runs_atSpur (fun s => s.cutAggregate p) rfl hon hp (spur_ne_of_jobReady hr) ?_ ?_ ?_ <;> simp only [heq, State.cutDone,
    State.cutState, State.setCutState]
  all_goals 
    by_cases h45 : s.f F.SUM_CUT_STAT_STATE = 4 ∨ s.f F.SUM_CUT_STAT_STATE = 5
    · simp +decide [h45, hparts, hk, hcapv, hst, cutEscalated, cutResumePending, hpend, htail, frame_iff, forall_part, Part.same, hregs, State.ev, State.now, hraise, captureCheck_of_not_cap, captureCheck_setF_of_not_cap, f_setF_same, cutStopped]
    · simp +decide [h45, hparts, hk, hcapv, hst, cutEscalated, cutResumePending, hpend, htail, frame_iff, forall_part, Part.same, hregs, State.ev, State.now, hraise, captureCheck_of_not_cap, captureCheck_setF_of_not_cap, f_setF_same, cutStopped]

theorem runs_spurCutAggregate_open (p : Nat) (j : CutJob) (js : List CutJob) (s : State) (hon : s.rst.on = true) (hp : p < 2)
    (hj : s.cut.jobs = j :: js) (hk : j.kind ≠ .resume) (hr : s.jobReady j p = true) (hb : s.bothIn j p = false) :
    runs (.spurCutAggregate p) s fun t =>
      t.cutState = s.cutState ∧ (∃ k ∈ t.cut.jobs, k.id = j.id ∧ (if p = 0 then k.agg0 else k.agg1) = true) ∧ t.cut.jobs.length = s.cut.jobs.length
      ∧ s.frame t [R.SUM_CUT_ACKS] [] [.cut] := by
  have hf := frame_aggregateIn s j p
  have heq : s.cutAggregate p = (s.addAcks j p).aggIn j p := by
    rw [cutAggregate_eq hj hk hr, hb, if_neg Bool.false_ne_true]
  have hsp := spur_ne_of_jobReady hr
  have hin : (if p = 0 then (CutJob.aggregated s j p j).agg0 else (CutJob.aggregated s j p j).agg1) = true := by
    obtain rfl | rfl : p = 0 ∨ p = 1 := by omega
    · simp [CutJob.aggregated, State.answers, hsp]
    · simp [CutJob.aggregated, State.answers, hsp]
  have hid : (CutJob.aggregated s j p j).id = j.id := by simp [CutJob.aggregated]
  refine runs_atSpur (fun s => s.cutAggregate p) rfl hon hp hsp ?_ ?_ ?_ <;> simp only [heq]
  · exact congrArg (·.on) (part_same_of_frame hf .rst)
  · exact hf.1
  · refine ⟨f_eq_of_frame hf _, ?_, ?_, hf⟩
    · rw [cut_aggregateIn, hj]
      exact ⟨_, List.mem_cons_self, hid, hin⟩
    · simp [cut_aggregateIn]

theorem frame_modJob (s : State) (k : ActKind) (id : Nat) (g : CutJob → CutJob) : s.frame (s.modJob k id g) [] [] [.tree, .cut, .cairns] :=
  ⟨rfl, fun _ _ _ => rfl, fun p hp => by cases p <;> simp_all [Part.same, State.modJob]⟩

/-- A Cairn that has not reported in time is marked missing (04 R121). -/
theorem runs_cutReportTimeout (id : Nat) (j : CutJob) (js : List CutJob) (s : State) (hon : s.rst.on = true) (hid : kindOf id ≠ 0)
    (hpow : (s.cairn id).powered = true) (hj : s.cut.jobs = j :: js) (hk : j.kind ≠ .resume) (hi : j.issued = true)
    (ht : j.t + 2000 ≤ s.now) (hr : j.reported.contains id = false) (hm : j.missing.contains id = false) (hw : j.woken.contains id = false) :
    runs (.cutReportTimeout id) s fun t =>
      (∃ k ∈ t.cut.jobs, k.id = j.id ∧ k.missing.contains id = true) ∧ bit ((t.cairn id).rd 0x14) 1 = true
      ∧ s.only t id ∧ s.frame t [] [] [.tree, .cut, .cairns] := by
  have hkept : (s.modJob j.kind j.id fun j => { j with missing := j.missing ++ [id] }).cairns = s.cairns := rfl
  have heq : s.cutTimeout id = (s.modJob j.kind j.id fun j => { j with missing := j.missing ++ [id] }).spurFault id 1 := by
    simp only [State.cutTimeout, hj, hk, hi, ht, hpow, hr, hm, hw, ne_eq, not_false_eq_true, Bool.not_false, and_self, if_true]
  have hf : s.frame (s.cutTimeout id) [] [] [.tree, .cut, .cairns] := by
    rw [heq]
    exact (frame_modJob s _ _ _).andThen (frame_spurFault _ id 1) (by simp)
  refine runs_atUnit (fun s => s.cutTimeout id) rfl hon hid hpow (congrArg (·.on) (part_same_of_frame hf .rst)) hf.1 ⟨?_, ?_, ?_, hf⟩
  · rw [heq, spurFault_cut]
    refine ⟨{ j with missing := j.missing ++ [id] }, ?_, rfl, by simp⟩
    simp [State.modJob, hj]
  · rw [heq, cairn_spurFault_same _ _ (by exact hpow)]
    exact bit_pageFault _ (by decide)
  · intro i hne
    rw [heq, cairn_spurFault_ne _ _ hne]
    rfl

theorem stp_resumed (s : State) (j : CutJob) : (s.resumed j).stp = s.stp := by
  unfold State.resumed
  dsimp only
  split <;> rfl

theorem runs_releaseAggregate (p : Nat) (j : CutJob) (js : List CutJob) (s : State) (hon : s.rst.on = true) (hp : p < 2)
    (hj : s.cut.jobs = j :: js) (hk : j.kind = .resume) (hr : s.jobReady j p = true) (hb : s.bothIn j p = true) (hsp : s.spur p ≠ 2)
    (hstp : s.stp.active = false) : runs (.releaseAggregate p) s fun t =>
      t.cut.stop = false ∧ t.cut.noAck = [] ∧ t.cut.jobs.length = js.length
      ∧ t.cutState = (if js.any (fun k => k.kind == .cutStop) then 1 else if s.cut.cap ∧ s.cut.pages ≠ [] then 3 else 0)
      ∧ t.sum.intq = s.sum.intq ++ [s.ev .resumed 0x1001 [.w j.id]]
      ∧ s.frame t [R.SUM_CUT_STAT, R.SUM_CUT_ACKS, R.SUM_CUT_T_LO, R.SUM_CUT_T_HI, R.SUM_DIVERT_HELD, 0x2024] [] [.intq, .cut] := by
  have hv := frame_aggregateIn s j p
  have hcut := cut_aggregateIn s j p
  have hb' : ((s.addAcks j p).aggIn j p).bothIn j p = true := by
    rw [bothIn_aggregateIn, hb]
  have heq : (s.releaseAggregate p).1 = ((s.addAcks j p).aggIn j p).resumed j := by
    simp only [State.releaseAggregate, hj, hk, hr, hb', and_self, if_true]
  generalize (s.addAcks j p).aggIn j p = v at hv hcut heq
  obtain ⟨hpend, hregs, hparts⟩ := frame_iff.mp hv
  have hregs : regsAgree s.regs v.regs [R.SUM_CUT_STAT, R.SUM_CUT_ACKS, R.SUM_CUT_T_LO, R.SUM_CUT_T_HI, R.SUM_DIVERT_HELD, 0x2024] [] :=
    hregs.mono (by decide) (by decide)
  simp [forall_part, Part.same] at hparts
  have heq : s.releaseIn p = v.resumed j := by
    have hact : (v.resumed j).stp.active = false := by
      rw [stp_resumed, hparts.2.2.2.2.2.1, hstp]
    simp [State.releaseIn, hact, heq]
  have hkinds : (js.map (CutJob.aggregated s j p)).find? (fun j => j.kind == .cutStop)
     = (js.find? (fun j => j.kind == .cutStop)).map (CutJob.aggregated s j p) := by
    have hkind : (fun k : CutJob => k.kind == .cutStop) ∘ CutJob.aggregated s j p = fun k => k.kind == .cutStop := by
      funext k
      simp only [Function.comp, CutJob.aggregated]
      split <;> rfl
    rw [List.find?_map, hkind]
  have hwidth (c : Prop) [Decidable c] : (if c then 3 else 0) % 2 ^ F.SUM_CUT_STAT_STATE.width = if c then 3 else 0 := by
    split <;> rfl
  refine runs_atSpur (fun s => s.releaseIn p) rfl hon hp hsp ?_ ?_ ?_ <;> simp only [heq, State.resumed,
    State.cutState, State.setCutState]
  all_goals
    cases hfind : js.find? (fun j => j.kind == .cutStop) with
    | none => 
      have hany : js.any (fun j => j.kind == .cutStop) = false := by
        rw [List.any_eq_false]
        exact List.find?_eq_none.mp hfind
      simp +decide [hparts, hkinds, hcut, hj, hfind, hany, hpend, frame_iff, forall_part, Part.same, hregs, State.ev, State.now, State.heldShow, f_setF_same, State.wr64, f_wr_ne, cutPending, cutCapturing, cutIdle, hwidth]
    | some k =>
      have hany : js.any (fun j => j.kind == .cutStop) = true :=
        List.any_eq_true.mpr ⟨k, List.mem_of_find?_eq_some hfind, List.find?_some (p := fun j : CutJob => j.kind == .cutStop) hfind⟩
      simp +decide [hparts, hkinds, hcut, hj, hfind, hany, hpend, frame_iff, forall_part, Part.same, hregs, State.ev, State.now, State.heldShow, f_setF_same, State.wr64, f_wr_ne, cutPending, cutCapturing, cutIdle, hwidth]

/-- Settles O20: what a Spur's aggregate, a Cairn's silence and the release leave. -/
theorem cutReports : Obligations.CutReports := by
  unfold Obligations.CutReports
  exact ⟨runs_spurCutAggregate_done, runs_spurCutAggregate_open, runs_cutReportTimeout, runs_releaseAggregate⟩

end Sys2Proof.Machine
end

section
/-! PROOFS: O19, cut messages, cut edges and resume edges (03 R94; 04 R108, R123). -/

namespace Sys2Proof.Machine
set_option Elab.async false

/-! #### The message -/

/-- A unit that takes a message: what it is to do is due at once where its time has passed (03 R94; 04 R108). -/
def Cairn.taken (c : Cairn) (n leaf : Nat) (m : Msg) : Cairn :=
  let c := { c with rxMsgs := c.rxMsgs ++ [n] }
  let c := if m.t < leaf then { c with due := c.due ++ [⟨m.kind, m.t, m.arg⟩] } else { c with acts := c.acts ++ [⟨m.kind, m.t, m.arg⟩] }
  if m.kind == .cutStop || m.kind == .cutGlance then
    (if c.frozen then c else c.setF CF.CUT_STAT_STATE 1).setF CF.CUT_STAT_LATE (b2n (decide (m.t < leaf)))
  else c

section
variable (c : Cairn) (n leaf : Nat) (m : Msg)

/-- What is due beside the registers: the message, and what it asks for. -/
theorem taken_fields : (c.taken n leaf m).rxMsgs = c.rxMsgs ++ [n] ∧ (c.taken n leaf m).queue = c.queue
    ∧ (c.taken n leaf m).acts = (if m.t < leaf then c.acts else c.acts ++ [⟨m.kind, m.t, m.arg⟩])
    ∧ (c.taken n leaf m).due = (if m.t < leaf then c.due ++ [⟨m.kind, m.t, m.arg⟩] else c.due) := by
  unfold Cairn.taken
  dsimp only
  refine ⟨?_, ?_, ?_, ?_⟩ <;> split_ifs <;> rfl

/-- A cut's message shows that it has come, and whether it came late. -/
theorem taken_stat (h : m.kind = .cutStop ∨ m.kind = .cutGlance) :
    (c.taken n leaf m).f CF.CUT_STAT_LATE = b2n (decide (m.t < leaf))
    ∧ (c.frozen = false → (c.taken n leaf m).f CF.CUT_STAT_STATE = 1) := by
  have hb (b : Bool) : b2n b % 2 ^ CF.CUT_STAT_LATE.width = b2n b := by cases b <;> rfl
  have hcut : (m.kind == .cutStop || m.kind == .cutGlance) = true := by
    rcases h with h | h <;> simp [h]
  unfold Cairn.taken
  dsimp only
  rw [if_pos hcut]
  refine ⟨(Cairn.f_setF_same _ _ _ (by decide)).trans (hb _), fun hfr => ?_⟩
  have hfr (d : Cairn) (hd : d.regs = c.regs) : d.frozen = false := by
    simpa only [Cairn.frozen, Cairn.f, hd] using hfr
  rw [hfr _ (by split <;> rfl), if_neg Bool.false_ne_true, Cairn.f_setF_other _ _ _ _ (by decide) (by decide),
    Cairn.f_setF_same _ _ _ (by decide)]
  rfl

end

theorem deliver_eq (s : State) (id n leaf : Nat) (m : Msg) : s.deliver id n leaf m = if m.t < leaf then
    (s.modC id fun c => c.taken n leaf m).raiseC id .lateAction leaf [.w n, .w (leaf - m.t)] else s.modC id fun c => c.taken n leaf m := by
  unfold State.deliver Cairn.taken
  by_cases hlate : m.t < leaf
  · simp only [hlate, decide_true, if_true]
  · simp only [hlate, decide_false, Bool.false_eq_true, if_false]

/-- A message that a unit has and that it has not yet taken is delivered (03 R94). -/
theorem runs_cutMessage (id n leaf : Nat) (m : Msg) (s : State) (hon : s.rst.on = true) (hid : kindOf id ≠ 0)
    (hpow : (s.cairn id).powered = true) (hlv : (s.cairn id).leafValid = true) (hleaf : s.leafOk id leaf = true)
    (hrx : (s.cairn id).rxMsgs.contains n = false) (hm : smGet none s.sum.msgs n = some m)
    (hk : m.kind = .cutStop ∨ m.kind = .cutGlance ∨ m.kind = .resume) : runs (.cutMessage id n leaf) s fun t =>
      (t.cairn id).rxMsgs.contains n = true
      ∧ (leaf ≤ m.t → (t.cairn id).acts = (s.cairn id).acts ++ [⟨m.kind, m.t, m.arg⟩] ∧ (t.cairn id).queue = (s.cairn id).queue)
      ∧ (m.t < leaf → (t.cairn id).due = (s.cairn id).due ++ [⟨m.kind, m.t, m.arg⟩]
        ∧ ((s.cairn id).queue.length < 8 → ∃ e ∈ (t.cairn id).queue, e.ev.name = .lateAction ∧ e.ev.data = [.w n, .w (leaf - m.t)]))
      ∧ (m.kind ≠ .resume → (t.cairn id).f CF.CUT_STAT_LATE = b2n (decide (m.t < leaf))
        ∧ ((s.cairn id).frozen = false → (t.cairn id).f CF.CUT_STAT_STATE = 1))
      ∧ s.only t id ∧ s.frame t mirrorRegs [] [.tree, .cairns] := by
  have hfor : s.msgFor id m = true := by
    rcases hk with hk | hk | hk <;> simp [State.msgFor, hk]
  have heq : (match s.newMsg id n leaf with
      | some m => if s.msgFor id m then s.deliver id n leaf m else s
      | none => s) = s.deliver id n leaf m := by
    simp only [State.newMsg, hlv, hleaf, hrx, hm, Bool.not_false, and_self, if_true, hfor]
  have hf : s.frame (s.deliver id n leaf m) mirrorRegs [] [.tree, .cairns] := by
    rw [deliver_eq]
    split
    · exact ((State.frame.refl s _ _ _).andThen (frame_modC _ _ _) (by simp)).andThen (frame_raiseC _ _ _ _ _ _)
    · exact (State.frame.refl s _ _ _).andThen (frame_modC _ _ _) (by simp)
  refine runs_atUnit (fun s => match s.newMsg id n leaf with
      | some m => if s.msgFor id m then s.deliver id n leaf m else s
      | none => s) rfl hon hid hpow ?_ ?_ ?_ <;> simp only [heq]
  · exact congrArg (·.on) (part_same_of_frame hf .rst)
  · exact hf.1
  obtain ⟨hrxs, hqueue, hacts, hdue⟩ := taken_fields (s.cairn id) n leaf m
  have hcut (h : m.kind ≠ .resume) := taken_stat (s.cairn id) n leaf m (by tauto)
  rw [deliver_eq] at hf ⊢
  by_cases hlate : m.t < leaf
  · rw [if_pos hlate] at hf ⊢
    rw [cairn_raiseC_same, cairn_modC_same]
    refine ⟨?_, fun h => absurd h (by omega), fun _ => ⟨?_, fun h => ?_⟩, fun h => ⟨?_, fun hfr => ?_⟩, fun j hj => ?_, hf⟩
    · simp [hrxs]
    · simp [hdue, hlate]
    · rw [raised_queue _ _ _ _ _ _ (by rwa [hqueue])]
      exact ⟨_, List.mem_append_right _ (List.mem_singleton_self _), rfl, rfl⟩
    · rw [raised_f _ _ _ _ _ _ _ (by decide), (hcut h).1]
    · rw [raised_f _ _ _ _ _ _ _ (by decide), (hcut h).2 hfr]
    · rw [cairn_raiseC_ne _ _ _ _ _ hj, cairn_modC_ne _ _ hj]
  · rw [if_neg hlate] at hf ⊢
    rw [cairn_modC_same]
    refine ⟨?_, fun h => ⟨?_, hqueue⟩, fun h => absurd h hlate, fun h => hcut h, fun j hj => cairn_modC_ne _ _ hj, hf⟩
    · simp [hrxs]
    · simp [hacts, hlate]

/-- A message that a unit has taken already makes no difference. -/
theorem runs_cutMessage_again (id n leaf : Nat) (s : State) (hon : s.rst.on = true) (hid : kindOf id ≠ 0)
    (hrx : (s.cairn id).rxMsgs.contains n = true) : runs (.cutMessage id n leaf) s fun t => t = s := by
  refine ⟨s, ?_, rfl⟩
  have hnone : s.newMsg id n leaf = none := by
    rw [State.newMsg, hrx]
    simp
  have heq : (match s.newMsg id n leaf with
      | some m => if s.msgFor id m then s.deliver id n leaf m else s
      | none => s) = s := by rw [hnone]
  have hexec : exec (.cutMessage id n leaf) s = atUnit id s fun s => match s.newMsg id n leaf with
      | some m => if s.msgFor id m then s.deliver id n leaf m else s
      | none => s := rfl
  rw [hexec, atUnit, atCairn, withCairn, if_neg hid, onHub, if_pos hon]
  simp only [heq, ite_self]
  rw [keeping_eq rfl rfl]

/-! #### What an edge does beside the Cairns of its domain -/

theorem frame_couShow (s : State) : s.frame s.couShow [] [8] [] := by
  have hslot (t : State) (n st tr pa dr co : Nat) (h : n ∈ [0, 1, 2, 3]) :
      t.frame (((((t.setF (F.COU_SLOT_STATE n) st).setF (F.COU_SLOT_TRUNCATED n) tr).setF (F.COU_SLOT_PARTIAL n) pa).setF
        (F.COU_SLOT_DRAIN_DONE n) dr).setF (F.COU_SLOT_COMMITTED n) co) [] [8] [] := by
    have hn : n ≤ 3 := by
      simp only [List.mem_cons, List.not_mem_nil, or_false] at h
      omega
    have hpage : R.COU_SLOT n / 0x1000 = 8 := by
      unfold R.COU_SLOT
      omega
    have hl : Listed [] [8] (R.COU_SLOT n) := Or.inr (by simp [hpage])
    exact (((((State.frame.refl t _ _ _).setF (F.COU_SLOT_STATE n) st hl).setF (F.COU_SLOT_TRUNCATED n) tr hl).setF
      (F.COU_SLOT_PARTIAL n) pa hl).setF (F.COU_SLOT_DRAIN_DONE n) dr hl).setF (F.COU_SLOT_COMMITTED n) co hl
  have hlist (a : Nat) (h : a / 0x1000 = 8) : Listed [] [8] a := Or.inr (by simp [h])
  unfold State.couShow
  dsimp only
  exact (((((State.frame.refl s _ _ _).setF _ _ (hlist _ (by decide))).setF _ _ (hlist _ (by decide))).wr _ _ (hlist _ (by decide))).wr _ _
    (hlist _ (by decide))).trans (frame_foldl _ _ fun t n hn => hslot t n _ _ _ _ _ hn)

theorem frame_cou (s : State) (cou : CouSt) : s.frame { s with cou := cou } [] [] [.cou] :=
  ⟨rfl, fun _ _ _ => rfl, fun p hp => by cases p <;> simp_all [Part.same]⟩

theorem frame_chunkClose (s : State) : s.frame s.chunkClose [] [] [.cou] := by
  unfold State.chunkClose
  exact frame_cou s _

theorem frame_addEntry (s : State) (e : PageEnt) (u : Option Nat) : s.frame (s.addEntry e u) [] [8] [.cou] := by
  have hclose (cou : CouSt) (p : Prop) [Decidable p] :
      s.frame (if p then ({ s with cou := cou }).couShow.chunkClose else ({ s with cou := cou }).couShow) [] [8] [.cou] := by
    have hshow := ((State.frame.refl s [] [8] [.cou]).andThen (frame_cou s cou)).andThen (frame_couShow _)
    split
    · exact hshow.andThen (frame_chunkClose _)
    · exact hshow
  unfold State.addEntry
  split
  · exact State.frame.refl _ _ _ _
  · exact hclose _ _

theorem frame_recordBare (s : State) (pgs : List PageId) (disp : Nat) : s.frame (s.recordBare pgs disp) [] [8] [.cou] := by
  unfold State.recordBare
  split
  · exact State.frame.refl _ _ _ _
  · exact frame_foldl _ _ fun t pg _ => frame_foldl _ _ fun t o _ => frame_addEntry t _ _

theorem frame_couSync (s : State) : s.frame s.couSync [] [8] [.cou] := by
  unfold State.couSync
  split
  · exact State.frame.refl _ _ _ _
  dsimp only
  split
  · exact (((State.frame.refl s _ _ _).andThen (frame_cou s _)).andThen (frame_couShow _)).andThen (frame_setF _ F.COU_STAT_CAP_STATE 2)
  · exact State.frame.refl _ _ _ _

/-- Two states have the same cut jobs, stack memory and supply, and the same Cairns but for one, of which the registers below SHADOW are
the same. -/
structure EdgeKeeps (id : Nat) (s t : State) : Prop where
  jobs : t.cut.jobs = s.cut.jobs
  mem : t.mem = s.mem
  on : t.rst.on = s.rst.on
  pending : t.pending = s.pending
  other : ∀ j, j ≠ id → t.cairn j = s.cairn j
  regs : ∀ a, a < C.SHADOW → smGet 0 (t.cairn id).regs a = smGet 0 (s.cairn id).regs a

theorem EdgeKeeps.trans {id : Nat} {s t u : State} (h : EdgeKeeps id s t) (k : EdgeKeeps id t u) : EdgeKeeps id s u :=
  ⟨k.jobs.trans h.jobs, k.mem.trans h.mem, k.on.trans h.on, k.pending.trans h.pending, fun j hj => (k.other j hj).trans (h.other j hj),
    fun a ha => (k.regs a ha).trans (h.regs a ha)⟩

theorem edgeKeeps_of_frame {id : Nat} {s t : State} {r g : List Nat} {q : List Part} (h : s.frame t r g q) (hcut : t.cut.jobs = s.cut.jobs)
    (hmem : .mem ∉ q := by decide) (hrst : .rst ∉ q := by decide) (hc : .cairns ∉ q := by decide) : EdgeKeeps id s t :=
  ⟨hcut, part_same_of_frame h .mem hmem, congrArg (·.on) (part_same_of_frame h .rst hrst), h.1, fun j _ => cairn_of_frame h hc j,
    fun a _ => by rw [cairn_of_frame h hc]⟩

/-- A Cairn changed above SHADOW or beside its registers. -/
theorem edgeKeeps_modC (s : State) (id : Nat) (k : Cairn → Cairn)
    (hk : ∀ c a, a < C.SHADOW → smGet 0 (k c).regs a = smGet 0 c.regs a) : EdgeKeeps id s (s.modC id k) :=
  ⟨rfl, rfl, rfl, rfl, fun j hj => cairn_modC_ne s k hj, fun a ha => by rw [cairn_modC_same]; exact hk _ a ha⟩

theorem edgeKeeps_unitRuns (s : State) (id : Nat) : EdgeKeeps id s (s.unitRuns id) := by
  unfold State.unitRuns
  split
  · exact ⟨rfl, rfl, rfl, rfl, fun _ _ => rfl, fun _ _ => rfl⟩
  · have h := edgeKeeps_modC s id (fun c => { c with views := [], seed := s.free + 1 }) fun _ _ _ => rfl
    exact ⟨h.jobs, h.mem, h.on, h.pending, h.other, h.regs⟩

theorem edgeKeeps_shadowHold (s : State) (id : Nat) (all : Bool) : EdgeKeeps id s (s.shadowHold id all) := by
  unfold State.shadowHold
  dsimp only
  have h := edgeKeeps_modC s id (fun c => c.setF CF.SHADOW_HELD 1) fun c a ha => smGet_smSet_ne _ _ (Nat.ne_of_lt ha)
  split_ifs
  · exact ⟨rfl, rfl, rfl, rfl, h.other, h.regs⟩
  · exact ⟨rfl, rfl, rfl, rfl, h.other, h.regs⟩
  · exact ⟨rfl, rfl, rfl, rfl, fun _ _ => rfl, fun _ _ => rfl⟩

theorem edgeKeeps_uncaptShow (s : State) (id : Nat) : EdgeKeeps id s (s.uncaptShow id) := by
  unfold State.uncaptShow
  dsimp only
  have hwr (n : Nat) : EdgeKeeps id s (s.wr R.SUM_CUT_UNCAPT n) := edgeKeeps_of_frame (frame_wr s _ n) rfl
  split
  · exact (hwr _).trans (edgeKeeps_modC _ id _ fun c a ha => smGet_smSet_ne _ _ (Nat.ne_of_lt (ha.trans (by decide))))
  · exact hwr _

theorem jobs_of_frame {s t : State} {r g : List Nat} {q : List Part} (h : s.frame t r g q) (hq : .cut ∉ q := by decide) :
    t.cut.jobs = s.cut.jobs := congrArg (·.jobs) (part_same_of_frame h .cut hq)

theorem edgeKeeps_shadowLoad (s : State) (id : Nat) (all : Bool) : EdgeKeeps id s (s.shadowLoad id all) := by
  have hbare (t : State) (ps : List PageId) (d : Nat) : EdgeKeeps id t (t.recordBare ps d) :=
    edgeKeeps_of_frame (frame_recordBare t ps d) (jobs_of_frame (frame_recordBare t ps d))
  have hruns : EdgeKeeps id s (if (s.cairn id).frozen then s else s.unitRuns id) := by
    split
    · exact ⟨rfl, rfl, rfl, rfl, fun _ _ => rfl, fun _ _ => rfl⟩
    · exact edgeKeeps_unitRuns s id
  have hlast (t : State) (ps : List PageId) :
      EdgeKeeps id t (if t.cut.capAband then t.recordBare ps 5 else { t with cut := { t.cut with pages := t.cut.pages ++ ps } }) := by
    split
    · exact hbare _ _ 5
    · exact ⟨rfl, rfl, rfl, rfl, fun _ _ => rfl, fun _ _ => rfl⟩
  unfold State.shadowLoad
  dsimp only
  exact (((hruns.trans (edgeKeeps_shadowHold _ id all)).trans (hbare _ (s.redactPages id) 6)).trans (hlast _ _)).trans
    (edgeKeeps_uncaptShow _ id)

/-! #### The cut edge -/

/-- A job that a Cairn has reported for. -/
def CutJob.withReport (a : PendAct) (id : Nat) (j : CutJob) : CutJob :=
  if j.kind == a.kind && j.id == a.arg then { j with reported := if j.reported.contains id then j.reported else j.reported ++ [id] } else j

theorem withReport_contains {a : PendAct} {id i : Nat} {j : CutJob} (h : j.reported.contains i = true) :
    (j.withReport a id).reported.contains i = true := by
  unfold CutJob.withReport
  split_ifs <;> simp_all

theorem withReport_kind (a : PendAct) (id : Nat) (j : CutJob) : (j.withReport a id).kind = j.kind ∧ (j.withReport a id).id = j.id := by
  unfold CutJob.withReport
  split_ifs <;> exact ⟨rfl, rfl⟩

theorem withReport_self {a : PendAct} (id : Nat) {j : CutJob} (hk : j.kind = a.kind) (hi : j.id = a.arg) :
    (j.withReport a id).reported.contains id = true := by
  unfold CutJob.withReport
  split_ifs <;> simp_all

/-- After an edge at one Cairn: its registers below SHADOW are those of `k`, its jobs have its report, and nothing else of these is
changed. -/
structure EdgeAt (a : PendAct) (id : Nat) (k : Cairn → Cairn) (s t : State) : Prop where
  jobs : t.cut.jobs = s.cut.jobs.map (CutJob.withReport a id)
  mem : t.mem = s.mem
  on : t.rst.on = s.rst.on
  pending : t.pending = s.pending
  other : ∀ j, j ≠ id → t.cairn j = s.cairn j
  regs : ∀ b, b < C.SHADOW → smGet 0 (t.cairn id).regs b = smGet 0 (k (s.cairn id)).regs b

theorem edgeAt_cutOne (s : State) (a : PendAct) (r : EdgeRep) :
    EdgeAt a r.cairn (fun c => (c.cutTake r.cairn r (a.kind == .cutStop) a.arg).dropAct a) s (s.cutOne a r) := by
  have hload (t : State) : EdgeKeeps r.cairn t (if t.cut.cap ∧ t.cut.capId = a.arg then t.shoot r.cairn else t) := by
    split
    · exact ⟨rfl, rfl, rfl, rfl, fun _ _ => rfl, fun _ _ => rfl⟩
    · exact ⟨rfl, rfl, rfl, rfl, fun _ _ => rfl, fun _ _ => rfl⟩
  have hshadow (t : State) (all : Bool) :
      EdgeKeeps r.cairn t (if t.cut.cap ∧ t.cut.capId = a.arg then t.shadowLoad r.cairn all else t) := by
    split
    · exact edgeKeeps_shadowLoad t r.cairn all
    · exact ⟨rfl, rfl, rfl, rfl, fun _ _ => rfl, fun _ _ => rfl⟩
  have hstep (k : Cairn → Cairn) : EdgeAt a r.cairn k s ((s.modC r.cairn k).modJob a.kind a.arg fun j =>
      { j with reported := if j.reported.contains r.cairn then j.reported else j.reported ++ [r.cairn] }) :=
    ⟨rfl, rfl, rfl, rfl, fun j hj => cairn_modC_ne s k hj, fun b _ => congrArg (smGet 0 ·.regs b) (cairn_modC_same s r.cairn k)⟩
  have htail (t : State) := (hload t).trans (hshadow _ (!(a.kind == .cutStop)))
  obtain ⟨hj, hm, ho, hp, hot, hr⟩ := hstep fun c => (c.cutTake r.cairn r (a.kind == .cutStop) a.arg).dropAct a
  obtain ⟨kj, km, ko, kp, kot, kr⟩ := htail ((s.modC r.cairn fun c => (c.cutTake r.cairn r (a.kind == .cutStop) a.arg).dropAct a).modJob
    a.kind a.arg fun j => { j with reported := if j.reported.contains r.cairn then j.reported else j.reported ++ [r.cairn] })
  exact ⟨kj.trans hj, km.trans hm, ko.trans ho, kp.trans hp, fun j hne => (kot j hne).trans (hot j hne), fun b hb => (kr b hb).trans (hr b hb)⟩

/-- An edge over a domain, Cairn after Cairn. -/
theorem edge_foldl {a : PendAct} {k : EdgeRep → Cairn → Cairn} {f : State → EdgeRep → State}
    (hf : ∀ s r, EdgeAt a r.cairn (k r) s (f s r)) : ∀ (l : List EdgeRep) (s : State), (l.map fun r => r.cairn).Nodup →
    let t := l.foldl f s
    (∀ r ∈ l, ∀ b, b < C.SHADOW → smGet 0 (t.cairn r.cairn).regs b = smGet 0 (k r (s.cairn r.cairn)).regs b)
    ∧ (∀ i, (∀ r ∈ l, r.cairn ≠ i) → t.cairn i = s.cairn i) ∧ t.mem = s.mem ∧ t.rst.on = s.rst.on ∧ t.pending = s.pending
    ∧ ∃ g : CutJob → CutJob, t.cut.jobs = s.cut.jobs.map g ∧ ∀ j, (g j).kind = j.kind ∧ (g j).id = j.id
      ∧ (j.kind = a.kind → j.id = a.arg → ∀ i, (j.reported.contains i = true ∨ ∃ r ∈ l, r.cairn = i) → (g j).reported.contains i = true) := by
  intro l
  induction l with
  | nil =>
    intro s _
    refine ⟨by simp, fun _ _ => rfl, rfl, rfl, rfl, id, by simp, fun j => ⟨rfl, rfl, fun _ _ i h => ?_⟩⟩
    simpa using h
  | cons x xs ih =>
    intro s hnd
    obtain ⟨hx, hnd⟩ := List.nodup_cons.mp hnd
    obtain ⟨hj, hm, ho, hp, hot, hr⟩ := hf s x
    obtain ⟨kr, kot, km, ko, kp, g, kj, kg⟩ := ih (f s x) hnd
    have hne (r : EdgeRep) (hr : r ∈ xs) : r.cairn ≠ x.cairn := fun e => hx (show x.cairn ∈ xs.map fun r => r.cairn from e ▸ List.mem_map_of_mem hr)
    refine ⟨fun r hmem b hb => ?_, fun i hi => ?_, km.trans hm, ko.trans ho, kp.trans hp, fun j => g (j.withReport a x.cairn), ?_, fun j => ?_⟩
    · rcases List.mem_cons.mp hmem with rfl | hmem
      · rw [List.foldl_cons, kot r.cairn fun r' hr' => hne r' hr']
        exact hr b hb
      · rw [List.foldl_cons, kr r hmem b hb, hot _ (hne r hmem)]
    · rw [List.foldl_cons, kot i fun r hr => hi r (List.mem_cons_of_mem _ hr)]
      exact hot i fun e => hi x List.mem_cons_self e.symm
    · rw [List.foldl_cons, kj, hj, List.map_map]
      rfl
    · obtain ⟨gk, gi, gc⟩ := kg (j.withReport a x.cairn)
      obtain ⟨wk, wi⟩ := withReport_kind a x.cairn j
      refine ⟨gk.trans wk, gi.trans wi, fun hk hi i h => gc (wk.trans hk) (wi.trans hi) i ?_⟩
      rcases h with h | ⟨r, hmem, rfl⟩
      · exact Or.inl (withReport_contains h)
      · rcases List.mem_cons.mp hmem with rfl | hmem
        · exact Or.inl (withReport_self _ hk hi)
        · exact Or.inr ⟨r, hmem, rfl⟩

theorem Cairn.f_eq_of_regs {c d : Cairn} (f : Fld) (h : smGet 0 c.regs f.addr = smGet 0 d.regs f.addr) : c.f f = d.f f := by
  simp only [Cairn.f, h]

theorem Cairn.rd_eq_of_regs {c d : Cairn} (a : Nat) (h : smGet 0 c.regs a = smGet 0 d.regs a) : c.rd a = d.rd a := by
  simp only [Cairn.rd, h]

theorem Cairn.rd_setF_ne (c : Cairn) {f : Fld} {a : Nat} (n : Nat) (h : a ≠ f.addr) : (c.setF f n).rd a = c.rd a := by
  simp only [Cairn.rd, Cairn.setF, smGet_smSet_ne _ _ h]

theorem Cairn.rd_lt (c : Cairn) (a : Nat) : c.rd a < 2 ^ 32 := BitVec.isLt _

/-- What a unit's Cairn shows of a cut edge (04 R108). -/
theorem cutTake_shows (c : Cairn) (id : Nat) (r : EdgeRep) (stop : Bool) (cutId : Nat) (hl : r.leaf < 2 ^ 64) :
    (c.cutTake id r stop cutId).f CF.CUT_STAT_STATE = (if stop = true ∨ c.frozen = true then 2 else 3)
    ∧ (c.cutTake id r stop cutId).f CF.CUT_STAT_CUT_ID = cutId % 2 ^ 16
    ∧ (c.cutTake id r stop cutId).rd C.CUT_EDGE_LO + 2 ^ 32 * (c.cutTake id r stop cutId).rd C.CUT_EDGE_HI = r.leaf
    ∧ (c.cutTake id r stop cutId).rd C.CUT_EVT = c.rd pgEvtCnt := by
  have hlo : r.leaf % 2 ^ 32 % 2 ^ 32 + 2 ^ 32 * (r.leaf / 2 ^ 32 % 2 ^ 32) = r.leaf := by
    omega
  have hevt : c.rd pgEvtCnt % 2 ^ 32 = c.rd pgEvtCnt := Nat.mod_eq_of_lt (c.rd_lt pgEvtCnt)
  have hid : cutId % 2 ^ CF.CUT_STAT_CUT_ID.width = cutId % 2 ^ 16 := rfl
  have h2 : 2 % 2 ^ CF.CUT_STAT_STATE.width = 2 := rfl
  have h3 : 3 % 2 ^ CF.CUT_STAT_STATE.width = 3 := rfl
  unfold Cairn.cutTake
  cases stop <;> cases hfr : c.frozen
  all_goals
    dsimp only
    split <;> simp +decide only [Cairn.rd_wr, Cairn.f_wr_ne, Cairn.f_setF_same, Cairn.f_setF_other, Cairn.rd_setF_ne, hlo, hevt, hid, h2, h3,
      Bool.false_or, Bool.true_or, Bool.false_eq_true, or_true, true_or, or_false, if_true, if_false, and_self]

theorem exec_cutEdge (reps : List EdgeRep) (s : State) : exec (.cutEdge reps) s = atDomain reps s fun s => s.cutEdge reps := rfl

theorem exec_resumeEdge (reps : List EdgeRep) (s : State) : exec (.resumeEdge reps) s = atDomain reps s fun s => s.resumeEdge reps := rfl

/-- A happening at every unit of a domain. -/
theorem runs_atDomain {c : Instr} {reps : List EdgeRep} {s : State} {P : State → Prop} (k : State → State)
    (hc : exec c s = atDomain reps s k) (hon : s.rst.on = true) (hd : s.domainOk reps = true) (hr : (k s).rst.on = s.rst.on)
    (hp : (k s).pending = s.pending) (hP : P (k s)) : runs c s P := by
  refine ⟨k s, ?_, hP⟩
  have hall : (reps.map (·.cairn)).all (fun id => kindOf id != 0) = true := by
    cases reps with
    | nil => rfl
    | cons a rest =>
      simp only [State.domainOk, Bool.and_eq_true, List.all_eq_true] at hd
      simp only [List.all_map, List.all_eq_true]
      intro r hr
      exact (hd.1 r hr).1.1.1.1.2
  rw [hc, atDomain, atCairns, if_pos hall, onHub, if_pos hon, if_pos hd, keeping_eq hp hr]

theorem runs_cutEdge (a : EdgeRep) (rest : List EdgeRep) (act : PendAct) (s : State) (hon : s.rst.on = true)
    (hd : s.domainOk (a :: rest) = true) (hnd : ((a :: rest).map fun r => r.cairn).Nodup) (hleaf : ∀ r ∈ a :: rest, r.leaf < 2 ^ 64)
    (hact : s.reachedAct a.cairn [.cutStop, .cutGlance] a.leaf = some act) (hk : act.kind = .cutStop ∨ act.kind = .cutGlance) :
    runs (.cutEdge (a :: rest)) s fun t =>
      (∀ r ∈ a :: rest, (t.cairn r.cairn).f CF.CUT_STAT_STATE =
          (if act.kind = .cutStop ∨ (s.cairn r.cairn).frozen = true then 2 else 3)
        ∧ (t.cairn r.cairn).f CF.CUT_STAT_CUT_ID = act.arg % 2 ^ 16
        ∧ (t.cairn r.cairn).rd C.CUT_EDGE_LO + 2 ^ 32 * (t.cairn r.cairn).rd C.CUT_EDGE_HI = r.leaf
        ∧ (t.cairn r.cairn).rd C.CUT_EVT = (s.cairn r.cairn).rd pgEvtCnt)
      ∧ (∀ j ∈ t.cut.jobs, j.kind = act.kind → j.id = act.arg → ∀ r ∈ a :: rest, j.reported.contains r.cairn = true)
      ∧ (∀ i, (∀ r ∈ a :: rest, r.cairn ≠ i) → t.cairn i = s.cairn i) ∧ t.mem = s.mem := by
  have hmark (t : State) : EdgeKeeps a.cairn t (t.mapMark act) := by
    unfold State.mapMark
    split
    · exact ⟨rfl, rfl, rfl, rfl, fun _ _ => rfl, fun _ _ => rfl⟩
    · exact ⟨rfl, rfl, rfl, rfl, fun _ _ => rfl, fun _ _ => rfl⟩
  have hcairn (i : Nat) : (s.couSync.mapMark act).cairn i = s.cairn i := by
    unfold State.mapMark
    split <;> exact cairn_of_frame (frame_couSync s) (by decide) i
  obtain ⟨-, pm, po, pp, -, -⟩ :=
    (edgeKeeps_of_frame (frame_couSync s) (jobs_of_frame (frame_couSync s))).trans (hmark s.couSync)
  have heq : s.cutEdge (a :: rest) = (a :: rest).foldl (fun s r => s.cutOne act r) (s.couSync.mapMark act) := by
    simp only [State.cutEdge, hact]
  obtain ⟨hregs, hother, hm, ho, hp, g, hj, hg⟩ := edge_foldl (fun s r => edgeAt_cutOne s act r) (a :: rest) (s.couSync.mapMark act) hnd
  refine runs_atDomain _ (exec_cutEdge _ s) hon hd ?_ ?_ ⟨fun r hr => ?_, ?_, fun i hi => ?_, ?_⟩ <;> rw [heq]
  · exact ho.trans po
  · exact hp.trans pp
  · have hr := hregs r hr
    simp only [hcairn] at hr
    have hstop : ((act.kind == .cutStop) = true) ↔ act.kind = .cutStop := by simp
    obtain ⟨h1, h2, h3, h4⟩ := cutTake_shows (s.cairn r.cairn) r.cairn r (act.kind == .cutStop) act.arg (hleaf r ‹_›)
    simp only [hstop] at h1
    refine ⟨?_, ?_, ?_, ?_⟩
    · rw [Cairn.f_eq_of_regs CF.CUT_STAT_STATE (hr _ (by decide))]
      exact h1
    · rw [Cairn.f_eq_of_regs CF.CUT_STAT_CUT_ID (hr _ (by decide))]
      exact h2
    · rw [Cairn.rd_eq_of_regs _ (hr C.CUT_EDGE_LO (by decide)), Cairn.rd_eq_of_regs _ (hr C.CUT_EDGE_HI (by decide))]
      exact h3
    · rw [Cairn.rd_eq_of_regs _ (hr C.CUT_EVT (by decide))]
      exact h4
  · rw [hj]
    intro j hmem hjk hji r hr
    obtain ⟨j0, -, rfl⟩ := List.mem_map.mp hmem
    obtain ⟨gk, gi, gc⟩ := hg j0
    exact gc (gk.symm.trans hjk) (gi.symm.trans hji) _ (Or.inr ⟨r, hr, rfl⟩)
  · rw [hother i hi, hcairn]
  · exact hm.trans pm

/-! #### The resume edge -/

theorem edgeAt_resumeOne (s : State) (a : PendAct) (r : EdgeRep) (ha : a.kind = .resume) :
    EdgeAt a r.cairn (fun c => c.release a) s (s.resumeOne a r) := by
  have hruns (t : State) : EdgeKeeps r.cairn t (if (s.cairn r.cairn).frozen then t.unitRuns r.cairn else t) := by
    split
    · exact edgeKeeps_unitRuns t r.cairn
    · exact ⟨rfl, rfl, rfl, rfl, fun _ _ => rfl, fun _ _ => rfl⟩
  obtain ⟨kj, km, ko, kp, kot, kr⟩ := hruns (s.modC r.cairn fun c => c.release a)
  refine ⟨?_, km, ko, kp, fun j hne => (kot j hne).trans (cairn_modC_ne s _ hne), fun b hb => ?_⟩
  · have hreport : (fun j : CutJob => if j.kind == .resume && j.id == a.arg then
        { j with reported := if j.reported.contains r.cairn then j.reported else j.reported ++ [r.cairn] } else j)
          = CutJob.withReport a r.cairn := by
      rw [← ha]
      rfl
    rw [← hreport]
    exact congrArg (List.map _) kj
  · exact (kr b hb).trans (congrArg (smGet 0 ·.regs b) (cairn_modC_same s r.cairn _))

theorem release_shows (c : Cairn) (a : PendAct) (h : c.f CF.CUT_STAT_STATE = 2) :
    (c.release a).f CF.CUT_STAT_STATE = b2n (c.acts.any fun b => b.kind == .cutStop || b.kind == .cutGlance)
    ∧ (c.release a).f CF.CUT_STAT_HELD_AFTER_WAKE = 0 := by
  have hb (b : Bool) : b2n b % 2 ^ CF.CUT_STAT_STATE.width = b2n b := by cases b <;> rfl
  have hrel (f : Fld) : (c.release a).f f = ((c.setF CF.CUT_STAT_STATE (b2n (c.acts.any fun b => b.kind == .cutStop || b.kind == .cutGlance))).setF
      CF.CUT_STAT_HELD_AFTER_WAKE 0).f f := by
    unfold Cairn.release
    simp only [h, if_true]
    rfl
  constructor
  · rw [hrel, Cairn.f_setF_other _ _ _ _ (by decide) (by decide), Cairn.f_setF_same _ _ _ (by decide), hb]
  · rw [hrel, Cairn.f_setF_same _ _ _ (by decide)]
    rfl

/-- Writes that were held are carried out: no register of a Cairn and no job of the cut is changed. -/
structure HeldKeeps (s t : State) : Prop where
  jobs : t.cut.jobs = s.cut.jobs
  on : t.rst.on = s.rst.on
  pending : t.pending = s.pending
  regs : ∀ i, (t.cairn i).regs = (s.cairn i).regs

theorem heldKeeps_of_frame {s t : State} {r g : List Nat} (h : s.frame t r g [.intq]) : HeldKeeps s t :=
  ⟨jobs_of_frame h, congrArg (·.on) (part_same_of_frame h .rst), h.1, fun i => by rw [cairn_of_frame h]⟩

theorem heldKeeps_heldApply (s : State) (w : HeldWr) : HeldKeeps s (s.heldApply w) := by
  unfold State.heldApply
  split
  · unfold State.stackWrite
    dsimp only
    split_ifs
    · exact heldKeeps_of_frame (frame_hubFault s 3 0 0 0 0 (by decide))
    · exact heldKeeps_of_frame (frame_hubFault s 2 0 0 0 0 (by decide))
    · exact ⟨rfl, rfl, rfl, fun _ => rfl⟩
  · refine ⟨rfl, rfl, rfl, fun i => ?_⟩
    by_cases hi : i = w.pg.cairn
    · rw [hi, cairn_modC_same]
      rfl
    · rw [cairn_modC_ne _ _ hi]

theorem HeldKeeps.trans {s t u : State} (h : HeldKeeps s t) (k : HeldKeeps t u) : HeldKeeps s u :=
  ⟨k.jobs.trans h.jobs, k.on.trans h.on, k.pending.trans h.pending, fun i => (k.regs i).trans (h.regs i)⟩

theorem heldKeeps_heldSettle (s : State) : HeldKeeps s s.heldSettle := by
  have hfold (l : List HeldWr) (t : State) : HeldKeeps t (l.foldl State.heldApply t) :=
    List.foldlRecOn (motive := HeldKeeps t) l State.heldApply ⟨rfl, rfl, rfl, fun _ => rfl⟩ fun u h w _ =>
      h.trans (heldKeeps_heldApply u w)
  have hcut (held : List HeldWr) : HeldKeeps s { s with cut := { s.cut with held := held } } := ⟨rfl, rfl, rfl, fun _ => rfl⟩
  exact ((hcut _).trans (hfold _ _)).trans ⟨rfl, rfl, rfl, fun _ => rfl⟩

theorem runs_resumeEdge (a : EdgeRep) (rest : List EdgeRep) (act : PendAct) (s : State) (hon : s.rst.on = true)
    (hd : s.domainOk (a :: rest) = true) (hnd : ((a :: rest).map fun r => r.cairn).Nodup)
    (hact : s.reachedAct a.cairn [.resume] a.leaf = some act) (hk : act.kind = .resume)
    (hst : ∀ r ∈ a :: rest, (s.cairn r.cairn).f CF.CUT_STAT_STATE = 2) : runs (.resumeEdge (a :: rest)) s fun t =>
      (∀ r ∈ a :: rest, (t.cairn r.cairn).f CF.CUT_STAT_STATE =
          b2n ((s.cairn r.cairn).acts.any fun b => b.kind == .cutStop || b.kind == .cutGlance)
        ∧ (t.cairn r.cairn).f CF.CUT_STAT_HELD_AFTER_WAKE = 0)
      ∧ (∀ j ∈ t.cut.jobs, j.kind = .resume → j.id = act.arg → ∀ r ∈ a :: rest, j.reported.contains r.cairn = true) := by
  have heq : s.resumeEdge (a :: rest) = ((a :: rest).foldl (fun s r => s.resumeOne act r) s).heldSettle := by
    simp only [State.resumeEdge, hact]
  obtain ⟨hregs, hother, hm, ho, hp, g, hj, hg⟩ := edge_foldl (fun s r => edgeAt_resumeOne s act r hk) (a :: rest) s hnd
  obtain ⟨kj, ko, kp, kr⟩ := heldKeeps_heldSettle ((a :: rest).foldl (fun s r => s.resumeOne act r) s)
  refine runs_atDomain _ (exec_resumeEdge _ s) hon hd ?_ ?_ ⟨fun r hr => ?_, ?_⟩ <;> rw [heq]
  · exact ko.trans ho
  · exact kp.trans hp
  · obtain ⟨h1, h2⟩ := release_shows (s.cairn r.cairn) act (hst r hr)
    have hr (b : Nat) (hb : b < C.SHADOW) := (congrArg (smGet 0 · b) (kr r.cairn)).trans (hregs r hr b hb)
    exact ⟨(Cairn.f_eq_of_regs _ (hr _ (by decide))).trans h1, (Cairn.f_eq_of_regs _ (hr _ (by decide))).trans h2⟩
  · rw [kj, hj]
    intro j hmem hjk hji r hr
    obtain ⟨j0, -, rfl⟩ := List.mem_map.mp hmem
    obtain ⟨gk, gi, gc⟩ := hg j0
    exact gc ((gk.symm.trans hjk).trans hk.symm) (gi.symm.trans hji) _ (Or.inr ⟨r, hr, rfl⟩)

/-- Settles O19: the message, the cut edge and the resume edge, each one its own lemma. -/
theorem cutEdges : Obligations.CutEdges := by
  unfold Obligations.CutEdges
  exact ⟨runs_cutMessage, runs_cutMessage_again, runs_cutEdge, runs_resumeEdge⟩

end Sys2Proof.Machine
end

section
/-! PROOFS: O30, the start of an engine and what it shows of the dispatcher's table (07 R206, R236). -/

namespace Sys2Proof.Machine
set_option Elab.async false

/-- A hub that has started, whose host holds PROBE, and whose engine 1 shows a job that the table does not hold. -/
def staleOutJobHub : State :=
  ((({ State.reset with regs := [] }).wr R.SUM_START_STAT 6).wr R.AUTH_HELD_HOST (2 ^ rtProbe)).setF (F.PRB_STAT_OUT_JOB 1) 1

theorem ready_staleOutJobHub : staleOutJobHub.ready .host (some rtProbe) (R.PRB_CTRL 0) = true := by
  decide +kernel

theorem idle_staleOutJobHub : staleOutJobHub.engState 0 = 0 ∧ staleOutJobHub.auth.run = none := by
  decide +kernel

/-- The start of engine 0 drops its finished jobs from the table, and PRB_STAT of every engine shows the table again. -/
theorem outJob_prbStart_staleOutJobHub :
    (staleOutJobHub.after (.prbStart .host 0 1)).rd (R.PRB_STAT 1) ≠ staleOutJobHub.rd (R.PRB_STAT 1) := by
  decide +kernel

/-- Refutes O30: its first clause keeps the pages of the other engines, but a start rewrites OUT_JOB of every engine. -/
theorem not_pitchEngines : ¬ Obligations.PitchEngines := by
  unfold Obligations.PitchEngines
  rintro ⟨hstart, -⟩
  obtain ⟨hidle, hrun⟩ := idle_staleOutJobHub
  obtain ⟨t, ht, -, -, -, -, -, -, -, -, -, hframe⟩ :=
    hstart .host 0 1 staleOutJobHub (by decide) ready_staleOutJobHub (by decide) (by decide) hidle hrun
  rw [← after_eq_of_exec ht] at hframe
  exact outJob_prbStart_staleOutJobHub (rd_eq_of_frame hframe (R.PRB_STAT 1))

end Sys2Proof.Machine
end

section
/-! PROOFS: O29, waits and accesses of Pitch (07 R218 to R223). -/

namespace Sys2Proof.Machine
set_option Elab.async false

section
variable {s u : State} {e : Nat} {regs : List Nat} {q : List Part}

/-! #### Going on after an effect -/

/-- The engine's own registers that going on rewrites are not among those an effect lists. -/
def keepsPc (e : Nat) (regs : List Nat) : Prop := R.PRB_PC e ∉ regs ∧ R.PRB_RETIRED e ∉ regs

theorem keepsPc_singleton {x : Nat} : keepsPc e [x] ↔ x ∉ [R.PRB_PC e, R.PRB_RETIRED e] := by
  simp [keepsPc, eq_comm]

theorem retired_goOn_of_frame (h : s.frame u regs [] q) (hk : keepsPc e regs) : s.retired (u.goOn e) e (s.pc e + 1) [] regs q := by
  obtain ⟨hpc, hret⟩ := hk
  rw [State.goOn, pc_eq_of_frame h hpc (by simp)]
  exact retired_retireTo (by simpa using h) _ (rd_eq_of_frame h _ hret (by simp))

theorem retired_pSet_of_frame (h : s.frame u regs [] q) (hk : keepsPc e regs) (d : BitVec 4) (v : Nat) :
    s.retired (u.pSet e d v) e (s.pc e + 1) [d.toNat] regs q := by
  obtain ⟨hpc, hret⟩ := hk
  have hP : s.frame (u.setP e d.toNat v) (regs ++ pRegs e d.toNat) [] q :=
    (h.mono (List.subset_append_left _ _) (by simp) (List.Subset.refl _)).next (frame_setP u e d.toNat v)
      (fun a ha => .inl (List.mem_append_right _ ha)) (by simp)
  rw [State.pSet, State.goOn, pc_setP, pc_eq_of_frame h hpc (by simp)]
  exact retired_retireTo (by simpa using hP) _ ((retired_setP u e v d).trans (rd_eq_of_frame h _ hret (by simp)))

/-- A register of the hub that is none of those that going on writes. -/
theorem f_goOn (f : Fld) (hf : f.addr ∉ [R.PRB_PC e, R.PRB_RETIRED e]) : (u.goOn e).f f = u.f f :=
  f_eq_of_frame (frame_retireTo u e _) f hf (by simp)

theorem f_pSet (d : BitVec 4) (v : Nat) (f : Fld) (hf : f.addr ∉ [R.PRB_PC e, R.PRB_RETIRED e]) (hp : f.addr ∉ pRegs e d.toNat) :
    (u.pSet e d v).f f = u.f f :=
  (f_goOn f hf).trans (f_eq_of_frame (frame_setP u e d.toNat v) f hp (by simp))

theorem rd_pSet (d : BitVec 4) (v a : Nat) (ha : a ∉ [R.PRB_PC e, R.PRB_RETIRED e]) (hp : a ∉ pRegs e d.toNat) :
    (u.pSet e d v).rd a = u.rd a :=
  (rd_eq_of_frame (frame_retireTo (u.setP e d.toNat v) e _) a ha (by simp)).trans (rd_eq_of_frame (frame_setP u e d.toNat v) a hp (by simp))

theorem rd_goOn (a : Nat) (ha : a ∉ [R.PRB_PC e, R.PRB_RETIRED e]) : (u.goOn e).rd a = u.rd a :=
  rd_eq_of_frame (frame_retireTo u e _) a ha (by simp)

@[simp] theorem eng_goOn : (u.goOn e).eng = u.eng := rfl
@[simp] theorem eng_pSet (d : BitVec 4) (v : Nat) : (u.pSet e d v).eng = u.eng := rfl
@[simp] theorem eng_setP (d v : Nat) : (u.setP e d v).eng = u.eng := rfl
@[simp] theorem eng_setF (f : Fld) (v : Nat) : (u.setF f v).eng = u.eng := rfl
@[simp] theorem eng_wr (a v : Nat) : (u.wr a v).eng = u.eng := rfl

@[simp] theorem eng_setEng (x : EngSt) : (u.setEng e x).eng e = x := smGet_smSet_same _ _ _

/-! #### Waits (R221 to R223) -/

/-- An engine that begins a wait stands at its pc. -/
theorem waitOn_spec (s : State) (e : Nat) (w : WaitFor) : (s.waitOn e w).engState e = 2 ∧ ((s.waitOn e w).eng e).wait = some w
    ∧ ((s.waitOn e w).eng e).chSeen = [] ∧ (s.waitOn e w).pc e = s.pc e ∧ s.frame (s.waitOn e w) [R.PRB_STAT e] [] [.prb] := by
  have hframe : s.frame (s.waitOn e w) [R.PRB_STAT e] [] [.prb] :=
    ((State.frame.refl s _ _ _).setEng e _ (by simp)).setF _ _ (.inl (by simp [F.PRB_STAT_STATE]))
  refine ⟨f_setF_same _ _ _ (by simp [F.PRB_STAT_STATE]), by simp [State.waitOn], by simp [State.waitOn],
    pc_eq_of_frame hframe (by simp [R.PRB_PC, R.PRB_STAT]) (by simp), hframe⟩

theorem runs_wait {c : Instr} {i : PInstr} {k : PInstr → Option (State → State)} {f : State → State} {P : State → Prop} {w : WaitFor}
    {p : Prop} [Decidable p] {go : State} {pc : Nat} {ds : List Nat} (h : s.issues e i = true) (hc : exec c s = pitch e s k)
    (hk : k i = some f) (hf : f s = if p then go else s.waitOn e w) (hgo : s.retired go e pc ds [] []) (hPgo : p → P go)
    (hPw : ¬p → P (s.waitOn e w)) : runs c s P := by
  obtain ⟨-, -, -, -, hwait⟩ := waitOn_spec s e w
  by_cases hp : p
  · rw [if_pos hp] at hf
    exact runs_retired h hc hk (hf ▸ hgo) (by simp) (hf ▸ hPgo hp)
  · rw [if_neg hp] at hf
    exact runs_pitch h hc hk (hf ▸ hwait) (by simp) (hf ▸ hPw hp)

/-- The state of an engine whose wait ends, before it goes on. -/
def State.waitDone (s : State) (e : Nat) : State :=
  let s := s.wr (R.PRB_STALL e) (s.stallOf e)
  (s.setEng e { s.eng e with wait := none }).setF (F.PRB_STAT_STATE e) 1

theorem frame_waitDone (s : State) (e : Nat) : s.frame (s.waitDone e) [R.PRB_STAT e, R.PRB_STALL e] [] [.prb] :=
  (((State.frame.refl s _ _ _).wr _ _ (.inl (by simp))).setEng e _ (by simp)).setF _ _ (.inl (by simp [F.PRB_STAT_STATE]))

theorem waitDone_spec (s : State) (e : Nat) : (s.waitDone e).engState e = 1 ∧ ((s.waitDone e).eng e).wait = none := by
  refine ⟨f_setF_same _ _ _ (by simp [F.PRB_STAT_STATE]), by simp [State.waitDone]⟩

theorem keepsPc_stat (e : Nat) : keepsPc e [R.PRB_STAT e, R.PRB_STALL e] := by
  simp [keepsPc, R.PRB_PC, R.PRB_STAT, R.PRB_STALL, R.PRB_RETIRED]

theorem waitEnd_eq {w : WaitFor} {r : Option (Nat × Nat)} (hst : s.engState e = 2) (hw : (s.eng e).wait = some w)
    (hr : s.waitOver e w = some r) : s.waitEnd e = match r with
      | some x => ((s.waitDone e).setP e x.1 x.2).goOn e
      | none => (s.waitDone e).goOn e := by
  rw [State.waitEnd, if_neg (not_not.2 hst)]
  simp only [hw, hr]
  cases r <;> rfl

theorem runs_waitEnd {P : State → Prop} {r g : List Nat} {q : List Part} (hon : s.rst.on = true) (he : e < 4)
    (hf : s.frame (s.waitEnd e) r g q) (hq : .rst ∉ q) (hP : P (s.waitEnd e)) : runs (.waitEnd e) s P :=
  runs_onHub (k := fun s => s.waitEnd e) (if_pos he) hon hf hq hP

theorem notMem_pcs_stat (e : Nat) : (F.PRB_STAT_STATE e).addr ∉ [R.PRB_PC e, R.PRB_RETIRED e] := by
  simp [F.PRB_STAT_STATE, R.PRB_PC, R.PRB_STAT, R.PRB_RETIRED]

theorem notMem_pRegs_of_lt {a d : Nat} (h : a < R.PRB_P e 0) : a ∉ pRegs e d := by
  simp only [R.PRB_P] at h
  simp only [pRegs, R.PRB_P, List.mem_cons, List.not_mem_nil, or_false]
  omega

/-! #### Window accesses (R218, R219) -/

theorem frame_setHolding_eng (s : State) (e : Nat) (cap held : Option (Nat × Nat)) : s.frame (s.setHolding (.eng e) cap held) [] [] [.prb] :=
  frame_setEng s e _

theorem frame_touchWin (s : State) (id : Nat) : s.frame (s.touchWin id) mirrorRegs [] [.tree] := by
  unfold State.touchWin
  split
  · exact State.frame.refl _ _ _ _
  · exact frame_touch s id

@[simp] theorem eng_touchWin (s : State) (id : Nat) : (s.touchWin id).eng = s.eng := by
  have h := part_same_of_frame (frame_touchWin s id) .prb
  funext e
  exact congrArg (fun p => smGet EngSt.init p.eng e) h

theorem fatedWins_of_none (l : List WinAcc) (o : List Nat) (h : ∀ w ∈ l, w.fate = none) : fatedWins l o = ([], l) := by
  induction l generalizing o with
  | nil => rfl
  | cons w ws ih => simp [fatedWins, h w (by simp), ih _ fun x hx => h x (by simp [hx])]

/-- An access enters behind those in flight. -/
def State.winQueued (s : State) (e : Nat) (w : WinAcc) : State :=
  let s := { s with sum := { s.sum with arrNo := s.sum.arrNo + 1 } }
  (s.setEng e { s.eng e with wins := (s.eng e).wins ++ [w] }).touchWin w.cairn

theorem wins_winQueued (s : State) (e : Nat) (w : WinAcc) : ((s.winQueued e w).eng e).wins = (s.eng e).wins ++ [w] := by
  simp only [State.winQueued, eng_touchWin, eng_setEng]
  rfl

theorem frame_winQueued (s : State) (e : Nat) (w : WinAcc) : s.frame (s.winQueued e w) mirrorRegs [] [.prb, .access, .tree] := by
  have harr : s.frame { s with sum := { s.sum with arrNo := s.sum.arrNo + 1 } } mirrorRegs [] [.prb, .access, .tree] :=
    ⟨rfl, fun _ _ _ => rfl, fun p hp => by cases p <;> simp_all [Part.same]⟩
  exact (harr.setEng e _ (by simp)).next (frame_touchWin _ _) (fun a ha => .inl ha) (by simp)

theorem winEnter_eq {s : State} {e : Nat} {w : WinAcc} (h : s.winCode e w = none) (hw : w.fate = none) :
    s.winEnter e w = (s.winQueued e (s.winSent e w)).winFlush e := by
  obtain ⟨rd, cairn, view, space, off, wide, val, t0, spur, no, fate, sec⟩ := w
  obtain rfl : fate = none := hw
  simp only [State.winEnter, h]
  rfl

/-- An access that may go enters and stays in flight. -/
theorem winEnter_of_none {s : State} {e : Nat} {w : WinAcc} (h : s.winCode e w = none) (hw : w.fate = none)
    (hall : ∀ x ∈ (s.eng e).wins, x.fate = none) : s.winEnter e w = s.winQueued e (s.winSent e w) := by
  have hwins (x : WinAcc) (hx : x ∈ (s.eng e).wins ++ [s.winSent e w]) : x.fate = none := by
    rcases List.mem_append.mp hx with hx | hx
    · exact hall x hx
    · rw [List.mem_singleton.mp hx]; exact hw
  rw [winEnter_eq h hw, State.winFlush, wins_winQueued, fatedWins_of_none _ _ hwins]
  rfl

theorem keepsPc_mirror (he : e < 4) : keepsPc e mirrorRegs := by
  have h : ∀ e < 4, R.PRB_PC e ∉ mirrorRegs ∧ R.PRB_RETIRED e ∉ mirrorRegs := by decide
  exact h e he

theorem keepsPc_accErr_mirror (he : e < 4) : keepsPc e (R.PRB_ACC_ERR e :: mirrorRegs) := by
  have h : ∀ e < 4, R.PRB_PC e ∉ R.PRB_ACC_ERR e :: mirrorRegs ∧ R.PRB_RETIRED e ∉ R.PRB_ACC_ERR e :: mirrorRegs := by decide
  exact h e he

theorem runs_winIssue {c : Instr} {i : PInstr} {k : PInstr → Option (State → State)} {f : State → State} {w : WinAcc}
    (h : s.issues e i = true) (hc : exec c s = pitch e s k) (hk : k i = some f) (hf : f s = s.winIssue e w)
    (hcode : s.winCode e w = none) (hw : w.fate = none) (hall : ∀ x ∈ (s.eng e).wins, x.fate = none) : runs c s fun t =>
      (t.eng e).wins = (s.eng e).wins ++ [s.winSent e w] ∧ s.retired t e (s.pc e + 1) [] mirrorRegs [.prb, .access, .tree] := by
  obtain ⟨-, he, -⟩ := issues_iff.1 h
  have hret : s.retired (f s) e (s.pc e + 1) [] mirrorRegs [.prb, .access, .tree] := by
    rw [hf, State.winIssue, winEnter_of_none hcode hw hall]
    exact retired_goOn_of_frame (frame_winQueued s e _) (keepsPc_mirror he)
  refine runs_retired h hc hk hret (by simp) ⟨?_, hret⟩
  rw [hf, State.winIssue, winEnter_of_none hcode hw hall, eng_goOn, wins_winQueued]

/-! #### An access that is turned away (R220) -/

theorem frame_accErr (s : State) (e code result id : Nat) : s.frame (s.accErr e code result id) [R.PRB_ACC_ERR e] [] [] := by
  unfold State.accErr
  refine State.frame.satAdd ?_ _ _ (.inl (by simp [F.PRB_ACC_ERR_COUNT]))
  refine State.frame.ite (fun _ => State.frame.refl _ _ _ _) fun _ => ?_
  exact ((((State.frame.refl _ _ _ _).setF _ _ (.inl (by simp [F.PRB_ACC_ERR_CODE]))).setF _ _
    (.inl (by simp [F.PRB_ACC_ERR_RESULT]))).setF _ _ (.inl (by simp [F.PRB_ACC_ERR_CAIRN]))).setF _ _
    (.inl (by simp [F.PRB_ACC_ERR_VALID]))

theorem accErr_spec {s : State} {e code result id : Nat} (h : s.f (F.PRB_ACC_ERR_VALID e) = 0) (hc : code < 16) :
    (s.accErr e code result id).f (F.PRB_ACC_ERR_VALID e) = 1 ∧ (s.accErr e code result id).f (F.PRB_ACC_ERR_CODE e) = code := by
  have hc' : code % 16 = code := Nat.mod_eq_of_lt hc
  have hne : ¬s.f (F.PRB_ACC_ERR_VALID e) = 1 := by omega
  rw [State.accErr, if_neg hne]
  simp +decide [State.satAdd, F.PRB_ACC_ERR_VALID, F.PRB_ACC_ERR_CODE, F.PRB_ACC_ERR_COUNT, F.PRB_ACC_ERR_CAIRN,
    F.PRB_ACC_ERR_RESULT, f_setF_same, f_setF_other, hc']

theorem winCode_lt {s : State} {e c : Nat} {w : WinAcc} (h : s.winCode e w = some c) : c < 16 := by
  unfold State.winCode at h
  dsimp only at h
  generalize s.may (.eng e) _ = may at h
  split_ifs at h <;> · obtain rfl := Option.some.inj h; decide

/-- An access of an engine with none in flight that is turned away fails at once. -/
def State.winTurned (s : State) (e c : Nat) (w : WinAcc) : State :=
  let u := (s.hubMiss (.eng e)).winQueued e w
  ((u.setEng e { u.eng e with wins := [] }).accErr e c 0 w.cairn).touchWin w.cairn

theorem winEnter_of_some {s : State} {e c : Nat} {w : WinAcc} {d : BitVec 4} (h : s.winCode e w = some c) (hd : w.rd = some d.toNat)
    (hno : (s.eng e).wins = []) :
    (s.winEnter e w).goOn e = (s.winTurned e c { s.winSent e w with fate := some c }).pSet e d 0 := by
  generalize hw' : { s.winSent e w with fate := some c } = w'
  have hwins : (((s.hubMiss (.eng e)).winQueued e w').eng e).wins = [w'] := by
    rw [wins_winQueued, State.hubMiss, State.setHolding, eng_setEng, hno, List.nil_append]
  have henter : s.winEnter e w = ((s.hubMiss (.eng e)).winQueued e w').winFlush e := by
    simp only [State.winEnter, h, ← hw']
    rfl
  have hflush : fatedWins [w'] [] = ([w'], []) := by rw [← hw']; rfl
  have hfail (u : State) : u.winFail e w' c = ((u.accErr e c 0 w'.cairn).touchWin w'.cairn).setP e d.toNat 0 := by
    simp only [State.winFail, show w'.rd = some d.toNat by rw [← hw']; exact hd]
  have hfate : w'.fate.getD codeOk = c := by rw [← hw']; rfl
  rw [henter, State.winFlush, hwins]
  simp only [hflush, List.isEmpty_cons, Bool.false_eq_true, if_false, List.foldl_cons, List.foldl_nil, hfate, hfail]
  rfl

theorem winTurned_spec {s : State} {e c : Nat} {w : WinAcc} (he : e < 4) (hc : c < 16) (hv : s.f (F.PRB_ACC_ERR_VALID e) = 0) :
    ((s.winTurned e c w).eng e).wins = [] ∧ (s.winTurned e c w).f (F.PRB_ACC_ERR_VALID e) = 1
    ∧ (s.winTurned e c w).f (F.PRB_ACC_ERR_CODE e) = c
    ∧ s.frame (s.winTurned e c w) (R.PRB_ACC_ERR e :: mirrorRegs) [] [.prb, .access, .tree] := by
  have haddr : R.PRB_ACC_ERR e ∉ mirrorRegs :=
    (by decide : ∀ e < 4, R.PRB_ACC_ERR e ∉ mirrorRegs) e he
  unfold State.winTurned
  dsimp only
  have hqueued : s.frame ((s.hubMiss (.eng e)).winQueued e w) mirrorRegs [] [.prb, .access, .tree] :=
    ((State.frame.refl s _ _ _).next (frame_setHolding_eng s e none none) (by simp) (by simp)).next (frame_winQueued _ e w)
      (fun a ha => .inl ha) (by simp)
  generalize (s.hubMiss (.eng e)).winQueued e w = u at *
  have hset : s.frame (u.setEng e { u.eng e with wins := [] }) mirrorRegs [] [.prb, .access, .tree] := hqueued.setEng e _ (by simp)
  have hnil : ((u.setEng e { u.eng e with wins := [] }).eng e).wins = [] := by rw [eng_setEng]
  generalize u.setEng e { u.eng e with wins := [] } = v at *
  have hva : v.f (F.PRB_ACC_ERR_VALID e) = 0 := (f_eq_of_frame hset _ haddr (by simp)).trans hv
  obtain ⟨hvalid, hcode⟩ := accErr_spec (result := 0) (id := w.cairn) hva hc
  have hprb : (v.accErr e c 0 w.cairn).eng = v.eng := by
    have h := part_same_of_frame (frame_accErr v e c 0 w.cairn) .prb
    funext x
    exact congrArg (fun p => smGet EngSt.init p.eng x) h
  have htouch := frame_touchWin (v.accErr e c 0 w.cairn) w.cairn
  refine ⟨by rw [eng_touchWin, hprb, hnil], (f_eq_of_frame htouch _ haddr (by simp)).trans hvalid,
    (f_eq_of_frame htouch _ haddr (by simp)).trans hcode, ?_⟩
  exact ((hset.mono (by simp) (by simp) (List.Subset.refl _)).next (frame_accErr v e c 0 w.cairn)
    (fun a ha => .inl (by simp_all)) (by simp)).next htouch (fun a ha => .inl (by simp [ha])) (by simp)

/-! #### Hub registers (R220) -/

/-- What an engine's access leaves of the engines' windows and waits. -/
theorem waits_hubMiss (s : State) (e x : Nat) : ((s.hubMiss (.eng e)).eng x).wins = (s.eng x).wins
    ∧ (s.hubMiss (.eng e)).stallOf x = s.stallOf x := by
  by_cases hx : x = e
  · subst hx
    have heng : (s.hubMiss (.eng x)).eng x = { s.eng x with capHi := none, heldLo := none } := eng_setEng _
    exact ⟨by rw [heng], by unfold State.stallOf; rw [heng]; rfl⟩
  · have heng : (s.hubMiss (.eng e)).eng x = s.eng x := smGet_smSet_ne _ _ fun h => hx h
    exact ⟨by rw [heng], by unfold State.stallOf; rw [heng]; rfl⟩

@[simp] theorem shown_hubMiss (s : State) (e : Nat) (g : Agent) (a : Nat) : (s.hubMiss (.eng e)).shown g a = s.shown g a := by
  obtain ⟨hwins, hstall⟩ := waits_hubMiss s e (a / 0x1000 - 3)
  delta State.shown
  dsimp only
  rw [hwins, hstall]
  rfl

theorem perMaster_hubMiss (s : State) (e a : Nat) : perMaster (s.hubMiss (.eng e)) a = perMaster s a := by
  rfl

/-- An engine's read of a plain register gives what it holds. -/
theorem hubDo_engRead {s : State} {e a : Nat} {r : RegRow} (hhead : 0x40 ≤ a % 0x1000) (hrow : hubRow a = some r) (hacc : r.acc ≠ .wo)
    (hshown : s.shown (.eng e) a = none) (hper : perMaster s a = false) (hlag : a ≠ R.WCH_LAG_SEL) (hcap : (s.eng e).capHi = none) :
    (s.hubDo (.eng e) a false 0).2 = s.rd a ∧ s.frame (s.hubDo (.eng e) a false 0).1 [] [] [.prb] := by
  have hread : (s.hubMiss (.eng e)).regRead (.eng e) a = (s.hubMiss (.eng e), s.rd a) := by
    simp only [State.regRead, State.engRead, shown_hubMiss, perMaster_hubMiss, if_neg (show ¬a % 0x1000 < 0x40 by omega), hshown, hlag, hper,
      hrow, hacc, if_false, Bool.false_eq_true]
    rfl
  have hmiss : s.frame (s.hubMiss (.eng e)) [] [] [.prb] := frame_setHolding_eng s e none none
  have hdo : s.hubDo (.eng e) a false 0 = if hubLo a then ((s.hubMiss (.eng e)).setHolding (.eng e)
      (some (a + 4, ((s.hubMiss (.eng e)).regRead (.eng e) (a + 4)).2)) none, s.rd a) else (s.hubMiss (.eng e), s.rd a) := by
    simp only [State.hubMiss] at hread
    simp only [State.hubDo, State.holding, hcap, Bool.false_eq_true, if_false, hread, State.hubMiss]
  rw [hdo]
  split
  · exact ⟨rfl, hmiss.next (frame_setHolding_eng _ e _ _) (by simp) (by simp)⟩
  · exact ⟨rfl, hmiss⟩

/-- What a mask takes out of a word shows none of the mask's bits. -/
theorem land_sub_land_self {x m : Nat} (hx : x < 2 ^ 32) (hm : m < 2 ^ 32) : (x - (x &&& m)) &&& m = 0 := by
  have hsum (a b : BitVec 32) : (a - (a &&& b)) &&& b = 0#32 := by
    have hadd : a = (a &&& ~~~b) + (a &&& b) := by
      rw [BitVec.add_eq_or_of_and_eq_zero] <;> · ext i; simp; cases a[i] <;> cases b[i] <;> simp
    have hsub : a - (a &&& b) = a &&& ~~~b := by
      conv_lhs => lhs; rw [hadd]
      exact BitVec.add_sub_cancel _ _
    rw [hsub]
    ext i
    simp
  have h := congrArg BitVec.toNat (hsum (BitVec.ofNat 32 x) (BitVec.ofNat 32 m))
  rw [BitVec.toNat_and, BitVec.toNat_sub_of_le, BitVec.toNat_and] at h
  · simpa [show x % 4294967296 = x from Nat.mod_eq_of_lt hx, show m % 4294967296 = m from Nat.mod_eq_of_lt hm] using h
  · rw [BitVec.le_def, BitVec.toNat_and]
    exact Nat.and_le_left

/-- A plain register holds, under its mask, the bits written. -/
theorem putReg_rw {s : State} {g : Agent} {a v : Nat} {r : RegRow} (hrow : hubRow a = some r) (hacc : r.acc = .rw) (hbank : r.banked = false)
    (hmask : r.mask < 2 ^ 32) (hv : v < 2 ^ 32) : Nat.land ((s.putReg g a v).rd a) r.mask = Nat.land v r.mask
    ∧ s.frame (s.putReg g a v) [a] [] [] := by
  have hput : s.putReg g a v = s.wr a (Nat.lor (Nat.land v r.mask) (s.rd a - Nat.land (s.rd a) r.mask)) := by
    simp only [State.putReg, hrow, hacc, hbank, Bool.false_eq_true, if_false]
  rw [hput, rd_wr_same]
  refine ⟨?_, (State.frame.refl s _ _ _).wr _ _ (.inl (by simp))⟩
  have hold : s.rd a < 2 ^ 32 := (smGet 0 s.regs a).isLt
  change ((v &&& r.mask) ||| (s.rd a - (s.rd a &&& r.mask))) % 2 ^ 32 &&& r.mask = v &&& r.mask
  have hlt : (v &&& r.mask) ||| (s.rd a - (s.rd a &&& r.mask)) < 2 ^ 32 :=
    Nat.or_lt_two_pow (lt_of_le_of_lt Nat.and_le_left hv) (lt_of_le_of_lt (Nat.sub_le _ _) hold)
  rw [Nat.mod_eq_of_lt hlt, Nat.and_or_distrib_right, land_sub_land_self hold hmask, Nat.or_zero, Nat.and_assoc, Nat.and_self]

/-- The registers that a Pitch engine writes as plain ones (07 R220). -/
def hwrPlain : List Nat := [R.RDG_EPOCH_INT, R.SCR_FLOW_EN 0, R.SCR_FLOW_EN 7]

theorem hwrPlain_row {x : Nat} (hx : x ∈ hwrPlain) : ∀ r, hubRow x = some r → r.acc = .rw ∧ r.banked = false ∧ r.mask < 2 ^ 32 := by
  have h : ∀ x ∈ hwrPlain, ∀ r ∈ hubRow x, r.acc = .rw ∧ r.banked = false ∧ r.mask < 2 ^ 32 := by decide +kernel
  exact fun r hr => h x hx r hr

theorem regWrite_hwrPlain {s : State} {e x v : Nat} (hx : x ∈ hwrPlain) : s.regWrite (.eng e) x v = s.putReg (.eng e) x v := by
  simp only [hwrPlain, List.mem_cons, List.not_mem_nil, or_false] at hx
  rcases hx with rfl | rfl | rfl <;> rfl

theorem hwrPlain_page {x : Nat} (hx : x ∈ hwrPlain) : x % 4 = 0 ∧ x / 0x1000 ≠ 0x20 ∧ hwrClosed (x / 0x1000) = false
    ∧ pageThere (x / 0x1000) = true ∧ hubLo x = false ∧ ∀ e < 4, keepsPc e [x] := by
  have h : ∀ x ∈ hwrPlain, x % 4 = 0 ∧ x / 0x1000 ≠ 0x20 ∧ hwrClosed (x / 0x1000) = false ∧ pageThere (x / 0x1000) = true
      ∧ hubLo x = false ∧ ∀ e < 4, R.PRB_PC e ∉ [x] ∧ R.PRB_RETIRED e ∉ [x] := by decide
  exact h x hx

theorem hubDo_hwrPlain {s : State} {e x v : Nat} (hx : x ∈ hwrPlain) (hheld : (s.eng e).heldLo = none) :
    (s.hubDo (.eng e) x true v).1 = (s.hubMiss (.eng e)).putReg (.eng e) x v := by
  obtain ⟨-, -, -, -, hlo, -⟩ := hwrPlain_page hx
  simp only [State.hubDo, State.holding, hheld, hlo, Bool.false_and, if_true, Bool.false_eq_true, if_false]
  exact regWrite_hwrPlain hx

/-! #### The end of a wait -/

theorem runs_waitEnd_none (hon : s.rst.on = true) (he : e < 4) (hend : s.waitEnd e = (s.waitDone e).goOn e) : runs (.waitEnd e) s fun t =>
    t.engState e = 1 ∧ (t.eng e).wait = none ∧ s.retired t e (s.pc e + 1) [] [R.PRB_STAT e, R.PRB_STALL e] [.prb] := by
  obtain ⟨hstate, hwait⟩ := waitDone_spec s e
  have hret := retired_goOn_of_frame (frame_waitDone s e) (keepsPc_stat e)
  refine runs_waitEnd hon he (hend ▸ hret.frame) (by simp) (hend ▸ ⟨?_, hwait, hret⟩)
  rw [State.engState, f_goOn _ (notMem_pcs_stat e)]
  exact hstate

theorem waitEnd_pSet_spec {d : BitVec 4} {v : Nat} (he : e < 4) (hend : s.waitEnd e = (s.waitDone e).pSet e d v) :
    (s.waitEnd e).engState e = 1 ∧ (s.waitEnd e).p e d.toNat = v % 2 ^ 64
    ∧ s.retired (s.waitEnd e) e (s.pc e + 1) [d.toNat] [R.PRB_STAT e, R.PRB_STALL e] [.prb] := by
  obtain ⟨hstate, -⟩ := waitDone_spec s e
  rw [hend]
  refine ⟨?_, p_pSet _ e v d, retired_pSet_of_frame (frame_waitDone s e) (keepsPc_stat e) d v⟩
  rw [State.engState, f_pSet d v _ (notMem_pcs_stat e) (notMem_pRegs_of_lt (by simp [F.PRB_STAT_STATE, R.PRB_P, R.PRB_STAT]))]
  exact hstate

/-! #### The statement -/

theorem hubAddr_eq (s : State) (e : Nat) (a : BitVec 4) (imm : BitVec 18) :
    s.hubAddr e a imm = (s.p e a.toNat + 4 * imm.toNat) % 2 ^ 20 := by
  rw [State.hubAddr, Nat.mul_comm imm.toNat 4]

theorem runs_errs {d : BitVec 4} (h : s.issues e (.errs d) = true) : runs (.errs e) s fun t =>
    t.p e d.toNat = s.rd (R.PRB_ACC_ERR e) ∧ t.rd (R.PRB_ACC_ERR e) = 0 ∧ s.retired t e (s.pc e + 1) [d.toNat] [R.PRB_ACC_ERR e] [] := by
  have hwr : s.frame (s.wr (R.PRB_ACC_ERR e) 0) [R.PRB_ACC_ERR e] [] [] := (State.frame.refl s _ _ _).wr _ _ (.inl (by simp))
  have hret : s.retired (s.errs e d) e (s.pc e + 1) [d.toNat] [R.PRB_ACC_ERR e] [] :=
    retired_pSet_of_frame hwr (by simp [keepsPc, R.PRB_PC, R.PRB_ACC_ERR, R.PRB_RETIRED]) d _
  have hlt : s.rd (R.PRB_ACC_ERR e) < 2 ^ 32 := (smGet 0 s.regs _).isLt
  refine runs_retired h rfl rfl hret (by simp) ⟨?_, ?_, hret⟩
  · rw [State.errs, p_pSet]
    omega
  · rw [State.errs, rd_pSet _ _ _ (by simp [R.PRB_PC, R.PRB_ACC_ERR, R.PRB_RETIRED])
      (notMem_pRegs_of_lt (by simp [R.PRB_P, R.PRB_ACC_ERR])), rd_wr_same, Nat.zero_mod]

end

/-- Settles O29: each wait and each access of an engine, from what the wait or the access leaves and how the engine goes on. -/
theorem pitchWaitsAndAccesses : Obligations.PitchWaitsAndAccesses := by
  refine ⟨?_, ?_, ?_, ?_, ?_, ?_, ?_, ?_, ?_, ?_, ?_, ?_, ?_, ?_, ?_, ?_⟩
  · intro e a imm s h x
    obtain ⟨hst, hwait, -, hpc, hframe⟩ := waitOn_spec s e (.time x)
    have haddr : s.addr e a imm = x := addr_eq s e a imm
    have hf : s.waitt e (s.addr e a imm) = if x ≤ s.now then s.goOn e else s.waitOn e (.time x) := by rw [haddr]; rfl
    exact runs_wait h rfl rfl hf (retired_goOn s e) (fun hx => ⟨fun _ => retired_goOn s e, fun hn => by omega⟩)
      fun hx => ⟨fun hn => by omega, fun _ => ⟨hst, hwait, hpc, hframe⟩⟩
  · intro e s h
    obtain ⟨hst, hwait, -, hpc, hframe⟩ := waitOn_spec s e .windows
    exact runs_wait h rfl rfl rfl (retired_goOn s e) (fun hx => ⟨fun _ => retired_goOn s e, fun hn => by simp_all⟩)
      fun hx => ⟨fun hn => by simp_all, fun _ => ⟨hst, hwait, hpc, hframe⟩⟩
  · intro e d a b s h w
    obtain ⟨hst, -, -, hpc, hframe⟩ := waitOn_spec s e (.job (s.p e a.toNat % 65536) (s.p e b.toNat) d.toNat)
    exact runs_wait (p := w % 16 ≠ 1 ∨ s.p e b.toNat ≤ s.now) h rfl rfl rfl (retired_pSet s e w d)
      (fun hx => ⟨fun _ => ⟨p_pSet s e w d, retired_pSet s e w d⟩, fun hn => by omega⟩)
      fun hx => ⟨fun hn => absurd hn hx, fun _ => ⟨hst, hpc, hframe⟩⟩
  · intro e d a ch s h
    obtain ⟨hst, hwait, hseen, hpc, hframe⟩ := waitOn_spec s e (.chan ch.toNat (s.p e a.toNat) d.toNat)
    exact runs_wait h rfl rfl rfl (retired_pSet s e 0 d) (fun hx => ⟨fun _ => ⟨p_pSet s e 0 d, retired_pSet s e 0 d⟩, fun hn => by omega⟩)
      fun hx => ⟨fun hn => by omega, fun _ => ⟨hst, hwait, hseen, hpc, hframe⟩⟩
  · intro e x s hon he hst hwait hx
    have hend : s.waitEnd e = (s.waitDone e).goOn e := waitEnd_eq (r := none) hst hwait (if_pos hx)
    exact runs_waitEnd_none hon he hend
  · intro e ch x d s hon he hst hwait hd hx
    have hover : s.waitOver e (.chan ch x d) = some (some (d, if (s.eng e).chSeen = [] then 0 else 1)) := by
      by_cases hseen : (s.eng e).chSeen = []
      · simp [State.waitOver, hseen, hx.resolve_left (not_not.2 hseen)]
      · simp [State.waitOver, hseen]
    have hbit : (BitVec.ofNat 4 d).toNat = d := by
      rw [BitVec.toNat_ofNat]
      omega
    have hend : s.waitEnd e = (s.waitDone e).pSet e (BitVec.ofNat 4 d) (if (s.eng e).chSeen = [] then 0 else 1) := by
      rw [waitEnd_eq hst hwait hover, State.pSet, hbit]
    obtain ⟨hstate, hp, hret⟩ := waitEnd_pSet_spec (s := s) he hend
    rw [hbit] at hp hret
    exact runs_waitEnd hon he hret.frame (by simp) ⟨hstate, by rw [hp]; split <;> rfl, hret⟩
  · intro e x s hon he hst hwait hx
    have hend : s.waitEnd e = s := by
      rw [State.waitEnd, if_neg (not_not.2 hst)]
      simp only [hwait, State.waitOver, if_neg (show ¬x ≤ s.now by omega)]
    exact runs_waitEnd (r := []) (g := []) (q := []) hon he (hend.symm ▸ State.frame.refl s _ _ _) (by simp) hend
  · intro e d a off s halign hall w h hcode
    exact runs_winIssue (f := fun s => s.crd e d a off.toNat) h rfl rfl (if_neg (by omega)) hcode rfl hall
  · intro e d a off s halign hall w h hcode
    exact runs_winIssue (f := fun s => s.cwr e d a off.toNat) h rfl rfl (if_neg (by omega)) hcode rfl hall
  · intro e d a b sp wide s halign hall w h hcode
    have hok : viewAligned (wide == 1) (s.p e b.toNat) = true := by simpa [viewAligned] using halign
    exact runs_winIssue (f := fun s => s.vrd e d a sp.toNat (s.p e b.toNat) (wide == 1)) h rfl rfl (if_neg (by rw [hok]; decide)) hcode rfl hall
  · intro e d a b sp wide s halign hall w h hcode
    have hok : viewAligned (wide == 1) (s.p e b.toNat) = true := by simpa [viewAligned] using halign
    exact runs_winIssue (f := fun s => s.vwr e d a sp.toNat (s.p e b.toNat) (wide == 1)) h rfl rfl (if_neg (by rw [hok]; decide)) hcode rfl hall
  · intro e c d a off s halign hno h hv hcode
    obtain ⟨-, he, -⟩ := issues_iff.1 h
    generalize hw : (⟨some d.toNat, s.p e a.toNat % 4096, false, 0, off.toNat, false, 0, s.clk, 0, 0, none, false⟩ : WinAcc) = w at hcode
    have hend : s.crd e d a off.toNat = (s.winTurned e c { s.winSent e w with fate := some c }).pSet e d 0 := by
      rw [State.crd, if_neg (not_not.2 halign), ← winEnter_of_some hcode (by rw [← hw]) hno, ← hw]
      rfl
    obtain ⟨hwins, hvalid, hcd, hframe⟩ := winTurned_spec (w := { s.winSent e w with fate := some c }) he (winCode_lt hcode) hv
    have hret := retired_pSet_of_frame hframe (keepsPc_accErr_mirror he) d 0
    have hpc : R.PRB_ACC_ERR e ∉ [R.PRB_PC e, R.PRB_RETIRED e] := by simp [R.PRB_PC, R.PRB_ACC_ERR, R.PRB_RETIRED]
    have hp : R.PRB_ACC_ERR e ∉ pRegs e d.toNat := notMem_pRegs_of_lt (by simp [R.PRB_P, R.PRB_ACC_ERR])
    refine runs_retired (f := fun s => s.crd e d a off.toNat) h rfl rfl (hend ▸ hret) (by simp)
      (hend ▸ ⟨hwins, p_pSet _ e 0 d, ?_, ?_, hret⟩)
    · rw [f_pSet d 0 (F.PRB_ACC_ERR_VALID e) hpc hp, hvalid]
    · rw [f_pSet d 0 (F.PRB_ACC_ERR_CODE e) hpc hp, hcd]
  · exact fun e d s h => runs_errs h
  · intro e d a imm r s h x halign hrst hpage hcode hhead hrow hacc hshown hper hlag hcap
    have haddr : s.hubAddr e a imm = x := hubAddr_eq s e a imm
    have hdo : s.hrd e d (s.hubAddr e a imm) = (s.hubDo (.eng e) x false 0).1.pSet e d (s.hubDo (.eng e) x false 0).2 := by
      rw [haddr, State.hrd, if_neg (not_not.2 halign)]
      simp [State.engHub, hrst, hpage, hcode]
    obtain ⟨hval, hframe⟩ := hubDo_engRead hhead hrow hacc hshown hper hlag hcap
    have hret := retired_pSet_of_frame (e := e) hframe (by simp [keepsPc]) d (s.hubDo (.eng e) x false 0).2
    have hlt : s.rd x < 2 ^ 32 := (smGet 0 s.regs _).isLt
    refine runs_retired (f := fun s => s.hrd e d (s.hubAddr e a imm)) h rfl rfl (hdo ▸ hret) (by simp) (hdo ▸ ⟨?_, hret⟩)
    rw [p_pSet, hval]
    omega
  · intro e d a imm r s h x hx hrow hrst hmay hheld
    obtain ⟨-, he, -⟩ := issues_iff.1 h
    have haddr : s.hubAddr e a imm = x := hubAddr_eq s e a imm
    obtain ⟨halign, hpage, hopen, hthere, -, hkeep⟩ := hwrPlain_page hx
    obtain ⟨hacc, hbank, hmask⟩ := hwrPlain_row hx r hrow
    have hdo : s.hwr e d (s.hubAddr e a imm) = ((s.hubMiss (.eng e)).putReg (.eng e) x (s.p e d.toNat % 2 ^ 32)).goOn e := by
      have hcode : s.hubCode (.eng e) x true (s.p e d.toNat % 2 ^ 32) = codeOk := by
        simp [State.hubCode, hthere, hmay, deniedWrite]
      rw [haddr, State.hwr, if_neg (not_not.2 halign), ← hubDo_hwrPlain hx hheld]
      simp only [State.engHub, hrst, hpage, hopen, hcode, Bool.and_false, Bool.false_eq_true, if_false, if_true]
    have hlt : s.p e d.toNat % 2 ^ 32 < 2 ^ 32 := Nat.mod_lt _ (by decide)
    obtain ⟨hval, hframe⟩ := putReg_rw (s := s.hubMiss (.eng e)) (g := .eng e) hrow hacc hbank hmask hlt
    have hret := retired_goOn_of_frame (((frame_setHolding_eng s e none none).mono (by simp) (by simp) (List.Subset.refl _)).next hframe
      (fun y hy => .inl hy) (by simp)) (hkeep e he)
    have hne : x ∉ [R.PRB_PC e, R.PRB_RETIRED e] := keepsPc_singleton.1 (hkeep e he)
    exact runs_retired (f := fun s => s.hwr e d (s.hubAddr e a imm)) h rfl rfl (hdo ▸ hret) (by simp)
      (hdo ▸ ⟨by rw [rd_goOn _ hne]; exact hval, hret⟩)
  · intro e d a imm s h x halign hrst hpage hv
    have haddr : s.hubAddr e a imm = x := hubAddr_eq s e a imm
    have hdo : s.hwr e d (s.hubAddr e a imm) = ((s.hubMiss (.eng e)).accErr e codeRights 0 0).goOn e := by
      rw [haddr, State.hwr, if_neg (not_not.2 halign)]
      simp +decide [State.engHub, hrst, hpage, hwrClosed]
    have hmiss : s.frame (s.hubMiss (.eng e)) [] [] [.prb] := frame_setHolding_eng s e none none
    obtain ⟨hvalid, hcode⟩ := accErr_spec (code := codeRights) (result := 0) (id := 0)
      ((f_eq_of_frame hmiss _ (by simp) (by simp)).trans hv) (by decide)
    have hframe := (hmiss.mono (g' := []) (by simp) (by simp) (List.Subset.refl _)).next (frame_accErr (s.hubMiss (.eng e)) e codeRights 0 0)
      (fun y hy => .inl hy) (by simp)
    have hpc : R.PRB_ACC_ERR e ∉ [R.PRB_PC e, R.PRB_RETIRED e] := by simp [R.PRB_PC, R.PRB_ACC_ERR, R.PRB_RETIRED]
    have hret := retired_goOn_of_frame (e := e) hframe (by simp [keepsPc, R.PRB_PC, R.PRB_ACC_ERR, R.PRB_RETIRED])
    exact runs_retired (f := fun s => s.hwr e d (s.hubAddr e a imm)) h rfl rfl (hdo ▸ hret) (by simp)
      (hdo ▸ ⟨(f_goOn (F.PRB_ACC_ERR_VALID e) hpc).trans hvalid, (f_goOn (F.PRB_ACC_ERR_CODE e) hpc).trans hcode, hret⟩)

end Sys2Proof.Machine
end

section
/-! PROOFS: O50, the frames that the port sends (15 R467). -/

namespace Sys2Proof.Machine
set_option Elab.async false

section
variable (s : State)

theorem frame_txDone (f : Frame) : s.frame (s.txDone f) [R.PASS_FRM_TX] [] [.pass] :=
  ((State.frame.refl s _ _ _).bump _ (.inl (by simp))).andThen (frame_modPass _ _)

theorem frmTx_txDone (f : Frame) : (s.txDone f).rd R.PASS_FRM_TX = (s.rd R.PASS_FRM_TX + 1) % 2 ^ 32 := by
  simp [State.txDone, State.modPass, State.bump]

theorem pass_txDone (f : Frame) : (s.txDone f).pass = { s.pass with lastTx := some f, ackDue := false, nakDue := false } := rfl

/-- What holds a port back from sending does not hold. -/
theorem not_held (h : s.pass.train = none ∨ s.helloDue = true) (hs : s.sess = sessLanes) (hidle : s.pass.idle0 = false ∨ s.pass.idle1 = false) :
    ¬((s.pass.train.isSome = true ∧ (!s.helloDue) = true) ∨ s.sess = sessTap
      ∨ (s.sess ≠ sessRelay ∧ s.pass.idle0 = true ∧ s.pass.idle1 = true)) := by
  rw [hs]
  rintro (⟨htr, hello⟩ | hs | ⟨-, h0, h1⟩)
  · rcases h with h | h
    · rw [h] at htr
      cases htr
    · rw [h] at hello
      cases hello
  · exact absurd hs (by decide)
  · rcases hidle with hi | hi
    · exact absurd (h0.symm.trans hi) (by decide)
    · exact absurd (h1.symm.trans hi) (by decide)

/-- The frame that goes again, and what the port keeps of it. -/
theorem runs_frameSend_again {i : Nat} {f : Frame} (hon : s.rst.on = true) (hport : s.heldSeq 5 = false) (hs : s.sess = sessLanes)
    (htr : s.pass.train = none ∨ s.helloDue = true) (hidle : s.pass.idle0 = false ∨ s.pass.idle1 = false) (hf : s.sending = .again i f) :
    (f.retx < 15 → runs .frameSend s fun t =>
        t.f F.PASS_RETX_CNT = min (s.f F.PASS_RETX_CNT + 1) 65535 ∧ t.rd R.PASS_FRM_TX = (s.rd R.PASS_FRM_TX + 1) % 2 ^ 32
        ∧ t.pass = { s.pass with
          unacked := s.pass.unacked.set i { f with retx := f.retx + 1 }, resend := i + 1, lastTx := some { f with retx := f.retx + 1 }, ackDue := false,
          nakDue := false }
        ∧ s.frame t [R.PASS_RETX, R.PASS_FRM_TX] [] [.pass])
    ∧ (f.retx = 15 → runs .frameSend s fun t =>
        s.sessOver t 2 ∧ t.rd R.PASS_FRM_TX = (s.rd R.PASS_FRM_TX + 1) % 2 ^ 32
        ∧ s.frame t (sessRegs ++ [R.PASS_RETX, R.PASS_FRM_TX]) [8, 0xB] [.intq, .pass, .cou, .scr]) := by
  have hsend : s.frameSend = if f.retx + 1 = 16 then (((s.satAdd F.PASS_RETX_CNT 1).txDone { f with retx := f.retx + 1 }).modPass
      fun p => { p with unacked := p.unacked.set i { f with retx := f.retx + 1 }, resend := i + 1 }).sessEnd seLink
      else ((s.satAdd F.PASS_RETX_CNT 1).txDone { f with retx := f.retx + 1 }).modPass
        fun p => { p with unacked := p.unacked.set i { f with retx := f.retx + 1 }, resend := i + 1 } := by
    rw [State.frameSend, if_neg (not_held s htr hs hidle), hf]
  generalize hu : ((s.satAdd F.PASS_RETX_CNT 1).txDone { f with retx := f.retx + 1 }).modPass
    (fun p => { p with unacked := p.unacked.set i { f with retx := f.retx + 1 }, resend := i + 1 }) = u at hsend
  have hframe : s.frame u [R.PASS_RETX, R.PASS_FRM_TX] [] [.pass] := by
    rw [← hu]
    exact (((State.frame.refl s _ _ _).satAdd _ _ (.inl (by simp [F.PASS_RETX_CNT]))).andThen (frame_txDone _ _)).andThen (frame_modPass _ _)
  have htx : u.rd R.PASS_FRM_TX = (s.rd R.PASS_FRM_TX + 1) % 2 ^ 32 := by
    have hkeep : (s.satAdd F.PASS_RETX_CNT 1).rd R.PASS_FRM_TX = s.rd R.PASS_FRM_TX := rd_setF_ne _ _ _ (by decide)
    rw [← hu, ← hkeep]
    exact frmTx_txDone (s.satAdd F.PASS_RETX_CNT 1) { f with retx := f.retx + 1 }
  have hretx : u.f F.PASS_RETX_CNT = min (s.f F.PASS_RETX_CNT + 1) 65535 := by
    have hcnt : (s.satAdd F.PASS_RETX_CNT 1).f F.PASS_RETX_CNT = min (s.f F.PASS_RETX_CNT + 1) 65535 := by
      rw [State.satAdd, f_setF_same _ _ _ (by decide)]
      simp only [F.PASS_RETX_CNT]
      omega
    rw [← hu, ← hcnt]
    exact f_eq_of_frame ((frame_txDone (s.satAdd F.PASS_RETX_CNT 1) _).andThen (frame_modPass _ _)) F.PASS_RETX_CNT
  constructor
  · intro hlt
    rw [if_neg (by omega)] at hsend
    refine runs_inPort rfl hon hport (hsend ▸ hframe) (by decide) (hsend ▸ ⟨hretx, htx, ?_, hframe⟩)
    rw [← hu]
    rfl
  · intro h15
    rw [if_pos (by omega)] at hsend
    have hsess : u.sess = s.sess := f_eq_of_frame hframe F.PASS_STAT_SESSION
    have hne : u.sess ≠ sessNone := by rw [hsess, hs]; decide
    have hend := frame_sessEnd (s := u) seLink hne
    have hall : s.frame (u.sessEnd seLink) (sessRegs ++ [R.PASS_RETX, R.PASS_FRM_TX]) [8, 0xB] [.intq, .pass, .cou, .scr] :=
      ((State.frame.refl s _ _ _).andThen hframe (by simp) (by simp) (by simp)).andThen hend (fun a ha => .inl (List.mem_append_left _ ha)) (by simp) (by simp)
    have hover := sessOver_sessEnd (s := u) seLink hne
    refine runs_inPort rfl hon hport (hsend ▸ hall) (by decide) (hsend ▸ ⟨?_, (rd_eq_of_frame hend R.PASS_FRM_TX).trans htx, hall⟩)
    have hnow : u.now = s.now := congrArg RdgSt.now (part_same_of_frame hframe .rdg)
    have hid : u.f F.PASS_STAT_SESSION_ID = s.f F.PASS_STAT_SESSION_ID := f_eq_of_frame hframe F.PASS_STAT_SESSION_ID
    unfold State.sessOver State.ev at hover ⊢
    rwa [hsess, hnow, hid] at hover

/-- A new frame goes under the next FSEQ. -/
theorem runs_frameSend_fresh {f : Frame} (hon : s.rst.on = true) (hport : s.heldSeq 5 = false) (hs : s.sess = sessLanes)
    (htr : s.pass.train = none ∨ s.helloDue = true) (hidle : s.pass.idle0 = false ∨ s.pass.idle1 = false) (hf : s.sending = .fresh f) :
    runs .frameSend s fun t =>
      t.rd R.PASS_FRM_TX = (s.rd R.PASS_FRM_TX + 1) % 2 ^ 32 ∧ t.pass.sendq = s.pass.sendq.erase f
      ∧ t.pass.unacked = s.pass.unacked ++ [{ f with fseq := s.pass.txNext }] ∧ t.pass.txNext = (s.pass.txNext + 1) % 65536
      ∧ t.pass.lastTx = some { f with fseq := s.pass.txNext } ∧ t.pass.ackDue = false ∧ t.pass.nakDue = false
      ∧ s.frame t [R.PASS_FRM_TX] [] [.pass] := by
  have hkeep : (s.sess == sessLanes) = true := by rw [hs]; rfl
  have hsend : s.frameSend = (s.txDone { f with fseq := s.pass.txNext }).modPass fun p => { p with
      sendq := p.sendq.erase f, txNext := (p.txNext + 1) % 65536, progT := if p.unacked.isEmpty then s.clk else p.progT,
      unacked := p.unacked ++ [{ f with fseq := s.pass.txNext }], resend := p.unacked.length + 1 } := by
    rw [State.frameSend, if_neg (not_held s htr hs hidle), hf]
    dsimp only
    rw [hkeep]
    rfl
  have hframe : s.frame s.frameSend [R.PASS_FRM_TX] [] [.pass] := by
    rw [hsend]
    exact ((State.frame.refl s _ _ _).andThen (frame_txDone _ _)).andThen (frame_modPass _ _)
  refine runs_inPort rfl hon hport hframe (by decide) (hsend ▸ ⟨frmTx_txDone s { f with fseq := s.pass.txNext }, rfl, rfl, rfl, rfl, rfl, rfl, ?_⟩)
  exact ((State.frame.refl s _ _ _).andThen (frame_txDone _ _)).andThen (frame_modPass _ _)

theorem runs_frameSend_ack (hon : s.rst.on = true) (hport : s.heldSeq 5 = false) (hs : s.sess = sessLanes)
    (htr : s.pass.train = none ∨ s.helloDue = true) (hidle : s.pass.idle0 = false ∨ s.pass.idle1 = false) (hf : s.sending = .ackOnly) :
    runs .frameSend s fun t =>
      t.rd R.PASS_FRM_TX = (s.rd R.PASS_FRM_TX + 1) % 2 ^ 32 ∧ t.pass.ackDue = false ∧ t.pass.nakDue = false ∧ t.pass.txNext = s.pass.txNext
      ∧ t.pass.sendq = s.pass.sendq ∧ t.pass.unacked = s.pass.unacked ∧ s.frame t [R.PASS_FRM_TX] [] [.pass] := by
  have hsend : s.frameSend = s.txDone ⟨0x05, 2, s.ownDev, [], 0, 0⟩ := by
    rw [State.frameSend, if_neg (not_held s htr hs hidle), hf]
  have hframe := frame_txDone s ⟨0x05, 2, s.ownDev, [], 0, 0⟩
  exact runs_inPort rfl hon hport (hsend ▸ hframe) (by decide) (hsend ▸ ⟨frmTx_txDone s _, rfl, rfl, rfl, rfl, rfl, hframe⟩)

/-! #### Which frame is next -/

theorem foldl_min_le (l : List Frame) (n : Nat) :
    l.foldl (fun n f => min n f.cls) n ≤ n ∧ ∀ g ∈ l, l.foldl (fun n f => min n f.cls) n ≤ g.cls := by
  induction l generalizing n with
  | nil => simp
  | cons f fs ih =>
    obtain ⟨hn, hg⟩ := ih (min n f.cls)
    refine ⟨hn.trans (min_le_left _ _), fun g hm => ?_⟩
    rcases List.mem_cons.mp hm with rfl | hm
    · exact hn.trans (min_le_right _ _)
    · exact hg g hm

/-- The next frame is one of the least class. -/
theorem nextFrame_spec {l : List Frame} {last : Nat} {f : Frame} (h : nextFrame l last = some f) : f ∈ l ∧ ∀ g ∈ l, f.cls ≤ g.cls := by
  have hpool : ∀ p : Bool, f ∈ (if p then l.filter (fun f => f.cls == leastClass l)
      else (l.filter fun f => f.cls == leastClass l).filter fun f => decide (last < f.dev)) → f ∈ l ∧ f.cls = leastClass l := by
    intro p hp
    cases p <;> simp_all
  obtain ⟨hmem, hcls⟩ := hpool _ (List.mem_of_find?_eq_some h)
  exact ⟨hmem, fun g hg => hcls ▸ (foldl_min_le l 6).2 g hg⟩

theorem sending_again {s : State} (h : s.pass.resend < s.pass.unacked.length) :
    ∃ f, s.sending = .again s.pass.resend f ∧ s.pass.unacked[s.pass.resend]? = some f := by
  have hget : s.pass.unacked[s.pass.resend]? = some s.pass.unacked[s.pass.resend] := List.getElem?_eq_getElem h
  exact ⟨_, by simp only [State.sending, hget], hget⟩

theorem sending_fresh {s : State} {f : Frame} (h : s.sending = .fresh f) :
    f ∈ s.pass.sendq ∧ s.pass.unacked.length < 64 ∧ ∀ g ∈ s.pass.sendq, f.cls ≤ g.cls := by
  unfold State.sending at h
  dsimp only at h
  split at h
  · cases h
  next =>
    split at h
    next g hg =>
      obtain rfl : g = f := by cases h; rfl
      split at hg
      next hlen =>
        obtain ⟨hmem, hle⟩ := nextFrame_spec hg
        exact ⟨hmem, hlen, hle⟩
      next => cases hg
    next => split at h <;> cases h

end

/-- Settles O50: what the port sends next, frame by frame, and when it sends again. -/
theorem passFramesOut : Obligations.PassFramesOut := by
  refine ⟨?_, fun s => sending_again, fun s f => sending_fresh, ?_, ?_, ?_⟩
  · intro s hon hport hs htr hidle
    refine ⟨?_, ?_, fun f hf => runs_frameSend_fresh s hon hport hs htr hidle hf, runs_frameSend_ack s hon hport hs htr hidle, ?_⟩
    · exact fun i f hf => (runs_frameSend_again s hon hport hs htr hidle hf).1
    · exact fun i f hf => (runs_frameSend_again s hon hport hs htr hidle hf).2
    · intro hf
      exact runs_inPort_unchanged rfl (by rw [State.frameSend, if_neg (not_held s htr hs hidle), hf])
  · intro s hon hport hs hun ht htr
    have hgo : s.retxTimeout = s.modPass fun p => { p with resend := 0, progT := s.clk } := by
      simp [State.retxTimeout, hs, hun, ht, htr]
    exact runs_inPort rfl hon hport (hgo ▸ frame_modPass s _) (by decide) (hgo ▸ ⟨rfl, frame_modPass s _⟩)
  · intro s ht
    exact runs_inPort_unchanged rfl (if_neg fun h => by omega)
  · intro x s htr hello
    exact runs_inPort_unchanged rfl (if_pos (.inl ⟨by rw [htr]; rfl, by rw [hello]; rfl⟩))

end Sys2Proof.Machine
end

section
/-! PROOFS: what the trace writer leaves alone: an event's packet touches the SCR page and the trace's own state (10 R321 to R334). -/

namespace Sys2Proof.Machine
set_option Elab.async false

/-- Nothing but the trace's own state, its page and the internal event queue is changed. -/
def State.onlyScr (s t : State) : Prop := s.frame t [] [0xB] [.intq, .scr]

variable {s₀ s : State}

theorem scr_refl (s : State) : s.onlyScr s := State.frame.refl s _ _ _

theorem scr_update (h : s₀.onlyScr s) (x : ScrSt) : s₀.onlyScr { s with scr := x } :=
  State.frame.trans h ⟨rfl, fun _ _ _ => rfl, fun p hp => by cases p <;> simp_all [Part.same]⟩

theorem scr_wr (h : s₀.onlyScr s) (a n : Nat) (ha : a / 0x1000 = 0xB) : s₀.onlyScr (s.wr a n) := State.frame.wr h a n (.inr (by simp [ha]))

theorem scr_setF (h : s₀.onlyScr s) (f : Fld) (n : Nat) (hf : f.addr / 0x1000 = 0xB) : s₀.onlyScr (s.setF f n) :=
  State.frame.setF h f n (.inr (by simp [hf]))

theorem scr_raise (h : s₀.onlyScr s) (n : EvName) (d : List EvVal) (hp : evPage 0x100F n = 0xB) : s₀.onlyScr (s.raise n 0x100F d) :=
  State.frame.raise h n 0x100F d (.inr (by rw [hp]; decide)) (by simp)

theorem scr_ite {p : Prop} [Decidable p] {t u : State} (ht : s₀.onlyScr t) (hu : s₀.onlyScr u) : s₀.onlyScr (if p then t else u) :=
  State.frame.ite (fun _ => ht) fun _ => hu

theorem scr_foldl {α : Type} {f : State → α → State} (l : List α) (hf : ∀ t x, s₀.onlyScr t → s₀.onlyScr (f t x)) (h : s₀.onlyScr s) :
    s₀.onlyScr (l.foldl f s) := foldl_keeps s₀.onlyScr f (fun t x => hf t x) l s h

/-! #### Blocks -/

theorem scr_modBlk (h : s₀.onlyScr s) (g : Blk → Blk) : s₀.onlyScr (s.modBlk g) := scr_update h _

theorem scr_blkOpen (h : s₀.onlyScr s) : s₀.onlyScr s.blkOpen := by
  unfold State.blkOpen
  split
  · exact h
  · exact scr_update h _

theorem scr_blkDone (h : s₀.onlyScr s) : s₀.onlyScr s.blkDone := by
  unfold State.blkDone
  split
  · exact h
  · exact scr_update h _

theorem scr_blkPut (fuel : Nat) {bs : List Byte} {sec : Bool} (h : s₀.onlyScr s) : s₀.onlyScr (State.blkPut fuel s bs sec) := by
  induction fuel generalizing s bs with
  | zero => exact h
  | succ n ih =>
    unfold State.blkPut
    split
    · exact h
    · exact scr_ite (ih (scr_blkDone (scr_modBlk (scr_blkOpen h) _))) (scr_modBlk (scr_blkOpen h) _)

theorem scr_pktPut (h : s₀.onlyScr s) (bs : List Byte) (isSync sec : Bool) : s₀.onlyScr (s.pktPut bs isSync sec) :=
  scr_blkPut 4 (scr_modBlk (scr_blkOpen h) _)

theorem scr_syncPut (h : s₀.onlyScr s) (flags time : Nat) : s₀.onlyScr (s.syncPut flags time) :=
  scr_update (scr_pktPut h _ true false) _

theorem scr_boundary (h : s₀.onlyScr s) : s₀.onlyScr s.boundary := scr_ite (scr_syncPut h 4 _) h

/-! #### Levels -/

theorem scr_pktLost (h : s₀.onlyScr s) : s₀.onlyScr s.pktLost := scr_update (scr_wr h R.SCR_LOST _ rfl) _

theorem scr_gapPut (h : s₀.onlyScr s) (cause lost : Nat) : s₀.onlyScr (s.gapPut cause lost) :=
  scr_ite h (scr_raise (scr_setF (scr_update (scr_syncPut (scr_pktPut (scr_boundary h) _ false false) 2 _) _) F.SCR_GAPS_CNT _ rfl) .traceGap _ rfl)

theorem scr_levelFull (h : s₀.onlyScr s) : s₀.onlyScr s.levelFull :=
  scr_ite h (scr_raise (scr_update (scr_wr (scr_setF h F.SCR_STAT_LEVEL 3 rfl) R.SCR_LOST _ rfl) _) .traceLevel _ rfl)

theorem scr_timedPut (h : s₀.onlyScr s) (p : Pkt) : s₀.onlyScr (s.timedPut p) := by
  have hjump : s₀.onlyScr ((List.range ((p.stamp - s.scr.runT) / 4096 + 1)).foldl (fun s _ =>
      if s.scr.runT + 4095 < p.stamp then
        let s := (s.boundary).pktPut (pktHead 0xB 4095) false false
        { s with scr := { s.scr with runT := s.scr.runT + 4095 } }
      else s) s) :=
    scr_foldl _ (fun t _ ht => scr_ite (scr_update (scr_pktPut (scr_boundary ht) _ false false) _) ht) h
  have hlate : s₀.onlyScr (((s.boundary).pktPut (le 1 3 ++ le 8 p.stamp) false false).satAdd F.SCR_LATE_CNT 1) :=
    scr_setF (scr_pktPut (scr_boundary h) _ false false) F.SCR_LATE_CNT _ rfl
  exact scr_update (scr_pktPut (scr_boundary (scr_ite hlate hjump)) _ false _) _

theorem scr_pktWrite (h : s₀.onlyScr s) (p : Pkt) : s₀.onlyScr (s.pktWrite p) :=
  scr_ite h (scr_ite (scr_pktLost h) (scr_ite (scr_wr h R.SCR_DROP _ rfl) (scr_ite (scr_pktLost (scr_levelFull h))
    (scr_ite (scr_syncPut h _ _) (scr_timedPut h p)))))

theorem scr_stageIn (h : s₀.onlyScr s) (p : Pkt) : s₀.onlyScr (s.stageIn p) := scr_update h _

theorem scr_stageRoomFor (h : s₀.onlyScr s) : s₀.onlyScr s.stageRoomFor := by
  unfold State.stageRoomFor
  refine scr_ite h ?_
  split
  · exact h
  · exact scr_pktWrite (scr_update h _) _

theorem scr_stateIn (h : s₀.onlyScr s) (t cause : Nat) : s₀.onlyScr (s.stateIn t cause) := scr_stageIn (scr_stageRoomFor h) _

theorem scr_levelSet (h : s₀.onlyScr s) (v : Nat) : s₀.onlyScr (s.levelSet v) := by
  have hset := scr_setF h F.SCR_STAT_LEVEL v rfl
  have hgap (lost : Nat) := scr_ite (p := s.f F.SCR_STAT_LEVEL = 3) (scr_update (scr_gapPut hset 1 lost)
    { ((s.setF F.SCR_STAT_LEVEL v).gapPut 1 lost).scr with lostNow := 0 }) hset
  exact scr_ite h (scr_ite (scr_levelFull h) (scr_raise (scr_ite (hgap _) (scr_stateIn (hgap _) _ 2)) .traceLevel _ rfl))

theorem scr_scrShow (h : s₀.onlyScr s) : s₀.onlyScr s.scrShow := State.frame.andThen h (frame_scrShow s)

theorem scr_levelFit (h : s₀.onlyScr s) : s₀.onlyScr s.levelFit := scr_scrShow (scr_levelSet h _)

theorem scr_flushEnd (h : s₀.onlyScr s) : s₀.onlyScr s.flushEnd := by
  unfold State.flushEnd
  split
  next t _ =>
    refine scr_ite (scr_levelFit ?_) h
    split
    · exact scr_ite (scr_update h _) (scr_blkDone (scr_update h _))
    · exact scr_update h _
  next => exact h

theorem scr_writeOne (h : s₀.onlyScr s) (full : Bool) : s₀.onlyScr (s.writeOne full) := by
  have hflush := scr_flushEnd h
  unfold State.writeOne
  dsimp only
  split
  · exact hflush
  · exact scr_ite (scr_flushEnd (scr_levelFit (scr_pktWrite (scr_update hflush _) _))) hflush

theorem scr_stagePkt (h : s₀.onlyScr s) (p : Pkt) : s₀.onlyScr (s.stagePkt p) :=
  scr_ite h (scr_stageIn (scr_ite h (scr_writeOne h true)) p)

/-! #### An event's packet -/

theorem scr_eventPkt (h : s₀.onlyScr s) (n : NumEv) (hide sec : Bool) : s₀.onlyScr (s.eventPkt n hide sec) := scr_stagePkt h _

theorem scr_secBegin (h : s₀.onlyScr s) (t u : Nat) : s₀.onlyScr (s.secBegin t u) := scr_ite h (scr_update h _)

theorem scr_secEnd (h : s₀.onlyScr s) (n : NumEv) (u : Nat) : s₀.onlyScr (s.secEnd n u) := by
  unfold State.secEnd
  split
  · exact h
  · exact scr_update (scr_ite h (scr_stagePkt h _)) _

/-- What a numbered event leaves alone when the trace takes it. -/
theorem scr_scrEvent (h : s₀.onlyScr s) (n : NumEv) : s₀.onlyScr (s.scrEvent n) := by
  unfold State.scrEvent
  dsimp only
  split
  · refine scr_ite ?_ (scr_eventPkt (scr_secEnd h n _) n false false)
    exact scr_ite (scr_eventPkt (scr_secBegin h _ _) n false true) (scr_secBegin h _ _)
  · refine scr_ite ?_ (scr_eventPkt (scr_secEnd h n _) n false false)
    exact scr_ite (scr_eventPkt (scr_secBegin h _ _) n false true) (scr_secBegin h _ _)
  · exact scr_eventPkt (scr_foldl _ (fun t u ht => scr_secEnd ht n u) h) n false _
  · exact scr_eventPkt (scr_ite (scr_foldl _ (fun t u ht => scr_secBegin ht _ u) h) h) n _ _
  · exact scr_ite (scr_ite (scr_eventPkt h n true false) h) (scr_eventPkt h n false _)

theorem frame_scrEvent (s : State) (n : NumEv) : s.frame (s.scrEvent n) [] [0xB] [.intq, .scr] := scr_scrEvent (scr_refl s) n

end Sys2Proof.Machine
end

section
/-! PROOFS: O42, the collector's acknowledgements, the signature monitor and HEARTBEAT (11 R371, R380, R386 to R389). -/

namespace Sys2Proof.Machine
set_option Elab.async false

section
variable {s t : State} {r g : List Nat} {q : List Part}

/-- The masters' accesses belong to the part `access`, before an effect and behind it. -/
theorem frame_arbitrated (s : State) (x y : MstSt) (l : Nat) (w : Master) (n : Nat) : s.frame (s.arbitrated x y l w n) [] [] [.access] :=
  frame_arbiter s x y l w n

/-- A master's write that nothing holds up, with the frame of its effect. -/
theorem runs_write_framed {c : Instr} {m : Master} {a : Nat} {v : Word} {rt : Option Nat} {P : State → Prop} (k : State → State)
    (hc : exec c s = writeRow m a v s) (h : s.ready m rt a = true) (hk : ∀ u : State, u.regWrite (.mst m) a v.toNat = k u)
    (hf : ∀ x y l w n, (s.arbitrated x y l w n).frame (k (s.arbitrated x y l w n)) r g q)
    (hP : ∀ x y l w n x' y' l' w' n', s.frame ((k (s.arbitrated x y l w n)).arbitrated x' y' l' w' n') r g q →
      P ((k (s.arbitrated x y l w n)).arbitrated x' y' l' w' n'))
    (hr : hubWrite (.mst m) a = rt := by rfl) (hd : deniedWrite (.mst m) a v.toNat = false := by rfl) (ha : plainAddr a = true := by decide)
    (hq : .access ∈ q := by decide) (hrst : .rst ∉ q := by decide) : runs c s P := by
  refine runs_write k hc h hk hr hd ha fun x y l w n x' y' l' w' n' => ?_
  have hacc : [Part.access] ⊆ q := by simpa using hq
  have hin : s.frame (k (s.arbitrated x y l w n)) r g q :=
    ((State.frame.refl s r g q).next (frame_arbitrated s x y l w n) (by simp) hacc).trans (hf x y l w n)
  exact ⟨congrArg RstSt.on (part_same_of_frame hin .rst hrst), hin.1,
    hP x y l w n x' y' l' w' n' (hin.next (frame_arbitrated _ x' y' l' w' n') (by simp) hacc)⟩

/-- A happening that leaves the hub as it is, whether it has its supply or not. -/
theorem runs_onHub_unchanged {c : Instr} {k : State → State} (hc : exec c s = onHub s k) (hk : k s = s) : runs c s fun t => t = s := by
  refine ⟨s, ?_, rfl⟩
  rw [hc, onHub, hk]
  split
  · rw [keeping_eq rfl rfl]
  · rfl

/-- A happening that leaves the supply alone, at a hub that may be without it. -/
theorem runs_onHub_or_off {c : Instr} {k : State → State} {P : State → Prop} (hc : exec c s = onHub s k) (hf : s.frame (k s) r g q)
    (hs : P s) (hP : P (k s)) (hq : .rst ∉ q := by decide) : runs c s P := by
  by_cases hon : s.rst.on = true
  · exact runs_onHub hc hon hf hq hP
  · exact ⟨s, by rw [hc, onHub, if_neg hon], hs⟩

theorem ev_arbitrated (s : State) (x y : MstSt) (l : Nat) (w : Master) (n : Nat) (e : EvName) (i : Nat) (d : List EvVal) :
    (s.arbitrated x y l w n).ev e i d = s.ev e i d := rfl

/-- A write behind the common header of the collector's page. -/
theorem regWrite_flt {ag : Agent} {a v : Nat} (h : ¬a % 0x1000 < 0x40) (hp : a / 0x1000 = 0x0C) : s.regWrite ag a v = s.fltPut ag a v := by
  unfold State.regWrite
  simp only [h, hp, if_false]

theorem regWrite_fltAck (u : State) (m : Master) (v : Nat) : u.regWrite (.mst m) R.FLT_ACK v = u.fltAck v (Agent.mst m).src :=
  (regWrite_flt (by decide) (by decide)).trans (if_pos rfl)

theorem regWrite_ceRd (u : State) (m : Master) (v : Nat) : u.regWrite (.mst m) R.FLT_CE_RD v = u.ceRd v :=
  (regWrite_flt (by decide) (by decide)).trans ((if_neg (by decide : ¬R.FLT_CE_RD = R.FLT_ACK)).trans (if_pos rfl))

theorem frame_flt (s : State) (x : FltSt) : s.frame { s with flt := x } [] [] [.flt] :=
  ⟨rfl, fun _ _ _ => rfl, fun p hp => by cases p <;> simp_all [Part.same]⟩

theorem frame_regs (s : State) {m : SMap Word} (h : regsAgree s.regs m r g) (q : List Part) : s.frame { s with regs := m } r g q :=
  ⟨rfl, h, fun p _ => by cases p <;> simp [Part.same]⟩

theorem frame_intq (s : State) (l : List Ev) : s.frame { s with sum := { s.sum with intq := l } } [] [] [.intq] :=
  ⟨rfl, fun _ _ _ => rfl, fun p hp => by cases p <;> simp_all [Part.same]⟩

end

/-- A field holds no more than its width. -/
theorem f_lt_width (s : State) (f : Fld) : s.f f < 2 ^ f.width := Nat.mod_lt _ (by positivity)

/-! #### Acknowledgements -/

section
variable {s : State} {v : Nat}

theorem fltAck_uc {u : FltRec} (who : Nat) (h0 : bit v 0 = false) (h1 : bit v 1 = true) (hu : s.flt.uc = some u)
    (hv : s.f F.FLT_CLASS_FLAGS_UC_VALID = 1) (hs : bits v 16 16 = u.seq % 65536) :
    s.fltAck v who = (((s.setF F.FLT_CLASS_FLAGS_UC_VALID 0).setF F.FLT_CLASS_FLAGS_UC_OVF 0).escShow).raise .ucAcked 0x1006 [.w u.seq, .w who] := by
  simp only [State.fltAck, h0, Bool.false_eq_true, if_false, hu, h1, hv, hs, and_self, if_true]

theorem fltAck_otherSeq {u : FltRec} (who : Nat) (h0 : bit v 0 = false) (hu : s.flt.uc = some u) (hs : bits v 16 16 ≠ u.seq % 65536) :
    s.fltAck v who = s := by
  simp only [State.fltAck, h0, Bool.false_eq_true, if_false, hu, hs, and_false]

theorem fltAck_ce (who : Nat) (h0 : bit v 0 = true) (h1 : bit v 1 = false) :
    s.fltAck v who = (s.setF F.FLT_CLASS_FLAGS_CE_VALID 0).setF F.FLT_CLASS_FLAGS_CE_OVF 0 := by
  simp only [State.fltAck, h0, if_true, h1, Bool.false_eq_true, false_and, if_false]
  split <;> rfl

theorem bits_high (v : Word) : bits v.toNat 16 16 = v.toNat / 65536 := by
  have hv : v.toNat < 2 ^ 32 := v.isLt
  unfold bits
  omega

end

theorem runs_fltAckUc (m : Master) (v : Word) (u : FltRec) (s : State) (h : s.ready m (some rtFault) R.FLT_ACK = true)
    (h0 : bit v.toNat 0 = false) (h1 : bit v.toNat 1 = true) (hu : s.flt.uc = some u) (hv : s.f F.FLT_CLASS_FLAGS_UC_VALID = 1)
    (hs : v.toNat / 65536 = u.seq % 65536) : runs (.fltAckUc m v) s fun t =>
      t.f F.FLT_CLASS_FLAGS_UC_VALID = 0 ∧ t.f F.FLT_CLASS_FLAGS_UC_OVF = 0 ∧ t.flt = s.flt
      ∧ t.f F.FLT_STAT_ESC_STATE = (if s.f F.FLT_CLASS_FLAGS_FATAL_VALID = 1 then 2 else 0)
      ∧ t.sum.intq = s.sum.intq ++ [s.ev .ucAcked 0x1006 [.w u.seq, .w (mSrc m)]]
      ∧ s.frame t [R.FLT_STAT, R.FLT_CLASS_FLAGS, 0xC024] [] [.access, .intq] := by
  have heq (x y l w n) := fltAck_uc (s := s.arbitrated x y l w n) (mSrc m) h0 h1 hu hv ((bits_high v).trans hs)
  refine runs_write_framed (fun u => u.fltAck v.toNat (mSrc m)) rfl h (regWrite_fltAck · m _) (r := [R.FLT_STAT, R.FLT_CLASS_FLAGS, 0xC024]) (g := []) (q := [.access, .intq]) ?_ ?_ (by cases m <;> rfl) (by cases m <;> rfl)
  · intro x y l w n
    rw [heq]
    exact ((((State.frame.refl _ _ _ _).setF _ _ (.inl (by decide))).setF _ _ (.inl (by decide))).setF _ _ (.inl (by decide))).raise _ _ _
      (.inl (by decide)) (by decide)
  · intro x y l w n x' y' l' w' n' hf
    rw [heq] at hf ⊢
    refine ⟨?_, ?_, rfl, ?_, rfl, hf⟩
    · simp (disch := decide) [State.escShow, f_raise, f_setF_same, f_setF_other]
    · simp (disch := decide) [State.escShow, f_raise, f_setF_same, f_setF_other]
    · simp (disch := decide) [State.escShow, f_raise, f_setF_same, f_setF_other]
      split <;> rfl

theorem runs_fltAckUc_otherSeq (m : Master) (v : Word) (u : FltRec) (s : State) (h : s.ready m (some rtFault) R.FLT_ACK = true)
    (h0 : bit v.toNat 0 = false) (hu : s.flt.uc = some u) (hs : v.toNat / 65536 ≠ u.seq % 65536) :
    runs (.fltAckUc m v) s fun t => s.frame t [] [] [.access] := by
  have heq (x y l w n) := fltAck_otherSeq (s := s.arbitrated x y l w n) (mSrc m) h0 hu (bits_high v ▸ hs)
  refine runs_write_framed (fun u => u.fltAck v.toNat (mSrc m)) rfl h (regWrite_fltAck · m _) (r := []) (g := []) (q := [.access]) ?_ ?_ (by cases m <;> rfl) (by cases m <;> rfl)
  · intro x y l w n
    rw [heq]
    exact State.frame.refl _ _ _ _
  · exact fun _ _ _ _ _ _ _ _ _ _ hf => hf

theorem runs_fltAckCe (m : Master) (v : Word) (s : State) (h : s.ready m (some rtFault) R.FLT_ACK = true)
    (h0 : bit v.toNat 0 = true) (h1 : bit v.toNat 1 = false) : runs (.fltAckCe m v) s fun t =>
      t.f F.FLT_CLASS_FLAGS_CE_VALID = 0 ∧ t.f F.FLT_CLASS_FLAGS_CE_OVF = 0 ∧ t.f F.FLT_CLASS_FLAGS_UC_VALID = s.f F.FLT_CLASS_FLAGS_UC_VALID
      ∧ t.f F.FLT_CLASS_FLAGS_FATAL_VALID = s.f F.FLT_CLASS_FLAGS_FATAL_VALID ∧ s.frame t [R.FLT_CLASS_FLAGS] [] [.access] := by
  have heq (x y l w n) := fltAck_ce (s := s.arbitrated x y l w n) (mSrc m) h0 h1
  refine runs_write_framed (fun u => u.fltAck v.toNat (mSrc m)) rfl h (regWrite_fltAck · m _) (r := [R.FLT_CLASS_FLAGS]) (g := []) (q := [.access]) ?_ ?_ (by cases m <;> rfl) (by cases m <;> rfl)
  · intro x y l w n
    rw [heq]
    exact ((State.frame.refl _ _ _ _).setF _ _ (.inl (by decide))).setF _ _ (.inl (by decide))
  · intro x y l w n x' y' l' w' n' hf
    rw [heq] at hf ⊢
    refine ⟨?_, ?_, ?_, ?_, hf⟩ <;> simp (disch := decide) [f_setF_same, f_setF_other]

/-! #### The CE ring -/

section
variable (s : State) (v : Nat)

/-- What the ring shows once its reader has moved on. -/
theorem ringShow_spec {occ : Nat} (hocc : (s.f F.FLT_CE_WR_WR + 65536 - v % 65536) % 65536 = occ) :
    ((s.setF F.FLT_CE_RD_RD (v % 65536)).ringShow).f F.FLT_CE_RD_RD = v % 65536
    ∧ ((s.setF F.FLT_CE_RD_RD (v % 65536)).ringShow).f F.FLT_STAT_RING_FULL = (if occ = 4096 then 1 else 0)
    ∧ ((s.setF F.FLT_CE_RD_RD (v % 65536)).ringShow).f F.FLT_STAT_STORM_ARMED = s.f F.FLT_STAT_STORM_ARMED := by
  have hrd : (s.setF F.FLT_CE_RD_RD (v % 65536)).f F.FLT_CE_RD_RD = v % 65536 :=
    (f_setF_same _ _ _ (by decide)).trans (Nat.mod_mod v 65536)
  have hwr : (s.setF F.FLT_CE_RD_RD (v % 65536)).f F.FLT_CE_WR_WR = s.f F.FLT_CE_WR_WR := f_setF_other _ _ _ _ (by decide) (by decide)
  have hring : (s.setF F.FLT_CE_RD_RD (v % 65536)).ringOcc = occ := by
    rw [State.ringOcc, hrd, hwr, hocc]
  refine ⟨(f_setF_other _ _ _ _ (by decide) (by decide)).trans hrd, ?_, ?_⟩
  · rw [State.ringShow, hring, f_setF_same _ _ _ (by decide)]
    by_cases h4 : occ = 4096
    · rw [h4]
      rfl
    · rw [beq_eq_false_iff_ne.mpr h4, if_neg h4]
      rfl
  · exact (f_setF_other _ _ _ _ (by decide) (by decide)).trans (f_setF_other _ _ _ _ (by decide) (by decide))

theorem ceRd_of_le {occ : Nat} (hocc : (s.f F.FLT_CE_WR_WR + 65536 - v % 65536) % 65536 = occ) (hle : occ ≤ 4096) :
    s.ceRd v = if s.f F.FLT_STAT_STORM_ARMED = 0 ∧ occ ≤ 2048 then
      ((((s.setF F.FLT_CE_RD_RD (v % 65536)).ringShow).setF F.FLT_STAT_STORM_ARMED 1).raise .stormRearm 0x1006 [.w occ])
      else (s.setF F.FLT_CE_RD_RD (v % 65536)).ringShow := by
  obtain ⟨-, -, harmed⟩ := ringShow_spec s v hocc
  simp only [State.ceRd, hocc, Nat.not_lt.mpr hle, if_false, harmed]

/-- A move of the ring's reader to at most 4,096 entries, whose storm limit is armed again at half of them. -/
theorem ceRd_spec {occ : Nat} (hocc : (s.f F.FLT_CE_WR_WR + 65536 - v % 65536) % 65536 = occ) (hle : occ ≤ 4096) :
    (s.ceRd v).f F.FLT_CE_RD_RD = v % 65536 ∧ (s.ceRd v).f F.FLT_STAT_RING_FULL = (if occ = 4096 then 1 else 0)
    ∧ (s.ceRd v).f F.FLT_STAT_STORM_ARMED = (if occ ≤ 2048 then 1 else s.f F.FLT_STAT_STORM_ARMED)
    ∧ (s.f F.FLT_STAT_STORM_ARMED = 0 → occ ≤ 2048 → (s.ceRd v).sum.intq = s.sum.intq ++ [s.ev .stormRearm 0x1006 [.w occ]])
    ∧ s.frame (s.ceRd v) [R.FLT_CE_RD, R.FLT_STAT, 0xC024] [] [.access, .intq] := by
  obtain ⟨hrd, hfull, harmed⟩ := ringShow_spec s v hocc
  have hframe : s.frame ((s.setF F.FLT_CE_RD_RD (v % 65536)).ringShow) [R.FLT_CE_RD, R.FLT_STAT, 0xC024] [] [.access, .intq] :=
    ((State.frame.refl _ _ _ _).setF _ _ (.inl (by decide))).setF _ _ (.inl (by decide))
  rw [ceRd_of_le s v hocc hle]
  by_cases h : s.f F.FLT_STAT_STORM_ARMED = 0 ∧ occ ≤ 2048
  · rw [if_pos h, if_pos h.2]
    refine ⟨?_, ?_, ?_, fun _ _ => rfl, (hframe.setF _ _ (.inl (by decide))).raise _ _ _ (.inl (by decide)) (by decide)⟩
    · rw [f_raise _ _ _ _ _ _ (by decide), f_setF_other _ _ _ _ (by decide) (by decide), hrd]
    · rw [f_raise _ _ _ _ _ _ (by decide), f_setF_other _ _ _ _ (by decide) (by decide), hfull]
    · rw [f_raise _ _ _ _ _ _ (by decide), f_setF_same _ _ _ (by decide)]
      rfl
  · rw [if_neg h]
    refine ⟨hrd, hfull, ?_, fun h0 h1 => absurd ⟨h0, h1⟩ h, hframe⟩
    rw [harmed]
    split
    next h1 =>
      have hbit : s.f F.FLT_STAT_STORM_ARMED < 2 := f_lt_width s F.FLT_STAT_STORM_ARMED
      omega
    next => rfl

theorem ceRd_of_gt (h : 4096 < (s.f F.FLT_CE_WR_WR + 65536 - v % 65536) % 65536) : s.ceRd v = s := if_pos h

end

theorem runs_ceRd (m : Master) (v : Word) (s : State) {occ : Nat} (h : s.ready m (some rtFault) R.FLT_CE_RD = true)
    (hocc : (s.f F.FLT_CE_WR_WR + 65536 - v.toNat % 65536) % 65536 = occ) (hle : occ ≤ 4096) : runs (.ceRd m v) s fun t =>
      t.f F.FLT_CE_RD_RD = v.toNat % 65536 ∧ t.f F.FLT_STAT_RING_FULL = (if occ = 4096 then 1 else 0)
      ∧ t.f F.FLT_STAT_STORM_ARMED = (if occ ≤ 2048 then 1 else s.f F.FLT_STAT_STORM_ARMED)
      ∧ (s.f F.FLT_STAT_STORM_ARMED = 0 → occ ≤ 2048 → t.sum.intq = s.sum.intq ++ [s.ev .stormRearm 0x1006 [.w occ]])
      ∧ s.frame t [R.FLT_CE_RD, R.FLT_STAT, 0xC024] [] [.access, .intq] := by
  have hsame (x y l w n) : ((s.arbitrated x y l w n).f F.FLT_CE_WR_WR + 65536 - v.toNat % 65536) % 65536 = occ := by
    rw [f_arbitrated, hocc]
  have hspec (x y l w n) := ceRd_spec (s.arbitrated x y l w n) v.toNat (hsame x y l w n) hle
  refine runs_write_framed (fun u => u.ceRd v.toNat) rfl h (regWrite_ceRd · m _) (r := [R.FLT_CE_RD, R.FLT_STAT, 0xC024]) (g := [])
    (q := [.access, .intq]) (fun x y l w n => (hspec x y l w n).2.2.2.2) ?_ (by cases m <;> rfl) (by cases m <;> rfl)
  intro x y l w n x' y' l' w' n' hf
  obtain ⟨hrd, hfull, harmed, hq, -⟩ := hspec x y l w n
  rw [f_arbitrated] at harmed
  rw [f_arbitrated, intq_arbitrated, ev_arbitrated] at hq
  have hlast (f : Fld) := f_arbitrated ((s.arbitrated x y l w n).ceRd v.toNat) x' y' l' w' n' f
  exact ⟨(hlast _).trans hrd, (hlast _).trans hfull, (hlast _).trans harmed,
    fun h0 h1 => (intq_arbitrated _ x' y' l' w' n').trans (hq h0 h1), hf⟩

theorem runs_ceRd_refused (m : Master) (v : Word) (s : State) (h : s.ready m (some rtFault) R.FLT_CE_RD = true)
    (hgt : 4096 < (s.f F.FLT_CE_WR_WR + 65536 - v.toNat % 65536) % 65536) : runs (.ceRd m v) s fun t => s.frame t [] [] [.access] := by
  have heq (x y l w n) : (s.arbitrated x y l w n).ceRd v.toNat = s.arbitrated x y l w n := by
    apply ceRd_of_gt
    rwa [f_arbitrated]
  refine runs_write_framed (fun u => u.ceRd v.toNat) rfl h (regWrite_ceRd · m _) (r := []) (g := []) (q := [.access]) ?_
    (fun _ _ _ _ _ _ _ _ _ _ hf => hf) (by cases m <;> rfl) (by cases m <;> rfl)
  intro x y l w n
  rw [heq]
  exact State.frame.refl _ _ _ _

/-! #### The signature monitor and HEARTBEAT -/

/-- The report of a fault that waits for its number. -/
def State.reported (s : State) (i : FltInfo) (src : Nat) : State :=
  { s with sum := { s.sum with intq := s.sum.intq ++ [{ name := .fault, src := src, stamp := s.now, data := [], flt := some i }] } }

/-- A fault of SUM's page, which nothing masks, is latched at once and reported (11 R386). -/
theorem hubFault_signature_eq (s : State) : s.hubFault 0 1 = (({ s with regs := pageFault s.regs 0 1 3 }).fatalDirect
    ⟨0, 1, 3, 0, 0, 1, 0, 0, 0, 0, 0⟩ 0x1000).reported ⟨0, 1, 3, 0, 0, 1, 0, 0, 0, 0, 0⟩ 0x1000 := by
  have hmask : ¬s.masked (s.rd (0 * 0x1000 + 0x1C)) 1 (hubFlt 0 1) = true := by
    rw [show s.masked (s.rd (0 * 0x1000 + 0x1C)) 1 (hubFlt 0 1) = false from Bool.and_false _]
    exact Bool.false_ne_true
  have hcls : ¬hubFlt 0 1 = 0 := by decide
  unfold State.hubFault
  dsimp only
  rw [if_neg hcls, if_neg hmask]
  rfl

/-- What a fault of the sequencers' signatures leaves: the pins, SUM's flag and the FATAL latch (11 R380, R386). -/
theorem hubFault_signature (s : State) :
    (s.hubFault 0 1).f F.FLT_STAT_FATAL_N = 1 ∧ (s.hubFault 0 1).f F.FLT_STAT_HB_RUN = 0 ∧ bit ((s.hubFault 0 1).rd 0x14) 1 = true
    ∧ (s.hubFault 0 1).flt.fatal.isSome = true
    ∧ s.frame (s.hubFault 0 1) [0x10, 0x14, R.FLT_STAT, R.FLT_CLASS_FLAGS] [] [.intq, .flt] := by
  rw [hubFault_signature_eq]
  generalize hu : ({ s with regs := pageFault s.regs 0 1 3 } : State) = u
  have hpage : s.frame u [0x10, 0x14, R.FLT_STAT, R.FLT_CLASS_FLAGS] [] [.intq, .flt] := by
    rw [← hu]
    exact frame_regs s ((regsAgree_pageFault s.regs 0 1 3).mono (by simp) (by simp)) _
  have hflag : bit (u.rd 0x14) 1 = true := by
    have hbit := bit_pageFault s.regs (o := 0) (b := 1) (cls := 3) (by decide)
    rw [Nat.zero_add] at hbit
    rw [← hu]
    exact hbit
  have hpins : s.frame u.fatalPins [0x10, 0x14, R.FLT_STAT, R.FLT_CLASS_FLAGS] [] [.intq, .flt] :=
    ((hpage.setF _ _ (.inl (by decide))).setF _ _ (.inl (by decide))).setF _ _ (.inl (by decide))
  have hkeep : u.fatalPins.rd 0x14 = u.rd 0x14 :=
    ((rd_setF_ne _ _ _ (by decide)).trans (rd_setF_ne _ _ _ (by decide))).trans (rd_setF_ne _ _ _ (by decide))
  have hn : u.fatalPins.f F.FLT_STAT_FATAL_N = 1 :=
    ((f_setF_other _ _ _ _ (by decide) (by decide)).trans (f_setF_other _ _ _ _ (by decide) (by decide))).trans (f_setF_same _ _ _ (by decide))
  have hb : u.fatalPins.f F.FLT_STAT_HB_RUN = 0 :=
    (f_setF_other _ _ _ _ (by decide) (by decide)).trans (f_setF_same _ _ _ (by decide))
  by_cases hf : u.fatalPins.flt.fatal.isSome = true
  · have heq (i : FltInfo) (src : Nat) : u.fatalDirect i src = u.fatalPins := if_pos hf
    rw [heq]
    exact ⟨hn, hb, (congrArg (bit · 1) hkeep).trans hflag, hf, hpins.next (frame_intq _ _) (by simp) (by simp)⟩
  · rw [State.fatalDirect, if_neg hf]
    refine ⟨?_, ?_, ?_, rfl, ((hpins.next (frame_flt _ _) (by simp) (by simp)).setF F.FLT_CLASS_FLAGS_FATAL_VALID 1 (.inl (by decide))).next (frame_intq _ _) (by simp) (by simp)⟩
    · exact (f_setF_other _ _ _ _ (by decide) (by decide)).trans hn
    · exact (f_setF_other _ _ _ _ (by decide) (by decide)).trans hb
    · exact (congrArg (bit · 1) ((rd_setF_ne _ _ _ (by decide)).trans hkeep)).trans hflag

theorem heartbeat_toggles {s : State} (ht : s.flt.hbNext ≤ s.clk) (hr : s.f F.FLT_STAT_HB_RUN = 1)
    (hc : ∀ q, q < 6 → s.flt.checked.contains q = true) :
    s.heartbeat = { s with flt := { s.flt with heartbeat := !s.flt.heartbeat, hbNext := s.clk + 1250000, checked := [] } } := by
  have hall : (List.range 6).all s.flt.checked.contains = true :=
    List.all_eq_true.mpr fun q hq => hc q (List.mem_range.mp hq)
  unfold State.heartbeat sigLimit
  rw [if_neg (Nat.not_lt.mpr ht)]
  exact if_pos ⟨hr, hall⟩

theorem heartbeat_holds {s : State} {q : Nat} (hq : q < 6) (h : s.flt.checked.contains q = false ∨ s.f F.FLT_STAT_HB_RUN = 0) :
    s.heartbeat.flt.heartbeat = s.flt.heartbeat ∧ s.frame s.heartbeat [] [] [.flt] := by
  have hno : ¬(s.f F.FLT_STAT_HB_RUN = 1 ∧ (List.range 6).all s.flt.checked.contains = true) := by
    rintro ⟨hr, hall⟩
    rcases h with h | h
    · exact absurd ((List.all_eq_true.mp hall q (List.mem_range.mpr hq)).symm.trans h) (by decide)
    · omega
  by_cases ht : s.clk < s.flt.hbNext
  · rw [State.heartbeat, if_pos ht]
    exact ⟨rfl, State.frame.refl _ _ _ _⟩
  · have hstay : s.heartbeat = { s with flt := { s.flt with hbNext := s.clk + sigLimit } } := (if_neg ht).trans (if_neg hno)
    rw [hstay]
    exact ⟨rfl, frame_flt _ _⟩

/-- Settles O42: the acknowledgements, the CE ring's reader, the signature checks and HEARTBEAT. -/
theorem collectorAndHeartbeat : Obligations.CollectorAndHeartbeat := by
  refine ⟨runs_fltAckUc, runs_fltAckUc_otherSeq, runs_fltAckCe, fun m v s h hle => runs_ceRd m v s h rfl hle, runs_ceRd_refused, ?_, ?_, ?_, ?_, ?_, ?_⟩
  · intro q s hq hon hrun
    have hk : (if s.rdg.running then s.sigCheck q true else s) = s.sigCheck q true := if_pos hrun
    have hf : s.frame (s.sigCheck q true) [] [] [.flt] := frame_flt s _
    refine runs_onHub (if_pos hq) hon (hk.symm ▸ hf) (by decide) (hk.symm ▸ ⟨?_, smGet_smSet_same .., fun p hp => smGet_smSet_ne _ _ hp, hf⟩)
    change (if s.flt.checked.contains q then s.flt.checked else s.flt.checked ++ [q]).contains q = true
    split
    next h => exact h
    next => simp
  · intro q s hq hon hrun _
    have hk : (if s.rdg.running then s.sigCheck q false else s) = s.hubFault 0 1 := if_pos hrun
    obtain ⟨hn, hb, hflag, hfatal, hf⟩ := hubFault_signature s
    exact runs_onHub (if_pos hq) hon (hk ▸ hf) (by decide) (hk ▸ ⟨hn, hb, hflag, hfatal, hf⟩)
  · intro q s hq hon hrun hheld ht
    have hk : (if s.heldSeq q || !s.rdg.running then s else s.sigTimeout q) = s.hubFault 0 1 := by
      rw [hheld, hrun]
      have hdue : smGet 0 s.flt.checkT q + sigLimit ≤ s.clk := by
        unfold sigLimit
        exact ht
      have hgo : s.sigTimeout q = s.hubFault 0 1 := if_pos hdue
      exact (if_neg Bool.false_ne_true).trans hgo
    obtain ⟨hn, hb, hflag, -, hf⟩ := hubFault_signature s
    exact runs_onHub (if_pos hq) hon (hk ▸ hf) (by decide) (hk ▸ ⟨hn, hb, hflag, hf⟩)
  · intro q s hq ht
    refine runs_onHub_unchanged (if_pos hq) ?_
    split
    · rfl
    · have hearly : ¬smGet 0 s.flt.checkT q + sigLimit ≤ s.clk := by
        unfold sigLimit
        exact Nat.not_le.mpr ht
      exact if_neg hearly
  · intro s hon hst ht hr hc
    have hk : (if s.started then s.heartbeat else s) = _ := (if_pos hst).trans (heartbeat_toggles ht hr hc)
    exact runs_onHub rfl hon (hk ▸ frame_flt s _) (by decide) (hk ▸ ⟨rfl, frame_flt s _⟩)
  · intro q s hq h
    have hbeat : (if s.started then s.heartbeat else s).flt.heartbeat = s.flt.heartbeat
        ∧ s.frame (if s.started then s.heartbeat else s) [] [] [.flt] := by
      split
      · exact heartbeat_holds hq h
      · exact ⟨rfl, State.frame.refl _ _ _ _⟩
    exact runs_onHub_or_off rfl hbeat.2 ⟨rfl, State.frame.refl _ _ _ _⟩ hbeat

end Sys2Proof.Machine
end

section
/-! PROOFS: O53, a TAP access that opens its session while the host's reset request waits (15 R479; 16 R493). -/

namespace Sys2Proof.Machine
set_option Elab.async false

/-- A started hub whose TAP may open a session and whose host alone holds rights, with the host's request for a soft reset waiting in
arbitration. -/
def resetWaitingHub : State :=
  let s := (({ State.reset with regs := [] }).wr R.SUM_START_STAT 6).setF F.PASS_CTRL_TAP_ACC_EN 1
  let s := ((s.setF F.LCY_STAT_DECIDED 1).setF F.TAL_STAT_BOOT_OK 1).setF F.LCY_STAT_STATE 1
  let s := s.wr (bk .host R.AUTH_JEX) (2 ^ 32 - 1)
  { s with sum := { s.sum with held := [⟨.host, R.SUM_RST_CMD, 0, 0, true, 0x51A50001, 0, 0, none, 0⟩] } }

theorem mayOpen_resetWaitingHub : resetWaitingHub.rst.on = true ∧ resetWaitingHub.started = true ∧ resetWaitingHub.heldSeq 5 = false
    ∧ resetWaitingHub.pass.accWait = false ∧ resetWaitingHub.sess = sessNone ∧ resetWaitingHub.f F.PASS_CTRL_TAP_ACC_EN = 1 := by
  decide +kernel

/-- The session that the scan opens ends at once: the reset request goes before the scan's own access. -/
theorem sess_passAcc_resetWaitingHub : (resetWaitingHub.after (.passAcc (R.SUM_CWIN_TMO + 2 ^ 20 + 2 ^ 21 + 2 ^ 32 * 0))).sess ≠ sessTap := by
  decide +kernel

/-- Refutes O53: its fourth clause has the session open behind the scan, but an access of the host that waits in arbitration is granted
before the scan's own, and a request for a soft reset ends the session. -/
theorem not_tapInstructions : ¬ Obligations.TapInstructions := by
  rintro ⟨-, -, -, hscan, -⟩
  obtain ⟨hon, hst, hport, hacc, hsess, hen⟩ := mayOpen_resetWaitingHub
  obtain ⟨hopen, -⟩ := hscan R.SUM_CWIN_TMO 0 resetWaitingHub (by decide) (by decide) hon hst hport hacc hsess
  obtain ⟨t, ht, htap, -⟩ := hopen hen
  rw [← after_eq_of_exec ht] at htap
  exact sess_passAcc_resetWaitingHub htap

end Sys2Proof.Machine
end
